-- ==== Sys2Proof/Word.lean ====
section
/-!
DEFINITION. Words, bytes, byte order and the sparse maps that hold registers, ports and memory.
Byte order follows R14 of 00_scope.md: every multi-byte value travels most significant byte first.
-/
namespace Sys2Proof

/-- A byte of a packet or of a memory area. -/
abbrev Byte := BitVec 8

/-- A word of the Command Port register window (R589 of 13_registers_and_mdio.md). -/
abbrev Word := BitVec 32

/-- The value of bytes taken most significant byte first (R14). -/
def beNat (bs : List Byte) : Nat := bs.foldl (fun a b => a * 256 + b.toNat) 0

/-- The `n` bytes of `v`, most significant byte first (R14); higher bits of `v` are dropped. -/
def natBE : Nat → Nat → List Byte
  | 0, _ => []
  | n + 1, v => BitVec.ofNat 8 (v / 256 ^ n) :: natBE n v

/-- Bytes `i .. i + n - 1` of a list, short where the list ends. -/
def slice (bs : List Byte) (i n : Nat) : List Byte := (bs.drop i).take n

/-- The value of bytes `i .. i + n - 1`, most significant byte first. -/
def beAt (bs : List Byte) (i n : Nat) : Nat := beNat (slice bs i n)

/-- Byte `i` of a list as a number, 0 past its end. -/
def byteAt (bs : List Byte) (i : Nat) : Nat := (bs.getD i 0).toNat

/-- Bits `hi .. lo` of a number. -/
def bitsOf (v hi lo : Nat) : Nat := v / 2 ^ lo % 2 ^ (hi - lo + 1)

/-- A number read as a signed value of `w` bits. -/
def signed (w v : Nat) : Int := if v % 2 ^ w < 2 ^ (w - 1) then (v % 2 ^ w : Nat) else ((v % 2 ^ w : Nat) : Int) - (2 ^ w : Nat)

/-- The `w`-bit code of a signed value. -/
def unsigned (w : Nat) (v : Int) : Nat := (v % ((2 ^ w : Nat) : Int)).toNat

/-- 1 for true, 0 for false. -/
def bit (b : Bool) : Nat := if b then 1 else 0

/-- A sparse map: keys strictly rising, no entry equal to what an unlisted key reads as. -/
abbrev SMap (α : Type) := List (Nat × α)

/-- What a key reads as; `d` where it is not listed. -/
def SMap.get {α : Type} (m : SMap α) (d : α) (k : Nat) : α :=
  match m with
  | [] => d
  | (i, v) :: t => if i = k then v else SMap.get t d k

/-- Put an entry before the first greater key. -/
def SMap.insert {α : Type} (m : SMap α) (k : Nat) (v : α) : SMap α :=
  match m with
  | [] => [(k, v)]
  | (i, w) :: t => if k < i then (k, v) :: (i, w) :: t else (i, w) :: SMap.insert t k v

/-- Drop every entry of a key. -/
def SMap.erase {α : Type} (m : SMap α) (k : Nat) : SMap α :=
  match m with
  | [] => []
  | (i, w) :: t => if i = k then SMap.erase t k else (i, w) :: SMap.erase t k

/-- Write a key: the value an unlisted key reads as removes the entry. -/
def SMap.set {α : Type} [DecidableEq α] (m : SMap α) (d : α) (k : Nat) (v : α) : SMap α :=
  if v = d then SMap.erase m k else SMap.insert (SMap.erase m k) k v

/-- The canonical form: keys strictly rising, no entry equal to its default. -/
def SMap.wf {α : Type} [DecidableEq α] (d : Nat → α) : SMap α → Bool
  | [] => true
  | [(k, v)] => decide (v ≠ d k)
  | (k, v) :: (k', v') :: t => decide (v ≠ d k) && decide (k < k') && SMap.wf d ((k', v') :: t)

/-- Erase every key that a test picks. -/
def SMap.clear {α : Type} (m : SMap α) (p : Nat → Bool) : SMap α :=
  match m with
  | [] => []
  | (i, w) :: t => if p i then SMap.clear t p else (i, w) :: SMap.clear t p

/-- Apply `f` to 0, 1, ..., n - 1 in order. -/
def forN {α : Type} (n : Nat) (f : Nat → α → α) (a : α) : α := (List.range n).foldl (fun x i => f i x) a

/-- Apply `f` to each element in order. -/
def forL {α β : Type} (l : List β) (f : β → α → α) (a : α) : α := l.foldl (fun x i => f i x) a

/-- Apply `f` where a condition holds. -/
def whenB {α : Type} (c : Bool) (f : α → α) (a : α) : α := if c then f a else a

end Sys2Proof
end

