-- ==== Sys2Proof/Syntax.lean ====
section
/-!
DEFINITION. The commands that act on the block: one constructor of `Instr` for each row of spec/opcode_table.json,
with the operands that the row's rule gives it, and the operand types. A command that is an event on the line, on a
pin or on a clock carries what the device measures or receives in it.
-/
namespace Sys2Proof

/-- A port 0..47 (R1, R590). -/
abbrev Port := Fin 48
/-- A pair A..D (R233). -/
abbrev Pair := Fin 4
/-- A lane group H0..H3 (R396). -/
abbrev Lane := Fin 4
/-- A port group G0..G5 (R640). -/
abbrev Group := Fin 6

/-- The levels that the straps and TEST_EN show when they are sampled (R7, R593, R772). -/
structure Straps where
  mdioBase : Bool
  profile : Fin 4
  testEn : Bool
  deriving DecidableEq, Repr

/-- The PLLs of R620: PLL_DSPg_A and PLL_DSPg_B for each port group. -/
inductive Pll where
  | mgmt | line | ch | lane
  | dspA (g : Group)
  | dspB (g : Group)
  deriving DecidableEq, Repr

/-- The rails of R696. -/
inductive Rail where
  | core | aon | afe | ld | lane | pll | io
  deriving DecidableEq, Repr

/-- The roles of R553. -/
inductive Role where
  | operator | installer | maker
  deriving DecidableEq, Repr

/-- The blocks whose power-up calibration R704 gives, each with its bit of START_STATUS. -/
inductive CalBlock where
  | bias | pll | time | term | clkLane
  deriving DecidableEq, Repr

/-- The paths to the registers that R605 names for host software. -/
inductive Path where
  | cp | mdio0 | mdio1
  deriving DecidableEq, Repr

/-- A command packet of R509; LENGTH is the length of `params`. -/
structure Packet where
  opcode : Byte
  proto : Byte
  seq : BitVec 16
  session : BitVec 32
  flags : Byte
  rsvd : Byte
  params : List Byte
  crc : BitVec 32
  deriving DecidableEq, Repr

/-- Where a register access lands: a word of the register window, or the MMD register that the address register of a
bus, port address and DEVAD names (R589, R594). -/
inductive Access where
  | window (a : BitVec 32)
  | mdio (bus : Fin 2) (prtad devad : Fin 32)
  deriving DecidableEq, Repr

/-- The boundary-scan instructions of R790. -/
inductive ScanInstr where
  | extest | extestPulse | extestTrain | clamp
  deriving DecidableEq, Repr

/-- What a received Clause 28 page carries for the exchange. -/
structure AnPage where
  word : BitVec 16
  message : Bool
  deriving DecidableEq, Repr

/-- A burst received on a pair: its page, how its first three pulses compare with the page in progress (R76), and the
port and age of the device burst that agrees with it in at least 29 positions within 2 us, if any (R78). -/
structure Burst where
  pair : Pair
  page : AnPage
  strongerDb : Bool
  ghostOf : Option Port
  deriving DecidableEq, Repr

/-- A Siruigo ability message of R47. -/
structure Ability where
  versions : BitVec 4
  rateMax : Fin 8
  topBand : Fin 64
  feedback : Bool
  timeXfer : Bool
  fallback3 : Bool
  shutter : Bool
  multiport : Bool
  msPref : Fin 4
  seed : BitVec 20
  deriving DecidableEq, Repr

/-- What the partner advertised in one negotiation: its standard modes, its Siruigo ability message, the result of
the mastership of a standard mode under its own clause, and whether parallel detection found the mode. -/
structure PartnerAdv where
  tenHd : Bool
  tenFd : Bool
  hundredHd : Bool
  hundredFd : Bool
  gig : Bool
  twoFive : Bool
  five : Bool
  ten : Bool
  sir : Option Ability
  stdMaster : Bool
  stdMsFault : Bool
  parallel : Bool
  deriving DecidableEq, Repr

/-- A handshake message of R194 with what R195 checks of its burst. -/
structure HsMsg where
  crcOk : Bool
  role : Fin 256
  ver : Fin 256
  seed : BitVec 20
  peerSeed : BitVec 20
  sField : BitVec 40
  heard : Bool
  echoIn : Fin 16
  second : Bool
  ghostOf : Option Port
  stronger : Bool
  deriving DecidableEq, Repr

/-- A run of tones START..END. -/
structure Band where
  lo : BitVec 12
  hi : BitVec 12
  deriving DecidableEq, Repr

/-- A mask breakpoint: TONE and LEVEL (R114). -/
structure Brk where
  tone : BitVec 12
  level : BitVec 11
  deriving DecidableEq, Repr

/-- One loading-table entry: BITS, GAIN and whether the tone is coded (R102). -/
structure LoadEntry where
  bits : Fin 16
  gain : BitVec 12
  deriving DecidableEq, Repr

/-- A range item of a LOADING_REQUEST (R166). -/
structure LoadRange where
  pair : Pair
  start : BitVec 12
  entries : List LoadEntry
  deriving DecidableEq, Repr

/-- The body of a LOADING_REQUEST or T_LOADING (R166). -/
structure LoadReq where
  s : BitVec 40
  loadId : Fin 16
  full : Bool
  threePair : Bool
  rate : Fin 8
  q : BitVec 16
  n : BitVec 8
  k : BitVec 8
  items : List LoadRange
  deriving DecidableEq, Repr

/-- What the receivers of one port measured at a superframe boundary (R298): the pair margins in units of 0.1 dB, none
for a pair with no loaded tone; whether a tone lies below -1.5 dB and its bits fit elsewhere (R299); the service rate
C4; the highest rate that a loading at margin +1.0 dB supports (R305); the pairs whose sync power lies 20 dB or more
below its value at S0, and those within 6 dB of it (R320). -/
structure PortMeas where
  port : Port
  margins : List (Option Int)
  swapNeeded : Bool
  c4 : Option (Fin 7)
  support : Option (Fin 7)
  lowSync : BitVec 4
  nearSync : BitVec 4
  deriving DecidableEq, Repr

/-- A data transfer unit as received (R128, R130): `codewordBad` says that one of its bytes lay in an uncorrectable
Reed-Solomon codeword. -/
structure RxDtu where
  bytes : List Byte
  codewordBad : Bool
  deriving DecidableEq, Repr

/-- The message bodies of R162, R166 and R203 as they are sent and received. -/
inductive MsgBody where
  | ack (type tag : Byte)
  | version (proto : Byte) (vendor : BitVec 24) (part : BitVec 16) (rev : Byte) (fw : BitVec 32) (profile : Byte)
  | feStatus (body : List Byte)
  | loadingRequest (r : LoadReq)
  | loadingConfirm (s : BitVec 40) (loadId : Fin 16)
  | loadingReject (tag reason : Byte)
  | loadingNeed (s : BitVec 40) (bands : List Band)
  | rateNotice (s : BitVec 40) (rate : Fin 8)
  | pairFallback (s : BitVec 40) (action : Byte) (pair : Pair) (txId rxId : Fin 16)
  | shutter (s : BitVec 40) (action reason : Byte)
  | feedbackSet (rate : Byte) (pairs : BitVec 4)
  | feedback (s : BitVec 40) (firstTg : BitVec 16) (count : Byte) (pairs : BitVec 4) (exp : Byte) (err : List Byte)
  | timeMark (s : BitVec 40) (sec : BitVec 48) (ns : BitVec 30) (frac epoch : BitVec 16) (delay : BitVec 32)
      (delayValid disciplined step : Bool)
  | timeReport (s : BitVec 40) (turn : BitVec 32) (skew : List (BitVec 16))
  | tParams (pilot : BitVec 16) (topTone : BitVec 16) (mask : List Brk) (notches : List Band)
  | tAlign (offset : BitVec 32) (delay : BitVec 32) (aligned : Bool)
  | tReady (phase : Byte)
  | tNext (phase : Byte) (s : BitVec 40)
  | tPairs (live : BitVec 4)
  | tLoading (r : LoadReq)
  | tConfirm (s : BitVec 40) (loadId : Fin 16)
  | tGo (s : BitVec 40)
  | tAbort (reason : Byte)
  deriving DecidableEq, Repr

/-- A run of tones with the same measured SNR on each pair, as a power ratio in units of 1/65,536 (R105, R219). -/
structure SnrRun where
  count : Nat
  a : Nat
  b : Nat
  c : Nat
  d : Nat
  deriving DecidableEq, Repr

/-- The margin of a loaded tone of a pair in units of 0.1 dB (R298). -/
structure ToneMargin where
  pair : Pair
  tone : BitVec 12
  margin : Int
  deriving DecidableEq, Repr

/-- A cell of the Coupling Map as measured (R264): victim pair, SET code, disturber pair, band and coupling byte. -/
structure MapCell where
  v : Fin 192
  set : Fin 3
  d : Fin 192
  band : Fin 16
  u : Byte
  deriving DecidableEq, Repr

/-- The map's noise floor for a victim pair, set and band, in the coding of R264 (R258). -/
structure MapFloor where
  v : Fin 192
  set : Fin 3
  band : Fin 16
  u : Byte
  deriving DecidableEq, Repr

/-- What a window of 512 superframes measured for a victim pair (R254): UXT_NEAR and UXT_FAR per tone group, FOREIGN per
band, and whether FOREIGN exceeded the recorded floor by 10 dB for the whole window in any band (R297). -/
structure WindowMeas where
  v : Fin 192
  near : List Byte
  far : List Byte
  foreign : List Byte
  foreignOver : Bool
  deriving DecidableEq, Repr

/-- The excess attenuation of one port's sub-bands 36..63, in units of 0.1 dB (R272). -/
structure BandMeas where
  port : Port
  excess : List Int
  deriving DecidableEq, Repr

/-- A reflection as measured on a pair, before classification (R374, R375): its distance in 0.1 m, the sign and
magnitude of the corrected coefficient (-u/2 dB), and the pair on which the coupled response exceeds -6 dB re the
pair's own reflection at that distance. -/
structure Echo where
  dm : Nat
  positive : Bool
  mag : Nat
  cross : Option Pair
  deriving DecidableEq, Repr

/-- A calibration target (R715). -/
inductive CalTgt where
  | port (n : Port)
  | lane (g : Lane)
  deriving DecidableEq, Repr

/-- How the quiet input was found during a calibration measurement (R722, R724). -/
inductive CalInput where
  | quiet | supply | refused
  deriving DecidableEq, Repr

/-- One ADC slice as measured: trims found and whether each lies in the plausible range of R710, and whether its
trimmed error lies within half of every limit of R327 with its error rank (smaller first). -/
structure ElemMeas where
  trims : List Byte
  plausible : Bool
  good : Bool
  rank : Nat
  deriving DecidableEq, Repr

/-- The results of one calibration measurement: ADC slices, DAC segments, hybrid codes, or lane offsets, for the sets
that ELEMENTS names. -/
structure CalMeas where
  input : CalInput
  adc : List ElemMeas
  dac : List ElemMeas
  hybrid : Option ElemMeas
  lanes : List ElemMeas
  deriving DecidableEq, Repr

/-- The end of a logic slice: patterns applied and signature (R736). -/
structure SliceMeas where
  patterns : Nat
  signature : BitVec 64
  fails : List (Nat × Nat × Nat × Nat)
  deriving DecidableEq, Repr

/-- The wake sources of R686. -/
inductive WakeSrc where
  | mdio (bus : Fin 2) (prtad : Fin 32)
  | energy (n : Port)
  | commandPort
  deriving DecidableEq, Repr

/-- A received HRX stripe: its header, its eight lane bodies joined, and whether every frame of it arrived good. -/
structure RxStripe where
  type : Fin 4
  number : Fin 512
  ptr : Fin 1024
  body : List Byte
  good : Bool
  hecFail : Bool
  stuffErr : Bool
  deriving DecidableEq, Repr

/-- An item that the Codeword Sampler watches, when it has been delivered or discarded (R767). -/
structure SampItem where
  port : Port
  siruigo : Bool
  retx : Bool
  seq : BitVec 16
  s : BitVec 40
  worstTg : BitVec 16
  worstPair : Fin 4
  corrSym : BitVec 16
  rsCorr : Byte
  begins : Bool
  heldGap : Bool
  latency : BitVec 32
  sec : BitVec 32
  ns : BitVec 30
  epoch : BitVec 2
  deriving DecidableEq, Repr

/-- The commands: one constructor for each row of spec/opcode_table.json, in its order. -/
inductive Instr where
  /-- R645: POWER_ON_RESET -/
  | powerOnReset
  /-- R781: POWER_ON_RESET_RELEASE -/
  | powerOnResetRelease (st : Straps)
  /-- R648: RESET_N_ASSERT -/
  | resetNAssert
  /-- R648: RESET_N_RELEASE -/
  | resetNRelease (st : Straps)
  /-- R651: WARM_RESET -/
  | warmReset
  /-- R646: LOCKSTEP_FAULT -/
  | lockstepFault
  /-- R646: WATCHDOG_EXPIRY -/
  | watchdogExpiry
  /-- R653: PER_PORT_RESET -/
  | perPortReset (n : Port)
  /-- R652: SOFT_RESET -/
  | softReset (b : Fin 32)
  /-- R621: IRO_VALID -/
  | iroValid
  /-- R621: REFCLK_VALID -/
  | refclkValid
  /-- R622: IRO_MEASURED -/
  | iroMeasured (f : BitVec 16)
  /-- R621: PLL_READY -/
  | pllReady (p : Pll)
  /-- R704: POWERUP_CALIBRATION -/
  | powerupCalibration (b : CalBlock) (ok : Bool) (codes : List Byte)
  /-- R623: REFCLK_LOST -/
  | refclkLost
  /-- R623: REFCLK_RANGE -/
  | refclkRange
  /-- R623: IRO_RANGE -/
  | iroRange
  /-- R626: PLL_UNLOCK -/
  | pllUnlock (p : Pll) (near : Bool)
  /-- R628: SAFE_RELEASE -/
  | safeRelease
  /-- R628: RELEASE -/
  | release
  /-- R634: CLK_SWITCH_GO -/
  | clkSwitchGo (v : Word)
  /-- R638: OLD_CLOCK_DEAD -/
  | oldClockDead
  /-- R641: CLK_EN_WRITE -/
  | clkEnWrite (v : Word)
  /-- R644: CLKOUT_CHANGE -/
  | clkoutChange (v : Word)
  /-- R698: VDD_CORE_WARNING -/
  | vddCoreWarning
  /-- R699: RAIL_WARNING -/
  | railWarning (r : Rail)
  /-- R697: WARNING_END -/
  | warningEnd (r : Rail)
  /-- R696: RAIL_RESET_LEVEL -/
  | railResetLevel (r : Rail)
  /-- R696: VDD_AON_LOSS -/
  | vddAonLoss
  /-- R504: WRITE -/
  | write (bytes : List Byte)
  /-- R507: READ -/
  | read (k : Nat)
  /-- R505: POLL -/
  | poll
  /-- R504: TRANSACTION_IGNORED -/
  | transactionIgnored (code : Byte)
  /-- R522: HELLO -/
  | hello (c : Packet)
  /-- R556: SESSION_OPEN -/
  | sessionOpen (c : Packet)
  /-- R563: SESSION_CLOSE -/
  | sessionClose (c : Packet)
  /-- R563: SESSION_IDLE_TIMEOUT -/
  | sessionIdleTimeout (h : BitVec 32)
  /-- R558: PROVISIONAL_HANDLE_EXPIRY -/
  | provisionalHandleExpiry
  /-- R562: HOLDOFF_EXPIRY -/
  | holdoffExpiry (r : Role)
  /-- R540: READ_REG -/
  | readReg (c : Packet)
  /-- R540: WRITE_REG -/
  | writeReg (c : Packet)
  /-- R540: READ_BLOCK -/
  | readBlock (c : Packet)
  /-- R543: PORT_CONFIG -/
  | portConfig (c : Packet)
  /-- R543: PORT_CONFIG_APPLY -/
  | portConfigApply (n : Port)
  /-- R545: PORT_STATE -/
  | portState (c : Packet)
  /-- R546: PORT_RETRAIN -/
  | portRetrain (c : Packet)
  /-- R306: PORT_RATE -/
  | portRate (c : Packet)
  /-- R270: SURVEY_START -/
  | surveyStart (c : Packet)
  /-- R294: BANK_STATUS -/
  | bankStatus (c : Packet)
  /-- R293: BANK_POLICY -/
  | bankPolicy (c : Packet)
  /-- R363: DIAG_START -/
  | diagStart (c : Packet)
  /-- R392: DIAG_RESULT -/
  | diagResult (c : Packet)
  /-- R715: CAL_RUN -/
  | calRun (c : Packet)
  /-- R730: CAL_RECORD_GET -/
  | calRecordGet (c : Packet)
  /-- R731: CAL_RECORD_PUT -/
  | calRecordPut (c : Packet)
  /-- R732: CAL_COMMIT -/
  | calCommit (c : Packet)
  /-- R739: AUDIT_CONFIG -/
  | auditConfig (c : Packet)
  /-- R742: AUDIT_RESULT -/
  | auditResult (c : Packet)
  /-- R459: TIME_ADJUST -/
  | timeAdjust (c : Packet)
  /-- R473: TIME_ACK -/
  | timeAck (c : Packet)
  /-- R486: LAUNCH_CTX_SET -/
  | launchCtxSet (c : Packet)
  /-- R669: POWER_LEVEL -/
  | powerLevel (c : Packet)
  /-- R675: SLEEP -/
  | sleep (c : Packet)
  /-- R693: PAD_RELEASE -/
  | padRelease (c : Packet)
  /-- R635: CLOCK_SELECT -/
  | clockSelect (c : Packet)
  /-- R764: COUNTER_CONFIG -/
  | counterConfig (c : Packet)
  /-- R766: SAMPLER_CONFIG -/
  | samplerConfig (c : Packet)
  /-- R573: LEDGER_READ -/
  | ledgerRead (c : Packet)
  /-- R574: LEDGER_DRAIN_ACK -/
  | ledgerDrainAck (c : Packet)
  /-- R530: OP_QUERY -/
  | opQuery (c : Packet)
  /-- R532: OP_ABORT -/
  | opAbort (c : Packet)
  /-- R548: IMAGE_LOAD -/
  | imageLoad (c : Packet)
  /-- R549: IMAGE_ACTIVATE -/
  | imageActivate (c : Packet)
  /-- R550: SIGNATURE_VERIFIED -/
  | signatureVerified
  /-- R551: IMAGE_START -/
  | imageStart
  /-- R446: LANE_TRAIN -/
  | laneTrain (c : Packet)
  /-- R448: LANE_TEST -/
  | laneTest (c : Packet)
  /-- R650: DEVICE_RESET -/
  | deviceReset (c : Packet)
  /-- R524: PROFILE_SELECT -/
  | profileSelect (c : Packet)
  /-- R582: VAULT_PROGRAM -/
  | vaultProgram (c : Packet)
  /-- R583: VAULT_WORD_BURN -/
  | vaultWordBurn (ok : Bool)
  /-- R585: SCAN_EN -/
  | scanEn
  /-- R790: BOUNDARY_SCAN_INSTRUCTION -/
  | boundaryScanInstruction (x : ScanInstr)
  /-- R790: BOUNDARY_SCAN_EXIT -/
  | boundaryScanExit
  /-- R614: TELLER_RESYNC -/
  | tellerResync
  /-- R599: REGISTER_WRITE -/
  | registerWrite (a : Access) (v : Word)
  /-- R605: LATCHING_READ -/
  | latchingRead (a : Access)
  /-- R607: MULTIWORD_WRITE_COMMIT -/
  | multiwordWriteCommit (a : Access) (v : Word)
  /-- R613: LINK_STATUS_READ -/
  | linkStatusRead (a : Access)
  /-- R594: MDIO_ADDRESS -/
  | mdioAddress (bus : Fin 2) (prtad : Fin 32) (devad : Fin 32) (a : BitVec 16)
  /-- R594: POST_READ_INCREMENT_ADDRESS -/
  | postReadIncrementAddress (bus : Fin 2) (prtad : Fin 32) (devad : Fin 32)
  /-- R597: PORT_LOW_POWER -/
  | portLowPower (n : Port) (pcs : Bool) (v : Bool)
  /-- R597: RESTART_AUTO_NEGOTIATION -/
  | restartAutoNegotiation (n : Port)
  /-- R479: TS_POP -/
  | tsPop (n : Port)
  /-- R400: HL_CTRL_ENABLE_WRITE -/
  | hlCtrlEnableWrite (g : Lane) (v : Bool)
  /-- R76: AN_PAGE -/
  | anPage (n : Port) (b : Burst)
  /-- R81: FLP_BURST_SEND -/
  | flpBurstSend (n : Port)
  /-- R59: AN_COMPLETE -/
  | anComplete (n : Port) (p : PartnerAdv)
  /-- R60: LINK_FAIL_INHIBIT_EXPIRY -/
  | linkFailInhibitExpiry (n : Port)
  /-- R69: NO_LINE_ENERGY -/
  | noLineEnergy (n : Port)
  /-- R352: PCS_LINK_DOWN -/
  | pcsLinkDown (n : Port) (lost : Bool)
  /-- R198: HANDSHAKE_DETECTOR_FIRE -/
  | handshakeDetectorFire (n : Port) (p : Pair) (d : Fin 2)
  /-- R198: HANDSHAKE_CONFIRM_TIMEOUT -/
  | handshakeConfirmTimeout (n : Port) (p : Pair) (d : Fin 2)
  /-- R195: HANDSHAKE_BURST -/
  | handshakeBurst (n : Port) (m : HsMsg)
  /-- R192: SLAVE_BURST -/
  | slaveBurst (n : Port)
  /-- R185: PARTNER_SILENT -/
  | partnerSilent (n : Port)
  /-- R184: FIRST_BURST_TIMEOUT -/
  | firstBurstTimeout (n : Port)
  /-- R224: LISTEN_WINDOW -/
  | listenWindow (n : Port)
  /-- R225: LISTEN_TDR -/
  | listenTdr (n : Port) (energy : Bool) (res : List (Option (BitVec 11)))
  /-- R186: PHASE_LIMIT -/
  | phaseLimit (n : Port)
  /-- R187: PHASE_MISMATCH -/
  | phaseMismatch (n : Port)
  /-- R188: TRAINING_DEADLINE -/
  | trainingDeadline (n : Port)
  /-- R204: TRAINING_PHASE_CHANGE -/
  | trainingPhaseChange (n : Port)
  /-- R206: CANCELLER_CONVERGED -/
  | cancellerConverged (n : Port)
  /-- R208: T_PARAMS -/
  | tParams (n : Port) (tag : Byte) (pilot : BitVec 16) (top : BitVec 16) (mask : List Brk) (notches : List Band)
  /-- R207: T_ALIGN -/
  | tAlign (n : Port) (offset : BitVec 32) (delay : BitVec 32) (aligned : Bool)
  /-- R209: T_READY -/
  | tReady (n : Port) (tag : Byte) (phase : Byte)
  /-- R204: T_NEXT -/
  | tNext (n : Port) (tag : Byte) (phase : Byte) (sf : BitVec 40)
  /-- R211: T_PAIRS -/
  | tPairs (n : Port) (tag : Byte) (live : BitVec 4)
  /-- R221: T_LOADING -/
  | tLoading (n : Port) (tag : Byte) (r : LoadReq)
  /-- R222: T_CONFIRM -/
  | tConfirm (n : Port) (tag : Byte)
  /-- R204: T_GO -/
  | tGo (n : Port) (tag : Byte) (sf : BitVec 40)
  /-- R187: T_ABORT -/
  | tAbort (n : Port) (reason : Byte)
  /-- R212: DISCOVERY_MEASURED -/
  | discoveryMeasured (n : Port) (live : BitVec 4)
  /-- R212: PAIR_CHECK_RETRY -/
  | pairCheckRetry (n : Port) (live : BitVec 4)
  /-- R215: JOIN_RAMP_STEP -/
  | joinRampStep (n : Port)
  /-- R216: JOIN_LATE -/
  | joinLate (n : Port)
  /-- R219: LOADING_MEASURED -/
  | loadingMeasured (n : Port) (snr : List SnrRun)
  /-- R220: LOADING_REMEASURE -/
  | loadingRemeasure (n : Port) (snr : List SnrRun)
  /-- R222: SERVICE_ENTRY -/
  | serviceEntry (n : Port)
  /-- R29: SUPERFRAME_BOUNDARY -/
  | superframeBoundary (m : List PortMeas)
  /-- R142: DTU_SLOT -/
  | dtuSlot (n : Port) (sym : Fin 256)
  /-- R147: DTU_RECEIVED -/
  | dtuReceived (n : Port) (sym : Fin 256) (d : RxDtu)
  /-- R148: DTU_LOST -/
  | dtuLost (n : Port) (seq : BitVec 16)
  /-- R149: ESCROW_DISCARD -/
  | escrowDiscard (n : Port) (seq : BitVec 16)
  /-- R144: EOC_BLOCK -/
  | eocBlock (n : Port) (sym : Fin 256) (b : List Byte)
  /-- R157: MSG_ACK -/
  | msgAck (n : Port) (type : Byte) (tag : Byte)
  /-- R157: MESSAGE_RESEND -/
  | messageResend (n : Port) (type : Byte) (tag : Byte)
  /-- R164: VERSION -/
  | version (n : Port) (tag : Byte) (proto : Byte) (vendor : BitVec 24) (part : BitVec 16) (rev : Byte) (fw : BitVec 32) (profile : Byte)
  /-- R162: FE_STATUS -/
  | feStatus (n : Port) (body : List Byte)
  /-- R165: FE_STATUS_SEND -/
  | feStatusSend (n : Port) (counts : List (BitVec 32))
  /-- R173: LOADING_REQUEST -/
  | loadingRequest (n : Port) (tag : Byte) (r : LoadReq)
  /-- R174: LOADING_CONFIRM -/
  | loadingConfirm (n : Port) (tag : Byte) (sf : BitVec 40) (id : Fin 16)
  /-- R174: LOADING_CONFIRM_REPEAT -/
  | loadingConfirmRepeat (n : Port)
  /-- R175: LOADING_REJECT -/
  | loadingReject (n : Port) (tag : Byte) (which : Byte) (reason : Byte)
  /-- R808: LOADING_NEED -/
  | loadingNeed (n : Port) (tag : Byte) (sf : BitVec 40) (bands : List Band) (snr : List SnrRun)
  /-- R172: RATE_NOTICE -/
  | rateNotice (n : Port) (tag : Byte) (sf : BitVec 40) (rate : Fin 8) (snr : List SnrRun)
  /-- R169: LOADING_CHANGE_APPLY -/
  | loadingChangeApply (n : Port)
  /-- R176: LOADING_TRIAL -/
  | loadingTrial (n : Port) (newOk : Bool) (oldOk : Bool)
  /-- R318: PAIR_FALLBACK -/
  | pairFallback (n : Port) (tag : Byte) (sf : BitVec 40) (action : Byte) (pair : Pair) (txId : Fin 16) (rxId : Fin 16)
  /-- R318: PAIR_FALLBACK_APPLY -/
  | pairFallbackApply (n : Port)
  /-- R335: SHUTTER -/
  | shutter (n : Port) (tag : Byte) (sf : BitVec 40) (action : Byte) (reason : Byte)
  /-- R163: FEEDBACK_SET -/
  | feedbackSet (n : Port) (tag : Byte) (rate : Byte) (pairs : BitVec 4)
  /-- R163: FEEDBACK -/
  | feedback (n : Port) (sf : BitVec 40) (firstTg : BitVec 16) (count : Byte) (pairs : BitVec 4) (exp : Byte) (err : List Byte)
  /-- R500: TIME_MARK -/
  | timeMark (n : Port) (sf : BitVec 40) (sec : BitVec 48) (ns : BitVec 30) (frac : BitVec 16) (epoch : BitVec 16) (delay : BitVec 32) (valid : Bool) (disc : Bool) (stepped : Bool) (arrival : Nat)
  /-- R165: TIME_MARK_SEND -/
  | timeMarkSend (n : Port) (turn : BitVec 32) (skew : List (BitVec 16))
  /-- R496: TIME_REPORT -/
  | timeReport (n : Port) (sf : BitVec 40) (turn : BitVec 32) (skew : List (BitVec 16)) (eps : Int)
  /-- R498: TT_LOST -/
  | ttLost (n : Port)
  /-- R299: SEAMLESS_SWAP -/
  | seamlessSwap (n : Port) (tones : List ToneMargin)
  /-- R303: STEP_DOWN -/
  | stepDown (n : Port) (snr : List SnrRun)
  /-- R305: STEP_UP -/
  | stepUp (n : Port) (snr : List SnrRun)
  /-- R315: STANDBY_TABLE_SEND -/
  | standbyTableSend (n : Port) (p : Pair) (snr : List SnrRun)
  /-- R317: FALLBACK_TRIGGER -/
  | fallbackTrigger (n : Port)
  /-- R321: PAIR_BREAK -/
  | pairBreak (n : Port) (p : Pair)
  /-- R324: FALLBACK_RETURN -/
  | fallbackReturn (n : Port)
  /-- R327: ELEMENT_RETIRE -/
  | elementRetire (n : Port) (p : Pair) (dac : Bool) (idx : Fin 68) (good : List (Fin 68))
  /-- R328: SPARE_SUBSTITUTION -/
  | spareSubstitution (n : Port)
  /-- R332: DRIFT_FENCE -/
  | driftFence (n : Port) (loop : Fin 5) (p : Pair) (tx : Bool)
  /-- R333: DRIFT_REVERT -/
  | driftRevert (n : Port)
  /-- R354: DEGRADE_HOLD_EXPIRY -/
  | degradeHoldExpiry (n : Port)
  /-- R352: PARTNER_BLOCK_TIMEOUT -/
  | partnerBlockTimeout (n : Port)
  /-- R334: SHUTTER_REQUEST_TRIGGER -/
  | shutterRequestTrigger (n : Port)
  /-- R336: SHUTTER_ENTRY -/
  | shutterEntry (n : Port)
  /-- R338: REFRESH -/
  | refresh (n : Port) (heard : Bool)
  /-- R341: KNOCK -/
  | knock (n : Port) (sym : Fin 256)
  /-- R342: KNOCK_DETECTOR_FIRE -/
  | knockDetectorFire (n : Port) (p : Pair) (d : Fin 2) (sym : Fin 256)
  /-- R344: KNOCK_CONFIRM -/
  | knockConfirm (n : Port) (p : Pair) (k : Fin 256) (sym : Fin 256)
  /-- R343: FALSE_KNOCK -/
  | falseKnock (n : Port) (p : Pair) (d : Fin 2) (sym : Fin 256)
  /-- R344: ANSWER -/
  | answer (n : Port) (sym : Fin 256)
  /-- R346: SHUTTER_RESUME -/
  | shutterResume (n : Port) (sym : Fin 256)
  /-- R347: KNOCK_RETRY -/
  | knockRetry (n : Port) (sym : Fin 256)
  /-- R340: SCHEDULED_WAKE -/
  | scheduledWake (n : Port) (sym : Fin 256)
  /-- R350: LPI -/
  | lpi (n : Port) (enter : Bool)
  /-- R260: CH_WINDOW_END -/
  | chWindowEnd (ms : List WindowMeas)
  /-- R266: SHADOW_READY -/
  | shadowReady (v : Fin 192) (shadow : Int) (live : Int)
  /-- R276: SURVEY_COMMIT -/
  | surveyCommit (v : Fin 192)
  /-- R260: LENDING_COMMIT -/
  | lendingCommit (v : Fin 192)
  /-- R246: COMMIT_SWEEP -/
  | commitSweep (v : Fin 192)
  /-- R277: STAGED_EXPIRY -/
  | stagedExpiry (v : Fin 192)
  /-- R288: DORMANT_HOLD_EXPIRY -/
  | dormantHoldExpiry (n : Port)
  /-- R269: FEEDBACK_TIMEOUT -/
  | feedbackTimeout (v : Fin 192)
  /-- R285: JOIN_MEASURED -/
  | joinMeasured (cells : List MapCell) (floors : List MapFloor)
  /-- R272: BAND_CHECK -/
  | bandCheck (ms : List BandMeas)
  /-- R270: SURVEY_BATCH -/
  | surveyBatch (cells : List MapCell) (floors : List MapFloor)
  /-- R270: SURVEY_RELEASE -/
  | surveyRelease
  /-- R366: DIAG_BEGIN -/
  | diagBegin (n : Port)
  /-- R367: ACTIVE_ACQUISITION -/
  | activeAcquisition (n : Port) (discarded : Nat) (echoes : List Echo)
  /-- R371: INPUT_BUSY -/
  | inputBusy (n : Port)
  /-- R372: PASSIVE_COPY -/
  | passiveCopy (n : Port) (echoes : List (List Echo))
  /-- R382: NOISE_FLOOR_WINDOW_END -/
  | noiseFloorWindowEnd (n : Port) (total : List (List Byte)) (unexpl : List (List Byte))
  /-- R388: CAPTURE_TRIGGER -/
  | captureTrigger (n : Port) (cause : Fin 5)
  /-- R388: CAPTURE_FILLED -/
  | captureFilled (n : Port) (data : List Byte)
  /-- R390: CAPTURE_TIMEOUT -/
  | captureTimeout (n : Port)
  /-- R717: CAL_WINDOW_START -/
  | calWindowStart (t : CalTgt)
  /-- R718: CAL_MEASUREMENT_DONE -/
  | calMeasurementDone (t : CalTgt) (m : CalMeas)
  /-- R722: CAL_INPUT_BUSY -/
  | calInputBusy (t : CalTgt)
  /-- R723: CAL_RETRY -/
  | calRetry (t : CalTgt)
  /-- R712: CAL_COMMIT_APPLY -/
  | calCommitApply (t : CalTgt)
  /-- R712: CAL_RAMP_STEP -/
  | calRampStep (t : CalTgt)
  /-- R740: AUDIT_START -/
  | auditStart
  /-- R736: SLICE_END -/
  | sliceEnd (m : SliceMeas)
  /-- R736: SLICE_TIMEOUT -/
  | sliceTimeout
  /-- R745: AUDIT_SERVICE_REQUEST -/
  | auditServiceRequest (b : Fin 32)
  /-- R741: AUDIT_END -/
  | auditEnd
  /-- R671: LEVEL_RAISE_SWITCH -/
  | levelRaiseSwitch
  /-- R672: LEVEL_LOWER_SWITCH -/
  | levelLowerSwitch
  /-- R673: LEVEL_FAIL -/
  | levelFail
  /-- R667: AVS_READBACK -/
  | avsReadback (mv : BitVec 16) (alert : Bool)
  /-- R667: AVS_FAIL -/
  | avsFail
  /-- R677: SLEEP_BLOCK_STOP -/
  | sleepBlockStop
  /-- R694: TRANSFER_ABORT -/
  | transferAbort (ty : Fin 6) (count : Byte) (tgt : Nat)
  /-- R684: DOZE_WAKE -/
  | dozeWake
  /-- R686: RETAIN_WAKE -/
  | retainWake (w : WakeSrc)
  /-- R690: WAKE_PLL_RELOCK -/
  | wakePllRelock
  /-- R690: WAKE_DOMAINS_POWERED -/
  | wakeDomainsPowered
  /-- R464: ANCHOR -/
  | anchor
  /-- R461: SLEW_END -/
  | slewEnd
  /-- R465: GRID_RAMP -/
  | gridRamp (ds : Nat)
  /-- R468: TIME_COMPARE -/
  | timeCompare (n : Port)
  /-- R489: LAUNCH -/
  | launch (c : Fin 16384) (sym : Fin 256) (late : Nat)
  /-- R406: HTX_STRIPE -/
  | htxStripe (g : Lane)
  /-- R408: HRX_STRIPE -/
  | hrxStripe (g : Lane) (x : RxStripe)
  /-- R409: LANE_LOCK_LOST -/
  | laneLockLost (g : Lane) (l : Fin 8)
  /-- R422: HRX_CONTROL_STRIPE -/
  | hrxControlStripe (g : Lane) (body : List Byte)
  /-- R416: HRX_RECORD -/
  | hrxRecord (g : Lane) (sb : BitVec 64) (frame : List Byte) (cut : Bool)
  /-- R430: PAUSE_REPEAT -/
  | pauseRepeat (n : Port)
  /-- R417: LINE_FRAME -/
  | lineFrame (n : Port) (frame : List Byte) (sec : Nat) (ns : Nat) (eighth : Nat)
  /-- R426: NOTICE_TIMEOUT -/
  | noticeTimeout (n : Port)
  /-- R434: TRAIN_FRAME -/
  | trainFrame (g : Lane) (body : List Byte) (codes : Option (List (Fin 16)))
  /-- R434: HRX_CLOCK_DETECT -/
  | hrxClockDetect (g : Lane)
  /-- R435: TRAIN_FAIL -/
  | trainFail (g : Lane)
  /-- R435: TRAIN_RETRY -/
  | trainRetry (g : Lane)
  /-- R442: PRBS_SYNC -/
  | prbsSync (g : Lane) (l : Fin 8)
  /-- R443: ERROR_INJECTION -/
  | errorInjection (g : Lane)
  /-- R444: LANE_TEST_END -/
  | laneTestEnd (g : Lane) (bits : List Nat) (errs : List Nat)
  /-- R765: COUNTER_START -/
  | counterStart
  /-- R768: SAMPLER_RECORD -/
  | samplerRecord (it : SampItem)
  /-- R70: PCS_LINK_UP -/
  | pcsLinkUp (n : Port)
  /-- R354: FAST_RETRAIN -/
  | fastRetrain (n : Port)
  /-- R609: MDIO_READ -/
  | mdioRead (bus : Fin 2) (prtad : Fin 32) (devad : Fin 32)
  /-- R584: VDD_FUSE_CHANGE -/
  | vddFuseChange (ok : Bool)
  /-- R794: TEMP_NOW_UPDATE -/
  | tempNowUpdate (rs : List (BitVec 16))
  /-- R754: PM_SAMPLE_TICK -/
  | pmSampleTick (ticks : Nat)
  deriving DecidableEq, Repr

end Sys2Proof
end

