-- ==== Sys2Proof/Decode.lean ====
section
/-!
DEFINITION. The decoder of table words. spec/opcode_table.json gives no row any bits: a command reaches the block as an
event on a pin, on a line or on a bus, or as a command packet, whose bytes the Teller reads (Machine/Operands.lean). So
no table word spells a command.
-/
namespace Sys2Proof

/-- The command that a table word spells: none, since no row of the table has bits. -/
def decodeTableWord (_nbits _w : Nat) : Option Instr := none

end Sys2Proof
end

