-- ==== Sys2Proof/Config.lean ====
section
/-!
DEFINITION. What spec/ leaves open: values that one device of the part has and no rule states, each a constant with no
body, so that nothing can be proved about which value it is. Those that spec/ says are drawn at random, or that may
differ at each use, are functions of the counter `draws` of the state, which each use advances (assumption 7).
-/
namespace Sys2Proof.Config

/-- The device nonce of a SESSION_OPEN (R558), from the device's random source. -/
opaque nonce (draw : Nat) : BitVec 128

/-- The random part of a session handle (R558). -/
opaque handle (draw : Nat) : BitVec 32

/-- The random value of a GENESIS entry (R567). -/
opaque genesis (draw : Nat) : BitVec 32

/-- A drawn seed of 20 bits (R53, R194). -/
opaque seed (draw : Nat) : BitVec 20

/-- The quiet window of a port in Listen, in units of 1 ms (R224). -/
opaque listenQuiet (draw : Nat) : Nat

/-- The interval between the bursts of a port, in us (R81). -/
opaque flpInterval (draw : Nat) : Nat

/-- The estimated duration of a long operation in ms (R526), by opcode. -/
opaque estimate (opcode draw : Nat) : BitVec 32

/-- The estimated time to completion of a running operation in ms (R530). -/
opaque remain (opcode draw : Nat) : BitVec 32

/-- RETRY_AFTER in ms for BUSY (R510). -/
opaque retryBusy (draw : Nat) : BitVec 16

/-- RETRY_AFTER for BUSY_SELFTEST: 1..20 ms (R510, R518), as the value less one modulo 20. -/
opaque retrySelftest (draw : Nat) : Nat

/-- The version of the boot ROM (R522). -/
opaque romVersion : BitVec 32

/-- The 64-bit signature that a logic slice must give (R736), by block and slice. -/
opaque auditSignature (block slice : Nat) : BitVec 64

/-- The pattern count of a logic slice (R736), by block and slice. -/
opaque auditPatterns (block slice : Nat) : Nat

/-- The row of a memory instance that repairs a failing row when k of its spare rows are in use; none where no spare row is left
(R737). -/
opaque spareRow (inst k : Nat) : Option (BitVec 16)

/-- The port that uses a memory instance, none where it is no per-port store (R737, R749). -/
opaque instPort (inst : Nat) : Option Nat

/-- The lane group that uses a memory instance, none where it is no lane-group buffer (R737, R749). -/
opaque instLane (inst : Nat) : Option Nat

/-- The number of lots that the Bank rows of a memory instance hold (R737, R749). -/
opaque instLots (inst : Nat) : Nat

/-- The bits of a fuse word that fails verification which were burned all the same (R584). -/
opaque burnPart (draw : Nat) : BitVec 32

/-- The fine gain that a receiver gives a tone of a pair in a loading that it computes (R105 gives the BITS alone). -/
opaque gain (draw pair tone : Nat) : Nat

/-- The SNR of a tone of a pair as the receiver has averaged it (R298), where the command that needs it brings no measurement:
a power ratio in units of 1/65,536. -/
opaque snr (draw pair tone : Nat) : Nat

/-- A choice among several that rules allow alike. -/
opaque pick (draw : Nat) : Nat

/-- The exponent of a block of the Bank while its lot is in use (R242, R243). -/
opaque bankExp (draw addr : Nat) : BitVec 8

/-- A component of an entry of the Bank while its lot is in use (R241). -/
opaque bankMantissa (draw addr : Nat) : BitVec 8

/-- A byte of an entry or exponent of a lot that is not in use and that no raw write has given a value (R244, R248). -/
opaque bankIdle (draw addr : Nat) : BitVec 8

/-- The levels on GPIO0..GPIO7 where the device does not drive them (R794). -/
opaque gpioPins (draw : Nat) : BitVec 8

/-- Whether the Teller's own record of a port has followed the port's latest change (R614). -/
opaque tellerFollows (draw port : Nat) : Bool

/-- The saturated components of a lot that is staged (R251). -/
opaque bankClips (draw : Nat) : Nat

/-- The default codes that MAKER_TRIM gives a block of the power-up calibration (R705), byte i: spec/ gives the field no layout. -/
opaque makerCode (trim : List Byte) (block i : Nat) : BitVec 8

/-- The default hybrid codes that MAKER_TRIM gives a pair (R709), byte i. -/
opaque makerHybrid (trim : List Byte) (pair i : Nat) : BitVec 8

/-- Whether the value of a trim lies within the limits of R710, by element set (1 ADC, 2 DAC, 3 hybrid, 4 lane) and place: spec/ gives
the trims no unit. -/
opaque trimOk (set place : Nat) (trim : BitVec 8) : Bool

end Sys2Proof.Config
end

