-- ==== Sys2Proof/Machine/Crypto.lean ====
section
/-!
DEFINITION. The codes that the packets and records carry: CRC-32C (R129), CRC16 (R154), the CRC-8 of R404, SHA-256,
HMAC-SHA-256 and the verification of an ECDSA P-256 signature (R547, R557, R567, R581). spec/ names SHA-256, HMAC and
P-256 without restating them: their standard definitions are PRESUMED (assumption 4).
-/
namespace Sys2Proof.Machine

/-! ## Cyclic redundancy checks -/

/-- One bit step of the reflected CRC-32C register. -/
def crc32Bit (r : Nat) : Nat := if r % 2 = 1 then Nat.xor (r / 2) 0x82F63B78 else r / 2

/-- One byte of the reflected CRC-32C register. -/
def crc32Byte (r : Nat) (b : Byte) : Nat := forN 8 (fun _ x => crc32Bit x) (Nat.xor r b.toNat)

/-- CRC-32C with polynomial 0x1EDC_6F41, bit-reflected, initial value and final XOR 0xFFFF_FFFF (R129). -/
def crc32c (bs : List Byte) : Nat := Nat.xor (bs.foldl crc32Byte 0xFFFFFFFF) 0xFFFFFFFF

/-- One bit of the CRC-32 of an Ethernet frame, bit-reflected (assumption 4). -/
def fcsBit (r : Nat) : Nat := if r % 2 = 1 then Nat.xor (r / 2) 0xEDB88320 else r / 2

/-- The FCS of an Ethernet frame's other bytes, in the order in which its bytes are sent (assumption 4). -/
def fcsOf (bs : List Byte) : List Byte :=
  let r := Nat.xor (bs.foldl (fun r b => forN 8 (fun _ x => fcsBit x) (Nat.xor r b.toNat)) 0xFFFFFFFF) 0xFFFFFFFF
  (natBE 4 r).reverse

/-- The FCS of a frame passes. -/
def fcsOk (f : List Byte) : Bool := decide (4 ≤ f.length) && f.drop (f.length - 4) == fcsOf (f.take (f.length - 4))

/-- One bit step of CRC16. -/
def crc16Bit (r : Nat) : Nat := if r ≥ 0x8000 then Nat.xor (r * 2 % 0x10000) 0x1021 else r * 2

/-- CRC16 with polynomial 0x1021, initial value 0xFFFF, no reflection and no final XOR (R154). -/
def crc16 (bs : List Byte) : Nat :=
  bs.foldl (fun r b => forN 8 (fun _ x => crc16Bit x) (Nat.xor r (b.toNat * 256))) 0xFFFF

/-- One bit step of the CRC-8 of R404. -/
def crc8Bit (r : Nat) : Nat := if r ≥ 0x80 then Nat.xor (r * 2 % 0x100) 0x07 else r * 2

/-- CRC-8 with polynomial x^8 + x^2 + x + 1 and initial value 0 (R404). -/
def crc8 (bs : List Byte) : Nat := bs.foldl (fun r b => forN 8 (fun _ x => crc8Bit x) (Nat.xor r b.toNat)) 0

/-! ## SHA-256 and HMAC -/

/-- Round constants of SHA-256 (part 0). -/
def shaK0 : List Nat := [0x428a2f98, 0x71374491, 0xb5c0fbcf, 0xe9b5dba5, 0x3956c25b, 0x59f111f1, 0x923f82a4, 0xab1c5ed5, 0xd807aa98, 0x12835b01, 0x243185be, 0x550c7dc3, 0x72be5d74, 0x80deb1fe, 0x9bdc06a7, 0xc19bf174]

/-- Round constants of SHA-256 (part 1). -/
def shaK1 : List Nat := [0xe49b69c1, 0xefbe4786, 0xfc19dc6, 0x240ca1cc, 0x2de92c6f, 0x4a7484aa, 0x5cb0a9dc, 0x76f988da, 0x983e5152, 0xa831c66d, 0xb00327c8, 0xbf597fc7, 0xc6e00bf3, 0xd5a79147, 0x6ca6351, 0x14292967]

/-- Round constants of SHA-256 (part 2). -/
def shaK2 : List Nat := [0x27b70a85, 0x2e1b2138, 0x4d2c6dfc, 0x53380d13, 0x650a7354, 0x766a0abb, 0x81c2c92e, 0x92722c85, 0xa2bfe8a1, 0xa81a664b, 0xc24b8b70, 0xc76c51a3, 0xd192e819, 0xd6990624, 0xf40e3585, 0x106aa070]

/-- Round constants of SHA-256 (part 3). -/
def shaK3 : List Nat := [0x19a4c116, 0x1e376c08, 0x2748774c, 0x34b0bcb5, 0x391c0cb3, 0x4ed8aa4a, 0x5b9cca4f, 0x682e6ff3, 0x748f82ee, 0x78a5636f, 0x84c87814, 0x8cc70208, 0x90befffa, 0xa4506ceb, 0xbef9a3f7, 0xc67178f2]

/-- The 64 round constants of SHA-256. -/
def shaK : List Nat := shaK0 ++ shaK1 ++ shaK2 ++ shaK3

/-- The initial hash value of SHA-256. -/
def shaInit : List Nat := [0x6a09e667, 0xbb67ae85, 0x3c6ef372, 0xa54ff53a, 0x510e527f, 0x9b05688c, 0x1f83d9ab, 0x5be0cd19]

/-- A sum modulo 2^32. -/
def add32 (a b : Nat) : Nat := (a + b) % 0x100000000

/-- Rotate a 32-bit word right. -/
def rotr32 (x n : Nat) : Nat := (x / 2 ^ n + x * 2 ^ (32 - n)) % 0x100000000

/-- The message schedule's next word from the latest sixteen, newest first. -/
def shaNext (w : List Nat) : Nat :=
  let x := w.getD 14 0
  let y := w.getD 1 0
  let s0 := Nat.xor (Nat.xor (rotr32 x 7) (rotr32 x 18)) (x / 2 ^ 3)
  let s1 := Nat.xor (Nat.xor (rotr32 y 17) (rotr32 y 19)) (y / 2 ^ 10)
  add32 (add32 (w.getD 15 0) s0) (add32 (w.getD 6 0) s1)

/-- The 64 words of a block's schedule, from its 16 words. -/
def shaSchedule (ws : List Nat) : List Nat := (forN 48 (fun _ w => shaNext w :: w) ws.reverse).reverse

/-- One round: the eight working words, a round constant plus the schedule word. -/
def shaRound (kw : Nat) (v : List Nat) : List Nat :=
  match v with
  | [a, b, c, d, e, f, g, h] =>
    let s1 := Nat.xor (Nat.xor (rotr32 e 6) (rotr32 e 11)) (rotr32 e 25)
    let chv := Nat.xor (Nat.land e f) (Nat.land (Nat.xor e 0xFFFFFFFF) g)
    let t1 := add32 (add32 h s1) (add32 chv kw)
    let s0 := Nat.xor (Nat.xor (rotr32 a 2) (rotr32 a 13)) (rotr32 a 22)
    let maj := Nat.xor (Nat.xor (Nat.land a b) (Nat.land a c)) (Nat.land b c)
    [add32 t1 (add32 s0 maj), a, b, c, add32 d t1, e, f, g]
  | l => l

/-- Compress one block of 64 bytes. -/
def shaBlock (hash : List Nat) (block : List Byte) : List Nat :=
  let w := shaSchedule ((List.range 16).map (fun i => beAt block (4 * i) 4))
  let v := forL (List.zipWith add32 shaK w) shaRound hash
  List.zipWith add32 hash v

/-- The padding of a message of n bytes: 0x80, zeros, and the length in bits. -/
def shaPad (n : Nat) : List Byte := [0x80] ++ List.replicate ((119 - n % 64) % 64) 0 ++ natBE 8 (8 * n)

/-- The SHA-256 digest, 32 bytes. -/
def sha256 (m : List Byte) : List Byte :=
  let p := m ++ shaPad m.length
  (forN (p.length / 64) (fun i h => shaBlock h (slice p (64 * i) 64)) shaInit).flatMap (natBE 4)

/-- HMAC-SHA-256 with a key of at most 64 bytes. -/
def hmac (key m : List Byte) : List Byte :=
  let k := key ++ List.replicate (64 - key.length) 0
  sha256 (k.map (fun b => b ^^^ 0x5C) ++ sha256 (k.map (fun b => b ^^^ 0x36) ++ m))

/-! ## ECDSA over P-256 -/

/-- The field prime of P-256. -/
def p256p : Nat := 2 ^ 256 - 2 ^ 224 + 2 ^ 192 + 2 ^ 96 - 1

/-- The order of its base point. -/
def p256n : Nat := 0xffffffff00000000ffffffffffffffffbce6faada7179e84f3b9cac2fc632551

/-- The coefficient b of its curve y^2 = x^3 - 3x + b. -/
def p256b : Nat := 0x5ac635d8aa3a93e7b3ebbd55769886bc651d06b0cc53b0f63bce3c3e27d2604b

/-- The base point. -/
def p256g : Nat × Nat :=
  (0x6b17d1f2e12c4247f8bce6e563a440f277037d812deb33a0f4a13945d898c296,
   0x4fe342e2fe1a7f9b8ee7eb4a7c0f9e162bce33576b315ececbb6406837bf51f5)

/-- A power modulo m, over the lowest `fuel` bits of the exponent. -/
def powMod (fuel b e m : Nat) : Nat :=
  match fuel with
  | 0 => 1
  | k + 1 => let r := powMod k (b * b % m) (e / 2) m
             if e % 2 = 1 then b * r % m else r

/-- The inverse modulo a prime of 256 bits. -/
def invMod (a m : Nat) : Nat := powMod 256 (a % m) (m - 2) m

/-- Add two points of the curve; `none` is the point at infinity. -/
def ecAdd (a b : Option (Nat × Nat)) : Option (Nat × Nat) :=
  match a, b with
  | none, q => q
  | q, none => q
  | some (x1, y1), some (x2, y2) =>
    if x1 = x2 ∧ (y1 + y2) % p256p = 0 then none
    else
      let l := if x1 = x2 then (3 * x1 * x1 + p256p - 3) * invMod (2 * y1) p256p % p256p
               else (y2 + p256p - y1) * invMod (x2 + p256p - x1) p256p % p256p
      let x3 := (l * l + 2 * p256p - x1 - x2) % p256p
      some (x3, (l * (x1 + p256p - x3) + p256p - y1) % p256p)

/-- A multiple of a point, over the lowest `fuel` bits of the factor. -/
def ecMul (fuel k : Nat) (q : Option (Nat × Nat)) : Option (Nat × Nat) :=
  match fuel with
  | 0 => none
  | f + 1 => let r := ecMul f (k / 2) (ecAdd q q)
             if k % 2 = 1 then ecAdd q r else r

/-- A signature (r, then s, 32 bytes each) over a digest verifies against a public key (x, then y). -/
def ecdsaVerify (key digest sig : List Byte) : Bool :=
  let x := beAt key 0 32
  let y := beAt key 32 32
  let r := beAt sig 0 32
  let t := beAt sig 32 32
  let onCurve := decide (x < p256p ∧ y < p256p ∧ (y * y) % p256p = (x * x * x + (p256p - 3) * x + p256b) % p256p)
  let inRange := decide (0 < r ∧ r < p256n ∧ 0 < t ∧ t < p256n)
  if onCurve && inRange then
    let w := invMod t p256n
    let u1 := beNat digest * w % p256n
    let u2 := r * w % p256n
    match ecAdd (ecMul 256 u1 (some p256g)) (ecMul 256 u2 (some (x, y))) with
    | some (px, _) => px % p256n == r
    | none => false
  else false

end Sys2Proof.Machine
end

