-- ==== Sys2Proof/Machine/Regs.lean ====
section
/-!
DEFINITION. The register map: every register field of the window with its place, its type under R599 and its reset
value. The Clause 45 places of MMDs 1, 3 and 7 are PRESUMED from the family (assumption 3); every other field is
from the register tables of spec/.
-/
namespace Sys2Proof.Machine

/-- The field types of R599 of 13_registers_and_mdio.md. LK and WO exist in no register of B0 (R806). -/
inductive FType where
  | ro | rw | w1c | go | cnt
  deriving DecidableEq, Repr

/-- A register field: the offset of its word from its group's base, its bits, its type and its reset value. -/
structure Fld where
  reg : Nat
  hi : Nat
  lo : Nat
  ty : FType
  rst : Nat
  deriving DecidableEq, Repr

/-- The number of bits of a field. -/
def fldWidth (f : Fld) : Nat := f.hi - f.lo + 1

/-- Field number i of a word whose fields stand one bit each from bit `lo` up. -/
def bitFld (f : Fld) (i : Nat) : Fld := ⟨f.reg, f.lo + i, f.lo + i, f.ty, f.rst / 2 ^ i % 2⟩

namespace F

/-! Device-global registers (base 0). -/

-- R618
def DEV_PART : Fld := ⟨0x10000, 15, 0, .ro, 0⟩
def DEV_ID_PROFILE_REQ : Fld := ⟨0x10004, 15, 12, .ro, 0⟩
def DEV_ID_PROFILE : Fld := ⟨0x10004, 11, 8, .ro, 0⟩
def DEV_ID_REV : Fld := ⟨0x10004, 7, 0, .ro, 176⟩
def STRAPS_TEST_EN : Fld := ⟨0x10008, 15, 15, .ro, 0⟩
def STRAPS_STRAP_PROFILE : Fld := ⟨0x10008, 2, 1, .ro, 0⟩
def STRAPS_STRAP_MDIOBASE : Fld := ⟨0x10008, 0, 0, .ro, 0⟩
def ALERT_STATUS_SAFE : Fld := ⟨0x10020, 15, 15, .ro, 0⟩
def ALERT_STATUS_SUPPLY : Fld := ⟨0x10020, 14, 14, .ro, 0⟩
def ALERT_STATUS_HOLD : Fld := ⟨0x10020, 13, 13, .ro, 0⟩
def ALERT_STATUS_LEDGER : Fld := ⟨0x10020, 12, 12, .ro, 0⟩
def ALERT_STATUS_SPLIT : Fld := ⟨0x10020, 11, 11, .ro, 0⟩
def ALERT_STATUS_LANE : Fld := ⟨0x10020, 10, 10, .ro, 0⟩
def ALERT_STATUS_ACCESS : Fld := ⟨0x10020, 9, 9, .ro, 0⟩
def ALERT_STATUS_PORT_DOWN : Fld := ⟨0x10020, 8, 8, .ro, 0⟩
def ALERT_STATUS_DEGRADED : Fld := ⟨0x10020, 7, 7, .ro, 0⟩
def ALERT_MASK_SAFE_EN : Fld := ⟨0x10024, 15, 15, .ro, 1⟩
def ALERT_MASK_ENABLES : Fld := ⟨0x10024, 14, 7, .rw, 254⟩
def MGMT_EVENTS_VIOL_MDIO0 : Fld := ⟨0x10028, 15, 15, .w1c, 0⟩
def MGMT_EVENTS_VIOL_MDIO1 : Fld := ⟨0x10028, 14, 14, .w1c, 0⟩
def MGMT_EVENTS_GATED_MDIO0 : Fld := ⟨0x10028, 13, 13, .w1c, 0⟩
def MGMT_EVENTS_GATED_MDIO1 : Fld := ⟨0x10028, 12, 12, .w1c, 0⟩
def MGMT_EVENTS_SELFTEST_MDIO0 : Fld := ⟨0x10028, 11, 11, .w1c, 0⟩
def MGMT_EVENTS_SELFTEST_MDIO1 : Fld := ⟨0x10028, 10, 10, .w1c, 0⟩
def MGMT_EVENTS_VIOL_CP : Fld := ⟨0x10028, 9, 9, .w1c, 0⟩
def MGMT_EVENTS_MISMATCH : Fld := ⟨0x10028, 8, 8, .w1c, 0⟩
def REG_VIOL : Fld := ⟨0x1002C, 15, 0, .cnt, 0⟩
def ACCESS_ERRS : Fld := ⟨0x10030, 15, 0, .cnt, 0⟩
def VIOL_WHERE_PATH : Fld := ⟨0x10034, 15, 14, .ro, 0⟩
def VIOL_WHERE_PORT : Fld := ⟨0x10034, 13, 8, .ro, 0⟩
def VIOL_WHERE_DEVAD : Fld := ⟨0x10034, 4, 0, .ro, 0⟩
def VIOL_ADDR : Fld := ⟨0x10038, 15, 0, .ro, 0⟩
def CP_DROPPED : Fld := ⟨0x10040, 15, 0, .cnt, 0⟩
def CP_RETRIES : Fld := ⟨0x10044, 15, 0, .cnt, 0⟩
def TELLER_MISMATCH : Fld := ⟨0x10048, 15, 0, .cnt, 0⟩
def SPLIT_MAP_LO : Fld := ⟨0x10050, 15, 0, .ro, 0⟩
def SPLIT_MAP_MID : Fld := ⟨0x10054, 15, 0, .ro, 0⟩
def SPLIT_MAP_HI : Fld := ⟨0x10058, 15, 0, .ro, 0⟩
-- R794 on
def TEMP_NOW : Fld := ⟨0x10080, 15, 0, .ro, 0⟩
def GPIO_CTRL_OE : Fld := ⟨0x100C0, 15, 8, .rw, 0⟩
def GPIO_CTRL_OUT : Fld := ⟨0x100C0, 7, 0, .rw, 0⟩
def GPIO_IN_IN : Fld := ⟨0x100C4, 7, 0, .ro, 0⟩
-- R295, R296
def CH_CTRL_CH_EN : Fld := ⟨0x11000, 15, 15, .rw, 1⟩
def CH_CTRL_NEXT_EN : Fld := ⟨0x11000, 14, 14, .rw, 1⟩
def CH_CTRL_FEXT_EN : Fld := ⟨0x11000, 13, 13, .rw, 1⟩
def CH_CTRL_PRE_EN : Fld := ⟨0x11000, 12, 12, .rw, 1⟩
def CH_CTRL_LEND_EN : Fld := ⟨0x11000, 11, 11, .rw, 1⟩
def SURVEY_STATUS_ACTIVE : Fld := ⟨0x11004, 15, 15, .ro, 0⟩
def SURVEY_STATUS_HELD : Fld := ⟨0x11004, 14, 14, .ro, 0⟩
def SURVEY_STATUS_POSITION : Fld := ⟨0x11004, 13, 9, .ro, 0⟩
def SURVEY_STATUS_PROGRESS : Fld := ⟨0x11004, 8, 2, .ro, 0⟩
def CH_TOP_TONE : Fld := ⟨0x11008, 11, 0, .ro, 4095⟩
def BANK_FREE_LO : Fld := ⟨0x1100C, 15, 0, .ro, 0⟩
def BANK_FREE_HI : Fld := ⟨0x11010, 2, 0, .ro, 4⟩
def BANK_CLIP : Fld := ⟨0x11014, 15, 0, .cnt, 0⟩
def CH_COMMITS : Fld := ⟨0x11018, 15, 0, .cnt, 0⟩
def CH_EVENTS_SURVEY_DONE : Fld := ⟨0x1101C, 15, 15, .w1c, 0⟩
def CH_EVENTS_SURVEY_ABORTED : Fld := ⟨0x1101C, 14, 14, .w1c, 0⟩
def CH_EVENTS_COMMIT_HELD : Fld := ⟨0x1101C, 13, 13, .w1c, 0⟩
def CH_EVENTS_STAGE_DISCARD : Fld := ⟨0x1101C, 12, 12, .w1c, 0⟩
def CH_EVENTS_RECLAIM : Fld := ⟨0x1101C, 11, 11, .w1c, 0⟩
def CH_EVENTS_ROLLOFF : Fld := ⟨0x1101C, 10, 10, .w1c, 0⟩
def CH_EVENTS_FOREIGN : Fld := ⟨0x1101C, 9, 9, .w1c, 0⟩
def CH_EVENTS_JOIN_WAIT : Fld := ⟨0x1101C, 8, 8, .w1c, 0⟩
-- R450-R453
def HL_PAUSE_SA_0 : Fld := ⟨0x11700, 15, 0, .rw, 0⟩
def HL_PAUSE_SA_1 : Fld := ⟨0x11704, 15, 0, .rw, 0⟩
def HL_PAUSE_SA_2 : Fld := ⟨0x11708, 15, 0, .rw, 0⟩
-- R502, R503
def TIME_CTRL_STEP_GUARD : Fld := ⟨0x11800, 15, 6, .rw, 10⟩
def TIME_CTRL_HOLD_ALERT : Fld := ⟨0x11800, 5, 5, .rw, 1⟩
def TIME_STATUS_HOLD : Fld := ⟨0x11804, 15, 15, .ro, 0⟩
def TIME_STATUS_ANCHORED : Fld := ⟨0x11804, 14, 14, .ro, 0⟩
def TIME_STATUS_DISCIPLINED : Fld := ⟨0x11804, 13, 13, .ro, 0⟩
def TIME_STATUS_SLEWING : Fld := ⟨0x11804, 12, 12, .ro, 0⟩
def TIME_STATUS_GRID_CLAMP : Fld := ⟨0x11804, 11, 11, .ro, 0⟩
def TIME_EPOCH : Fld := ⟨0x11808, 15, 0, .ro, 0⟩
def TIME_NS_LO : Fld := ⟨0x1180C, 15, 0, .ro, 0⟩
def TIME_NS_HI : Fld := ⟨0x11810, 13, 0, .ro, 0⟩
def TIME_S_LO : Fld := ⟨0x11814, 15, 0, .ro, 0⟩
def TIME_S_MID : Fld := ⟨0x11818, 15, 0, .ro, 0⟩
def TIME_S_HI : Fld := ⟨0x1181C, 15, 0, .ro, 0⟩
def TIME_FRAC : Fld := ⟨0x11820, 15, 0, .ro, 0⟩
def TIME_EPOCH_L : Fld := ⟨0x11824, 15, 0, .ro, 0⟩
def FREQ_LO : Fld := ⟨0x11828, 15, 0, .ro, 0⟩
def FREQ_HI : Fld := ⟨0x1182C, 15, 0, .ro, 0⟩
def GRID_S_LO : Fld := ⟨0x11830, 15, 0, .ro, 0⟩
def GRID_S_MID : Fld := ⟨0x11834, 15, 0, .ro, 0⟩
def GRID_S_HI : Fld := ⟨0x11838, 7, 0, .ro, 0⟩
def GRID_NS_LO : Fld := ⟨0x1183C, 15, 0, .ro, 0⟩
def GRID_NS_HI : Fld := ⟨0x11840, 15, 0, .ro, 0⟩
def GRID_SEC_LO : Fld := ⟨0x11844, 15, 0, .ro, 0⟩
def GRID_SEC_MID : Fld := ⟨0x11848, 15, 0, .ro, 0⟩
def GRID_SEC_HI : Fld := ⟨0x1184C, 15, 0, .ro, 0⟩
def TIME_EVENTS_HOLD : Fld := ⟨0x11850, 15, 15, .w1c, 0⟩
def TIME_EVENTS_STEP : Fld := ⟨0x11850, 14, 14, .w1c, 0⟩
def TIME_EVENTS_GRID_CLAMP : Fld := ⟨0x11850, 13, 13, .w1c, 0⟩
def TIME_EVENTS_ANCHOR : Fld := ⟨0x11850, 12, 12, .w1c, 0⟩
def TIME_EVENTS_LATE : Fld := ⟨0x11850, 11, 11, .w1c, 0⟩
def TIME_EVENTS_QUEUE_FULL : Fld := ⟨0x11850, 10, 10, .w1c, 0⟩
def TIME_EVENTS_ANCHOR_CANCELLED : Fld := ⟨0x11850, 9, 9, .w1c, 0⟩
def LAUNCH_LATE : Fld := ⟨0x11854, 15, 0, .cnt, 0⟩
def LAUNCH_DROP : Fld := ⟨0x11858, 15, 0, .cnt, 0⟩
-- R587
def LEDGER_HEAD_LO : Fld := ⟨0x11C00, 15, 0, .ro, 1⟩
def LEDGER_HEAD_HI : Fld := ⟨0x11C04, 15, 0, .ro, 0⟩
def LEDGER_TAIL_LO : Fld := ⟨0x11C08, 15, 0, .ro, 1⟩
def LEDGER_TAIL_HI : Fld := ⟨0x11C0C, 15, 0, .ro, 0⟩
def LEDGER_USED : Fld := ⟨0x11C10, 12, 0, .ro, 0⟩
def LEDGER_EVENTS_WARN : Fld := ⟨0x11C14, 15, 15, .w1c, 0⟩
def LEDGER_EVENTS_FULL : Fld := ⟨0x11C14, 14, 14, .w1c, 0⟩
def LEDGER_EVENTS_LOST : Fld := ⟨0x11C14, 13, 13, .w1c, 0⟩
def LEDGER_EVENTS_AUTH_FAIL : Fld := ⟨0x11C14, 12, 12, .w1c, 0⟩
def LEDGER_EVENTS_BACKOFF : Fld := ⟨0x11C14, 11, 11, .w1c, 0⟩
def LEDGER_LOST : Fld := ⟨0x11C18, 15, 0, .cnt, 0⟩
def AUTH_FAILS : Fld := ⟨0x11C1C, 15, 0, .cnt, 0⟩
def SESSION_STATUS_OPEN_OPER : Fld := ⟨0x11C20, 11, 8, .ro, 0⟩
def SESSION_STATUS_OPEN_INST : Fld := ⟨0x11C20, 7, 4, .ro, 0⟩
def SESSION_STATUS_OPEN_MAKER : Fld := ⟨0x11C20, 3, 0, .ro, 0⟩
def SEC_CTRL_SCAN_EN : Fld := ⟨0x11C24, 15, 15, .go, 0⟩
def SEC_CTRL_IDLE : Fld := ⟨0x11C24, 11, 0, .rw, 600⟩
def VAULT_STATUS_CLOSED : Fld := ⟨0x11C28, 15, 15, .ro, 0⟩
def VAULT_STATUS_READ_LOCK : Fld := ⟨0x11C28, 14, 14, .ro, 0⟩
def VAULT_STATUS_FUSE_PRESENT : Fld := ⟨0x11C28, 13, 13, .ro, 0⟩
def VAULT_STATUS_SHADOW_CORR : Fld := ⟨0x11C28, 12, 12, .ro, 0⟩
def VAULT_STATUS_SHADOW_BAD : Fld := ⟨0x11C28, 11, 11, .ro, 0⟩
-- R657
def CLK_READY_REFCLK_VALID : Fld := ⟨0x20000, 31, 31, .ro, 0⟩
def CLK_READY_IRO_VALID : Fld := ⟨0x20000, 30, 30, .ro, 0⟩
def CLK_READY_IRO_MEASURED : Fld := ⟨0x20000, 29, 29, .ro, 0⟩
def CLK_READY_PLL_MGMT : Fld := ⟨0x20000, 28, 28, .ro, 0⟩
def CLK_READY_PLL_LINE : Fld := ⟨0x20000, 27, 27, .ro, 0⟩
def CLK_READY_PLL_CH : Fld := ⟨0x20000, 26, 26, .ro, 0⟩
def CLK_READY_PLL_LANE : Fld := ⟨0x20000, 25, 25, .ro, 0⟩
def CLK_READY_PLL_DSP : Fld := ⟨0x20000, 11, 0, .ro, 0⟩
def SAFE_CAUSE_RESET_START : Fld := ⟨0x20004, 31, 31, .w1c, 1⟩
def SAFE_CAUSE_REFCLK_LOST : Fld := ⟨0x20004, 30, 30, .w1c, 0⟩
def SAFE_CAUSE_REFCLK_RANGE : Fld := ⟨0x20004, 29, 29, .w1c, 0⟩
def SAFE_CAUSE_IRO_RANGE : Fld := ⟨0x20004, 28, 28, .w1c, 0⟩
def SAFE_CAUSE_MGMT_UNLOCK : Fld := ⟨0x20004, 27, 27, .w1c, 0⟩
def SAFE_CAUSE_LINE_UNLOCK : Fld := ⟨0x20004, 26, 26, .w1c, 0⟩
def SAFE_CAUSE_CH_UNLOCK : Fld := ⟨0x20004, 25, 25, .w1c, 0⟩
def SAFE_CAUSE_LANE_UNLOCK : Fld := ⟨0x20004, 24, 24, .w1c, 0⟩
def SAFE_CAUSE_DSP_UNLOCK : Fld := ⟨0x20004, 23, 18, .w1c, 0⟩
def SAFE_STATUS_ACTIVE : Fld := ⟨0x20008, 31, 31, .ro, 1⟩
def SAFE_STATUS_LANES_HELD : Fld := ⟨0x20008, 30, 30, .ro, 1⟩
def SAFE_STATUS_PG_HELD : Fld := ⟨0x20008, 29, 24, .ro, 63⟩
def SAFE_STATUS_WAITING : Fld := ⟨0x20008, 23, 23, .ro, 0⟩
def SAFE_CTRL_AUTO_RELEASE : Fld := ⟨0x20008, 1, 1, .rw, 1⟩
def SAFE_CTRL_RELEASE : Fld := ⟨0x20008, 0, 0, .go, 0⟩
def CLK_EN : Fld := ⟨0x2000C, 31, 0, .rw, 0⟩
def CLK_RUN : Fld := ⟨0x20010, 31, 0, .ro, 0⟩
def CLK_SWITCH_GO : Fld := ⟨0x20014, 31, 31, .go, 0⟩
def CLK_SWITCH_DOMAIN : Fld := ⟨0x20014, 23, 16, .rw, 0⟩
def CLK_SWITCH_SOURCE : Fld := ⟨0x20014, 7, 0, .rw, 0⟩
def CLK_SEL_STATUS_MGMT_SRC : Fld := ⟨0x20018, 31, 30, .ro, 0⟩
def CLK_SEL_STATUS_DSP_SRC : Fld := ⟨0x20018, 5, 0, .ro, 0⟩
def CLK_EVENTS_OLD_CLOCK_DEAD : Fld := ⟨0x2001C, 31, 31, .w1c, 0⟩
def CLK_EVENTS_SW_REFUSED : Fld := ⟨0x2001C, 30, 30, .w1c, 0⟩
def CLK_EVENTS_MGMT_FALLBACK : Fld := ⟨0x2001C, 29, 29, .w1c, 0⟩
def CLK_EVENTS_CLKOUT_ERR : Fld := ⟨0x2001C, 28, 28, .w1c, 0⟩
def CLK_EVENTS_CONFIG_ERR : Fld := ⟨0x2001C, 27, 27, .w1c, 0⟩
def CLKOUT_CTRL_EN : Fld := ⟨0x20020, 31, 31, .rw, 0⟩
def CLKOUT_CTRL_SRC : Fld := ⟨0x20020, 27, 24, .rw, 0⟩
def CLKOUT_CTRL_DIV : Fld := ⟨0x20020, 11, 0, .rw, 1⟩
def IRO_FREQ : Fld := ⟨0x20024, 15, 0, .ro, 0⟩
def RESET_STATUS_LAST_KIND : Fld := ⟨0x20028, 31, 24, .ro, 1⟩
def RESET_STATUS_LAST_CAUSE : Fld := ⟨0x20028, 23, 16, .ro, 0⟩
def SOFT_RESET : Fld := ⟨0x2002C, 31, 0, .go, 0⟩
def START_STATUS_BIAS_CAL : Fld := ⟨0x20030, 31, 31, .ro, 0⟩
def START_STATUS_PLL_CAL : Fld := ⟨0x20030, 30, 30, .ro, 0⟩
def START_STATUS_TIME_CAL : Fld := ⟨0x20030, 29, 29, .ro, 0⟩
def START_STATUS_TERM_CAL : Fld := ⟨0x20030, 28, 28, .ro, 0⟩
def START_STATUS_CLKLANE_CAL : Fld := ⟨0x20030, 27, 27, .ro, 0⟩
def START_STATUS_REPAIRS : Fld := ⟨0x20030, 7, 0, .ro, 0⟩
-- R701
def PWR_STATUS_STATE : Fld := ⟨0x20040, 31, 29, .ro, 0⟩
def PWR_STATUS_PADS_HELD : Fld := ⟨0x20040, 28, 28, .ro, 0⟩
def PWR_STATUS_WAKE_PENDING : Fld := ⟨0x20040, 27, 27, .ro, 0⟩
def PWR_STATUS_LEVEL_BUSY : Fld := ⟨0x20040, 23, 18, .ro, 0⟩
def PWR_STATUS_LEVEL : Fld := ⟨0x20040, 11, 0, .ro, 4095⟩
def AVS_CTRL_AVS_EN : Fld := ⟨0x20044, 31, 31, .rw, 1⟩
def AVS_CTRL_RAIL : Fld := ⟨0x20044, 27, 24, .rw, 0⟩
def AVS_CTRL_SETTLE : Fld := ⟨0x20044, 23, 16, .rw, 100⟩
def AVS_CTRL_TARGET : Fld := ⟨0x20044, 15, 0, .ro, 820⟩
def AVS_READ : Fld := ⟨0x20048, 15, 0, .ro, 0⟩
def WAKE_CTRL_MDIO_WAKE : Fld := ⟨0x2004C, 31, 31, .rw, 1⟩
def WAKE_CTRL_CP_WAKE : Fld := ⟨0x2004C, 30, 30, .rw, 1⟩
def WAKE_ARM_LO : Fld := ⟨0x20050, 31, 0, .rw, 0⟩
def WAKE_ARM_HI : Fld := ⟨0x20054, 15, 0, .rw, 0⟩
def WAKE_STATUS_SOURCE : Fld := ⟨0x20058, 31, 28, .ro, 0⟩
def WAKE_STATUS_DURING_ENTRY : Fld := ⟨0x20058, 27, 27, .ro, 0⟩
def WAKE_STATUS_BUS : Fld := ⟨0x20058, 23, 22, .ro, 0⟩
def WAKE_STATUS_PORT : Fld := ⟨0x20058, 21, 16, .ro, 0⟩
def SUPPLY_STATUS_WARN_NOW : Fld := ⟨0x2005C, 31, 25, .ro, 0⟩
def SUPPLY_STATUS_STRETCH : Fld := ⟨0x2005C, 23, 23, .ro, 0⟩
def SUPPLY_EVENTS_WARN : Fld := ⟨0x20060, 31, 25, .w1c, 0⟩
def SUPPLY_EVENTS_AVS_FAIL : Fld := ⟨0x20060, 23, 23, .w1c, 0⟩
def SUPPLY_EVENTS_AVS_ALERT : Fld := ⟨0x20060, 22, 22, .w1c, 0⟩
def PWR_EVENTS_REFUSED : Fld := ⟨0x20064, 31, 31, .w1c, 0⟩
def PWR_EVENTS_WAKE_DURING_ENTRY : Fld := ⟨0x20064, 30, 30, .w1c, 0⟩
def PWR_EVENTS_XFER_ABORT : Fld := ⟨0x20064, 29, 29, .w1c, 0⟩
def PWR_EVENTS_LEVEL_FAIL : Fld := ⟨0x20064, 28, 28, .w1c, 0⟩
def PWR_EVENTS_WAKE : Fld := ⟨0x20064, 27, 27, .w1c, 0⟩
def XFER_ABORTS_COEF : Fld := ⟨0x20068, 31, 24, .cnt, 0⟩
def XFER_ABORTS_LAUNCH : Fld := ⟨0x20068, 23, 16, .cnt, 0⟩
def XFER_ABORTS_CAPTURE : Fld := ⟨0x20068, 15, 8, .cnt, 0⟩
def XFER_ABORTS_OTHER : Fld := ⟨0x20068, 7, 0, .cnt, 0⟩
def STRETCH_EPISODES : Fld := ⟨0x2006C, 15, 0, .cnt, 0⟩
-- R751
def CAL_EVENTS_INPUT_BUSY : Fld := ⟨0x30100, 31, 31, .w1c, 0⟩
def CAL_EVENTS_IMPLAUSIBLE : Fld := ⟨0x30100, 30, 30, .w1c, 0⟩
def CAL_EVENTS_STALE : Fld := ⟨0x30100, 29, 29, .w1c, 0⟩
def CAL_EVENTS_RECORD_BAD : Fld := ⟨0x30100, 28, 28, .w1c, 0⟩
def CAL_EVENTS_PWRUP_FALLBACK : Fld := ⟨0x30100, 27, 27, .w1c, 0⟩
def CAL_EVENTS_SUBST : Fld := ⟨0x30100, 26, 26, .w1c, 0⟩
def AUDIT_STATUS_STATE : Fld := ⟨0x30104, 31, 30, .ro, 0⟩
def AUDIT_STATUS_PLAN : Fld := ⟨0x30104, 29, 28, .ro, 0⟩
def AUDIT_STATUS_DONE : Fld := ⟨0x30104, 27, 16, .ro, 0⟩
def AUDIT_STATUS_PCT : Fld := ⟨0x30104, 15, 8, .ro, 0⟩
def AUDIT_EVENTS_DONE : Fld := ⟨0x30108, 31, 31, .w1c, 0⟩
def AUDIT_EVENTS_CUT : Fld := ⟨0x30108, 30, 30, .w1c, 0⟩
def AUDIT_EVENTS_FAIL : Fld := ⟨0x30108, 29, 29, .w1c, 0⟩
def AUDIT_EVENTS_INCOMPLETE : Fld := ⟨0x30108, 28, 28, .w1c, 0⟩
def AUDIT_EVENTS_REPAIR : Fld := ⟨0x30108, 27, 27, .w1c, 0⟩
def AUDIT_EVENTS_UNREPAIRED : Fld := ⟨0x30108, 26, 26, .w1c, 0⟩
-- R753, R769
def SMP_NEXT : Fld := ⟨0x4C000, 31, 0, .ro, 1⟩
def SMP_READ : Fld := ⟨0x4C004, 31, 0, .rw, 1⟩
def SMP_STATUS_RUNNING : Fld := ⟨0x4C008, 31, 31, .ro, 0⟩
def SMP_STATUS_FULL : Fld := ⟨0x4C008, 30, 30, .ro, 0⟩
def PM_EVENTS_CONFIG_ERR : Fld := ⟨0x4C00C, 31, 31, .w1c, 0⟩

/-! Registers of one port (base `portBase n`). -/

-- R595, R597; the places of the bits are the family's (Clause 45)
def PMA_RESET : Fld := ⟨0x40000, 15, 15, .go, 0⟩
def PMA_SPEED1 : Fld := ⟨0x40000, 13, 13, .rw, 1⟩
def PMA_LOW_POWER : Fld := ⟨0x40000, 11, 11, .rw, 1⟩
def PMA_SPEED0 : Fld := ⟨0x40000, 6, 6, .rw, 1⟩
def PMA_SPEED_SEL : Fld := ⟨0x40000, 5, 2, .rw, 0⟩
def PMA_LINK : Fld := ⟨0x40004, 2, 2, .ro, 0⟩
def PMA_DEVS_LO : Fld := ⟨0x40014, 15, 0, .ro, 138⟩
def PMA_DEVS_HI : Fld := ⟨0x40018, 15, 0, .ro, 49152⟩
def PCS_RESET : Fld := ⟨0x50000, 15, 15, .go, 0⟩
def PCS_SPEED1 : Fld := ⟨0x50000, 13, 13, .rw, 1⟩
def PCS_LOW_POWER : Fld := ⟨0x50000, 11, 11, .rw, 0⟩
def PCS_SPEED0 : Fld := ⟨0x50000, 6, 6, .rw, 1⟩
def PCS_SPEED_SEL : Fld := ⟨0x50000, 5, 2, .rw, 0⟩
def PCS_LINK : Fld := ⟨0x50004, 2, 2, .ro, 0⟩
def PCS_DEVS_LO : Fld := ⟨0x50014, 15, 0, .ro, 138⟩
def PCS_DEVS_HI : Fld := ⟨0x50018, 15, 0, .ro, 49152⟩
def AN_ENABLE : Fld := ⟨0x60000, 12, 12, .rw, 1⟩
def AN_RESTART : Fld := ⟨0x60000, 9, 9, .go, 0⟩
def AN_PAGE_RCVD : Fld := ⟨0x60004, 6, 6, .ro, 0⟩
def AN_DONE : Fld := ⟨0x60004, 5, 5, .ro, 0⟩
def AN_LINK : Fld := ⟨0x60004, 2, 2, .ro, 0⟩
def AN_LP_ABLE : Fld := ⟨0x60004, 0, 0, .ro, 0⟩
def AN_DEVS_LO : Fld := ⟨0x60014, 15, 0, .ro, 138⟩
def AN_DEVS_HI : Fld := ⟨0x60018, 15, 0, .ro, 49152⟩
def AN_ADV_PAUSE : Fld := ⟨0x60040, 11, 10, .rw, 0⟩
def AN_ADV_100_FD : Fld := ⟨0x60040, 8, 8, .rw, 1⟩
def AN_ADV_100_HD : Fld := ⟨0x60040, 7, 7, .rw, 1⟩
def AN_ADV_10_FD : Fld := ⟨0x60040, 6, 6, .rw, 1⟩
def AN_ADV_10_HD : Fld := ⟨0x60040, 5, 5, .rw, 1⟩
def AN_ADV_SEL : Fld := ⟨0x60040, 4, 0, .ro, 1⟩
def AN_LP_BASE : Fld := ⟨0x6004C, 15, 0, .ro, 0⟩
def AN_MG_MS_MANUAL : Fld := ⟨0x60080, 15, 15, .rw, 0⟩
def AN_MG_MS_VALUE : Fld := ⟨0x60080, 14, 14, .rw, 0⟩
def AN_MG_MULTIPORT : Fld := ⟨0x60080, 13, 13, .ro, 1⟩
def AN_MG_10G : Fld := ⟨0x60080, 12, 12, .rw, 1⟩
def AN_MG_5G : Fld := ⟨0x60080, 8, 8, .rw, 1⟩
def AN_MG_2G5 : Fld := ⟨0x60080, 7, 7, .rw, 1⟩
def AN_LP_MG : Fld := ⟨0x60084, 15, 0, .ro, 0⟩
def EEE_ADV_10G : Fld := ⟨0x600F0, 3, 3, .rw, 1⟩
def EEE_ADV_1G : Fld := ⟨0x600F0, 2, 2, .rw, 1⟩
def EEE_ADV_100 : Fld := ⟨0x600F0, 1, 1, .rw, 1⟩
def EEE_ADV2_5G : Fld := ⟨0x600F8, 1, 1, .rw, 1⟩
def EEE_ADV2_2G5 : Fld := ⟨0x600F8, 0, 0, .rw, 1⟩
-- R71-R75, R805
def SIR_AN_CTRL_SIR_EN : Fld := ⟨0x70800, 15, 15, .rw, 1⟩
def SIR_AN_CTRL_MS_CFG : Fld := ⟨0x70800, 14, 13, .rw, 0⟩
def SIR_AN_CTRL_VER_EN : Fld := ⟨0x70800, 12, 11, .rw, 3⟩
def SIR_AN_CTRL_RATE_MAX : Fld := ⟨0x70800, 10, 8, .rw, 6⟩
def SIR_AN_CTRL_FALLBACK_LIMIT : Fld := ⟨0x70800, 7, 4, .rw, 2⟩
def SIR_AN_CTRL_DOWNSHIFT_EN : Fld := ⟨0x70800, 3, 3, .rw, 1⟩
def SIR_AN_CTRL_DOWNSHIFT_TRIES : Fld := ⟨0x70800, 2, 0, .rw, 3⟩
def SIR_AN_STATUS_RESOLVED : Fld := ⟨0x70804, 15, 13, .ro, 0⟩
def SIR_AN_STATUS_DUPLEX : Fld := ⟨0x70804, 12, 12, .ro, 0⟩
def SIR_AN_STATUS_SIR_VER : Fld := ⟨0x70804, 11, 10, .ro, 0⟩
def SIR_AN_STATUS_SIR_MASTER : Fld := ⟨0x70804, 9, 9, .ro, 0⟩
def SIR_AN_STATUS_PARTNER_SIR : Fld := ⟨0x70804, 8, 8, .ro, 0⟩
def SIR_AN_STATUS_PARTNER_VER : Fld := ⟨0x70804, 7, 6, .ro, 0⟩
def SIR_AN_STATUS_PARTNER_RATE_MAX : Fld := ⟨0x70804, 5, 3, .ro, 0⟩
def SIR_AN_STATUS_PARTNER_FEEDBACK : Fld := ⟨0x70804, 2, 2, .ro, 0⟩
def SIR_AN_STATUS_PARTNER_MULTIPORT : Fld := ⟨0x70804, 1, 1, .ro, 0⟩
def SIR_AN_STATUS_FALLBACK_ACTIVE : Fld := ⟨0x70804, 0, 0, .ro, 0⟩
def AN_GHOST_SELF : Fld := ⟨0x70808, 15, 0, .cnt, 0⟩
def AN_GHOST_ABANDON : Fld := ⟨0x7080C, 15, 0, .cnt, 0⟩
def AN_GHOST_SRC_VALID : Fld := ⟨0x70810, 15, 15, .ro, 0⟩
def AN_GHOST_SRC_KIND : Fld := ⟨0x70810, 14, 14, .ro, 0⟩
def AN_GHOST_SRC_PAIR : Fld := ⟨0x70810, 13, 12, .ro, 0⟩
def AN_GHOST_SRC_SRC_PORT : Fld := ⟨0x70810, 5, 0, .ro, 0⟩
def AN_EVENTS_SIR_FALLBACK : Fld := ⟨0x70814, 15, 15, .w1c, 0⟩
def AN_EVENTS_DOWNSHIFT : Fld := ⟨0x70814, 14, 14, .w1c, 0⟩
def AN_EVENTS_MS_FAULT : Fld := ⟨0x70814, 13, 13, .w1c, 0⟩
def AN_EVENTS_SELF_LOOP : Fld := ⟨0x70814, 12, 12, .w1c, 0⟩
def AN_EVENTS_CONFIG_ERR : Fld := ⟨0x70814, 11, 11, .w1c, 0⟩
def AN_EVENTS_VERSION_NONE : Fld := ⟨0x70814, 10, 10, .w1c, 0⟩
def AN_1000T_CTRL_ADV_FD : Fld := ⟨0x70818, 15, 15, .rw, 1⟩
def AN_1000T_CTRL_MS_MANUAL : Fld := ⟨0x70818, 14, 14, .rw, 0⟩
def AN_1000T_CTRL_MS_VALUE : Fld := ⟨0x70818, 13, 13, .rw, 0⟩
def AN_1000T_CTRL_MULTIPORT : Fld := ⟨0x70818, 12, 12, .ro, 1⟩
def AN_1000T_STATUS_MS_FAULT : Fld := ⟨0x7081C, 15, 15, .ro, 0⟩
def AN_1000T_STATUS_MS_RESOLVED : Fld := ⟨0x7081C, 14, 14, .ro, 0⟩
def AN_1000T_STATUS_IDLE_ERR : Fld := ⟨0x7081C, 7, 0, .cnt, 0⟩
-- R179
def ESC_DTU_RETX : Fld := ⟨0x70840, 15, 0, .cnt, 0⟩
def ESC_DTU_LOST : Fld := ⟨0x70844, 15, 0, .cnt, 0⟩
def ESC_EOC_BAD : Fld := ⟨0x70848, 15, 0, .cnt, 0⟩
def ESC_LOAD_DOUBT : Fld := ⟨0x7084C, 15, 0, .cnt, 0⟩
def ESC_EVENTS_LOAD_DOUBT : Fld := ⟨0x70850, 15, 15, .w1c, 0⟩
def ESC_EVENTS_MSG_FAIL : Fld := ⟨0x70850, 14, 14, .w1c, 0⟩
def ESC_EVENTS_LOAD_REJECT : Fld := ⟨0x70850, 13, 13, .w1c, 0⟩
def ESC_EVENTS_VERSION_MISMATCH : Fld := ⟨0x70850, 12, 12, .w1c, 0⟩
-- R227-R231
def SIR_TRAIN_CTRL_DEADLINE : Fld := ⟨0x70880, 15, 7, .rw, 50⟩
def SIR_TRAIN_CTRL_AUTO_DIAG : Fld := ⟨0x70880, 6, 6, .rw, 0⟩
def SIR_TRAIN_CTRL_TRAIN_BACKOFF : Fld := ⟨0x70880, 5, 4, .rw, 0⟩
def SIR_TRAIN_CTRL_LISTEN_MAX : Fld := ⟨0x70880, 3, 2, .rw, 2⟩
def SIR_TRAIN_STATUS_PHASE : Fld := ⟨0x70884, 15, 12, .ro, 0⟩
def SIR_TRAIN_STATUS_PROGRESS : Fld := ⟨0x70884, 11, 5, .ro, 0⟩
def SIR_TRAIN_STATUS_JOIN_LATE : Fld := ⟨0x70884, 4, 4, .ro, 0⟩
def SIR_TRAIN_STATUS_THREE_PAIR : Fld := ⟨0x70884, 3, 3, .ro, 0⟩
def SIR_TRAIN_STATUS_ABSENT_PAIR : Fld := ⟨0x70884, 2, 1, .ro, 0⟩
def SIR_TRAIN_RESTARTS : Fld := ⟨0x70888, 15, 0, .cnt, 0⟩
def SIR_TRAIN_FALSE_HS : Fld := ⟨0x7088C, 15, 0, .cnt, 0⟩
def SIR_TRAIN_ELAPSED : Fld := ⟨0x70890, 15, 0, .ro, 0⟩
def LISTEN_DIAG_A_VALID : Fld := ⟨0x70894, 15, 15, .ro, 0⟩
def LISTEN_DIAG_A_OPEN : Fld := ⟨0x70894, 14, 14, .ro, 0⟩
def LISTEN_DIAG_A_DIST : Fld := ⟨0x70894, 10, 0, .ro, 0⟩
def LISTEN_DIAG_B_VALID : Fld := ⟨0x70898, 15, 15, .ro, 0⟩
def LISTEN_DIAG_B_OPEN : Fld := ⟨0x70898, 14, 14, .ro, 0⟩
def LISTEN_DIAG_B_DIST : Fld := ⟨0x70898, 10, 0, .ro, 0⟩
def LISTEN_DIAG_C_VALID : Fld := ⟨0x7089C, 15, 15, .ro, 0⟩
def LISTEN_DIAG_C_OPEN : Fld := ⟨0x7089C, 14, 14, .ro, 0⟩
def LISTEN_DIAG_C_DIST : Fld := ⟨0x7089C, 10, 0, .ro, 0⟩
def LISTEN_DIAG_D_VALID : Fld := ⟨0x708A0, 15, 15, .ro, 0⟩
def LISTEN_DIAG_D_OPEN : Fld := ⟨0x708A0, 14, 14, .ro, 0⟩
def LISTEN_DIAG_D_DIST : Fld := ⟨0x708A0, 10, 0, .ro, 0⟩
def TRAIN_EVENTS_LISTEN : Fld := ⟨0x708A4, 15, 15, .w1c, 0⟩
def TRAIN_EVENTS_DEADLINE : Fld := ⟨0x708A4, 14, 14, .w1c, 0⟩
def TRAIN_EVENTS_JOIN_LATE : Fld := ⟨0x708A4, 13, 13, .w1c, 0⟩
def TRAIN_EVENTS_OPEN_FOUND : Fld := ⟨0x708A4, 12, 12, .w1c, 0⟩
def TRAIN_EVENTS_PAIR_DEAD : Fld := ⟨0x708A4, 11, 11, .w1c, 0⟩
-- R295, R296
def CH_PORT_CH_STATE : Fld := ⟨0x708C0, 15, 14, .ro, 0⟩
def CH_PORT_NEXT_ONLY : Fld := ⟨0x708C0, 13, 13, .ro, 0⟩
def CH_PORT_PRE_ACTIVE : Fld := ⟨0x708C0, 12, 12, .ro, 0⟩
def CH_PORT_FOREIGN : Fld := ⟨0x708C0, 11, 11, .ro, 0⟩
def CH_PORT_DORMANT_S : Fld := ⟨0x708C0, 10, 0, .ro, 0⟩
def CH_PORT_LOTS : Fld := ⟨0x708C4, 15, 0, .ro, 0⟩
def CH_PAIR_A_ACTIVE_GEN : Fld := ⟨0x708C8, 15, 15, .ro, 0⟩
def CH_PAIR_A_ABSENT : Fld := ⟨0x708C8, 14, 14, .ro, 0⟩
def CH_PAIR_A_WORST_NEAR : Fld := ⟨0x708C8, 7, 0, .ro, 255⟩
def CH_PAIR_B_ACTIVE_GEN : Fld := ⟨0x708CC, 15, 15, .ro, 0⟩
def CH_PAIR_B_ABSENT : Fld := ⟨0x708CC, 14, 14, .ro, 0⟩
def CH_PAIR_B_WORST_NEAR : Fld := ⟨0x708CC, 7, 0, .ro, 255⟩
def CH_PAIR_C_ACTIVE_GEN : Fld := ⟨0x708D0, 15, 15, .ro, 0⟩
def CH_PAIR_C_ABSENT : Fld := ⟨0x708D0, 14, 14, .ro, 0⟩
def CH_PAIR_C_WORST_NEAR : Fld := ⟨0x708D0, 7, 0, .ro, 255⟩
def CH_PAIR_D_ACTIVE_GEN : Fld := ⟨0x708D4, 15, 15, .ro, 0⟩
def CH_PAIR_D_ABSENT : Fld := ⟨0x708D4, 14, 14, .ro, 0⟩
def CH_PAIR_D_WORST_NEAR : Fld := ⟨0x708D4, 7, 0, .ro, 255⟩
-- R356-R360
def LINK_STATE_STATE : Fld := ⟨0x70900, 15, 14, .ro, 0⟩
def LINK_STATE_CAUSE : Fld := ⟨0x70900, 13, 10, .ro, 6⟩
def LINK_STATE_THREE_PAIR : Fld := ⟨0x70900, 9, 9, .ro, 0⟩
def LINK_STATE_ABSENT : Fld := ⟨0x70900, 8, 7, .ro, 0⟩
def LINK_STATE_SHUTTER : Fld := ⟨0x70900, 6, 6, .ro, 0⟩
def LINK_STATE_TX_RATE : Fld := ⟨0x70900, 5, 3, .ro, 7⟩
def LINK_STATE_RX_RATE : Fld := ⟨0x70900, 2, 0, .ro, 7⟩
def DEGRADE_RATE : Fld := ⟨0x70904, 15, 15, .ro, 0⟩
def DEGRADE_THREE_PAIR : Fld := ⟨0x70904, 14, 14, .ro, 0⟩
def DEGRADE_MARGIN : Fld := ⟨0x70904, 13, 13, .ro, 0⟩
def DEGRADE_LOSS : Fld := ⟨0x70904, 12, 12, .ro, 0⟩
def DEGRADE_DEFECT : Fld := ⟨0x70904, 11, 11, .ro, 0⟩
def DEGRADE_SPARES : Fld := ⟨0x70904, 10, 10, .ro, 0⟩
def DEGRADE_PARTNER : Fld := ⟨0x70904, 9, 9, .ro, 0⟩
def DEGRADE_UNCAL : Fld := ⟨0x70904, 8, 8, .ro, 0⟩
def DEGRADE_FAST_RETRAIN : Fld := ⟨0x70904, 7, 7, .ro, 0⟩
def DEGRADE_DOWNSHIFT : Fld := ⟨0x70904, 6, 6, .ro, 0⟩
def LINK_CTRL_AUTO_UP : Fld := ⟨0x70908, 15, 15, .rw, 1⟩
def LINK_CTRL_RATE_CAP : Fld := ⟨0x70908, 14, 12, .rw, 6⟩
def LINK_CTRL_DEGRADE_BELOW : Fld := ⟨0x70908, 11, 9, .rw, 7⟩
def LINK_CTRL_SHUTTER_EN : Fld := ⟨0x70908, 8, 8, .rw, 1⟩
def LINK_CTRL_SHUT_IDLE : Fld := ⟨0x70908, 7, 6, .rw, 1⟩
def LINK_CTRL_FALLBACK_EN : Fld := ⟨0x70908, 5, 5, .rw, 1⟩
def LINK_CTRL_DEGRADE_HOLD : Fld := ⟨0x70908, 4, 2, .rw, 3⟩
def HL_SWAPS : Fld := ⟨0x7090C, 15, 0, .cnt, 0⟩
def HL_RATE_STEPS : Fld := ⟨0x70910, 15, 0, .cnt, 0⟩
def HL_FALLBACKS : Fld := ⟨0x70914, 15, 0, .cnt, 0⟩
def HL_SUBST : Fld := ⟨0x70918, 15, 0, .cnt, 0⟩
def HL_FALSE_KNOCK : Fld := ⟨0x7091C, 15, 0, .cnt, 0⟩
def HL_WAKES : Fld := ⟨0x70920, 15, 0, .cnt, 0⟩
def HL_DRIFT : Fld := ⟨0x70924, 15, 0, .cnt, 0⟩
def ADC_SPARES : Fld := ⟨0x70928, 7, 0, .ro, 170⟩
def DAC_SPARES : Fld := ⟨0x7092C, 11, 0, .ro, 2340⟩
def LINK_EVENTS_STEP_DOWN : Fld := ⟨0x70930, 15, 15, .w1c, 0⟩
def LINK_EVENTS_STEP_UP : Fld := ⟨0x70930, 14, 14, .w1c, 0⟩
def LINK_EVENTS_FALLBACK : Fld := ⟨0x70930, 13, 13, .w1c, 0⟩
def LINK_EVENTS_FAST_FALLBACK : Fld := ⟨0x70930, 12, 12, .w1c, 0⟩
def LINK_EVENTS_RETURN : Fld := ⟨0x70930, 11, 11, .w1c, 0⟩
def LINK_EVENTS_SUBST : Fld := ⟨0x70930, 10, 10, .w1c, 0⟩
def LINK_EVENTS_SPARE_OUT : Fld := ⟨0x70930, 9, 9, .w1c, 0⟩
def LINK_EVENTS_DRIFT : Fld := ⟨0x70930, 8, 8, .w1c, 0⟩
def LINK_EVENTS_SHUT_REFUSED : Fld := ⟨0x70930, 7, 7, .w1c, 0⟩
def LINK_EVENTS_KNOCK_FAIL : Fld := ⟨0x70930, 6, 6, .w1c, 0⟩
def LINK_EVENTS_DEGRADED : Fld := ⟨0x70930, 5, 5, .w1c, 0⟩
def LINK_EVENTS_DOWN : Fld := ⟨0x70930, 4, 4, .w1c, 0⟩
-- R450-R453
def HL_PORT_CTRL_PACE_MODE : Fld := ⟨0x70940, 15, 14, .rw, 0⟩
def HL_PORT_STATUS_NOTICES : Fld := ⟨0x70944, 15, 15, .ro, 0⟩
def HL_PORT_STATUS_XOFF : Fld := ⟨0x70944, 14, 14, .ro, 0⟩
def HL_PORT_STATUS_NOTICE_PENDING : Fld := ⟨0x70944, 13, 13, .ro, 0⟩
def HL_PORT_STATUS_SPLIT : Fld := ⟨0x70944, 12, 12, .ro, 0⟩
def HL_PORT_STATUS_TXN_SEQ : Fld := ⟨0x70944, 7, 0, .ro, 0⟩
def HL_HTX_DROP : Fld := ⟨0x70948, 15, 0, .cnt, 0⟩
def HL_HRX_DROP : Fld := ⟨0x7094C, 15, 0, .cnt, 0⟩
def HL_PAUSE_SENT : Fld := ⟨0x70950, 15, 0, .cnt, 0⟩
-- R502, R503
def PTP_CTRL_ING_MODE : Fld := ⟨0x70980, 15, 14, .rw, 0⟩
def PTP_CTRL_EGR_MODE : Fld := ⟨0x70980, 13, 12, .rw, 0⟩
def PTP_CTRL_TT_EN : Fld := ⟨0x70980, 11, 11, .rw, 1⟩
def TS_ING_LAT : Fld := ⟨0x70984, 15, 0, .rw, 0⟩
def TS_EGR_LAT : Fld := ⟨0x70988, 15, 0, .rw, 0⟩
def TS_ASYM : Fld := ⟨0x7098C, 15, 0, .rw, 0⟩
def TT_STATUS_VALID : Fld := ⟨0x70990, 15, 15, .ro, 0⟩
def TT_STATUS_MASTER : Fld := ⟨0x70990, 14, 14, .ro, 0⟩
def TT_STATUS_REF_PAIR : Fld := ⟨0x70990, 13, 12, .ro, 0⟩
def TT_STATUS_REPORTS : Fld := ⟨0x70990, 11, 4, .ro, 0⟩
def TT_DELAY_LO : Fld := ⟨0x70994, 15, 0, .ro, 0⟩
def TT_DELAY_HI : Fld := ⟨0x70998, 15, 0, .ro, 0⟩
def TT_OFFSET_LO : Fld := ⟨0x7099C, 15, 0, .ro, 0⟩
def TT_OFFSET_MID : Fld := ⟨0x709A0, 15, 0, .ro, 0⟩
def TT_OFFSET_HI : Fld := ⟨0x709A4, 15, 0, .ro, 0⟩
def TT_SKEW_B : Fld := ⟨0x709A8, 15, 0, .ro, 0⟩
def TT_SKEW_C : Fld := ⟨0x709AC, 15, 0, .ro, 0⟩
def TT_SKEW_D : Fld := ⟨0x709B0, 15, 0, .ro, 0⟩
def TS_FIFO_TS_LEVEL : Fld := ⟨0x709B4, 15, 11, .ro, 0⟩
def TS_FIFO_TS_POP : Fld := ⟨0x709B4, 10, 10, .go, 0⟩
def PTP_EVENTS_FIFO_OVF : Fld := ⟨0x709B8, 15, 15, .w1c, 0⟩
def PTP_EVENTS_SKIP : Fld := ⟨0x709B8, 14, 14, .w1c, 0⟩
def PTP_EVENTS_RETX_TS : Fld := ⟨0x709B8, 13, 13, .w1c, 0⟩
def PTP_EVENTS_TT_LOST : Fld := ⟨0x709B8, 12, 12, .w1c, 0⟩
def PTP_UPDATED : Fld := ⟨0x709BC, 15, 0, .cnt, 0⟩
def PTP_SKIP : Fld := ⟨0x709C0, 15, 0, .cnt, 0⟩

/-! Registers of one lane group (base `laneBase g`). -/

-- R450-R453
def HL_CTRL_ENABLE : Fld := ⟨0x11400, 15, 15, .rw, 1⟩
def HL_CTRL_AUTO_TRAIN : Fld := ⟨0x11400, 14, 14, .rw, 1⟩
def HL_CTRL_CTLE_MODE : Fld := ⟨0x11400, 13, 12, .rw, 0⟩
def HL_CTRL_TX_SWING : Fld := ⟨0x11400, 11, 9, .rw, 2⟩
def HL_CTRL_TX_DEEMPH : Fld := ⟨0x11400, 8, 6, .rw, 0⟩
def HL_STATUS_STATE : Fld := ⟨0x11404, 15, 13, .ro, 0⟩
def HL_STATUS_VERSION : Fld := ⟨0x11404, 12, 10, .ro, 0⟩
def HL_STATUS_PEER_NOTICE : Fld := ⟨0x11404, 9, 9, .ro, 0⟩
def HL_STATUS_TABLE_IN_USE : Fld := ⟨0x11404, 8, 8, .ro, 0⟩
def HL_STATUS_LOCKED : Fld := ⟨0x11404, 7, 0, .ro, 0⟩
def HL_CTLE_LO : Fld := ⟨0x11408, 15, 0, .ro, 0⟩
def HL_CTLE_HI : Fld := ⟨0x1140C, 15, 0, .ro, 0⟩
def HL_EVENTS_LOCK_LOST : Fld := ⟨0x11410, 15, 15, .w1c, 0⟩
def HL_EVENTS_TRAIN_FAIL : Fld := ⟨0x11410, 14, 14, .w1c, 0⟩
def HL_EVENTS_TABLE_USED : Fld := ⟨0x11410, 13, 13, .w1c, 0⟩
def HL_EVENTS_SPLIT : Fld := ⟨0x11410, 12, 12, .w1c, 0⟩
def HL_EVENTS_ELASTIC : Fld := ⟨0x11410, 11, 11, .w1c, 0⟩
def HL_EVENTS_CTRL_BAD : Fld := ⟨0x11410, 10, 10, .w1c, 0⟩
def HL_EVENTS_INPUT_BUSY : Fld := ⟨0x11410, 9, 9, .w1c, 0⟩
def HL_EVENTS_CONFIG_ERR : Fld := ⟨0x11410, 8, 8, .w1c, 0⟩
def HL_HEC_ERR : Fld := ⟨0x11414, 15, 0, .cnt, 0⟩
def HL_STUFF_ERR : Fld := ⟨0x11418, 15, 0, .cnt, 0⟩
def HL_SB_ERR : Fld := ⟨0x1141C, 15, 0, .cnt, 0⟩
def HL_STRIPE_DROP : Fld := ⟨0x11420, 15, 0, .cnt, 0⟩
def HL_TRAINS : Fld := ⟨0x11424, 15, 0, .cnt, 0⟩
def HL_FB_CTRL_COUNT : Fld := ⟨0x11428, 15, 12, .rw, 0⟩
def HL_FB_CTRL_LAST : Fld := ⟨0x11428, 11, 9, .ro, 0⟩
def HL_TEST_ERR_0 : Fld := ⟨0x11440, 15, 0, .cnt, 0⟩
def HL_TEST_ERR_1 : Fld := ⟨0x11444, 15, 0, .cnt, 0⟩
def HL_TEST_ERR_2 : Fld := ⟨0x11448, 15, 0, .cnt, 0⟩
def HL_TEST_ERR_3 : Fld := ⟨0x1144C, 15, 0, .cnt, 0⟩
def HL_TEST_ERR_4 : Fld := ⟨0x11450, 15, 0, .cnt, 0⟩
def HL_TEST_ERR_5 : Fld := ⟨0x11454, 15, 0, .cnt, 0⟩
def HL_TEST_ERR_6 : Fld := ⟨0x11458, 15, 0, .cnt, 0⟩
def HL_TEST_ERR_7 : Fld := ⟨0x1145C, 15, 0, .cnt, 0⟩

/-! `CAL_PORT` of a port (base 4n) or a lane group (base 0xC0 + 4g). -/

-- R751
def CAL_PORT_STALE : Fld := ⟨0x30000, 31, 31, .ro, 0⟩
def CAL_PORT_RAMP : Fld := ⟨0x30000, 30, 30, .ro, 0⟩
def CAL_PORT_RUNNING : Fld := ⟨0x30000, 29, 29, .ro, 0⟩
def CAL_PORT_FAILS : Fld := ⟨0x30000, 28, 27, .ro, 0⟩
def CAL_PORT_ACTIVE_SEQ : Fld := ⟨0x30000, 15, 0, .ro, 0⟩

/-! A programmable counter (base 0x100 u + 0x20 c). -/

-- R753, R769
def PM_CFG_EN : Fld := ⟨0x40000, 31, 31, .rw, 0⟩
def PM_CFG_MODE : Fld := ⟨0x40000, 30, 29, .rw, 0⟩
def PM_CFG_EVENT : Fld := ⟨0x40000, 23, 16, .rw, 0⟩
def PM_CFG_THRESHOLD : Fld := ⟨0x40000, 15, 0, .rw, 0⟩
def PM_FILT_A_CLASS : Fld := ⟨0x40004, 31, 24, .rw, 255⟩
def PM_FILT_A_PORT_LO : Fld := ⟨0x40004, 23, 18, .rw, 0⟩
def PM_FILT_A_PORT_HI : Fld := ⟨0x40004, 17, 12, .rw, 47⟩
def PM_FILT_A_PARTNER : Fld := ⟨0x40004, 11, 8, .rw, 0⟩
def PM_FILT_A_PATH : Fld := ⟨0x40004, 7, 5, .rw, 7⟩
def PM_FILT_A_ROLE : Fld := ⟨0x40004, 4, 1, .rw, 15⟩
def PM_FILT_B_TG_LO : Fld := ⟨0x40008, 31, 21, .rw, 0⟩
def PM_FILT_B_TG_HI : Fld := ⟨0x40008, 20, 10, .rw, 2047⟩
def PM_FILT_B_REG_SPAN : Fld := ⟨0x40008, 9, 4, .rw, 32⟩
def REG_BASE : Fld := ⟨0x4000C, 31, 0, .rw, 0⟩
def PM_VAL_LO : Fld := ⟨0x40010, 31, 0, .cnt, 0⟩
def PM_VAL_HI : Fld := ⟨0x40014, 15, 0, .cnt, 0⟩

/-! A device counter (base 8 i), R758. -/

def DEV_CNT_LO : Fld := ⟨0x48000, 31, 0, .cnt, 0⟩
def DEV_CNT_HI : Fld := ⟨0x48004, 15, 0, .cnt, 0⟩

/-! PSD breakpoints (base portBase n + 4k), R114; the reset values of R116 are those of breakpoints 3..63. -/

def BP_VALID : Fld := ⟨0x3000, 31, 31, .rw, 0⟩
def BP_TONE : Fld := ⟨0x3000, 27, 16, .rw, 0⟩
def BP_LEVEL : Fld := ⟨0x3000, 10, 0, .rw, 0⟩

/-! RFI notches (base portBase n + 4k), R120. -/

def NT_VALID : Fld := ⟨0x3100, 31, 31, .rw, 0⟩
def NT_START : Fld := ⟨0x3100, 27, 16, .rw, 0⟩
def NT_END : Fld := ⟨0x3100, 11, 0, .rw, 0⟩

/-! An entry of a lane group's fallback table (base 4 × (0x10 g + j)), R452. -/

def HL_FB : Fld := ⟨0x11600, 15, 0, .rw, 0⟩

end F

/-- The device-global fields (part 0). -/
def globalFields0 : List Fld := [
  F.DEV_PART, F.DEV_ID_PROFILE_REQ, F.DEV_ID_PROFILE, F.DEV_ID_REV, F.STRAPS_TEST_EN, F.STRAPS_STRAP_PROFILE,
  F.STRAPS_STRAP_MDIOBASE, F.ALERT_STATUS_SAFE, F.ALERT_STATUS_SUPPLY, F.ALERT_STATUS_HOLD, F.ALERT_STATUS_LEDGER, F.ALERT_STATUS_SPLIT,
  F.ALERT_STATUS_LANE, F.ALERT_STATUS_ACCESS, F.ALERT_STATUS_PORT_DOWN, F.ALERT_STATUS_DEGRADED, F.ALERT_MASK_SAFE_EN, F.ALERT_MASK_ENABLES,
  F.MGMT_EVENTS_VIOL_MDIO0, F.MGMT_EVENTS_VIOL_MDIO1, F.MGMT_EVENTS_GATED_MDIO0, F.MGMT_EVENTS_GATED_MDIO1, F.MGMT_EVENTS_SELFTEST_MDIO0, F.MGMT_EVENTS_SELFTEST_MDIO1,
  F.MGMT_EVENTS_VIOL_CP, F.MGMT_EVENTS_MISMATCH, F.REG_VIOL, F.ACCESS_ERRS, F.VIOL_WHERE_PATH, F.VIOL_WHERE_PORT,
  F.VIOL_WHERE_DEVAD, F.VIOL_ADDR, F.CP_DROPPED, F.CP_RETRIES, F.TELLER_MISMATCH, F.SPLIT_MAP_LO,
  F.SPLIT_MAP_MID, F.SPLIT_MAP_HI, F.TEMP_NOW, F.GPIO_CTRL_OE, F.GPIO_CTRL_OUT, F.GPIO_IN_IN,
  F.CH_CTRL_CH_EN, F.CH_CTRL_NEXT_EN, F.CH_CTRL_FEXT_EN, F.CH_CTRL_PRE_EN, F.CH_CTRL_LEND_EN, F.SURVEY_STATUS_ACTIVE,
  F.SURVEY_STATUS_HELD, F.SURVEY_STATUS_POSITION, F.SURVEY_STATUS_PROGRESS, F.CH_TOP_TONE, F.BANK_FREE_LO, F.BANK_FREE_HI,
  F.BANK_CLIP, F.CH_COMMITS, F.CH_EVENTS_SURVEY_DONE, F.CH_EVENTS_SURVEY_ABORTED, F.CH_EVENTS_COMMIT_HELD, F.CH_EVENTS_STAGE_DISCARD]

/-- The device-global fields (part 1). -/
def globalFields1 : List Fld := [
  F.CH_EVENTS_RECLAIM, F.CH_EVENTS_ROLLOFF, F.CH_EVENTS_FOREIGN, F.CH_EVENTS_JOIN_WAIT, F.HL_PAUSE_SA_0, F.HL_PAUSE_SA_1,
  F.HL_PAUSE_SA_2, F.TIME_CTRL_STEP_GUARD, F.TIME_CTRL_HOLD_ALERT, F.TIME_STATUS_HOLD, F.TIME_STATUS_ANCHORED, F.TIME_STATUS_DISCIPLINED,
  F.TIME_STATUS_SLEWING, F.TIME_STATUS_GRID_CLAMP, F.TIME_EPOCH, F.TIME_NS_LO, F.TIME_NS_HI, F.TIME_S_LO,
  F.TIME_S_MID, F.TIME_S_HI, F.TIME_FRAC, F.TIME_EPOCH_L, F.FREQ_LO, F.FREQ_HI,
  F.GRID_S_LO, F.GRID_S_MID, F.GRID_S_HI, F.GRID_NS_LO, F.GRID_NS_HI, F.GRID_SEC_LO,
  F.GRID_SEC_MID, F.GRID_SEC_HI, F.TIME_EVENTS_HOLD, F.TIME_EVENTS_STEP, F.TIME_EVENTS_GRID_CLAMP, F.TIME_EVENTS_ANCHOR,
  F.TIME_EVENTS_LATE, F.TIME_EVENTS_QUEUE_FULL, F.TIME_EVENTS_ANCHOR_CANCELLED, F.LAUNCH_LATE, F.LAUNCH_DROP, F.LEDGER_HEAD_LO,
  F.LEDGER_HEAD_HI, F.LEDGER_TAIL_LO, F.LEDGER_TAIL_HI, F.LEDGER_USED, F.LEDGER_EVENTS_WARN, F.LEDGER_EVENTS_FULL,
  F.LEDGER_EVENTS_LOST, F.LEDGER_EVENTS_AUTH_FAIL, F.LEDGER_EVENTS_BACKOFF, F.LEDGER_LOST, F.AUTH_FAILS, F.SESSION_STATUS_OPEN_OPER,
  F.SESSION_STATUS_OPEN_INST, F.SESSION_STATUS_OPEN_MAKER, F.SEC_CTRL_SCAN_EN, F.SEC_CTRL_IDLE, F.VAULT_STATUS_CLOSED, F.VAULT_STATUS_READ_LOCK]

/-- The device-global fields (part 2). -/
def globalFields2 : List Fld := [
  F.VAULT_STATUS_FUSE_PRESENT, F.VAULT_STATUS_SHADOW_CORR, F.VAULT_STATUS_SHADOW_BAD, F.CLK_READY_REFCLK_VALID, F.CLK_READY_IRO_VALID, F.CLK_READY_IRO_MEASURED,
  F.CLK_READY_PLL_MGMT, F.CLK_READY_PLL_LINE, F.CLK_READY_PLL_CH, F.CLK_READY_PLL_LANE, F.CLK_READY_PLL_DSP, F.SAFE_CAUSE_RESET_START,
  F.SAFE_CAUSE_REFCLK_LOST, F.SAFE_CAUSE_REFCLK_RANGE, F.SAFE_CAUSE_IRO_RANGE, F.SAFE_CAUSE_MGMT_UNLOCK, F.SAFE_CAUSE_LINE_UNLOCK, F.SAFE_CAUSE_CH_UNLOCK,
  F.SAFE_CAUSE_LANE_UNLOCK, F.SAFE_CAUSE_DSP_UNLOCK, F.SAFE_STATUS_ACTIVE, F.SAFE_STATUS_LANES_HELD, F.SAFE_STATUS_PG_HELD, F.SAFE_STATUS_WAITING,
  F.SAFE_CTRL_AUTO_RELEASE, F.SAFE_CTRL_RELEASE, F.CLK_EN, F.CLK_RUN, F.CLK_SWITCH_GO, F.CLK_SWITCH_DOMAIN,
  F.CLK_SWITCH_SOURCE, F.CLK_SEL_STATUS_MGMT_SRC, F.CLK_SEL_STATUS_DSP_SRC, F.CLK_EVENTS_OLD_CLOCK_DEAD, F.CLK_EVENTS_SW_REFUSED, F.CLK_EVENTS_MGMT_FALLBACK,
  F.CLK_EVENTS_CLKOUT_ERR, F.CLK_EVENTS_CONFIG_ERR, F.CLKOUT_CTRL_EN, F.CLKOUT_CTRL_SRC, F.CLKOUT_CTRL_DIV, F.IRO_FREQ,
  F.RESET_STATUS_LAST_KIND, F.RESET_STATUS_LAST_CAUSE, F.SOFT_RESET, F.START_STATUS_BIAS_CAL, F.START_STATUS_PLL_CAL, F.START_STATUS_TIME_CAL,
  F.START_STATUS_TERM_CAL, F.START_STATUS_CLKLANE_CAL, F.START_STATUS_REPAIRS, F.PWR_STATUS_STATE, F.PWR_STATUS_PADS_HELD, F.PWR_STATUS_WAKE_PENDING,
  F.PWR_STATUS_LEVEL_BUSY, F.PWR_STATUS_LEVEL, F.AVS_CTRL_AVS_EN, F.AVS_CTRL_RAIL, F.AVS_CTRL_SETTLE, F.AVS_CTRL_TARGET]

/-- The device-global fields (part 3). -/
def globalFields3 : List Fld := [
  F.AVS_READ, F.WAKE_CTRL_MDIO_WAKE, F.WAKE_CTRL_CP_WAKE, F.WAKE_ARM_LO, F.WAKE_ARM_HI, F.WAKE_STATUS_SOURCE,
  F.WAKE_STATUS_DURING_ENTRY, F.WAKE_STATUS_BUS, F.WAKE_STATUS_PORT, F.SUPPLY_STATUS_WARN_NOW, F.SUPPLY_STATUS_STRETCH, F.SUPPLY_EVENTS_WARN,
  F.SUPPLY_EVENTS_AVS_FAIL, F.SUPPLY_EVENTS_AVS_ALERT, F.PWR_EVENTS_REFUSED, F.PWR_EVENTS_WAKE_DURING_ENTRY, F.PWR_EVENTS_XFER_ABORT, F.PWR_EVENTS_LEVEL_FAIL,
  F.PWR_EVENTS_WAKE, F.XFER_ABORTS_COEF, F.XFER_ABORTS_LAUNCH, F.XFER_ABORTS_CAPTURE, F.XFER_ABORTS_OTHER, F.STRETCH_EPISODES,
  F.CAL_EVENTS_INPUT_BUSY, F.CAL_EVENTS_IMPLAUSIBLE, F.CAL_EVENTS_STALE, F.CAL_EVENTS_RECORD_BAD, F.CAL_EVENTS_PWRUP_FALLBACK, F.CAL_EVENTS_SUBST,
  F.AUDIT_STATUS_STATE, F.AUDIT_STATUS_PLAN, F.AUDIT_STATUS_DONE, F.AUDIT_STATUS_PCT, F.AUDIT_EVENTS_DONE, F.AUDIT_EVENTS_CUT,
  F.AUDIT_EVENTS_FAIL, F.AUDIT_EVENTS_INCOMPLETE, F.AUDIT_EVENTS_REPAIR, F.AUDIT_EVENTS_UNREPAIRED, F.SMP_NEXT, F.SMP_READ,
  F.SMP_STATUS_RUNNING, F.SMP_STATUS_FULL, F.PM_EVENTS_CONFIG_ERR]

/-- The device-global fields. -/
def globalFields : List Fld := globalFields0 ++ globalFields1 ++ globalFields2 ++ globalFields3

/-- The fields of one port (part 0). -/
def portFields0 : List Fld := [
  F.PMA_RESET, F.PMA_SPEED1, F.PMA_LOW_POWER, F.PMA_SPEED0, F.PMA_SPEED_SEL, F.PMA_LINK,
  F.PMA_DEVS_LO, F.PMA_DEVS_HI, F.PCS_RESET, F.PCS_SPEED1, F.PCS_LOW_POWER,
  F.PCS_SPEED0, F.PCS_SPEED_SEL, F.PCS_LINK, F.PCS_DEVS_LO, F.PCS_DEVS_HI, F.AN_ENABLE,
  F.AN_RESTART, F.AN_PAGE_RCVD, F.AN_DONE, F.AN_LINK, F.AN_LP_ABLE, F.AN_DEVS_LO,
  F.AN_DEVS_HI, F.AN_ADV_PAUSE, F.AN_ADV_100_FD, F.AN_ADV_100_HD, F.AN_ADV_10_FD, F.AN_ADV_10_HD,
  F.AN_ADV_SEL, F.AN_LP_BASE, F.AN_MG_MS_MANUAL, F.AN_MG_MS_VALUE, F.AN_MG_MULTIPORT, F.AN_MG_10G,
  F.AN_MG_5G, F.AN_MG_2G5, F.AN_LP_MG, F.EEE_ADV_10G, F.EEE_ADV_1G, F.EEE_ADV_100,
  F.EEE_ADV2_5G, F.EEE_ADV2_2G5, F.SIR_AN_CTRL_SIR_EN, F.SIR_AN_CTRL_MS_CFG, F.SIR_AN_CTRL_VER_EN, F.SIR_AN_CTRL_RATE_MAX,
  F.SIR_AN_CTRL_FALLBACK_LIMIT, F.SIR_AN_CTRL_DOWNSHIFT_EN, F.SIR_AN_CTRL_DOWNSHIFT_TRIES, F.SIR_AN_STATUS_RESOLVED, F.SIR_AN_STATUS_DUPLEX, F.SIR_AN_STATUS_SIR_VER,
  F.SIR_AN_STATUS_SIR_MASTER, F.SIR_AN_STATUS_PARTNER_SIR, F.SIR_AN_STATUS_PARTNER_VER, F.SIR_AN_STATUS_PARTNER_RATE_MAX, F.SIR_AN_STATUS_PARTNER_FEEDBACK, F.SIR_AN_STATUS_PARTNER_MULTIPORT]

/-- The fields of one port (part 1). -/
def portFields1 : List Fld := [
  F.SIR_AN_STATUS_FALLBACK_ACTIVE, F.AN_GHOST_SELF, F.AN_GHOST_ABANDON, F.AN_GHOST_SRC_VALID, F.AN_GHOST_SRC_KIND, F.AN_GHOST_SRC_PAIR,
  F.AN_GHOST_SRC_SRC_PORT, F.AN_EVENTS_SIR_FALLBACK, F.AN_EVENTS_DOWNSHIFT, F.AN_EVENTS_MS_FAULT, F.AN_EVENTS_SELF_LOOP, F.AN_EVENTS_CONFIG_ERR,
  F.AN_EVENTS_VERSION_NONE, F.AN_1000T_CTRL_ADV_FD, F.AN_1000T_CTRL_MS_MANUAL, F.AN_1000T_CTRL_MS_VALUE, F.AN_1000T_CTRL_MULTIPORT, F.AN_1000T_STATUS_MS_FAULT,
  F.AN_1000T_STATUS_MS_RESOLVED, F.AN_1000T_STATUS_IDLE_ERR, F.ESC_DTU_RETX, F.ESC_DTU_LOST, F.ESC_EOC_BAD, F.ESC_LOAD_DOUBT,
  F.ESC_EVENTS_LOAD_DOUBT, F.ESC_EVENTS_MSG_FAIL, F.ESC_EVENTS_LOAD_REJECT, F.ESC_EVENTS_VERSION_MISMATCH, F.SIR_TRAIN_CTRL_DEADLINE, F.SIR_TRAIN_CTRL_AUTO_DIAG,
  F.SIR_TRAIN_CTRL_TRAIN_BACKOFF, F.SIR_TRAIN_CTRL_LISTEN_MAX, F.SIR_TRAIN_STATUS_PHASE, F.SIR_TRAIN_STATUS_PROGRESS, F.SIR_TRAIN_STATUS_JOIN_LATE, F.SIR_TRAIN_STATUS_THREE_PAIR,
  F.SIR_TRAIN_STATUS_ABSENT_PAIR, F.SIR_TRAIN_RESTARTS, F.SIR_TRAIN_FALSE_HS, F.SIR_TRAIN_ELAPSED, F.LISTEN_DIAG_A_VALID, F.LISTEN_DIAG_A_OPEN,
  F.LISTEN_DIAG_A_DIST, F.LISTEN_DIAG_B_VALID, F.LISTEN_DIAG_B_OPEN, F.LISTEN_DIAG_B_DIST, F.LISTEN_DIAG_C_VALID, F.LISTEN_DIAG_C_OPEN,
  F.LISTEN_DIAG_C_DIST, F.LISTEN_DIAG_D_VALID, F.LISTEN_DIAG_D_OPEN, F.LISTEN_DIAG_D_DIST, F.TRAIN_EVENTS_LISTEN, F.TRAIN_EVENTS_DEADLINE,
  F.TRAIN_EVENTS_JOIN_LATE, F.TRAIN_EVENTS_OPEN_FOUND, F.TRAIN_EVENTS_PAIR_DEAD, F.CH_PORT_CH_STATE, F.CH_PORT_NEXT_ONLY, F.CH_PORT_PRE_ACTIVE]

/-- The fields of one port (part 2). -/
def portFields2 : List Fld := [
  F.CH_PORT_FOREIGN, F.CH_PORT_DORMANT_S, F.CH_PORT_LOTS, F.CH_PAIR_A_ACTIVE_GEN, F.CH_PAIR_A_ABSENT, F.CH_PAIR_A_WORST_NEAR,
  F.CH_PAIR_B_ACTIVE_GEN, F.CH_PAIR_B_ABSENT, F.CH_PAIR_B_WORST_NEAR, F.CH_PAIR_C_ACTIVE_GEN, F.CH_PAIR_C_ABSENT, F.CH_PAIR_C_WORST_NEAR,
  F.CH_PAIR_D_ACTIVE_GEN, F.CH_PAIR_D_ABSENT, F.CH_PAIR_D_WORST_NEAR, F.LINK_STATE_STATE, F.LINK_STATE_CAUSE, F.LINK_STATE_THREE_PAIR,
  F.LINK_STATE_ABSENT, F.LINK_STATE_SHUTTER, F.LINK_STATE_TX_RATE, F.LINK_STATE_RX_RATE, F.DEGRADE_RATE, F.DEGRADE_THREE_PAIR,
  F.DEGRADE_MARGIN, F.DEGRADE_LOSS, F.DEGRADE_DEFECT, F.DEGRADE_SPARES, F.DEGRADE_PARTNER, F.DEGRADE_UNCAL,
  F.DEGRADE_FAST_RETRAIN, F.DEGRADE_DOWNSHIFT, F.LINK_CTRL_AUTO_UP, F.LINK_CTRL_RATE_CAP, F.LINK_CTRL_DEGRADE_BELOW, F.LINK_CTRL_SHUTTER_EN,
  F.LINK_CTRL_SHUT_IDLE, F.LINK_CTRL_FALLBACK_EN, F.LINK_CTRL_DEGRADE_HOLD, F.HL_SWAPS, F.HL_RATE_STEPS, F.HL_FALLBACKS,
  F.HL_SUBST, F.HL_FALSE_KNOCK, F.HL_WAKES, F.HL_DRIFT, F.ADC_SPARES, F.DAC_SPARES,
  F.LINK_EVENTS_STEP_DOWN, F.LINK_EVENTS_STEP_UP, F.LINK_EVENTS_FALLBACK, F.LINK_EVENTS_FAST_FALLBACK, F.LINK_EVENTS_RETURN, F.LINK_EVENTS_SUBST,
  F.LINK_EVENTS_SPARE_OUT, F.LINK_EVENTS_DRIFT, F.LINK_EVENTS_SHUT_REFUSED, F.LINK_EVENTS_KNOCK_FAIL, F.LINK_EVENTS_DEGRADED, F.LINK_EVENTS_DOWN]

/-- The fields of one port (part 3). -/
def portFields3 : List Fld := [
  F.HL_PORT_CTRL_PACE_MODE, F.HL_PORT_STATUS_NOTICES, F.HL_PORT_STATUS_XOFF, F.HL_PORT_STATUS_NOTICE_PENDING, F.HL_PORT_STATUS_SPLIT, F.HL_PORT_STATUS_TXN_SEQ,
  F.HL_HTX_DROP, F.HL_HRX_DROP, F.HL_PAUSE_SENT, F.PTP_CTRL_ING_MODE, F.PTP_CTRL_EGR_MODE, F.PTP_CTRL_TT_EN,
  F.TS_ING_LAT, F.TS_EGR_LAT, F.TS_ASYM, F.TT_STATUS_VALID, F.TT_STATUS_MASTER, F.TT_STATUS_REF_PAIR,
  F.TT_STATUS_REPORTS, F.TT_DELAY_LO, F.TT_DELAY_HI, F.TT_OFFSET_LO, F.TT_OFFSET_MID, F.TT_OFFSET_HI,
  F.TT_SKEW_B, F.TT_SKEW_C, F.TT_SKEW_D, F.TS_FIFO_TS_LEVEL, F.TS_FIFO_TS_POP, F.PTP_EVENTS_FIFO_OVF,
  F.PTP_EVENTS_SKIP, F.PTP_EVENTS_RETX_TS, F.PTP_EVENTS_TT_LOST, F.PTP_UPDATED, F.PTP_SKIP]

/-- The fields of one port. -/
def portFields : List Fld := portFields0 ++ portFields1 ++ portFields2 ++ portFields3

/-- The fields of one lane group (part 0). -/
def laneFields0 : List Fld := [
  F.HL_CTRL_ENABLE, F.HL_CTRL_AUTO_TRAIN, F.HL_CTRL_CTLE_MODE, F.HL_CTRL_TX_SWING, F.HL_CTRL_TX_DEEMPH, F.HL_STATUS_STATE,
  F.HL_STATUS_VERSION, F.HL_STATUS_PEER_NOTICE, F.HL_STATUS_TABLE_IN_USE, F.HL_STATUS_LOCKED, F.HL_CTLE_LO, F.HL_CTLE_HI,
  F.HL_EVENTS_LOCK_LOST, F.HL_EVENTS_TRAIN_FAIL, F.HL_EVENTS_TABLE_USED, F.HL_EVENTS_SPLIT, F.HL_EVENTS_ELASTIC, F.HL_EVENTS_CTRL_BAD,
  F.HL_EVENTS_INPUT_BUSY, F.HL_EVENTS_CONFIG_ERR, F.HL_HEC_ERR, F.HL_STUFF_ERR, F.HL_SB_ERR, F.HL_STRIPE_DROP,
  F.HL_TRAINS, F.HL_FB_CTRL_COUNT, F.HL_FB_CTRL_LAST, F.HL_TEST_ERR_0, F.HL_TEST_ERR_1, F.HL_TEST_ERR_2,
  F.HL_TEST_ERR_3, F.HL_TEST_ERR_4, F.HL_TEST_ERR_5, F.HL_TEST_ERR_6, F.HL_TEST_ERR_7]

/-- The fields of one lane group. -/
def laneFields : List Fld := laneFields0

/-- The fields of `CAL_PORT` and `CAL_LANE` (R751). -/
def calFields : List Fld := [F.CAL_PORT_STALE, F.CAL_PORT_RAMP, F.CAL_PORT_RUNNING, F.CAL_PORT_FAILS, F.CAL_PORT_ACTIVE_SEQ]

/-- The fields of a programmable counter (R753). -/
def pmFields : List Fld := [
  F.PM_CFG_EN, F.PM_CFG_MODE, F.PM_CFG_EVENT, F.PM_CFG_THRESHOLD, F.PM_FILT_A_CLASS, F.PM_FILT_A_PORT_LO, F.PM_FILT_A_PORT_HI, F.PM_FILT_A_PARTNER,
  F.PM_FILT_A_PATH, F.PM_FILT_A_ROLE, F.PM_FILT_B_TG_LO, F.PM_FILT_B_TG_HI, F.PM_FILT_B_REG_SPAN, F.REG_BASE, F.PM_VAL_LO, F.PM_VAL_HI]

/-- The base of port n's window (R590). -/
def portBase (n : Nat) : Nat := 0x1000000 + n * 0x100000

/-- The base of lane group g's registers, g = 0..3, added to an offset of `laneFields` (R450, R591). -/
def laneBase (g : Nat) : Nat := 0x80 * (g % 4)

/-- The base of counter c, 0..7, of unit u, added to an offset of `pmFields` (R753). -/
def pmBase (u c : Nat) : Nat := 0x100 * (u % 32) + 0x20 * (c % 8)

/-- The counter units of R752. -/
def pmUnits : List Nat := [0, 1, 2, 3, 4, 5, 8, 0xC, 0xD, 0xE, 0xF, 0x10, 0x18]

/-- The fields of the word at an address of the register window, with their base; empty for a reserved address and
for a memory area (R589, R590). -/
def fieldsAt (a : Nat) : List Fld :=
  if 0x1000000 ≤ a ∧ a < 0x4000000 then
    let r := a % 0x100000
    if 0x3000 ≤ r ∧ r < 0x3100 then [F.BP_VALID, F.BP_TONE, F.BP_LEVEL]
    else if 0x3100 ≤ r ∧ r < 0x3140 then [F.NT_VALID, F.NT_START, F.NT_END]
    else portFields.filter (fun f => f.reg == r)
  else if 0x11400 ≤ a ∧ a < 0x11600 then laneFields.filter (fun f => f.reg == 0x11400 + a % 0x80)
  else if 0x11600 ≤ a ∧ a < 0x11700 then [F.HL_FB]
  else if 0x30000 ≤ a ∧ a < 0x300D0 then calFields
  else if 0x40000 ≤ a ∧ a < 0x41900 then
    if pmUnits.contains ((a - 0x40000) / 0x100) then pmFields.filter (fun f => f.reg == 0x40000 + a % 0x20) else []
  else if 0x48000 ≤ a ∧ a < 0x48200 then (if a % 8 = 0 then [F.DEV_CNT_LO] else [F.DEV_CNT_HI])
  else globalFields.filter (fun f => f.reg == a)

/-- The value a field list gives a word at reset. -/
def resetWord (fs : List Fld) : Nat := fs.foldl (fun a f => a + f.rst * 2 ^ f.lo) 0

/-- The reset value of the register at an address: the register tables of spec/, and for the breakpoints R116. -/
def regReset (a : Nat) : Word :=
  if 0x1000000 ≤ a ∧ a < 0x4000000 ∧ a % 0x100000 = 0x3000 then 0x80010316
  else if 0x1000000 ≤ a ∧ a < 0x4000000 ∧ a % 0x100000 = 0x3004 then 0x82000316
  else if 0x1000000 ≤ a ∧ a < 0x4000000 ∧ a % 0x100000 = 0x3008 then 0x8FFF0348
  else BitVec.ofNat 32 (resetWord (fieldsAt a))

/-- Bits `hi .. lo` of a word as a number. -/
def wordBits (v : Word) (hi lo : Nat) : Nat := (v >>> lo).toNat % 2 ^ (hi - lo + 1)

/-- The ones in bits `hi .. lo`. -/
def maskOf (hi lo : Nat) : Word := BitVec.ofNat 32 ((2 ^ (hi - lo + 1) - 1) * 2 ^ lo)

/-- A word with bits `hi .. lo` replaced by the low bits of `x`. -/
def setBits (v : Word) (hi lo x : Nat) : Word :=
  (v &&& ~~~ maskOf hi lo) ||| (BitVec.ofNat 32 (x * 2 ^ lo) &&& maskOf hi lo)

end Sys2Proof.Machine
end

