-- ==== Sys2Proof/Machine/State.lean ====
section
/-!
DEFINITION. The state of the device: every register (in `regs`, under its window address), every memory area, and the
state that the rules of spec/ give each block beside its registers. All of it is plain data.
-/
namespace Sys2Proof.Machine

/-! ## The Teller and the Command Port (11_teller_command_protocol.md) -/

/-- What the management cores run (R521, R551, R630, R681). -/
inductive Stage where
  /-- held by a reset, or with no valid clock source -/
  | held
  /-- the boot ROM -/
  | rom
  /-- restarting on a new image (R551) -/
  | restarting
  /-- Teller firmware -/
  | firmware
  /-- stopped in Retain (R681) -/
  | stopped
  deriving DecidableEq, Repr

/-- The status codes of R518. -/
inductive Status where
  | ok | accepted | busy | busySelftest | denied | locked | badParam | gated | inputBusy | recordBad | ledgerFull
  | refused | version | aborted | partialDone | incomplete | notReady
  deriving DecidableEq, Repr

/-- A stored command of R512: its SEQ, its CRC and the reply packet. -/
structure Stored where
  seq : BitVec 16
  crc : BitVec 32
  reply : List Byte
  deriving DecidableEq, Repr

/-- The Command Port: the status byte's state (R505), the held reply (R507), the stored command of session 0 (R512),
and the bytes that the latest transaction drove. -/
structure CmdPort where
  current : Option Packet
  reply : Option (List Byte)
  replyRead : Nat
  dropped : Bool
  stored0 : Option Stored
  out : List Byte
  helloVersion : Option Nat
  deriving DecidableEq, Repr

/-- An open session (R556, R563). `aliveTick` is the elapsed time of its latest command. -/
structure Session where
  handle : BitVec 32
  role : Role
  slot : Nat
  key : List Byte
  keyless : Bool
  stored : Option Stored
  aliveTick : Nat
  deriving DecidableEq, Repr

/-- A provisional phase-1 handle (R556, R558). -/
structure Provisional where
  handle : BitVec 32
  role : Role
  slot : Nat
  hostNonce : List Byte
  devNonce : List Byte
  deriving DecidableEq, Repr

/-- A role's failure count and hold-off in always-on SRAM (R562); `lastHoldS` is the length of the last hold-off. -/
structure RoleGuard where
  fails : Nat
  held : Bool
  lastHoldS : Nat
  deriving DecidableEq, Repr

/-- Sessions and their guards (12_roles_ledger_vault.md). `ended` lists, oldest first, the installer and maker
sessions that the reset or image start in progress ended, for R809. -/
structure Sec where
  sessions : List Session
  prov : Option Provisional
  oper : RoleGuard
  inst : RoleGuard
  maker : RoleGuard
  ended : List (BitVec 32 × Role)
  scanRequested : Bool
  scanOpen : Bool
  deriving DecidableEq, Repr

/-- A Ledger entry (R567). -/
structure LedgerEntry where
  index : Nat
  sec : Nat
  ns : Nat
  epoch : Nat
  role : Nat
  kind : Nat
  session : BitVec 32
  seq : Nat
  opcode : Nat
  status : Nat
  paramLen : Nat
  target : Nat
  digest : List Byte
  detail : List Byte
  check : BitVec 32
  deriving DecidableEq, Repr

/-- The Ledger in always-on SRAM: HEAD, TAIL, the CHECK of the last entry, the entries lost since the last OVERFLOW,
and the slots by number (R567-R577). -/
structure Ledger where
  head : Nat
  tail : Nat
  lastCheck : BitVec 32
  lostSince : Nat
  genesis : Bool
  slots : SMap (Option LedgerEntry)
  deriving DecidableEq, Repr

/-- A Journal entry (R534). -/
structure JournalEntry where
  index : Nat
  opId : Nat
  opcode : Nat
  kind : Nat
  k : Nat
  n : Nat
  status : Nat
  pct : Nat
  sec : Nat
  ns : Nat
  sf : Nat
  d0 : Nat
  d1 : Nat
  d2 : Nat
  deriving DecidableEq, Repr

/-- The Journal in always-on SRAM: the next INDEX and the slots by number (R534-R536). -/
structure Journal where
  next : Nat
  slots : SMap (Option JournalEntry)
  deriving DecidableEq, Repr

/-- The state of an operation record (R530). -/
inductive OpState where
  | running | abortRequested | done
  deriving DecidableEq, Repr

/-- An operation record (R530, R531), with the role of the session that started it (R532). -/
structure Op where
  id : Nat
  opcode : Nat
  role : Option Role
  st : OpState
  pct : Nat
  k : Nat
  n : Nat
  final : Option Status
  startTick : Nat
  journal : Nat
  data : List Byte
  collected : Bool
  deriving DecidableEq, Repr

/-- A PORT_CONFIG item (R541). -/
structure CfgItem where
  offset : Nat
  value : Word
  mask : Word
  deriving DecidableEq, Repr

/-- When a scheduled change applies: at a superframe boundary of the grid (R26) or at a time compare (R468). -/
inductive When where
  | frame (s : Nat)
  | time (sec ns : Nat)
  deriving DecidableEq, Repr

/-- A pending PORT_CONFIG (R543, R544). -/
structure PendCfg where
  action : Nat
  retrain : Bool
  items : List CfgItem
  due : When
  deriving DecidableEq, Repr

/-- The two image slots (R547-R551): the bytes loaded, and the activation that runs; `romStart` says that the boot ROM
is to start the image in the active slot after a warm reset (R651). -/
structure Images where
  active : SMap (Option Byte)
  staging : SMap (Option Byte)
  fwVersion : Nat
  activating : Option Nat
  verified : Bool
  romStart : Bool
  deriving DecidableEq, Repr

/-- A Vault burn in progress (R583, R584): its operation, field, data, the fuse word reached, and the step. -/
structure Burn where
  op : Nat
  field : Nat
  offset : Nat
  data : List Byte
  word : Nat
  spentStep : Bool
  stop : Option Status
  deriving DecidableEq, Repr

/-- The Vault: the fuses, the read shadow, and the fuse words with a single-bit or an uncorrectable error. -/
structure Vault where
  fuses : SMap Byte
  shadow : SMap Byte
  corrWords : List Nat
  badWords : List Nat
  burn : Option Burn
  deriving DecidableEq, Repr

/-! ## Registers and MDIO (13_registers_and_mdio.md) -/

/-- The read and write latches of one path (R605, R607), by register-window address. -/
structure Latches where
  rd : SMap (Option Word)
  wr : SMap (Option Word)
  deriving DecidableEq, Repr

/-- The MDIO address registers, by 1024 × bus + 32 × port address + DEVAD (R594), and the word that the latest MDIO
frame drove, none where the device drove nothing. -/
structure Mdio where
  addr : SMap (BitVec 16)
  out : Option (BitVec 16)
  deriving DecidableEq, Repr

/-- The Teller's own record of a port (R614): mode, state, rates and pending events. -/
structure TellerRec where
  an : Word
  link : Word
  pending : Nat
  deriving DecidableEq, Repr

/-! ## Clocks, resets and power (14_clocks_reset_startup.md, 15_power_states.md) -/

/-- A reset that a command asked for and that begins after its reply (R650). -/
inductive ResetReq where
  | warm (cause : Nat)
  | port (n : Nat)
  | block (b : Nat)
  deriving DecidableEq, Repr

/-- Why outputs are held safe now: the failures of R623 and R626, the boundary scan of R790, internal scan (R585). -/
structure SafeNow where
  start : Bool
  refclk : Bool
  scanBoundary : Option ScanInstr
  deriving DecidableEq, Repr

/-- The clock and reset state beside the registers of R657: why outputs are safe, a safe-state entry that the cores have
still to record (R631), the clock switch that waits for its old clock (R638), the CLKOUT_CTRL in force (R644), whether a
reset is held and VDD_AON was lost, the resets asked for by DEVICE_RESET (R650), and the GPIO_CTRL that a hold keeps (R625,
R692). -/
structure Clk where
  safeNow : SafeNow
  lossPending : Bool
  switchWait : Option (Nat × Nat)
  clkoutNow : Word
  resetHeld : Bool
  aonLost : Bool
  resetReq : List ResetReq
  gpioLatch : Option Word
  deriving DecidableEq, Repr

/-- A POWER_LEVEL in progress (R669-R674): its groups with the level that each had, the new level, the start time, and the superframe
named for its step-downs. `raised` says that the groups that rise have their voltage, `raiseDone` that they run at the new clock;
`switched` that the groups that fall run at the new clock, `lowDone` that they have their voltage. -/
structure LevelOp where
  op : Nat
  groups : List (Nat × Nat)
  level : Nat
  sec : Nat
  ns : Nat
  frame : Nat
  started : Bool
  raised : Bool
  raiseDone : Bool
  switched : Bool
  lowDone : Bool
  deriving DecidableEq, Repr

/-- A SLEEP in progress (R675-R681): the blocks that have stopped, newest first, and those still to ask. -/
structure SleepOp where
  op : Nat
  retain : Bool
  stopped : List Nat
  toAsk : List Nat
  deriving DecidableEq, Repr

/-- Power state beside the registers of R701. `avsPending` is the voltage written over AVSBus that has still to read back, with the
target before it; `heldPads` is the MASK of pad sets held (R692); `lowRails` the rails below their reset level now; `wakeStep` the step of
R690 in progress; `wakeLatch` the wake latched during entry: source, bus and port (R682); `dspFreq` for DSP PLL 2g or 2g + 1 the level at
whose clock it is locked plus 1, 0 where it is powered down; `volt` for a port group 3 less the level of its voltage. -/
structure Power where
  levelOp : Option LevelOp
  sleep : Option SleepOp
  avsPending : Option (Nat × Nat)
  heldPads : Nat
  lowRails : List Rail
  wakeStep : Nat
  wakeLatch : Option (Nat × Nat × Nat)
  dspFreq : SMap Nat
  volt : SMap Nat
  deriving DecidableEq, Repr

/-! ## Performance monitoring (17_performance_monitoring.md) -/

/-- A COUNTER_CONFIG start that waits for its time (R765): unit, counters, PM_CFG and start. -/
structure PmStart where
  unit : Nat
  counters : Nat
  sec : Nat
  ns : Nat
  deriving DecidableEq, Repr

/-- The Codeword Sampler's selection (R766) and its per-port qualifying counts. -/
structure Sampler where
  select : Nat
  rate : Nat
  stopFull : Bool
  ports : Nat
  latMin : Nat
  seen : SMap Nat
  deriving DecidableEq, Repr

/-- The waiting starts, the queue levels that occupancy counters sample (by unit, code and port), and the sampler. -/
structure Perf where
  starts : List PmStart
  sampler : Sampler
  deriving DecidableEq, Repr

/-! ## Ports: negotiation, training, framing, service (02, 04, 05, 07) -/

/-- What a port does. -/
inductive PortSt where
  /-- not running: disabled, gated, held safe or reset -/
  | idle
  /-- auto-negotiation runs -/
  | negotiating
  /-- no mode resolved; the link-fail inhibit time runs (R60) -/
  | inhibit
  /-- a standard mode resolved; its clause trains the link -/
  | stdTraining
  /-- a standard-mode link is up -/
  | stdUp
  /-- a Siruigo training attempt runs -/
  | training
  /-- in Listen (R224) -/
  | listen
  /-- in Siruigo service -/
  | service
  /-- two ports of the device are cabled to each other (R83) -/
  | selfLoop
  deriving DecidableEq, Repr

/-- The negotiation state of a port (02_line_modes_and_negotiation.md). The control words are those sampled when the
negotiation started (R51). `msFault` holds the control word and the partner's MS_PREF under which a mastership fault
occurred (R63). `offer` says that the negotiation sends the Siruigo ability message (R46). -/
structure An where
  ctrl : Word
  gigCtrl : Word
  advBase : Word
  advMg : Word
  eee : Word
  eee2 : Word
  seed : BitVec 20
  peerSeed : BitVec 20
  ties : Nat
  msFault : Option (Word × Nat)
  offer : Bool
  failedSir : Nat
  failGig : Nat
  fail2g5 : Nat
  fail5 : Nat
  fail10 : Nat
  sirWithheld : Bool
  gigWithheld : Bool
  w2g5 : Bool
  w5 : Bool
  w10 : Bool
  inProgress : SMap (Option AnPage)
  lastPage : Option AnPage
  matches3 : Nat
  ghostRun : Nat
  ghostPort : Option Port
  flpInterval : Nat
  halfDuplex : Bool
  resolved : Nat
  downshifted : Bool
  deriving DecidableEq, Repr

/-- What a Siruigo attempt resolved, and its progress (05_siruigo_training.md). `sEcho`, `next` and `s0` name the
superframes agreed; `rampLeft` is the training backoff still to be raised, in dB; on a slave `sOff` is what the partner's
superframe index exceeds the grid's by; `hsOut` is the handshake message of the latest burst sent, on a master those of the two bursts of
the superframe (R192, R194). -/
structure Train where
  master : Bool
  ver : Nat
  ceiling : Nat
  topBand : Nat
  feedback : Bool
  fallback3 : Bool
  shutter : Bool
  timeXfer : Bool
  startTick : Nat
  confirmed : Bool
  heard : Bool
  peerHeard : Bool
  sEcho : Option Nat
  next : Option (Nat × Nat)
  s0 : Option Nat
  firing : SMap Nat
  ownReady : Nat
  peerReady : Nat
  aligned : Bool
  offset : Int
  delay : Nat
  pilot : Nat
  peerTop : Nat
  peerMask : List Brk
  peerNotches : List Band
  gotParams : Bool
  ownLive : BitVec 4
  peerLive : Option (BitVec 4)
  pairsDecided : Bool
  joinDone : Bool
  joinTotal : Nat
  rampLeft : Nat
  rampOn : Bool
  converged : Bool
  sOff : Int
  hsOut : List Byte
  rxTable : Option LoadReq
  txTable : Option LoadReq
  gotConfirm : Bool
  sentConfirm : Bool
  listenWindow : Nat
  listenTx : Bool
  listenLimit : Nat
  tdrDone : Bool
  applyMask : Bool
  deriving DecidableEq, Repr

/-- A data DTU in the transmit Escrow (R142-R149): first sent in symbol `sentAt`; `quietTo` ends the six symbol
periods in which reports of it are ignored (R146). -/
structure TxDtu where
  seq : Nat
  payload : List Byte
  framePtr : Nat
  sentAt : Nat
  due : Bool
  quietTo : Nat
  deriving DecidableEq, Repr

/-- A data DTU held or known missing in the receive direction (R147, R148); `payload` is none while it is missing. `at8` is
the time of its arrival in units of 1/8 ns, with the epoch. -/
structure RxSlot where
  seq : Nat
  payload : Option (List Byte)
  framePtr : Nat
  at8 : Nat
  epoch : Nat
  retx : Bool
  deriving DecidableEq, Repr

/-- A frame of the host lanes or of the line: its bytes, its class, the time of its plane in units of 1/8 ns with the epoch, the
PTP and TS_REQ bits of its sideband word, and the launch context that it came through, with its STAMP (then `at8` is its arrival
while it is queued, its launch time from then on). -/
structure Frame where
  bytes : List Byte
  cls : Nat
  at8 : Nat
  epoch : Nat
  ptp : Bool
  tsReq : Bool
  ctx : Option (Nat × Bool)
  deriving DecidableEq, Repr

/-- The Escrow stores and DTU streams of a port (04_siruigo_framing_escrow_channel.md). `txBytes` are the bytes of the
frame record begun but not yet placed; `rxNext` is the SEQ after the last one known to have been sent; `sync` says that the
receiver follows the frame records; `partialRec` is the record in assembly, with the time, epoch and RETX of the DTU that
carried its frame's first byte. `txPhase` and `rxPhase` are the DTU-stream bytes before data symbol 1 of the superframe,
modulo 512 (R127); `dtuOut` and `eocOut` are the latest DTU and embedded-channel block sent, the block in symbol `blockSym`; `msgRest` are
the bytes of the message begun in it that the next block carries. -/
structure Escrow where
  nextSeq : Nat
  held : List TxDtu
  txFrames : List Frame
  txBytes : List Byte
  rxBase : Nat
  rxLast : Nat
  rxNext : Nat
  rx : List RxSlot
  sync : Bool
  partialRec : List Byte
  partialAt : Nat
  partialEpoch : Nat
  partialRetx : Bool
  deliveredSf : Bool
  sentSf : Bool
  rxDefect : Bool
  txPhase : Nat
  rxPhase : Nat
  dtuOut : List Byte
  eocOut : List Byte
  blockSym : Nat
  msgRest : List Byte
  deriving DecidableEq, Repr

/-- A reliable message that awaits its MSG_ACK (R157). -/
structure OutMsg where
  type : Nat
  tag : Nat
  body : MsgBody
  sends : Nat
  deriving DecidableEq, Repr

/-- A change of loading agreed or asked for a direction (R166-R178): the request, its TAG, its superframe as a grid index,
whether it is confirmed, and whether it is the standby loading of a pair fallback on trial (R318). -/
structure Change where
  req : LoadReq
  tag : Nat
  s : Nat
  confirmed : Bool
  fall : Bool
  deriving DecidableEq, Repr

/-- The loading parameters in force in a direction; the tables themselves lie in memory at the port's loading-table
area (R102). -/
structure Loading where
  loadId : Nat
  q : Nat
  n : Nat
  k : Nat
  deriving DecidableEq, Repr

/-- The full loading of a direction saved on entry to three-pair operation (R325). -/
structure Saved where
  loading : Loading
  table : List (List LoadEntry)
  rate : Nat
  deriving DecidableEq, Repr

/-- A pair-fallback agreed for a superframe (R317-R321). -/
structure Fallback where
  s : Nat
  enter : Bool
  pair : Nat
  txId : Nat
  rxId : Nat
  fast : Bool
  own : Bool
  calibration : Bool
  deriving DecidableEq, Repr

/-- The Shutter state of a port (R334-R349). `knockAt` is the symbol of its own Knock, `confirmedAt` that of a partner's Knock
still to be answered, `resumeAt` the symbol at which data resumes, `missed` the refreshes in a row without a partner. -/
structure Shut where
  asked : Option Nat
  accepted : Option Nat
  firing : SMap Nat
  knockAt : Option Nat
  knocks : Nat
  confirmedAt : Option Nat
  resumeAt : Option Nat
  wakeSoon : Bool
  lpi : Bool
  missed : Nat
  deriving DecidableEq, Repr

/-- What the latest boundary showed of a receiver and the consecutive-superframe counts of R299, R303, R320 and R354, per
pair for the margins; `lastSwap` is the superframe of the latest FULL = 0 change of the receive direction (R302), `feMargins`
the MARGIN fields of the partner's latest FE_STATUS. -/
structure Watch where
  swapRun : Nat
  below3 : List Nat
  below45 : List Nat
  margins : List (Option Int)
  c4 : Option Nat
  support : Option Nat
  lastSwap : Option Nat
  lowSyncRun : List Nat
  nearSync : BitVec 4
  feMargins : List (Option Int)
  deriving DecidableEq, Repr

/-- A reference to a converter element of a pair: an ADC slice or a DAC segment (R327, R728). -/
structure Elem where
  pair : Nat
  dac : Bool
  idx : Nat
  deriving DecidableEq, Repr

/-- A substitution decided for a boundary (R328). -/
structure Subst where
  retire : Elem
  spare : Elem
  due : When
  deriving DecidableEq, Repr

/-- A loop of R332 that has been frozen: its kind and pair, and whether it has been reverted. -/
structure Frozen where
  loop : Nat
  pair : Nat
  tx : Bool
  reverted : Bool
  deriving DecidableEq, Repr

/-- A clearing of tones, or a rate, that the receiver of a direction has still to answer (R808): the partner's LOADING_NEED or
RATE_NOTICE with its TAG, or `own` for tones that this end must clear itself (R122, R273); S as a grid index; the SNR
measured, empty where none was. -/
structure Need where
  own : Bool
  tag : Nat
  s : Nat
  bands : List Band
  rate : Option Nat
  snr : List SnrRun
  deriving DecidableEq, Repr

/-- Rate controls that PORT_RATE has set for a superframe (R306-R308); `rxSent` and `txSent` say that the step of a direction
has been asked for. -/
structure RateCtl where
  s : Nat
  cap : Nat
  below : Nat
  autoUp : Bool
  rxSent : Bool
  txSent : Bool
  deriving DecidableEq, Repr

/-- One port: everything beside its registers (in `regs`) and its loading tables (in `mem`). Superframe indexes and
symbol numbers are those of the grid; a symbol number is 256 S + symbol. `sent` lists, oldest first, the messages that wait for the message
stream or went in it in this superframe, each with its TYPE and TAG. -/
structure PortState where
  st : PortSt
  an : An
  tr : Train
  esc : Escrow
  txTag : SMap Nat
  rxTags : SMap (List Nat)
  outbox : List OutMsg
  sent : List (Nat × Nat × MsgBody)
  txLoad : Loading
  rxLoad : Loading
  txChange : List Change
  rxChange : Option Change
  trial : Option Change
  ownStandby : SMap (Option (LoadReq × Bool))
  peerStandby : SMap (Option LoadReq)
  savedTx : Option Saved
  savedRx : Option Saved
  fallback : Option Fallback
  needs : List Need
  needSent : Option (Nat × MsgBody)
  serviceS : Nat
  txRate0 : Nat
  rxRate0 : Nat
  pendRate : List RateCtl
  fe : List Byte
  peerVendor : Nat
  watch : Watch
  subst : List Subst
  frozen : List Frozen
  shut : Shut
  heldReasons : Nat
  lossAt : Nat
  pendCfg : List PendCfg
  retrainAt : List (When × Nat)
  retrainOp : Option Nat
  latchLow : BitVec 3
  idleSince : Nat
  peerFb : Option (Nat × BitVec 4)
  sparesOut : BitVec 4
  deriving DecidableEq, Repr

/-! ## The Clearing House (06_clearing_house_and_bank.md) -/

/-- The STATE of a lot tag (R244). -/
inductive LotSt where
  | free | live | staged | retiring
  deriving DecidableEq, Repr

/-- A lot: the fields of its tag (R244), whether it was lent (R260) and whether its victim or disturber port has left
(R287). Its entries and exponents lie in memory at the Bank areas of R248. -/
structure Lot where
  st : LotSt
  gen : Nat
  victim : Nat
  set : Nat
  dist : Nat
  band : Nat
  lent : Bool
  dormant : Bool
  deriving DecidableEq, Repr

/-- The staging state of a victim pair (R246, R266-R269, R276, R277): whom its staged lots serve (the Survey, the joins
of ports, lending), the window in which its measurement ended, whether it waits to be measured again and how often the commit
check failed, the superframe named for its commit, whether a sweep is due, UXT_FAR before the latest commit (sum of codes
and their count), whether FEEDBACK has stopped, whether its precoding set is stopped, and FOREIGN. -/
structure Victim where
  survey : Bool
  joins : List Nat
  lending : Bool
  window : Nat
  again : Bool
  tries : Nat
  commitAt : Option Nat
  sweep : Bool
  farBefore : Option (Nat × Nat)
  farStopped : Bool
  preStopped : Bool
  foreignOn : Bool
  deriving DecidableEq, Repr

/-- A Survey in progress (R270): its operation, scope, COMMIT_TIME, the victim pairs still to map, those to measure again in
an extra batch, the step k of n, and the victim pairs done with their outcome: 1 committed, 2 kept. -/
structure SurveyRun where
  op : Nat
  scope : Nat
  hold : Option (Nat × Nat)
  left : List Nat
  again : List Nat
  total : Nat
  k : Nat
  n : Nat
  outcome : List (Nat × Nat)
  aborting : Bool
  deriving DecidableEq, Repr

/-- BANK_POLICY (R292). -/
structure Policy where
  base : Nat
  maxLots : Nat
  hyst : Nat
  stageLots : Nat
  dormantHold : Nat
  priority : Nat
  deriving DecidableEq, Repr

/-- The Clearing House: lots by number, victim pairs by number, the policy in force and the one that waits for the
next window (with its CH_CTRL bits), the Survey, the join that holds the measurement store and those that wait, the
ports dormant, each with one more than the tick at which it left, and those that leave at the next boundary. -/
structure Ch where
  lots : SMap Lot
  victims : SMap Victim
  policy : Policy
  pendPolicy : Option (Policy × Nat)
  survey : Option SurveyRun
  surveyOp : Nat
  lastSurvey : Nat
  join : Option Nat
  joinQueue : List Nat
  dormant : SMap Nat
  leaving : List Nat
  floors : SMap Nat
  held : Bool
  deriving DecidableEq, Repr

/-! ## Network time and timed launch (10_network_time.md) -/

/-- A slew in progress (R461): what is left to absorb in units of 2^-48 ns, its direction and its rate in 2^-16 ppm. -/
structure Slew where
  left : Nat
  back : Bool
  rate : Nat
  deriving DecidableEq, Repr

/-- The local clock and the grid (R454-R473). `t` is the time in units of 2^-48 ns; `gridFreq` the rate the grid has
reached in 2^-16 ppm; `s` the index of the latest boundary and `sTime` the network time recorded there in ns, with `sFrac` in 2^-16 ns. -/
structure Time where
  t : Nat
  epoch : Nat
  freq : Int
  gridFreq : Int
  slew : Option Slew
  running : Bool
  s : Nat
  sTime : Nat
  sFrac : Nat
  anchor : Option (Nat × Nat × Nat)
  deriving DecidableEq, Repr

/-- The STATE of a launch context (R485). -/
inductive CtxSt where
  | idle | armed | held | done
  deriving DecidableEq, Repr

/-- A launch context (R485). `overdue` says that its pending launch time had passed when a step or the arming made it so (R475,
R487). -/
structure Ctx where
  st : CtxSt
  overdue : Bool
  port : Nat
  flags : Nat
  queueMax : Nat
  sec : Nat
  ns : Nat
  period : Nat
  remain : Nat
  queue : List Frame
  launched : Nat
  missed : Nat
  dropped : Nat
  lastSec : Nat
  lastNs : Nat
  lastLate : Int
  lastEpoch : Nat
  lastS : Nat
  deriving DecidableEq, Repr

/-- An egress timestamp record (R480). -/
structure TsRec where
  sec : Nat
  ns : Nat
  frac : Nat
  epoch : Nat
  tag : Nat
  src : Nat
  msg : Nat
  s : Nat
  deriving DecidableEq, Repr

/-- Time transfer on a port (R496-R500): the latest one-way delays in units of 1/256 ns, the superframe of the latest report,
and the step-epoch counter at the latest TIME_MARK sent. -/
structure TtPort where
  delays : List Int
  lastReport : Nat
  markEpoch : Option Nat
  deriving DecidableEq, Repr

/-! ## Host lanes (09_host_lanes.md) -/

/-- A frame that waits to be sent on HTX: its port, and whether the device made it as a PAUSE frame (R413, R430). -/
structure HostRec where
  port : Nat
  frame : Frame
  pause : Bool
  deriving DecidableEq, Repr

/-- A LANE_TEST in progress (R448). -/
structure LaneTest where
  op : Nat
  lanes : Nat
  dir : Nat
  pattern : Nat
  inject : Nat
  burst : Nat
  period : Nat
  duration : Nat
  injected : Nat
  synced : Nat
  deriving DecidableEq, Repr

/-- A lane group (R396-R449). `stripe` is the number of the next HTX stripe; `htxBytes` are record bytes not yet sent; `htxOut` is
the body of the latest stripe or TRAIN frame sent; `elastic` are the bytes in the HRX elastic buffer; `agree` counts the
consecutive frames in which both ends sent LOCKED 0xFF and one VERSION_SEL; `entry` is the fallback entry of the attempt and
`nextEntry` the place of the next attempt among the entries. -/
structure LaneState where
  trainOp : Option Nat
  tableOnly : Bool
  adaptOnly : Bool
  versionFail : Bool
  clockSeen : Bool
  stripe : Nat
  htxQueue : List HostRec
  htxBytes : List Byte
  htxOut : List Byte
  elastic : Nat
  agree : Nat
  sentStage : Nat
  noticeCap : Bool
  entry : Option Nat
  nextEntry : Nat
  calIdle : Bool
  test : Option LaneTest
  trainRes : Option (List Byte)
  deriving DecidableEq, Repr

/-- A port's host-lane side: its hold buffer in bytes, its notices and its TS_REQ count (R423-R430, R480). -/
structure HostPort where
  hold : Nat
  xoff : Bool
  txnSeq : Nat
  txnValid : Bool
  txnRate : Nat
  txnS : Nat
  txnTime : Nat
  rxnSeq : Nat
  rxnValid : Bool
  rxnRate : Nat
  rxnS : Nat
  ackSeq : Nat
  noticesInForce : Bool
  tsReqs : Nat
  fifo : List TsRec
  deriving DecidableEq, Repr

/-! ## Diagnostics (08_cable_diagnostics.md) -/

/-- A diagnostic queued or running (R363): `stage` is its step, `pairsLeft` the pairs still to acquire, `repeats` the
repeats of the pair in hand (R370). -/
structure DiagRun where
  op : Nat
  kind : Nat
  port : Nat
  pairs : Nat
  sec : Nat
  ns : Nat
  args : List Byte
  begun : Bool
  stage : Nat
  pairsLeft : List Nat
  repeats : Nat
  startS : Nat
  startSec : Nat
  startNs : Nat
  records : List (List Byte)
  partialDone : Bool
  endS : Option Nat
  deriving DecidableEq, Repr

/-- A held diagnostic result (R392, R394). -/
structure DiagRes where
  op : Nat
  header : List Byte
  data : List Byte
  deriving DecidableEq, Repr

/-- The diagnostics engine and the capture store's holder; `gen` is GEN of R389. -/
structure Diag where
  runs : List DiagRun
  results : List DiagRes
  holder : Option Nat
  gen : Nat
  deriving DecidableEq, Repr

/-! ## Calibration and the Closing Audit (16_calibration_and_closing_audit.md) -/

/-- A Calibration Record (R727): its header fields, its body (empty: the values of R709) and the element sets that have been
calibrated since those values, bit 3 × pair + set. -/
structure CalRec where
  seq : Nat
  sec : Nat
  ns : Nat
  flags : Nat
  sets : Nat
  body : List Byte
  deriving DecidableEq, Repr

/-- Where a CAL_RUN stands (R717-R723): it waits for its window; it has asked for three-pair operation at a superframe; its pair is
out of data service since a superframe; its target is quiet; its values ramp; it waits for the next attempt. -/
inductive CalPhase where
  | waiting
  | asked (s : Nat)
  | out (s : Nat)
  | quiet
  | ramp
  | retry
  deriving DecidableEq, Repr

/-- A CAL_RUN that holds its target (R715): `left` are the pairs still to calibrate in this attempt, `inPlace` says that the absent pair is
calibrated in place, `down` that the port is quiet, `measured` that the pair in hand has been measured, `busy` that the attempt met
INPUT_BUSY, `fresh` that the Staged set must first be made from the Active one, `listen` that the port resumes Listen, `short`
whether the working set of a pair measured could not be filled, and `outcomes` the outcome codes of each pair done. -/
structure CalRun where
  op : Nat
  lane : Bool
  index : Nat
  elements : Nat
  left : List Nat
  all : List Nat
  stageOnly : Bool
  allowDrop : Bool
  retries : Nat
  sec : Nat
  ns : Nat
  phase : CalPhase
  inPlace : Bool
  down : Bool
  measured : Bool
  busy : Bool
  fresh : Bool
  listen : Bool
  short : List (Nat × Bool)
  outcomes : List (Nat × List Nat)
  deriving DecidableEq, Repr

/-- A target's calibration: its two records, the commit that waits, the ramp (steps left and the old body), the
elements found IMPLAUSIBLE in the latest run of each pair (pair, set, element) and those excluded by R711. -/
structure CalTarget where
  active : CalRec
  staged : CalRec
  commit : Option When
  rampLeft : Nat
  oldBody : List Byte
  lastImpl : List (Nat × Nat × Nat)
  excluded : List (Nat × Nat × Nat)
  deriving DecidableEq, Repr

/-- Calibration: targets by number (port n at n, lane group g at 64 + g), runs, the device record, and the power-up
calibration: the blocks whose first result was implausible, those finished, and the codes set (R704, R705). -/
structure Cal where
  targets : SMap CalTarget
  runs : List CalRun
  device : CalRec
  firstBad : List CalBlock
  finished : List CalBlock
  codes : SMap (List Byte)
  deriving DecidableEq, Repr

/-- A block of the Closing Audit with what is left of its slices and memory steps (R734). -/
structure AuditBlock where
  block : Nat
  slices : List Nat
  steps : Nat
  ended : Bool
  deriving DecidableEq, Repr

/-- A memory failure record of AUDIT_RESULT (R742). -/
structure MemFail where
  inst : Nat
  addr : Nat
  bitNo : Nat
  row : Nat
  repaired : Bool
  repairRow : Nat
  deriving DecidableEq, Repr

/-- A START of AUDIT_CONFIG that waits for its time (R739, R740): the time, the plan and the blocks. -/
structure AuditDue where
  sec : Nat
  ns : Nat
  plan : Nat
  blocks : List Nat
  deriving DecidableEq, Repr

/-- The Closing Audit (R734-R749). `state` is coded as AUDIT_RESULT byte 0; `results` holds the slice results; `held` are the
blocks held, by their codes; `found` are the repairs and `bad` the unrepairable instances that this audit has found; `unusable` are
the instances whose users are held out of service, `repairsInForce` the repairs applied. -/
structure Audit where
  state : Nat
  plan : Nat
  due : Option AuditDue
  planned : Nat
  doneCount : Nat
  sec : Nat
  ns : Nat
  blocks : List AuditBlock
  cutAsked : List Nat
  results : SMap Nat
  repairs : Nat
  unrepaired : Nat
  fails : List MemFail
  result : Nat
  paused : Bool
  repeating : Bool
  held : List Nat
  found : List (Nat × Nat × Nat)
  bad : List Nat
  unusable : List Nat
  repairsInForce : List (Nat × Nat × Nat)
  deriving DecidableEq, Repr

/-! ## The device -/

/-- The part: both are one die with or without ports 24..47 (R1, R4). -/
inductive Part where
  | qn4880 | qn4824
  deriving DecidableEq, Repr

/-- The state of the whole block. `strapReq` is the profile that the straps request, `profileSel` the one that PROFILE_SELECT chose (0: none),
`profileNew` says that it was chosen since the last warm reset. `pending` is the queue of the model's commands; `draws` is the model's own counter
of free values, which no rule of spec/ names. -/
structure State where
  pending : List Instr
  part : Part
  straps : Straps
  strapReq : Nat
  profileSel : Nat
  profileNew : Bool
  stage : Stage
  regs : SMap Word
  latchCp : Latches
  latch0 : Latches
  latch1 : Latches
  mdio : Mdio
  teller : SMap TellerRec
  cp : CmdPort
  sec : Sec
  ledger : Ledger
  journal : Journal
  nextOp : Nat
  ops : List Op
  images : Images
  vault : Vault
  clk : Clk
  power : Power
  time : Time
  ctxs : SMap Ctx
  tt : SMap TtPort
  ports : SMap PortState
  hostPorts : SMap HostPort
  lanes : SMap LaneState
  ch : Ch
  diag : Diag
  cal : Cal
  audit : Audit
  perf : Perf
  mem : List Host.Cell
  tick : Nat
  draws : Nat
  deriving DecidableEq, Repr

/-- Why a command is stopped. No meaning of this model stops: every row of the table has an effect in spec/. The
constructor exists for a row of a block that the part does not have; it is raised by no meaning. Safe. -/
inductive Fault where
  | noEffect
  deriving DecidableEq, Repr

/-- Why a command has no meaning here. `notModelled` marks an arm of `exec` that is not written; no arm uses it. Safe. -/
inductive Refusal where
  | notModelled (mnemonic : String)
  deriving DecidableEq, Repr

/-! ## The state right after reset

Where spec/ gives a value for power-on reset (R645) it is that value; the others are the model's (assumptions 1 and 2). -/

/-- A loading with nothing agreed. -/
def Loading.init : Loading := ⟨0, 0, 0, 0⟩

/-- No negotiation has run. -/
def An.init : An :=
  { ctrl := 0, gigCtrl := 0, advBase := 0, advMg := 0, eee := 0, eee2 := 0, seed := 0, peerSeed := 0, ties := 0,
    msFault := none, offer := false, failedSir := 0, failGig := 0, fail2g5 := 0, fail5 := 0, fail10 := 0, sirWithheld := false,
    gigWithheld := false, w2g5 := false, w5 := false, w10 := false, inProgress := [], lastPage := none, matches3 := 0,
    ghostRun := 0, ghostPort := none, flpInterval := 0, halfDuplex := false, resolved := 0, downshifted := false }

/-- No training attempt has run. -/
def Train.init : Train :=
  { master := false, ver := 0, ceiling := 0, topBand := 0, feedback := false, fallback3 := false, shutter := false,
    timeXfer := false, startTick := 0, confirmed := false, heard := false, peerHeard := false, sEcho := none,
    next := none, s0 := none, firing := [], ownReady := 0, peerReady := 0, aligned := false, offset := 0, delay := 0,
    pilot := 0, peerTop := 0, peerMask := [], peerNotches := [], gotParams := false, ownLive := 0, peerLive := none,
    pairsDecided := false, joinDone := false, joinTotal := 0, rampLeft := 0, rampOn := false, converged := false, sOff := 0, hsOut := [], rxTable := none, txTable := none,
    gotConfirm := false, sentConfirm := false, listenWindow := 0, listenTx := false, listenLimit := 0,
    tdrDone := false, applyMask := false }

/-- Empty Escrow stores. -/
def Escrow.init : Escrow :=
  { nextSeq := 0, held := [], txFrames := [], txBytes := [], rxBase := 0, rxLast := 65535, rxNext := 0, rx := [], sync := false,
    partialRec := [], partialAt := 0, partialEpoch := 0, partialRetx := false, deliveredSf := false, sentSf := false,
    rxDefect := false, txPhase := 0, rxPhase := 0, dtuOut := [], eocOut := [], blockSym := 0, msgRest := [] }

/-- Nothing watched yet. -/
def Watch.init : Watch :=
  { swapRun := 0, below3 := [0, 0, 0, 0], below45 := [0, 0, 0, 0], margins := [], c4 := none, support := none,
    lastSwap := none, lowSyncRun := [0, 0, 0, 0], nearSync := 0, feMargins := [] }

/-- Not in Shutter. -/
def Shut.init : Shut :=
  { asked := none, accepted := none, firing := [], knockAt := none, knocks := 0, confirmedAt := none,
    resumeAt := none, wakeSoon := false, lpi := false, missed := 0 }

/-- A port after reset. -/
def PortState.init : PortState :=
  { st := .idle, an := An.init, tr := Train.init, esc := Escrow.init, txTag := [], rxTags := [], outbox := [],
    sent := [], txLoad := Loading.init, rxLoad := Loading.init, txChange := [], rxChange := none, trial := none,
    ownStandby := [], peerStandby := [], savedTx := none, savedRx := none, fallback := none, needs := [],
    needSent := none, serviceS := 0, txRate0 := 0, rxRate0 := 0, pendRate := [], fe := [], 
    peerVendor := 0, watch := Watch.init, subst := [], frozen := [], shut := Shut.init, heldReasons := 0, lossAt := 0, pendCfg := [],
    retrainAt := [], retrainOp := none, latchLow := 0,
    idleSince := 0, peerFb := none, sparesOut := 0 }

/-- A host-lane port after reset: hold buffer empty, no notices (R426). -/
def HostPort.init : HostPort :=
  { hold := 0, xoff := false, txnSeq := 0, txnValid := false, txnRate := 7, txnS := 0, txnTime := 0, rxnSeq := 0,
    rxnValid := false, rxnRate := 7, rxnS := 0, ackSeq := 0, noticesInForce := false, tsReqs := 0, fifo := [] }

/-- A lane group after reset. -/
def LaneState.init : LaneState :=
  { trainOp := none, tableOnly := false, adaptOnly := false, versionFail := false, clockSeen := false, stripe := 0,
    htxQueue := [], htxBytes := [], htxOut := [],
    elastic := 0, agree := 0, sentStage := 0, noticeCap := false, entry := none, nextEntry := 0, calIdle := false,
    test := none, trainRes := none }

/-- A lot after reset: FREE (R244). -/
def Lot.init : Lot := ⟨.free, 0, 0, 0, 0, 0, false, false⟩

/-- A victim pair with nothing staged. -/
def Victim.init : Victim := ⟨false, [], false, 0, false, 0, none, false, none, false, false, false⟩

/-- BANK_POLICY at its defaults (R292). -/
def Policy.init : Policy := ⟨24, 48, 6, 16384, 60, 0⟩

/-- The Clearing House after reset. -/
def Ch.init : Ch :=
  { lots := [], victims := [], policy := Policy.init, pendPolicy := none, survey := none, surveyOp := 0,
    lastSurvey := 0, join := none, joinQueue := [], dormant := [], leaving := [], floors := [], held := false }

/-- Time after reset: the clock does not run before the time unit starts. -/
def Time.init : Time :=
  { t := 0, epoch := 0, freq := 0, gridFreq := 0, slew := none, running := false, s := 0, sTime := 0, sFrac := 0,
    anchor := none }

/-- An IDLE launch context (R485). -/
def Ctx.init : Ctx :=
  { st := .idle, overdue := false, port := 0, flags := 0, queueMax := 0, sec := 0, ns := 0, period := 0, remain := 0, queue := [],
    launched := 0, missed := 0, dropped := 0, lastSec := 0, lastNs := 0, lastLate := 0, lastEpoch := 0, lastS := 0 }

/-- No time transfer yet. -/
def TtPort.init : TtPort := ⟨[], 0, none⟩

/-- An empty calibration record: SEQ 0 (R727). -/
def CalRec.init : CalRec := ⟨0, 0, 0, 0, 0, []⟩

/-- A target with no records. -/
def CalTarget.init : CalTarget :=
  { active := CalRec.init, staged := CalRec.init, commit := none, rampLeft := 0, oldBody := [], lastImpl := [],
    excluded := [] }

/-- Calibration after reset. -/
def Cal.init : Cal := ⟨[], [], CalRec.init, [], [], []⟩

/-- No Closing Audit planned. -/
def Audit.init : Audit :=
  { state := 0, plan := 0, due := none, planned := 0, doneCount := 0, sec := 0, ns := 0, blocks := [], cutAsked := [],
    results := [], repairs := 0, unrepaired := 0, fails := [], result := 0, paused := false, repeating := false, held := [],
    found := [], bad := [], unusable := [], repairsInForce := [] }

/-- The Command Port after reset. -/
def CmdPort.init : CmdPort := ⟨none, none, 0, false, none, [], none⟩

/-- A guard with no failure. -/
def RoleGuard.init : RoleGuard := ⟨0, false, 0⟩

/-- No session. -/
def Sec.init : Sec := ⟨[], none, RoleGuard.init, RoleGuard.init, RoleGuard.init, [], false, false⟩

/-- An empty Ledger: the next INDEX is 1 (R570). -/
def Ledger.init : Ledger := ⟨1, 1, 0, 0, false, []⟩

/-- An empty Journal: the next INDEX is 1 (R535). -/
def Journal.init : Journal := ⟨1, []⟩

/-- Empty image slots; the boot ROM runs without a stored image. -/
def Images.init : Images := ⟨[], [], 0, none, false, false⟩

/-- The Vault: IDENTITY PART as the part, with IDENTITY and IMG_KEY_A spent (R579), all other fuses unprogrammed, no fuse-word error (assumption 2). -/
def Vault.init : Vault := ⟨[(0, 0x48), (1, 0x80), (0xFF, 3)], [(0, 0x48), (1, 0x80), (0xFF, 3)], [], [], none⟩

/-- No latch holds a word. -/
def Latches.init : Latches := ⟨[], []⟩

/-- The sampler is not configured. -/
def Sampler.init : Sampler := ⟨0, 0, false, 0, 0, []⟩

/-- Clock state at power-on: nothing valid yet. -/
def Clk.init : Clk :=
  { safeNow := ⟨true, false, none⟩, lossPending := false, switchWait := none, clkoutNow := 0x00000001,
    resetHeld := true, aonLost := true, resetReq := [], gpioLatch := none }

/-- Power state at power-on. -/
def Power.init : Power :=
  { levelOp := none, sleep := none, avsPending := none, heldPads := 0, lowRails := [], wakeStep := 0,
    wakeLatch := none, dspFreq := [], volt := [] }

/-- The device in power-on reset (R645): registers at their reset values, no memory byte listed, the cores held, the
always-on Ledger and Journal empty. POWER_ON_RESET_RELEASE starts it. -/
def State.reset : State :=
  { pending := [], part := .qn4880, straps := ⟨false, 0, false⟩, strapReq := 0, profileSel := 0, profileNew := false, stage := .held,
    regs := [], latchCp := Latches.init, latch0 := Latches.init, latch1 := Latches.init, mdio := ⟨[], none⟩,
    teller := [], cp := CmdPort.init, sec := Sec.init, ledger := Ledger.init, journal := Journal.init, nextOp := 1,
    ops := [], images := Images.init, vault := Vault.init, clk := Clk.init, power := Power.init, time := Time.init,
    ctxs := [], tt := [], ports := [], hostPorts := [], lanes := [], ch := Ch.init, diag := ⟨[], [], none, 0⟩,
    cal := Cal.init, audit := Audit.init, perf := ⟨[], Sampler.init⟩, mem := [], tick := 0, draws := 0 }

end Sys2Proof.Machine
end

