-- ==== Sys2Proof/Machine/Ops.lean ====
section
/-!
DEFINITION. The named operations over the state: register fields, ports, lane groups, memory bytes, network time, and
which units the part has and which of them run.
-/
namespace Sys2Proof.Machine

/-! ## Registers -/

/-- The stored value of the register word at a window address (R589, R590). -/
def rdReg (s : State) (a : Nat) : Word := SMap.get s.regs (regReset a) a

/-- Store a register word. -/
def wrReg (a : Nat) (v : Word) (s : State) : State := { s with regs := SMap.set s.regs (regReset a) a v }

/-- A field of the group at a base. -/
def rdFld (s : State) (base : Nat) (f : Fld) : Nat := wordBits (rdReg s (base + f.reg)) f.hi f.lo

/-- Set a field of the group at a base; a value wider than the field is cut to it. -/
def wrFld (base : Nat) (f : Fld) (x : Nat) (s : State) : State :=
  wrReg (base + f.reg) (setBits (rdReg s (base + f.reg)) f.hi f.lo x) s

/-- A device-global field. -/
def rdG (s : State) (f : Fld) : Nat := rdFld s 0 f

/-- Set a device-global field. -/
def wrG (f : Fld) (x : Nat) : State → State := wrFld 0 f x

/-- A field of port n. -/
def rdP (s : State) (n : Nat) (f : Fld) : Nat := rdFld s (portBase n) f

/-- Set a field of port n. -/
def wrP (n : Nat) (f : Fld) (x : Nat) : State → State := wrFld (portBase n) f x

/-- A field of lane group g. -/
def rdL (s : State) (g : Nat) (f : Fld) : Nat := rdFld s (laneBase g) f

/-- Set a field of lane group g. -/
def wrL (g : Nat) (f : Fld) (x : Nat) : State → State := wrFld (laneBase g) f x

/-- Set bit i of a field that holds one bit for each unit. -/
def wrBit (base : Nat) (f : Fld) (i : Nat) (x : Nat) : State → State := wrFld base (bitFld f i) x

/-- Bit i of a field that holds one bit for each unit. -/
def rdBit (s : State) (base : Nat) (f : Fld) (i : Nat) : Bool := rdFld s base (bitFld f i) == 1

/-- Add to a counter that holds at its maximum (R618, and the other chapters' register tables). -/
def addCnt (base : Nat) (f : Fld) (k : Nat) (s : State) : State :=
  wrFld base f (min (2 ^ fldWidth f - 1) (rdFld s base f + k)) s

/-- The 48-bit value of a counter kept in two words (R753, R758). -/
def rdCnt48 (s : State) (a : Nat) : Nat := (rdReg s a).toNat + 2 ^ 32 * wordBits (rdReg s (a + 4)) 15 0

/-- Add to a counter kept in two words, which holds at 0xFFFF_FFFF_FFFF (R759). -/
def addCnt48 (a : Nat) (k : Nat) (s : State) : State :=
  let v := min (2 ^ 48 - 1) (rdCnt48 s a + k)
  wrReg (a + 4) (BitVec.ofNat 32 (v / 2 ^ 32)) (wrReg a (BitVec.ofNat 32 v) s)

/-- Registers at addresses that a test picks return to their reset values. -/
def clearRegs (p : Nat → Bool) (s : State) : State := { s with regs := SMap.clear s.regs p }

/-! ## Ports, lane groups and the other tables -/

/-- Port n. -/
def port (s : State) (n : Nat) : PortState := SMap.get s.ports PortState.init n

/-- Change port n. -/
def modPort (n : Nat) (f : PortState → PortState) (s : State) : State :=
  { s with ports := SMap.set s.ports PortState.init n (f (port s n)) }

/-- The host-lane side of port n. -/
def hostPort (s : State) (n : Nat) : HostPort := SMap.get s.hostPorts HostPort.init n

/-- Change the host-lane side of port n. -/
def modHost (n : Nat) (f : HostPort → HostPort) (s : State) : State :=
  { s with hostPorts := SMap.set s.hostPorts HostPort.init n (f (hostPort s n)) }

/-- Lane group g. -/
def lane (s : State) (g : Nat) : LaneState := SMap.get s.lanes LaneState.init g

/-- Change lane group g. -/
def modLane (g : Nat) (f : LaneState → LaneState) (s : State) : State :=
  { s with lanes := SMap.set s.lanes LaneState.init g (f (lane s g)) }

/-- Launch context c. -/
def ctx (s : State) (c : Nat) : Ctx := SMap.get s.ctxs Ctx.init c

/-- Change launch context c. -/
def modCtx (c : Nat) (f : Ctx → Ctx) (s : State) : State := { s with ctxs := SMap.set s.ctxs Ctx.init c (f (ctx s c)) }

/-- The time transfer of port n. -/
def ttPort (s : State) (n : Nat) : TtPort := SMap.get s.tt TtPort.init n

/-- Change the time transfer of port n. -/
def modTt (n : Nat) (f : TtPort → TtPort) (s : State) : State :=
  { s with tt := SMap.set s.tt TtPort.init n (f (ttPort s n)) }

/-- Calibration target t: port n at n, lane group g at 64 + g. -/
def calTarget (s : State) (t : Nat) : CalTarget := SMap.get s.cal.targets CalTarget.init t

/-- Change the calibration block. -/
def modCal (f : Cal → Cal) (s : State) : State := { s with cal := f s.cal }

/-- Change calibration target t. -/
def modTarget (t : Nat) (f : CalTarget → CalTarget) (s : State) : State :=
  modCal (fun c => { c with targets := SMap.set c.targets CalTarget.init t (f (SMap.get c.targets CalTarget.init t)) }) s

/-- Change the Clearing House. -/
def modCh (f : Ch → Ch) (s : State) : State := { s with ch := f s.ch }

/-- Lot l. -/
def lot (s : State) (l : Nat) : Lot := SMap.get s.ch.lots Lot.init l

/-- Change lot l. -/
def modLot (l : Nat) (f : Lot → Lot) (s : State) : State :=
  modCh (fun c => { c with lots := SMap.set c.lots Lot.init l (f (SMap.get c.lots Lot.init l)) }) s

/-- Victim pair v (number 4 × port + pair). -/
def victim (s : State) (v : Nat) : Victim := SMap.get s.ch.victims Victim.init v

/-- Change victim pair v. -/
def modVictim (v : Nat) (f : Victim → Victim) (s : State) : State :=
  modCh (fun c => { c with victims := SMap.set c.victims Victim.init v (f (SMap.get c.victims Victim.init v)) }) s

/-- Change the command port. -/
def modCp (f : CmdPort → CmdPort) (s : State) : State := { s with cp := f s.cp }

/-- Change the sessions. -/
def modSec (f : Sec → Sec) (s : State) : State := { s with sec := f s.sec }

/-- Change the clock state. -/
def modClk (f : Clk → Clk) (s : State) : State := { s with clk := f s.clk }

/-- Change the power state. -/
def modPower (f : Power → Power) (s : State) : State := { s with power := f s.power }

/-- Change the time unit. -/
def modTime (f : Time → Time) (s : State) : State := { s with time := f s.time }

/-- Change the diagnostics engine. -/
def modDiag (f : Diag → Diag) (s : State) : State := { s with diag := f s.diag }

/-- Change the Closing Audit. -/
def modAudit (f : Audit → Audit) (s : State) : State := { s with audit := f s.audit }

/-- Change the Vault. -/
def modVault (f : Vault → Vault) (s : State) : State := { s with vault := f s.vault }

/-- Change the image slots. -/
def modImages (f : Images → Images) (s : State) : State := { s with images := f s.images }

/-- Change the performance monitors. -/
def modPerf (f : Perf → Perf) (s : State) : State := { s with perf := f s.perf }

/-- Change every listed value of a sparse map, dropping those that become the default. -/
def mapVals {α : Type} [DecidableEq α] (d : α) (f : Nat → α → α) (m : SMap α) : SMap α :=
  (m.map (fun e => (e.1, f e.1 e.2))).filter (fun e => decide (e.2 ≠ d))

/-- Change every lot that is not free. -/
def mapLots (f : Nat → Lot → Lot) : State → State := modCh (fun c => { c with lots := mapVals Lot.init f c.lots })

/-! ## Memory -/

/-- What a byte of a memory area reads as while nothing has been stored there: 0xFF in the crosstalk map, where no
coupling has been measured (R264, R384), and in the noise-floor records (R382); elsewhere 0 (assumption 5). -/
def memDefault (a : Nat) : Byte :=
  if 0xE00000 ≤ a ∧ a < 0xFB0000 then 0xFF
  else if 0x1000000 ≤ a ∧ a < 0x4000000 ∧ 0x3200 ≤ a % 0x100000 ∧ a % 0x100000 < 0x324A then 0xFF
  else 0

/-- Byte `a` of the memory areas. -/
def memByte (s : State) (a : Nat) : Byte := SMap.get s.mem (memDefault a) a

/-- Store one byte. -/
def setMemByte (a : Nat) (b : Byte) (s : State) : State := { s with mem := SMap.set s.mem (memDefault a) a b }

/-- Bytes `a .. a + n - 1` of the memory areas. -/
def readMem (s : State) (a n : Nat) : List Byte := (List.range n).map (fun i => memByte s (a + i))

/-- Store bytes from address `a` up. -/
def writeMem (a : Nat) : List Byte → State → State
  | [], s => s
  | b :: bs, s => writeMem (a + 1) bs (setMemByte a b s)

/-- Bytes at addresses that a test picks return to what an unlisted address reads as. -/
def clearMem (p : Nat → Bool) (s : State) : State := { s with mem := SMap.clear s.mem p }

/-- The canonical form of memory: addresses strictly rising, no byte listed that an unlisted address reads as. -/
def memWf (m : List Host.Cell) : Bool := SMap.wf memDefault m

/-! ## Values that spec/ leaves open -/

/-- Draw one free value: advance the counter that the opaque functions of Config are applied to. -/
def draw (s : State) : State := { s with draws := s.draws + 1 }

/-! ## What the part has (R1-R5, R34, R640) -/

/-- Whether the part has port n (R2). -/
def hasPort (s : State) (n : Nat) : Bool := if s.part = .qn4880 then decide (n < 48) else decide (n < 24)

/-- Whether the part has port group g (R640). -/
def hasGroup (s : State) (g : Nat) : Bool := if s.part = .qn4880 then decide (g < 6) else decide (g < 3)

/-- Whether the part uses lane group g (R3). -/
def hasLane (s : State) (g : Nat) : Bool := if s.part = .qn4880 then decide (g < 4) else decide (g < 2)

/-- The number of ports of the part. -/
def portCount (s : State) : Nat := if s.part = .qn4880 then 48 else 24

/-- The port group of port n. -/
def groupOf (n : Nat) : Nat := n / 8

/-- The lane group of port n. -/
def laneOf (n : Nat) : Nat := n / 12

/-- The block codes of R640 that the part has. -/
def blockCodes (s : State) : List Nat :=
  ((List.range 6).filter (hasGroup s)) ++ [8] ++ ((List.range 4).filter (hasLane s)).map (· + 12) ++ [16, 17, 18]

/-- The ports of the part. -/
def allPorts (s : State) : List Nat := List.range (portCount s)

/-- The lane groups of the part. -/
def allLanes (s : State) : List Nat := (List.range 4).filter (hasLane s)

/-- The port groups of the part. -/
def allGroups (s : State) : List Nat := (List.range 6).filter (hasGroup s)

/-! ## Clock enables (R620, R639) -/

/-- The PLL in use by DSPg is ready. -/
def dspReady (s : State) (g : Nat) : Bool :=
  rdBit s 0 F.CLK_READY_PLL_DSP (2 * g + (if rdBit s 0 F.CLK_SEL_STATUS_DSP_SRC g then 1 else 0))

/-- The source of the domain that feeds block b is ready (R620): a port group needs its DSP PLL and PLL_LINE; the time
unit, the performance monitors and the diagnostics engine PLL_LINE (assumption 6). -/
def srcReady (s : State) (b : Nat) : Bool :=
  if b < 6 then dspReady s b && rdG s F.CLK_READY_PLL_LINE == 1
  else if b = 8 then rdG s F.CLK_READY_PLL_CH == 1
  else if 12 ≤ b ∧ b < 16 then rdG s F.CLK_READY_PLL_LANE == 1
  else rdG s F.CLK_READY_PLL_LINE == 1

/-- The safe state holds block b. -/
def safeHolds (s : State) (b : Nat) : Bool :=
  if b < 6 then rdBit s 0 F.SAFE_STATUS_PG_HELD b
  else if 12 ≤ b ∧ b < 16 then rdG s F.SAFE_STATUS_LANES_HELD == 1
  else rdG s F.SAFE_STATUS_ACTIVE == 1

/-- Block b has stopped for Retain: its domain is gated until the wake has powered it again (R677, R690). -/
def retainStopped (s : State) (b : Nat) : Bool :=
  match s.power.sleep with
  | some o => o.retain && o.stopped.contains b
  | none => false

/-- The CLK_RUN bit of block b (R639): enabled, source ready, not held by the safe state, not stopped for Retain. -/
def clkRun (s : State) (b : Nat) : Bool :=
  (blockCodes s).contains b && rdBit s 0 F.CLK_EN b && srcReady s b && !safeHolds s b && !retainStopped s b

/-- The CLK_RUN word. -/
def clkRunWord (s : State) : Nat := (List.range 32).foldl (fun a b => if clkRun s b then a + 2 ^ b else a) 0

/-! ## Network time (R454-R473) -/

/-- One nanosecond in the unit of `Time.t`. -/
def nsUnit : Nat := 2 ^ 48

/-- The seconds of the network clock. -/
def nowSec (s : State) : Nat := s.time.t / (nsUnit * 1000000000)

/-- The nanoseconds of the network clock. -/
def nowNs (s : State) : Nat := s.time.t / nsUnit % 1000000000

/-- The network time in ns. -/
def nowTotal (s : State) : Nat := s.time.t / nsUnit

/-- A time in ns from seconds and nanoseconds. -/
def totalNs (sec ns : Nat) : Nat := sec * 1000000000 + ns

/-- The length of a superframe in units of 10 ps: 1,474.56 us. -/
def sfLen : Nat := 147456000

/-- The rate at which the clock runs, in 2^-16 ppm of a million: FREQ with the slew in progress (R455, R461). -/
def clockRate (s : State) : Int :=
  65536000000 + s.time.freq + (match s.time.slew with | some x => if x.back then -(x.rate : Int) else (x.rate : Int) | none => 0)

/-- The grid's current period as measured in network time, in units of 10 ps (R465, R467). -/
def sfPeriod (s : State) : Nat := ((sfLen : Int) * clockRate s / (65536000000 + s.time.gridFreq)).toNat

/-- The network time in ns at which superframe k begins at the current period, from the latest boundary (R26, R467). -/
def sfStart (s : State) (k : Nat) : Nat := s.time.sTime + (k - s.time.s) * sfPeriod s / 100

/-- The first superframe after the current one that begins at or after a time in ns (R26, R467). -/
def sfAt (s : State) (t : Nat) : Nat :=
  if t ≤ s.time.sTime then s.time.s + 1
  else max (s.time.s + 1) (s.time.s + ((t - s.time.sTime) * 100 + sfPeriod s - 1) / sfPeriod s)

end Sys2Proof.Machine
end

