-- ==== Sys2Proof/Machine/Flags.lean ====
section
/-!
DEFINITION. Event flags, the alert pin and the counters of 17_performance_monitoring.md: what every command's meaning
calls to record that something happened.
-/
namespace Sys2Proof.Machine

/-- Set an event flag (W1C, R599). -/
def setEv (base : Nat) (f : Fld) : State → State := wrFld base f 1

/-- Set a device-global event flag. -/
def evG (f : Fld) : State → State := setEv 0 f

/-- Set an event flag of port n. -/
def evP (n : Nat) (f : Fld) : State → State := setEv (portBase n) f

/-- Set an event flag of lane group g. -/
def evL (g : Nat) (f : Fld) : State → State := setEv (laneBase g) f

/-- The device is in Retain, where every counter holds (R760). -/
def inRetain (s : State) : Bool := s.stage == .stopped

/-- Add to device counter i, 0..63, of R758; in Retain it counts nothing (R760). -/
def countDev (i k : Nat) (s : State) : State := if inRetain s then s else addCnt48 (0x48000 + 8 * (i % 64)) k s

/-- The attributes that an event of R757 carries. -/
structure PmAttr where
  port : Option Nat
  tg : Option Nat
  partner : Option (List Nat)
  cls : Option Nat
  path : Option Nat
  role : Option Nat
  addr : Option Nat
  deriving DecidableEq, Repr

/-- An event that carries nothing. -/
def PmAttr.none : PmAttr := ⟨.none, .none, .none, .none, .none, .none, .none⟩

/-- Whether an attribute that an event may lack passes a filter (R755). -/
def passes (a : Option Nat) (p : Nat → Bool) : Bool := match a with | some x => p x | none => true

/-- The event codes of a unit and their kind (R757): 1 for an event, 2 for a queue, 0 for none. -/
def pmKind (u code : Nat) : Nat :=
  if u < 6 then (if code = 0x0A ∨ code = 0x0B then 2 else if 1 ≤ code ∧ code ≤ 0x0C then 1 else 0)
  else if u = 8 then (if code = 4 then 2 else if 1 ≤ code ∧ code ≤ 5 then 1 else 0)
  else if 0xC ≤ u ∧ u < 0x10 then (if code = 7 ∨ code = 8 then 2 else if 1 ≤ code ∧ code ≤ 9 then 1 else 0)
  else if u = 0x10 then (if code = 4 then 2 else if 1 ≤ code ∧ code ≤ 5 then 1 else 0)
  else if u = 0x18 then (if code = 8 then 2 else if 1 ≤ code ∧ code ≤ 7 then 1 else 0)
  else 0

/-- The conditions of R756 on a counter's configuration words: true where the counter counts nothing. EN is not one
of them: a stopped counter is tested as it stands. -/
def pmBad (u : Nat) (cfg fa fb fc : Word) : Bool :=
  let mode := wordBits cfg 30 29
  let kind := pmKind u (wordBits cfg 23 16)
  let span := wordBits fb 9 4
  decide (mode ≥ 2) || decide (wordBits fa 11 8 ≥ 6) || decide (kind = 0) || (mode == 1 && kind != 2)
    || decide (wordBits fa 23 18 > wordBits fa 17 12) || decide (wordBits fb 31 21 > wordBits fb 20 10)
    || decide (span > 32) || decide (fc.toNat % 2 ^ span ≠ 0)

/-- The block whose clock gates a unit; none for unit 0x18 (R752). -/
def pmBlock (u : Nat) : Option Nat := if u = 0x18 then none else some u

/-- A unit counts now (R760). -/
def pmRuns (s : State) (u : Nat) : Bool :=
  !inRetain s && (match pmBlock u with | some b => clkRun s b && clkRun s 0x11 | none => true)

/-- An event with these attributes passes the filters (R755). -/
def pmPasses (fa fb fc : Word) (at' : PmAttr) : Bool :=
  passes at'.cls (fun t => wordBits fa (24 + t) (24 + t) == 1)
    && passes at'.port (fun n => decide (wordBits fa 23 18 ≤ n ∧ n ≤ wordBits fa 17 12))
    && (match at'.partner with
        | some ps => wordBits fa 11 8 == 0 || ps.contains (wordBits fa 11 8)
        | none => true)
    && passes at'.path (fun p => wordBits fa (7 - p) (7 - p) == 1)
    && passes at'.role (fun r => wordBits fa (1 + r) (1 + r) == 1)
    && passes at'.tg (fun g => decide (wordBits fb 31 21 ≤ g ∧ g ≤ wordBits fb 20 10))
    && passes at'.addr (fun a => decide (fc.toNat ≤ a ∧ a < fc.toNat + 2 ^ wordBits fb 9 4))

/-- Programmable counter c of unit u sees k events (R754, event mode). -/
def pmCount (u code : Nat) (at' : PmAttr) (k c : Nat) (s : State) : State :=
  let b := 0x40000 + pmBase u c
  let cfg := rdReg s b
  let fa := rdReg s (b + 4)
  let fb := rdReg s (b + 8)
  let fc := rdReg s (b + 0xC)
  if wordBits cfg 31 31 = 1 ∧ wordBits cfg 30 29 = 0 ∧ wordBits cfg 23 16 = code ∧ pmBad u cfg fa fb fc = false
      ∧ pmPasses fa fb fc at' = true
  then addCnt48 (b + 0x10) k s else s

/-- `k` events of a unit's code (R754). -/
def pmEvN (u code : Nat) (at' : PmAttr) (k : Nat) (s : State) : State :=
  if pmRuns s u then forN 8 (pmCount u code at' k) s else s

/-- One event of a unit's code (R754). -/
def pmEv (u code : Nat) (at' : PmAttr) : State → State := pmEvN u code at' 1

/-! ## Alerts (R616-R618) -/

/-- A W1C word of a lane group has any of the bits set in any group. -/
def anyLane (s : State) (p : State → Nat → Bool) : Bool := (allLanes s).any (p s)

/-- A test holds for any port of the part. -/
def anyPort (s : State) (p : State → Nat → Bool) : Bool := (allPorts s).any (p s)

/-- The sources of ALERT_STATUS, bits 15..7, from SAFE down to DEGRADED (R618). -/
def alertBits (s : State) : List Bool :=
  [ rdReg s 0x20004 != 0,
    rdReg s 0x20060 != 0,
    rdG s F.TIME_STATUS_HOLD == 1,
    rdG s F.LEDGER_EVENTS_WARN == 1 || rdG s F.LEDGER_EVENTS_FULL == 1 || rdG s F.LEDGER_EVENTS_LOST == 1,
    anyLane s (fun s g => rdL s g F.HL_EVENTS_SPLIT == 1),
    anyLane s (fun s g => rdL s g F.HL_EVENTS_LOCK_LOST == 1 || rdL s g F.HL_EVENTS_TRAIN_FAIL == 1),
    rdReg s 0x10028 != 0,
    anyPort s (fun s n => rdP s n F.LINK_EVENTS_DOWN == 1),
    anyPort s (fun s n => rdP s n F.LINK_EVENTS_DEGRADED == 1) ]

/-- The ALERT_STATUS word (R618). -/
def alertStatus (s : State) : Nat := ((alertBits s).foldl (fun a b => a * 2 + bit b) 0) * 128

/-- The safe state holds some output (R625, R626). -/
def safeHeldAny (s : State) : Bool := wordBits (rdReg s 0x20008) 31 24 != 0 || s.ch.held

/-- ALERT_N is low: an enabled source is 1 (HOLD only with TIME_CTRL.HOLD_ALERT, R617), or the safe state drives it
(R625, R626). -/
def alertLow (s : State) : Bool :=
  let mask := (rdReg s 0x10024).toNat
  let src := alertStatus s
  let src := if rdG s F.TIME_CTRL_HOLD_ALERT = 1 then src else src - (bitsOf src 13 13) * 2 ^ 13
  (List.range 16).any (fun i => bitsOf mask i i == 1 && bitsOf src i i == 1) || safeHeldAny s

/-! ## The status byte and CP_IRQ_N (R505, R516) -/

/-- COMPLETION_PENDING: a long operation has completed and is not collected. -/
def completionPending (s : State) : Bool := s.ops.any (fun o => o.st == .done && !o.collected)

/-- The ROM bit: the boot ROM runs, or the cores restart on a new image (R551). -/
def romBit (s : State) : Bool := s.stage == .rom || s.stage == .restarting

/-- PROCESSING. -/
def processing (s : State) : Bool := s.cp.current.isSome

/-- The status byte of R505. -/
def statusByte (s : State) : Byte :=
  BitVec.ofNat 8 (bit s.cp.reply.isSome * 128 + bit (processing s) * 64 + bit (completionPending s) * 32
    + bit s.cp.dropped * 16 + bit (romBit s) * 8)

/-- CP_IRQ_N is low (R516). -/
def irqLow (s : State) : Bool :=
  completionPending s || (match s.cp.reply with | some r => decide (s.cp.replyRead < r.length) | none => false)

end Sys2Proof.Machine
end

