-- ==== Sys2Proof/Machine/Records.lean ====
section
/-!
DEFINITION. The Journal (R534-R539), the records of long operations (R526-R533) and the Ledger (R565-R577).
-/
namespace Sys2Proof.Machine

/-- The INDEX after one in the sequence that skips 0 (R535, R570). -/
def nextIndex (i : Nat) : Nat := if i ≥ 0xFFFFFFFF then 1 else i + 1

/-- The number of entries from one INDEX up to another along that sequence (R573). -/
def indexRun (a b : Nat) : Nat := if a ≤ b then b - a else b + 0xFFFFFFFF - a

/-- The source of the MGMT domain is valid or ready (R620, R630). -/
def mgmtValid (s : State) (src : Nat) : Bool :=
  match src with
  | 0 => rdG s F.CLK_READY_IRO_VALID == 1
  | 1 => rdG s F.CLK_READY_PLL_MGMT == 1
  | 2 => rdG s F.CLK_READY_REFCLK_VALID == 1
  | _ => false

/-- The management cores run and process commands: the boot ROM or firmware, on a valid clock (R630). -/
def coresRun (s : State) : Bool :=
  (s.stage == .rom || s.stage == .firmware) && mgmtValid s (rdG s F.CLK_SEL_STATUS_MGMT_SRC)

/-! ## The Journal -/

/-- The 32 bytes of a Journal entry (R534). -/
def journalBytes (e : JournalEntry) : List Byte :=
  natBE 4 e.index ++ natBE 4 e.opId ++ natBE 1 e.opcode ++ natBE 1 e.kind ++ natBE 1 e.k ++ natBE 1 e.n
    ++ natBE 1 e.status ++ natBE 1 e.pct ++ natBE 6 e.sec ++ natBE 4 e.ns ++ natBE 5 e.sf ++ natBE 1 e.d0
    ++ natBE 1 e.d1 ++ natBE 1 e.d2

/-- Slot i of the Journal as bytes; an empty slot is zero (R534). -/
def journalSlot (s : State) (i : Nat) : List Byte :=
  match SMap.get s.journal.slots none i with
  | some e => journalBytes e
  | none => List.replicate 32 0

/-- The Journal with an entry written at its next INDEX (R535). -/
def journalPut (e : JournalEntry) (j : Journal) : Journal :=
  { next := nextIndex j.next, slots := SMap.set j.slots none (j.next % 2048) (some { e with index := j.next }) }

/-- Write a Journal entry, stamped with the network time, and count it (R534, R535, R758). -/
def journal (e : JournalEntry) (s : State) : State :=
  countDev 0x2E 1 { s with journal := journalPut { e with sec := nowSec s, ns := nowNs s } s.journal }

/-- A device event: KIND EVENT with the three DETAIL bytes (R534). -/
def journalEvent (sf d0 d1 d2 : Nat) : State → State := journal ⟨0, 0, 0, 6, 0, 0, 0, 0, 0, 0, sf, d0, d1, d2⟩

/-- A RESET entry (R537, R654). -/
def journalReset (kind arg : Nat) : State → State := journal ⟨0, 0, 0, 7, 0, 0, 0, 0, 0, 0, 0, kind, arg, 0⟩

/-! ## Long operations -/

/-- The code of a status (R518). -/
def Status.code : Status → Nat
  | .ok => 0x00 | .accepted => 0x01 | .busy => 0x02 | .busySelftest => 0x03 | .denied => 0x04 | .locked => 0x05
  | .badParam => 0x06 | .gated => 0x07 | .inputBusy => 0x08 | .recordBad => 0x09 | .ledgerFull => 0x0A
  | .refused => 0x0B | .version => 0x0C | .aborted => 0x0D | .partialDone => 0x0E | .incomplete => 0x0F
  | .notReady => 0x10

/-- The role's code of R553 and R556; 0 for none. -/
def roleCode : Option Role → Nat
  | none => 0 | some .operator => 1 | some .installer => 2 | some .maker => 3

/-- The operation ID after one: it skips 0 and 0xFFFF_FFFF (R527). -/
def nextOpId (i : Nat) : Nat := if i ≥ 0xFFFFFFFE then 1 else i + 1

/-- An operation still runs. -/
def Op.running (o : Op) : Bool := o.st != .done

/-- The operations that run (R528). -/
def runningOps (s : State) : List Op := s.ops.filter Op.running

/-- A record of operation `id`. -/
def findOp (s : State) (id : Nat) : Option Op := s.ops.find? (fun o => o.id == id)

/-- An operation is asked to stop (R532). -/
def abortAsked (s : State) (id : Nat) : Bool := match findOp s id with | some o => o.st == .abortRequested | none => false

/-- Change the record of operation `id`. -/
def modOp (id : Nat) (f : Op → Op) (s : State) : State :=
  { s with ops := s.ops.map (fun o => if o.id = id then f o else o) }

/-- Drop the first record that a test picks. -/
def dropFirst (p : Op → Bool) : List Op → List Op
  | [] => []
  | o :: t => if p o then t else o :: dropFirst p t

/-- Make room for one more record among 64 (R531): the oldest completed and collected record goes first, then the
oldest completed one; a running one never. -/
def opsRoom (l : List Op) : List Op :=
  if l.length < 64 then l
  else if l.any (fun o => !o.running && o.collected) then dropFirst (fun o => !o.running && o.collected) l
  else dropFirst (fun o => !o.running) l

/-- Start a long operation of `n` steps: its ID, its record and its START entry (R526, R527, R534). -/
def startOp (opcode : Nat) (role : Option Role) (n : Nat) (s : State) : State :=
  let j := s.journal.next
  let o : Op := ⟨s.nextOp, opcode, role, .running, 0, 1, n, none, s.tick, j, [], false⟩
  journal ⟨0, s.nextOp, opcode, 1, 1, n, 0, 0, 0, 0, 0, 0, 0, 0⟩
    { s with nextOp := nextOpId s.nextOp, ops := opsRoom s.ops ++ [o] }

/-- The STEP entry of an operation at a superframe (R534). -/
def opStep (id sf : Nat) (s : State) : State :=
  match findOp s id with
  | some o =>
    let j := s.journal.next
    modOp id (fun o => { o with journal := j }) (journal ⟨0, id, o.opcode, 2, o.k, o.n, 0, o.pct, 0, 0, sf, 0, 0, 0⟩ s)
  | none => s

/-- Report step k of n and a percentage, which never falls and stays below 100 (R529); a new step gets its STEP entry. -/
def opProgress (id k n pct : Nat) (s : State) : State :=
  let s1 := modOp id (fun o => if o.running then { o with k := max o.k k, n := max o.n n, pct := max o.pct (min pct 99) } else o) s
  match findOp s id with
  | some o => if o.running ∧ o.k < k then opStep id 0 s1 else s1
  | none => s1

/-- Write an ITEM entry of an operation (R538). -/
def opItem (id sf d0 d1 d2 : Nat) (s : State) : State :=
  match findOp s id with
  | some o =>
    let j := s.journal.next
    modOp id (fun o => { o with journal := j })
      (journal ⟨0, id, o.opcode, 3, o.k, o.n, 0, o.pct, 0, 0, sf, d0, d1, d2⟩ s)
  | none => s

/-- An operation ends: its END entry, and its record done with the status and the completion data. `all` says that it
ran every step: then it reports 100 %, else it keeps the percentage and the step reached (R529, R530, R533). -/
def endOpWith (all : Bool) (id : Nat) (st : Status) (data : List Byte) (s : State) : State :=
  match findOp s id with
  | some o =>
    if o.running then
      let pct := if all then 100 else o.pct
      let k := if all then o.n else o.k
      let j := s.journal.next
      modOp id (fun o => { o with st := .done, final := some st, data := data, pct := pct, k := k, journal := j })
        (journal ⟨0, id, o.opcode, 4, k, o.n, st.code, pct, 0, 0, 0, 0, 0, 0⟩ s)
    else s
  | none => s

/-- An operation ends with a status: OK reports 100 % (R529). -/
def endOp (id : Nat) (st : Status) (data : List Byte) : State → State := endOpWith (st == .ok) id st data

/-- The OP_QUERY record of an operation (R530). -/
def opRecord (s : State) (o : Op) : List Byte :=
  let done := o.st == .done
  let data := if done then o.data else []
  natBE 4 o.id ++ natBE 1 o.opcode ++ natBE 1 (match o.st with | .running => 1 | .abortRequested => 2 | .done => 3)
    ++ natBE 1 o.pct ++ natBE 1 o.k ++ natBE 1 o.n ++ natBE 1 (match o.final with | some f => f.code | none => 1)
    ++ natBE 4 ((s.tick - o.startTick) / 100000)
    ++ natBE 4 (if done then 0 else (Config.remain o.opcode s.draws).toNat)
    ++ natBE 4 o.journal ++ natBE 2 data.length ++ data

/-! ## The Ledger -/

/-- HEAD − TAIL (R573). -/
def ledgerUsed (l : Ledger) : Nat := indexRun l.tail l.head

/-- The first 60 bytes of a Ledger entry (R567). -/
def ledgerBody (e : LedgerEntry) : List Byte :=
  natBE 4 e.index ++ natBE 6 e.sec ++ natBE 4 e.ns ++ natBE 2 e.epoch ++ natBE 1 e.role ++ natBE 1 e.kind
    ++ natBE 4 e.session.toNat ++ natBE 2 e.seq ++ natBE 1 e.opcode ++ natBE 1 e.status ++ natBE 2 e.paramLen
    ++ natBE 4 e.target ++ e.digest ++ e.detail

/-- The 64 bytes of a Ledger entry (R567). -/
def ledgerBytes (e : LedgerEntry) : List Byte := ledgerBody e ++ natBE 4 e.check.toNat

/-- Slot i of the Ledger as bytes. -/
def ledgerSlot (s : State) (i : Nat) : List Byte :=
  match SMap.get s.ledger.slots none i with
  | some e => ledgerBytes e
  | none => List.replicate 64 0

/-- The chained CHECK of an entry (R569). -/
def ledgerCheck (prev : BitVec 32) (e : LedgerEntry) : BitVec 32 :=
  BitVec.ofNat 32 (crc32c (natBE 4 prev.toNat ++ ledgerBody e))

/-- The Ledger with an entry written at HEAD (R566, R569, R572). -/
def ledgerPut (e : LedgerEntry) (l : Ledger) : Ledger :=
  let e := { e with index := l.head }
  let c := ledgerCheck l.lastCheck e
  { l with head := nextIndex l.head, lastCheck := c,
           slots := SMap.set l.slots none (l.head % 4096) (some { e with check := c }) }

/-- An entry with nothing filled in but its kind, role and DETAIL. -/
def ledgerEntry (kind role : Nat) (detail : List Byte) : LedgerEntry :=
  ⟨0, 0, 0, 0, role, kind, 0, 0, 0, 0, 0, 0xFFFFFFFF, List.replicate 24 0, detail, 0⟩

/-- Write one entry at HEAD, where a slot is free: stamp it, count it, and set the flags of R577. -/
def ledgerWrite (e : LedgerEntry) (s : State) : State :=
  let e := { e with sec := nowSec s, ns := nowNs s, epoch := s.time.epoch % 65536 }
  let s1 := { s with ledger := ledgerPut e s.ledger }
  let used := ledgerUsed s1.ledger
  let s2 := pmEv 0x18 7 { PmAttr.none with role := some e.role } (countDev 0x2D 1 s1)
  whenB (used == 4064) (evG F.LEDGER_EVENTS_FULL) (whenB (used == 3072) (evG F.LEDGER_EVENTS_WARN) s2)

/-- Every slot holds an undrained entry: the entry is lost and counted (R576). -/
def ledgerLose (s : State) : State :=
  addCnt 0 F.LEDGER_LOST 1 (evG F.LEDGER_EVENTS_LOST
    { s with ledger := { s.ledger with lostSince := s.ledger.lostSince + 1 } })

/-- Write the OVERFLOW entry that tells how many entries were lost (R576). -/
def ledgerOverflow (s : State) : State :=
  ledgerWrite (ledgerEntry 7 0 (natBE 4 s.ledger.lostSince))
    { s with ledger := { s.ledger with lostSince := 0 } }

/-- Write a Ledger entry, or lose it when the Ledger is full; the first entry after a loss is an OVERFLOW (R576). -/
def ledger (e : LedgerEntry) (s : State) : State :=
  if ledgerUsed s.ledger ≥ 4096 then ledgerLose s
  else
    let s1 := if s.ledger.lostSince = 0 then s else ledgerOverflow s
    if ledgerUsed s1.ledger ≥ 4096 then ledgerLose s1 else ledgerWrite e s1

/-- A DEVICE entry with its event code and bytes 57..59 (R568). -/
def ledgerDevice (code arg : Nat) : State → State := ledger (ledgerEntry 6 0 (natBE 1 code ++ natBE 3 arg))

/-- The Ledger is full for changes (R575). -/
def ledgerFull (s : State) : Bool := decide (ledgerUsed s.ledger ≥ 4064)

end Sys2Proof.Machine
end

