-- ==== Sys2Proof/Machine/Link.lean ====
section
/-!
DEFINITION. A port's link state (R352-R358), the start of a negotiation (R51, R52), leaving the Clearing House (R287),
rate notices (R425-R427), the split state (R440) and the sending of messages (R156-R158): the operations that the
chapters on the line share.
-/
namespace Sys2Proof.Machine

/-! ## What a port is -/

/-- LINK_STATE.STATE is up or degraded. -/
def linkUp (s : State) (n : Nat) : Bool := rdP s n F.LINK_STATE_STATE != 0

/-- The port is in Siruigo service. -/
def inService (s : State) (n : Nat) : Bool := (port s n).st == .service

/-- A Siruigo port, in training or service. -/
def isSir (s : State) (n : Nat) : Bool := (port s n).st == .service || (port s n).st == .training

/-- The port is a timing master in a training phase or service. -/
def isMaster (s : State) (n : Nat) : Bool := isSir s n && (port s n).tr.master

/-- The training phase as SIR_TRAIN_STATUS codes it (R229). -/
def phase (s : State) (n : Nat) : Nat := rdP s n F.SIR_TRAIN_STATUS_PHASE

/-- A timing-master port in ECHO or later: it is on the grid (R464). -/
def onGrid (s : State) (n : Nat) : Bool := isMaster s n && decide (2 ≤ phase s n)

/-- In Shutter. -/
def inShutter (s : State) (n : Nat) : Bool := inService s n && rdP s n F.LINK_STATE_SHUTTER == 1

/-- In three-pair operation. -/
def threePair (s : State) (n : Nat) : Bool := rdP s n F.LINK_STATE_THREE_PAIR == 1

/-- The absent pair of three-pair operation. -/
def absentPair (s : State) (n : Nat) : Nat := rdP s n F.LINK_STATE_ABSENT

/-- The symbol number of symbol `sym` of the current superframe. -/
def symNow (s : State) (sym : Nat) : Nat := 256 * s.time.s + sym

/-- A per-port store of the port is unrepairable: the port is held disabled (R749). -/
def portHeld (s : State) (n : Nat) : Bool := s.audit.unusable.any (fun i => Config.instPort i == some n)

/-- The port is enabled: neither low-power bit is set (R597), and it is not held disabled (R749). -/
def enabled (s : State) (n : Nat) : Bool := rdP s n F.PMA_LOW_POWER == 0 && rdP s n F.PCS_LOW_POWER == 0 && !portHeld s n

/-- The CAL_RUN that holds port n. -/
def portCal (s : State) (n : Nat) : Option CalRun := s.cal.runs.find? (fun r => !r.lane && r.index == n)

/-- Port n is in the three-pair operation of a calibration window, or has asked for it (R719, R326). -/
def calThree (s : State) (n : Nat) : Bool :=
  match portCal s n with
  | some r => (match r.phase with | .asked _ => true | .out _ => !r.inPlace | _ => false)
  | none => false

/-- The port may use its line: present, its group's clock running, not under the Closing Audit, its pads not held
(R693), no rail below its reset level that quiets its MDI (R696), not held by the boundary scan (R790), not quiet for a calibration
(R720). -/
def lineFree (s : State) (n : Nat) : Bool :=
  hasPort s n && clkRun s (groupOf n) && !s.audit.held.contains (groupOf n) && s.power.heldPads / 4 % 2 == 0
    && !s.power.lowRails.contains .afe && !s.power.lowRails.contains .ld && s.clk.safeNow.scanBoundary.isNone
    && !(portCal s n).any (·.down)

/-! ## Sending messages (R156-R158) -/

/-- Send a message: it takes the next TAG of its TYPE; a reliable one waits in the outbox for its MSG_ACK. -/
def sendMsg (n type : Nat) (reliable : Bool) (body : MsgBody) : State → State :=
  modPort n (fun p =>
    let tag := SMap.get p.txTag 0 type
    let out := if reliable then p.outbox ++ [⟨type, tag, body, 1⟩] else p.outbox
    { p with txTag := SMap.set p.txTag 0 type ((tag + 1) % 256), outbox := out, sent := p.sent ++ [(type, tag, body)] })

/-- Acknowledge a reliable message (R158). -/
def sendAck (n type tag : Nat) : State → State :=
  modPort n (fun p =>
    let k := SMap.get p.txTag 0 1
    { p with sent := p.sent ++ [(1, k, .ack (BitVec.ofNat 8 type) (BitVec.ofNat 8 tag))], txTag := SMap.set p.txTag 0 1 ((k + 1) % 256) })

/-- Whether a copy is the first, judged by TYPE and TAG against the last 16 TAGs of that TYPE (R158). -/
def firstCopy (s : State) (n type tag : Nat) : Bool := !(SMap.get (port s n).rxTags [] type).contains tag

/-- Record a received TAG. -/
def noteTag (n type tag : Nat) : State → State :=
  modPort n (fun p => { p with rxTags := SMap.set p.rxTags [] type ((tag :: SMap.get p.rxTags [] type).take 16) })

/-- Receive a reliable message: acknowledge it, and act only on the first copy (R158). -/
def onReliable (n type tag : Nat) (act : State → State) (s : State) : State :=
  let s1 := sendAck n type tag s
  if firstCopy s n type tag then act (noteTag n type tag s1) else s1

/-! ## Rate notices (R425-R427) -/

/-- Issue a transmit-direction notice for a rate that applies at superframe k (R309, R425, R426). -/
def txNotice (n rate k : Nat) (s : State) : State :=
  let seq := ((hostPort s n).txnSeq + 1) % 256
  let s1 := modHost n (fun h => { h with txnSeq := seq, txnValid := true, txnRate := rate, txnS := k,
                                         txnTime := sfStart s k }) s
  countDev 0x21 1 (wrP n F.HL_PORT_STATUS_NOTICE_PENDING 1 (wrP n F.HL_PORT_STATUS_TXN_SEQ seq s1))

/-- Issue a receive-direction notice (R312). -/
def rxNotice (n rate k : Nat) (s : State) : State :=
  countDev 0x21 1 (modHost n (fun h => { h with rxnSeq := (h.rxnSeq + 1) % 256, rxnValid := true, rxnRate := rate,
                                                rxnS := k }) s)

/-! ## The split state (R440, R441) -/

/-- The lane group is in service in both directions: step 5 of R434. -/
def laneActive (s : State) (g : Nat) : Bool := rdL s g F.HL_STATUS_STATE == 5

/-- Bring a port's split state up to date with its line and its lane group. -/
def updateSplit (n : Nat) (s : State) : State :=
  if linkUp s n && !laneActive s (laneOf n) then
    if rdP s n F.HL_PORT_STATUS_SPLIT = 1 then s
    else countDev 0x22 1 (evL (laneOf n) F.HL_EVENTS_SPLIT (wrP n F.HL_PORT_STATUS_SPLIT 1 s))
  else if rdP s n F.HL_PORT_STATUS_SPLIT = 0 then s
  else wrP n F.HL_PORT_STATUS_SPLIT 0 s

/-- Bring the split state of every port of a lane group up to date. -/
def updateSplits (g : Nat) (s : State) : State :=
  forL ((List.range 12).map (· + 12 * g)) (fun n s => if hasPort s n then updateSplit n s else s) s

/-! ## Up, degraded and down (R352-R357) -/

/-- A reason of DEGRADE_REASONS holds. -/
def anyReason (s : State) (n : Nat) : Bool := wordBits (rdReg s (portBase n + 0x70904)) 15 6 != 0

/-- The service rates of the port, transmit and receive, 7 where none applies. -/
def txRate (s : State) (n : Nat) : Nat := rdP s n F.LINK_STATE_TX_RATE
@[inherit_doc txRate]
def rxRate (s : State) (n : Nat) : Nat := rdP s n F.LINK_STATE_RX_RATE

/-- Make the state of a port in service follow its reasons: degraded while one holds and for the hold after it (R354). -/
def updateState (n : Nat) (s : State) : State :=
  if !linkUp s n then s
  else if anyReason s n then
    if rdP s n F.LINK_STATE_STATE = 1 then
      countDev 0x11 1 (evP n F.LINK_EVENTS_DEGRADED (wrP n F.LINK_STATE_STATE 2 s))
    else s
  else if rdP s n F.LINK_STATE_STATE = 2 ∧ (port s n).heldReasons = 0 then wrP n F.LINK_STATE_STATE 1 s
  else s

/-- Set or clear a reason of R354. The end of a reason other than LOSS starts the DEGRADE_HOLD. -/
def setReason (n : Nat) (f : Fld) (b : Bool) (s : State) : State :=
  if !linkUp s n then s
  else
    let ended := rdP s n f == 1 && !b && decide (f ≠ F.DEGRADE_LOSS)
    updateState n (whenB ended (modPort n (fun p => { p with heldReasons := s.tick + 1 })) (wrP n f (bit b) s))

/-- DEGRADE_BELOW in force, with its reserved code acting as the field gives (R358). -/
def belowRate (s : State) (n own : Nat) : Nat :=
  if rdP s n F.LINK_CTRL_DEGRADE_BELOW = 7 then own else rdP s n F.LINK_CTRL_DEGRADE_BELOW

/-- Reason RATE: a direction runs below the rate that DEGRADE_BELOW gives for it (R354), but not for the rate steps of a calibration
(R719). -/
def updateRateReason (n : Nat) (s : State) : State :=
  let p := port s n
  setReason n F.DEGRADE_RATE
    (p.st == .service && !calThree s n && (decide (txRate s n < belowRate s n p.txRate0) || decide (rxRate s n < belowRate s n p.rxRate0))) s

/-- A port comes up: not down, no cause, and the reasons that hold from the start (R36, R354). -/
def portUp (n : Nat) (s : State) : State :=
  let s1 := wrP n F.LINK_STATE_CAUSE 0 (wrP n F.LINK_STATE_STATE 1 s)
  let s2 := modPort n (fun p => { p with heldReasons := 0 }) s1
  let s3 := setReason n F.DEGRADE_UNCAL (rdFld s2 (4 * n) F.CAL_PORT_STALE == 1) s2
  let s4 := setReason n F.DEGRADE_SPARES (decide ((port s3 n).sparesOut ≠ 0)) s3
  updateSplit n s4

/-- The staged lots of the victim pairs that a test picks are freed; the retiring ones go back to live (R267, R279). -/
def dropStaged (p : Nat → Bool) : State → State :=
  mapLots (fun _ l => if p l.victim then (match l.st with
    | .staged => Lot.init
    | .retiring => { l with st := .live }
    | _ => l) else l)

/-- The next port waiting takes the measurement store (R286). -/
def nextJoin (c : Ch) : Ch :=
  match c.joinQueue with
  | n :: t => { c with join := some n, joinQueue := t }
  | [] => { c with join := none }

/-- A port gives up the measurement store, or its place in the queue for it. -/
def leaveStore (n : Nat) : State → State :=
  modCh (fun c =>
    let c1 := { c with joinQueue := c.joinQueue.filter (· != n) }
    if c1.join = some n then nextJoin c1 else c1)

/-- A join of port n ends: no victim pair waits for it any more. -/
def endJoin (n : Nat) (s : State) : State :=
  leaveStore n (modCh (fun c => { c with
    victims := mapVals Victim.init (fun _ x => { x with joins := x.joins.filter (· != n) }) c.victims }) s)

/-- A port leaves the Clearing House: the lots staged for its join and for its own pairs are freed, its lots as victim
or disturber are dormant, and so is it (R223, R287). -/
def chDormant (n : Nat) (s : State) : State :=
  let st := rdP s n F.CH_PORT_CH_STATE
  if st = 1 ∨ st = 2 then
    let mine := fun v => v / 4 == n || (victim s v).joins.contains n
    let s1 := endJoin n (dropStaged mine s)
    let s2 := modCh (fun c => { c with victims := mapVals Victim.init (fun v x => if mine v then { Victim.init with
      sweep := x.sweep, farBefore := x.farBefore, foreignOn := x.foreignOn } else x) c.victims }) s1
    let s3 := mapLots (fun _ l => if l.victim / 4 = n ∨ l.dist / 4 = n then { l with dormant := true } else l) s2
    wrP n F.CH_PORT_PRE_ACTIVE 0 (wrP n F.CH_PORT_FOREIGN 0 (wrP n F.CH_PORT_CH_STATE 3
      (modCh (fun c => { c with dormant := SMap.set c.dormant 0 n (s3.tick + 1), leaving := c.leaving.filter (· != n) }) s3)))
  else s

/-- A port is to leave the Clearing House: at the next superframe boundary, in stage 4 (R223), or at once where the grid
does not run. -/
def chLeave (n : Nat) (s : State) : State :=
  let st := rdP s n F.CH_PORT_CH_STATE
  if st = 1 ∨ st = 2 then
    if s.time.running then modCh (fun c => { c with leaving := c.leaving.filter (· != n) ++ [n] }) (leaveStore n s)
    else chDormant n s
  else s

/-- The link's own state when it stops: everything of the port but its negotiation record and what host software has
scheduled. -/
def PortState.stopped (p : PortState) (st : PortSt) : PortState :=
  { PortState.init with st := st, an := p.an, pendCfg := p.pendCfg, retrainAt := p.retrainAt, retrainOp := p.retrainOp,
                        latchLow := p.latchLow, subst := p.subst, sparesOut := p.sparesOut, peerVendor := p.peerVendor }

/-- SIR_TRAIN_STATUS of a port outside an attempt: PHASE and PROGRESS 0 (R229, R230). -/
def clearTrain (n : Nat) (s : State) : State := wrReg (portBase n + 0x70884) 0 s

/-- SIR_TRAIN_ELAPSED of an attempt in progress, in ms (R231). -/
def elapsedMs (s : State) (n : Nat) : Nat := min 65535 ((s.tick - (port s n).tr.startTick) / 100000)

/-- An attempt in progress ends: SIR_TRAIN_ELAPSED keeps the time that it took (R231). -/
def saveElapsed (n : Nat) (s : State) : State :=
  if (port s n).st = .training then wrP n F.SIR_TRAIN_ELAPSED (elapsedMs s n) s else s

/-- A port goes down with a cause of R352: it stops the line, leaves the Clearing House, and shows the cause. What
follows (a negotiation, or nothing) is the caller's. -/
def portDown (n cause : Nat) (s : State) : State :=
  let was := linkUp s n
  let s1 := chLeave n (saveElapsed n s)
  let s2 := modPort n (fun p => { p.stopped .idle with latchLow := if was then 7 else p.latchLow }) s1
  let s3 := wrReg (portBase n + 0x70904) 0 (wrReg (portBase n + 0x70900) (BitVec.ofNat 32 (cause * 1024 + 0x3F)) s2)
  let s4 := clearTrain n s3
  let s5 := modTt n (fun _ => TtPort.init) (wrReg (portBase n + 0x70990) 0 s4)
  let s6 := modHost n (fun h => { h with hold := 0, xoff := false }) (wrP n F.HL_PORT_STATUS_XOFF 0 s5)
  let s7 := updateSplit n s6
  whenB was (fun s => countDev 0x10 1 (evP n F.LINK_EVENTS_DOWN s)) s7

/-- A long operation that follows a port ends with a status, when the port has one (R546). -/
def endRetrain (n : Nat) (st : Status) (data : List Byte) (s : State) : State :=
  match (port s n).retrainOp with
  | some id => modPort n (fun p => { p with retrainOp := none }) (endOp id st data s)
  | none => s

/-! ## Starting a negotiation (R44, R51, R52) -/

/-- A seed from the random source, never 0 and never 0xF_FFFF (R52). -/
def drawSeed (s : State) : BitVec 20 := BitVec.ofNat 20 (1 + (Config.seed s.draws).toNat % (2 ^ 20 - 2))

/-- The mode that 1.0 forces, as R74 codes it: 1 for 10BASE-Te, 2 for 100BASE-TX, 0 for any other speed. -/
def forcedMode (s : State) (n : Nat) : Nat :=
  match rdP s n F.PMA_SPEED1, rdP s n F.PMA_SPEED0 with
  | 0, 0 => 1
  | 1, 0 => 2
  | _, _ => 0

/-- The notches of a port that are in force: (START, END) of each valid entry with END ≥ START (R120). -/
def notches (s : State) (n : Nat) : List (Nat × Nat) :=
  ((List.range 16).map (fun i => rdReg s (portBase n + 0x3100 + 4 * i))).filterMap
    (fun w => if wordBits w 31 31 = 1 ∧ wordBits w 27 16 ≤ wordBits w 11 0 then some (wordBits w 27 16, wordBits w 11 0) else none)

/-- A notch silences a tone (R121). -/
def notched (l : List (Nat × Nat)) (t : Nat) : Bool := l.any (fun e => decide (e.1 ≤ t + 4 ∧ t ≤ e.2 + 4))

/-- The number of handshake tones that a list of notches leaves (R189). -/
def handshakeTones (l : List (Nat × Nat)) : Nat := ((List.range 32).filter (fun m => !notched l (32 * m + 16))).length

/-- The port offers Siruigo in a negotiation that starts now (R46, R67, R190, R642). -/
def offersSir (s : State) (n : Nat) : Bool :=
  rdP s n F.SIR_AN_CTRL_SIR_EN == 1 && rdP s n F.SIR_AN_CTRL_VER_EN != 0 && !(port s n).an.sirWithheld
    && clkRun s 0x10 && decide (handshakeTones (notches s n) ≥ 24)

/-- The performance level of port group g in force for ceilings: the lower one while a POWER_LEVEL that lowers it runs (R661, R662, R672). -/
def levelNow (s : State) (g : Nat) : Nat :=
  let l := wordBits (rdReg s 0x20040) (2 * g + 1) (2 * g)
  match s.power.levelOp with
  | some o => if o.started && o.groups.any (fun x => x.1 == g) then min l o.level else l
  | none => l

/-- The multi-gigabit advertisement sampled: 10GBASE-T is not advertised above the level ceiling (R662), nor is a withheld
mode (R68). -/
def sampleMg (s : State) (n : Nat) : Word :=
  let w := rdReg s (portBase n + 0x60080)
  let a := (port s n).an
  let pl0 := levelNow s (groupOf n) == 0
  let w := if pl0 || a.w10 then setBits w 12 12 0 else w
  setBits (setBits w 8 8 (if a.w5 then 0 else wordBits w 8 8)) 7 7 (if a.w2g5 then 0 else wordBits w 7 7)

/-- Start a negotiation, or forced operation where 7.0.12 is 0: sample the controls (R51, R805), draw the seed (R52). A port
that may not use its line stays idle. -/
def startAn (n : Nat) (s : State) : State :=
  if !(enabled s n && lineFree s n) then modPort n (fun p => { p with st := .idle }) s
  else if rdP s n F.AN_ENABLE = 1 then
    let seed := drawSeed s
    let iv := Config.flpInterval s.draws
    let gig := rdReg s (portBase n + 0x70818)
    let s1 := wrP n F.AN_DONE 0 (wrP n F.AN_PAGE_RCVD 0 (wrP n F.AN_LP_ABLE 0 s))
    modPort n (fun p => { p with st := .negotiating, an := { p.an with
      ctrl := rdReg s (portBase n + 0x70800), gigCtrl := if p.an.gigWithheld then setBits gig 15 15 0 else gig,
      advBase := rdReg s (portBase n + 0x60040), advMg := sampleMg s n,
      eee := rdReg s (portBase n + 0x600F0), eee2 := rdReg s (portBase n + 0x600F8), offer := offersSir s n,
      seed := seed, peerSeed := 0, inProgress := [], lastPage := none, matches3 := 0, ghostRun := 0, ghostPort := none,
      flpInterval := iv } }) (draw s1)
  else if forcedMode s n = 0 then
    evP n F.AN_EVENTS_CONFIG_ERR (modPort n (fun p => { p with st := .idle }) s)
  else modPort n (fun p => { p with st := .stdTraining, an := { p.an with resolved := forcedMode s n } }) s

/-- Down with a cause, then a negotiation (R353). -/
def downRestart (n cause : Nat) (s : State) : State := startAn n (portDown n cause s)

/-- Restore the withheld modes and the Siruigo message, and clear the failure counts (R69). -/
def restoreModes (n : Nat) (s : State) : State :=
  wrP n F.SIR_AN_STATUS_FALLBACK_ACTIVE 0 (modPort n (fun p => { p with an := { p.an with
    failedSir := 0, failGig := 0, fail2g5 := 0, fail5 := 0, fail10 := 0, sirWithheld := false, gigWithheld := false,
    w2g5 := false, w5 := false, w10 := false, downshifted := false } }) s)

/-- Take the port out of service by command (cause 0x5) and negotiate again (R546, R597). -/
def retrainPort (n : Nat) (s : State) : State := downRestart n 5 s

/-! ## The Teller's own record of a port (R614) -/

/-- The record that the hardware state machine of port n gives: mode, state and rates, and the number of scheduled events pending. -/
def hardwareRec (s : State) (n : Nat) : TellerRec :=
  let p := port s n
  ⟨rdReg s (portBase n + 0x70804), rdReg s (portBase n + 0x70900), p.pendCfg.length + p.retrainAt.length + p.pendRate.length⟩

/-- The record at reset. -/
def TellerRec.init : TellerRec := ⟨regReset (portBase 0 + 0x70804), regReset (portBase 0 + 0x70900), 0⟩

/-- The Teller compares its record of port n with the hardware and replaces one that differs. Whether its own record had followed the
change is free; where it had not, the difference is counted and shown (R614). -/
def tellerCheck (n : Nat) (s : State) : State :=
  let r := hardwareRec s n
  if SMap.get s.teller TellerRec.init n = r then s
  else
    let s1 := draw { s with teller := SMap.set s.teller TellerRec.init n r }
    if Config.tellerFollows s.draws n then s1 else evG F.MGMT_EVENTS_MISMATCH (addCnt 0 F.TELLER_MISMATCH 1 s1)

end Sys2Proof.Machine
end

