-- ==== Sys2Proof/Machine/Stops.lean ====
section
/-!
DEFINITION. How blocks stop and start: the network time unit and its grid (R463), lane groups (R400, R434, R435), the
ports of a group, and the safe state's hold on them (R625-R629). The chapters on clocks, power and the Closing Audit
share these.
-/
namespace Sys2Proof.Machine

/-! ## The network time unit and the grid -/

/-- The rate that the grid follows: FREQ held to ±50 ppm, in 2^-16 ppm (R465). -/
def clampFreq (f : Int) : Int := max (-3276800) (min 3276800 f)

/-- The unit starts: it clears ANCHORED and DISCIPLINED, and places the boundary of superframe 0 now (R463, R629,
R641, R691). -/
def startTime (s : State) : State :=
  let clamp := bit (decide (s.time.freq ≠ clampFreq s.time.freq))
  wrG F.TIME_STATUS_GRID_CLAMP clamp (wrG F.TIME_STATUS_DISCIPLINED 0 (wrG F.TIME_STATUS_ANCHORED 0
    (modTime (fun t => { t with s := 0, sTime := t.t / nsUnit, sFrac := t.t % nsUnit / 2 ^ 32, gridFreq := clampFreq t.freq,
                                running := true }) s)))

/-- The clock and the grid stop, each at the value it holds. -/
def stopTime : State → State := modTime (fun t => { t with running := false })

/-! ## Lane groups -/

/-- The twelve ports of lane group g. -/
def lanePorts (s : State) (g : Nat) : List Nat := ((List.range 12).map (· + 12 * g)).filter (hasPort s)

/-- STATE of a lane group (R450). -/
def laneStep (s : State) (g : Nat) : Nat := rdL s g F.HL_STATUS_STATE

/-- The completion data of a group in LANE_TRAIN: the group, its STATE, the version, the CTLE codes of lanes 7..0 and the
fallback entry used (R446). -/
def laneResult (s : State) (g : Nat) : List Byte :=
  natBE 1 g ++ natBE 1 (laneStep s g) ++ natBE 1 (rdL s g F.HL_STATUS_VERSION) ++ natBE 2 (rdL s g F.HL_CTLE_HI)
    ++ natBE 2 (rdL s g F.HL_CTLE_LO) ++ natBE 1 ((lane s g).entry.getD 0xFF)

/-- The groups that a LANE_TRAIN still names. -/
def trainGroups (s : State) (id : Nat) : List Nat := (allLanes s).filter (fun g => (lane s g).trainOp == some id)

/-- The position of a LANE_TRAIN: the lowest step that any named group has reached (R446). -/
def laneProgress (id : Nat) (s : State) : State :=
  let k := (trainGroups s id).foldl (fun a g => min a (max 1 (min 5 (if laneStep s g = 7 then 2 else laneStep s g)))) 5
  opProgress id k 5 ((k - 1) * 20) s

/-- End a LANE_TRAIN whose every named group has finished (R446). -/
def laneTrainEnd (id : Nat) (s : State) : State :=
  let gs := trainGroups s id
  if gs.all (fun g => (lane s g).trainRes.isSome) then
    let data := gs.flatMap (fun g => ((lane s g).trainRes).getD [])
    let st : Status := if gs.all (fun g => laneStep s g == 5) then .ok
      else if gs.any (fun g => (lane s g).versionFail) then .version else .partialDone
    endOp id st data (forL gs (fun g => modLane g (fun l => { l with trainOp := none, trainRes := none })) s)
  else s

/-- A group of a LANE_TRAIN finishes: its ITEM entry and its result (R446, R538). -/
def laneFinish (g : Nat) (s : State) : State :=
  match (lane s g).trainOp with
  | some id =>
    if (lane s g).trainRes.isSome then s
    else
      let r := laneResult s g
      laneTrainEnd id (modLane g (fun l => { l with trainRes := some r }) (opItem id 0 g (laneStep s g) 0 s))
  | none => s

/-- The frames that wait for a lane group's transmitter are discarded and counted (R440). -/
def laneFlush (g : Nat) (s : State) : State :=
  modLane g (fun l => { l with htxQueue := [], htxBytes := [],
                               elastic := 0 })
    (forL (lane s g).htxQueue (fun r s => addCnt (portBase r.port) F.HL_HTX_DROP 1 s) s)

/-- Set a lane group's STATE outside service: no version, no lock, and its ports follow into the split state. -/
def laneSet (g st : Nat) (s : State) : State :=
  let s1 := laneFlush g s
  let s2 := wrL g F.HL_STATUS_LOCKED 0 (wrL g F.HL_STATUS_TABLE_IN_USE 0 (wrL g F.HL_STATUS_PEER_NOTICE 0
    (wrL g F.HL_STATUS_VERSION 0 (wrL g F.HL_STATUS_STATE st s1))))
  updateSplits g (modLane g (fun l => { l with clockSeen := false, agree := 0, sentStage := 0, noticeCap := false,
                                               versionFail := false, entry := none, stripe := 0 }) s2)

/-- A lane group stops: electrical idle, HRX ignored (R400). A LANE_TRAIN ends for it, and a LANE_TEST (R449). -/
def laneOff (g : Nat) (s : State) : State := laneFinish g (laneSet g 0 s)

/-- A buffer of the lane group is unrepairable: its ENABLE is held at 0 (R749). -/
def laneHeld (s : State) (g : Nat) : Bool := s.audit.unusable.any (fun i => Config.instLane i == some g)

/-- A lane group may run: present, enabled, clocked, not under the audit, its pads not held (R693) and its rail up (R696). -/
def laneFree (s : State) (g : Nat) : Bool :=
  hasLane s g && rdL s g F.HL_CTRL_ENABLE == 1 && !laneHeld s g && clkRun s (12 + g) && !s.audit.held.contains (12 + g)
    && s.power.heldPads / 8 % 2 == 0 && !s.power.lowRails.contains .lane && s.clk.safeNow.scanBoundary.isNone

/-- CTLE_MODE in force: a LANE_TRAIN's own mode, else the field, whose reserved code acts as 0b00 (R436, R446, R451). -/
def ctleMode (s : State) (g : Nat) : Nat :=
  if (lane s g).tableOnly then 1 else if (lane s g).adaptOnly then 2
  else if rdL s g F.HL_CTRL_CTLE_MODE = 3 then 0 else rdL s g F.HL_CTRL_CTLE_MODE

/-- COUNT in force: more than 8 entries act as the reset value 0 (R451). -/
def fbCount (s : State) (g : Nat) : Nat := if rdL s g F.HL_FB_CTRL_COUNT > 8 then 0 else rdL s g F.HL_FB_CTRL_COUNT

/-- Enter step 2: the fallback table is read, and an attempt that uses an entry says which (R436-R438). -/
def laneStep2 (g : Nat) (s : State) : State :=
  let m := ctleMode s g
  let n := (lane s g).nextEntry
  let use := (m == 1 && decide (n < fbCount s g)) || (m == 0 && decide (0 < n ∧ n ≤ fbCount s g))
  let k := if m = 1 then n else n - 1
  let s1 := wrL g F.HL_STATUS_STATE 2 s
  if use then
    wrL g F.HL_FB_CTRL_LAST k (evL g F.HL_EVENTS_TABLE_USED (wrL g F.HL_STATUS_TABLE_IN_USE 1
      (modLane g (fun l => { l with entry := some k }) s1)))
  else modLane g (fun l => { l with entry := none }) s1

/-- A lane group starts an attempt at step 1 or 2 (R434). -/
def laneGo (g step : Nat) (s : State) : State :=
  if laneFree s g then
    let s1 := laneSet g step s
    if step = 2 then laneStep2 g s1 else s1
  else laneOff g s

/-- A lane group trains from step 1 where AUTO_TRAIN says so (R450). -/
def laneAuto (g : Nat) (s : State) : State :=
  if laneFree s g && rdL s g F.HL_CTRL_AUTO_TRAIN == 1 then laneGo g 1 s else s

/-! ## Ports of a group -/

/-- A port that may use its line, is enabled and idle begins an attempt: it is down, not yet trained, and negotiates (R352, R353). -/
def wakePort (n : Nat) (s : State) : State :=
  if lineFree s n && enabled s n && (port s n).st == .idle then startAn n (wrP n F.LINK_STATE_CAUSE 6 s) else s

/-- Ports that a test picks begin an attempt. -/
def wakePorts (p : Nat → Bool) (s : State) : State := forL ((allPorts s).filter p) wakePort s

/-- Every running port that a test picks goes down with a cause. -/
def portsDown (p : Nat → Bool) (cause : Nat) (s : State) : State :=
  forL ((allPorts s).filter p) (fun n s => if (port s n).st = .idle then s else portDown n cause s) s

/-! ## Clocks that start and stop -/

/-- What a block does when its clock starts. -/
def blockStart (b : Nat) (s : State) : State :=
  if b < 6 then wakePorts (fun n => groupOf n == b) s
  else if 12 ≤ b ∧ b < 16 then laneAuto (b - 12) s
  else if b = 16 then startTime s
  else s

/-- What a block does when its clock stops; what its ports do is the caller's. -/
def blockStop (b : Nat) (s : State) : State :=
  if 12 ≤ b ∧ b < 16 then laneOff (b - 12) s
  else if b = 16 then stopTime s
  else s

/-- Start and stop what a change of clocks or holds starts and stops: the time unit first (R656 step 11). -/
def settle (before : State) (s : State) : State :=
  forL (16 :: [8, 17, 18, 12, 13, 14, 15, 0, 1, 2, 3, 4, 5]) (fun b s =>
    if clkRun before b && !clkRun s b then blockStop b s
    else if !clkRun before b && clkRun s b then blockStart b s else s) s

/-! ## The Closing Audit (R734-R749): what its own commands, service requests and safe states share -/

/-- The block that a memory instance belongs to: a per-port store to the port's group, a buffer to its lane group, every other one to the
Clearing House (R734, R749). -/
def instBlock (i : Nat) : Nat :=
  match Config.instPort i, Config.instLane i with
  | some n, _ => groupOf n
  | none, some g => 12 + g
  | none, none => 8

/-- AUDIT_STATUS follows the audit (R751). -/
def auditShow (s : State) : State :=
  let a := s.audit
  wrG F.AUDIT_STATUS_PCT (if a.planned = 0 then 0 else a.doneCount * 100 / a.planned)
    (wrG F.AUDIT_STATUS_DONE a.doneCount (wrG F.AUDIT_STATUS_PLAN a.plan (wrG F.AUDIT_STATUS_STATE a.state s)))

/-- The block that runs now: the first that has not ended. -/
def auditNow (s : State) : Option AuditBlock := s.audit.blocks.find? (fun x => !x.ended)

/-- Change the record of a block. -/
def modBlock (b : Nat) (f : AuditBlock → AuditBlock) : State → State :=
  modAudit (fun a => { a with blocks := a.blocks.map (fun x => if x.block = b then f x else x) })

/-- The Bank holds no lot (R738). -/
def bankEmpty : State → State := modCh (fun c => { c with lots := [], victims := [] })

/-- The memories of a tested block are left empty: the Bank's lots, the ports' loading stores (R738). -/
def auditWipe (b : Nat) (s : State) : State :=
  if b = 8 then bankEmpty s
  else if b < 6 then clearMem (fun a => (List.range 8).any (fun i =>
    decide (portBase (8 * b + i) + 0x10000 ≤ a ∧ a < portBase (8 * b + i) + 0x20000))) s
  else s

/-- The hold of a block ends: its soft repairs are applied, its enabled ports negotiate, its lane group trains under AUTO_TRAIN
(R741). -/
def auditFree (b : Nat) (s : State) : State :=
  if s.audit.held.contains b then
    let s1 := modAudit (fun a =>
      let new := a.found.filter (fun r => instBlock r.1 == b && !a.repairsInForce.contains r)
      { a with held := a.held.filter (· != b), repairsInForce := a.repairsInForce ++ new }) s
    if b < 6 then wakePorts (fun n => groupOf n == b) s1 else if 12 ≤ b then laneAuto (b - 12) s1 else s1
  else s

/-- The hold has ended for every block: the audit that was held has ended. -/
def auditOver (s : State) : State :=
  auditShow (if s.audit.state = 2 ∧ s.audit.held = [] then modAudit (fun a => { a with state := 3 }) s else s)

/-- Record a slice's result: its Journal entry, its byte of AUDIT_RESULT and its flag (R742, R750, R751). -/
def sliceResult (i r : Nat) (s : State) : State :=
  let s1 := journalEvent 0 0x31 i r (modAudit (fun a => { a with results := SMap.set a.results 0xFF i r }) s)
  match r with
  | 1 => evG F.AUDIT_EVENTS_FAIL s1
  | 2 => evG F.AUDIT_EVENTS_INCOMPLETE s1
  | _ => s1

/-- A block's remaining slices and steps are abandoned, recorded CUT, and the block comes up (R745). -/
def auditCut (b : Nat) (s : State) : State :=
  let left := ((s.audit.blocks.find? (fun x => x.block == b)).map (·.slices)).getD []
  let s1 := forL left (fun i => sliceResult i 3) s
  let s2 := modBlock b (fun x => { x with slices := [], steps := 0, ended := true }) s1
  let s3 := modAudit (fun a => { a with cutAsked := a.cutAsked.filter (· != b) }) s2
  auditFree b (evG F.AUDIT_EVENTS_CUT (if b = 8 then bankEmpty s3 else s3))

/-- A service request for one block: at once for a block that has ended or not begun, after the current slice or step for the block
that runs (R745). -/
def auditAsk (b : Nat) (s : State) : State :=
  match s.audit.blocks.find? (fun x => x.block == b) with
  | some x =>
    if !s.audit.held.contains b then s
    else if x.ended then auditFree b s
    else if (auditNow s).map (·.block) = some b then
      modAudit (fun a => { a with cutAsked := b :: a.cutAsked.filter (· != b) }) s
    else auditCut b s
  | none => s

/-- A service request: one for a port group counts for the Clearing House too (R744). -/
def auditRequest (b : Nat) (s : State) : State :=
  if s.audit.held.contains b then auditOver (if b < 6 then auditAsk 8 (auditAsk b s) else auditAsk b s) else s

/-- The audit ends ABORTED by a reset or a safe state; slices without an entry stay NOT_RUN (R743, R747). A reset also ends a hold and a
START that waits; a safe state does not (R741). -/
def auditAbort (reset : Bool) (s : State) : State :=
  let s0 := if reset then modAudit (fun a => { a with due := none }) s else s
  if s0.audit.state = 1 then
    let bank := s0.audit.blocks.any (fun x => x.block == 8)
    let s1 := forL s0.audit.held auditFree s0
    let s2 := modAudit (fun a => { a with state := 3, result := Status.aborted.code, blocks := [], cutAsked := [], paused := false,
                                          repeating := false }) s1
    auditShow (if bank then bankEmpty s2 else s2)
  else if reset then auditOver (forL s0.audit.held auditFree s0)
  else s0

/-! ## The safe state -/

/-- GPIO_CTRL as the pins show it: as a hold keeps it, else the register (R625, R692). -/
def gpioNow (s : State) : Word := s.clk.gpioLatch.getD (rdReg s 0x100C0)

/-- The management cores write the EVENT entry of a safe state, at once where they run, else when they start (R629,
R631). -/
def safeEntry (s : State) : State :=
  if coresRun s then journalEvent 0 0x10 (wordBits (rdReg s 0x20004) 31 24) (wordBits (rdReg s 0x20004) 23 16) s
  else modClk (fun c => { c with lossPending := true }) s

/-- Enter a safe state by a change that holds outputs: counted and recorded where it newly holds one; the audit ends. -/
def safeEnter (f : State → State) (s : State) : State :=
  let s1 := settle s (f s)
  if (wordBits (rdReg s1 0x20008) 31 24 != wordBits (rdReg s 0x20008) 31 24) || (s1.ch.held && !s.ch.held) then
    auditAbort false (safeEntry (countDev 0x33 1 s1))
  else s1

/-- Hold every output (R625). -/
def holdAll (s : State) : State :=
  wrG F.SAFE_STATUS_WAITING 0 (wrG F.SAFE_STATUS_PG_HELD 0x3F (wrG F.SAFE_STATUS_LANES_HELD 1 (wrG F.SAFE_STATUS_ACTIVE 1 s)))

/-- Every condition that holds an output has cleared, and every source that the outputs need is ready (R628). -/
def safeClear (s : State) : Bool :=
  let all := rdG s F.SAFE_STATUS_ACTIVE == 1
  let lanes := rdG s F.SAFE_STATUS_LANES_HELD == 1
  !s.sec.scanOpen && (!all || (!s.clk.safeNow.start && !s.clk.safeNow.refclk && rdG s F.CLK_READY_REFCLK_VALID == 1
      && rdG s F.CLK_READY_PLL_LINE == 1))
    && (!lanes || rdG s F.CLK_READY_PLL_LANE == 1)
    && (allGroups s).all (fun g => !rdBit s 0 F.SAFE_STATUS_PG_HELD g || dspReady s g)
    && (!s.ch.held || rdG s F.CLK_READY_PLL_CH == 1)

/-- Release the outputs (R628, R629): the clock resumes and places the grid, ports and lane groups start again. -/
def safeDrop (s : State) : State :=
  let s1 := modCh (fun c => { c with held := false }) (wrG F.SAFE_STATUS_WAITING 0 (wrG F.SAFE_STATUS_PG_HELD 0
    (wrG F.SAFE_STATUS_LANES_HELD 0 (wrG F.SAFE_STATUS_ACTIVE 0 s))))
  let s3 := settle s s1
  journalEvent 0 0x11 (wordBits (rdReg s3 0x20004) 31 24) (wordBits (rdReg s3 0x20004) 23 16) s3

end Sys2Proof.Machine
end

