-- ==== Sys2Proof/Machine/Operands.lean ====
section
/-!
DEFINITION. Command packets: how their bytes are laid out (R509, R510), the fields of their parameters, and the plan that
an opcode makes for a command: its status, its results and its effect (R517-R519, R807).
-/
namespace Sys2Proof.Machine

/-! ## Packets -/

/-- The bytes of a command packet before its CRC, with the FLAGS given (R509). -/
def packetBody (c : Packet) (flags : Byte) : List Byte :=
  [c.opcode, c.proto] ++ natBE 2 c.seq.toNat ++ natBE 4 c.session.toNat ++ natBE 2 c.params.length ++ [flags, c.rsvd]
    ++ c.params

/-- The whole packet. -/
def packetBytes (c : Packet) : List Byte := packetBody c c.flags ++ natBE 4 c.crc.toNat

/-- Read a packet: the bytes after the transaction code must number LENGTH + 16 (R511). -/
def parsePacket (b : List Byte) : Option Packet :=
  if b.length < 16 then none
  else
    let len := beAt b 8 2
    if b.length = len + 16 then
      some { opcode := b.getD 0 0, proto := b.getD 1 0, seq := BitVec.ofNat 16 (beAt b 2 2),
             session := BitVec.ofNat 32 (beAt b 4 4), flags := b.getD 10 0, rsvd := b.getD 11 0,
             params := slice b 12 len, crc := BitVec.ofNat 32 (beAt b (12 + len) 4) }
    else none

/-- The CRC of a packet is right (R509). -/
def crcOk (c : Packet) : Bool := crc32c (packetBody c c.flags) == c.crc.toNat

/-- The CRC that identifies a command for R512: that of the packet with RETRY taken as 0, since a resend changes only
RETRY and is still a duplicate (R512, R513; assumption 12). -/
def retryFreeCrc (c : Packet) : BitVec 32 := BitVec.ofNat 32 (crc32c (packetBody c (c.flags &&& 0xFE)))

/-- The bytes of a reply packet (R510). -/
def replyBytes (c : Packet) (st : Status) (retry : Nat) (results : List Byte) : List Byte :=
  let b := [c.opcode] ++ natBE 1 st.code ++ natBE 2 c.seq.toNat ++ natBE 4 c.session.toNat ++ natBE 2 results.length
    ++ natBE 2 retry ++ results
  b ++ natBE 4 (crc32c b)

/-- Reserved bits of a command's header: FLAGS bits 7..1 and byte 11 (R807). -/
def headerOk (c : Packet) : Bool := c.flags.toNat < 2 && c.rsvd == 0

/-- LENGTH of a command. -/
def plen (c : Packet) : Nat := c.params.length

/-- Bytes i .. i + n - 1 of the parameters as a number. -/
def pf (c : Packet) (i n : Nat) : Nat := beAt c.params i n

/-- Byte i of the parameters. -/
def pb (c : Packet) (i : Nat) : Nat := byteAt c.params i

/-- Parameter bytes i .. i + n - 1 are all 0. -/
def zeros (c : Packet) (i n : Nat) : Bool := (slice c.params i n).all (· == 0)

/-- A T_NS field with its reserved bits 31..30 zero and its nanoseconds below 1 s. -/
def nsOk (v : Nat) : Bool := v < 1000000000

/-! ## Plans -/

/-- What an opcode decides for a command: the status, the results, RETRY_AFTER, whether the command reached execution
(check 13 of R517), and the effect of carrying it out. -/
structure Plan where
  status : Status
  results : List Byte
  retry : Nat
  executed : Bool
  opId : Nat
  effect : State → State

/-- A command that fails a check: it changes nothing (R517). -/
def Plan.refuse (st : Status) (retry : Nat) : Plan := ⟨st, [], retry, false, 0, id⟩

/-- A command that fails a check and still gives results. -/
def Plan.refuseWith (st : Status) (results : List Byte) : Plan := ⟨st, results, 0, false, 0, id⟩

/-- A command that executes with a status. -/
def Plan.done (st : Status) (results : List Byte) (effect : State → State) : Plan := ⟨st, results, 0, true, 0, effect⟩

/-- A command that executes and whose refusal names a RETRY_AFTER. -/
def Plan.retryIn (st : Status) (retry : Nat) : Plan := ⟨st, [], retry, true, 0, id⟩

/-- RETRY_AFTER with BUSY (R510). -/
def busyRetry (s : State) : Nat := (Config.retryBusy s.draws).toNat

/-- BUSY, with the free RETRY_AFTER of R510. -/
def Plan.busy (s : State) : Plan := ⟨.busy, [], busyRetry s, false, 0, draw⟩

/-- BUSY_SELFTEST for block b of the Closing Audit: RETRY_AFTER is 1..20 ms (R510, R518), and the command is a service request (R744). -/
def Plan.selftest (b : Nat) (s : State) : Plan :=
  ⟨.busySelftest, [], 1 + Config.retrySelftest s.draws % 20, false, 0, fun s => auditRequest b (draw s)⟩

/-- A long command: ACCEPTED with the operation ID, the estimated duration and n (R526), or BUSY while 16 run (R528,
with RETRY_AFTER 0 under R510). `effect` runs with the operation already started; it is given the ID. -/
def Plan.long (s : State) (opcode : Nat) (role : Option Role) (n : Nat) (effect : Nat → State → State) : Plan :=
  if (runningOps s).length ≥ 16 then Plan.refuse .busy 0
  else
    let id := s.nextOp
    ⟨.accepted, natBE 4 id ++ natBE 4 (Config.estimate opcode s.draws).toNat ++ natBE 1 n, 0, true, id,
      fun s => effect id (startOp opcode role n (draw s))⟩

/-- The first of the checks that applies. -/
def firstOf (l : List (Option Plan)) (d : Plan) : Plan := (l.findSome? (fun x => x)).getD d

/-- A check with its outcome. -/
def chk (b : Bool) (p : Plan) : Option Plan := if b then some p else none

/-- Malformed, reserved or out of range (check 7). -/
def bad (b : Bool) : Option Plan := chk b (Plan.refuse .badParam 0)

/-- The block's clock is off (check 8). -/
def gated (s : State) (b : Nat) : Option Plan := chk (!clkRun s b) (Plan.refuse .gated 0)

/-- The port group or lane group, by its block code, is in the Closing Audit (check 9). -/
def inAudit (s : State) (g : Nat) : Option Plan := chk (s.audit.held.contains g) (Plan.selftest g s)

/-- A conflicting operation holds the target (check 10). -/
def busyIf (s : State) (b : Bool) : Option Plan := chk b (Plan.busy s)

/-- An opcode: its code, its least role under firmware and in the boot ROM (none where the ROM does not offer it), whether
it is a change (R519), what further area needs a higher role (check 6), and its checks 7..13. -/
structure Opcode where
  code : Nat
  least : Option Role
  rom : Bool
  change : Bool
  denied : Packet → Option Role → State → Bool
  plan : Packet → Option Role → State → Plan

/-- Roles in their order (R553): 0 none, 1 operator, 2 installer, 3 maker. -/
def atLeast (r : Option Role) (least : Option Role) : Bool := decide (roleCode least ≤ roleCode r)

/-- No area needs a higher role. -/
def noArea (_ : Packet) (_ : Option Role) (_ : State) : Bool := false

end Sys2Proof.Machine
end

