-- ==== Sys2Proof/Machine/Teller.lean ====
section
/-!
DEFINITION. The Teller: transactions on the Command Port (R504-R511), duplicates (R512), the order of checks (R517), the
reply (R507, R510), sessions (R553-R564) and leaving Doze (R684).
-/
namespace Sys2Proof.Machine

/-! ## Sessions -/

/-- The open session with a handle. -/
def findSession (s : State) (h : BitVec 32) : Option Session := s.sec.sessions.find? (fun x => x.handle == h)

/-- Change the open session with a handle. -/
def modSession (h : BitVec 32) (f : Session → Session) : State → State :=
  modSec (fun c => { c with sessions := c.sessions.map (fun x => if x.handle = h then f x else x) })

/-- An END entry for a session of a role above operator (R565, R567). -/
def endEntry (h : BitVec 32) (r : Role) (cause : Nat) : LedgerEntry :=
  { ledgerEntry 4 (roleCode (some r)) (natBE 1 cause ++ [0, 0, 0]) with session := h }

/-- Write the END entry of an installer or maker session. -/
def ledgerEnd (h : BitVec 32) (r : Role) (cause : Nat) (s : State) : State :=
  if r = .operator then s else ledger (endEntry h r cause) s

/-- End one session with a cause of R563, numbered from 1. -/
def endSession (h : BitVec 32) (cause : Nat) (s : State) : State :=
  match findSession s h with
  | some x => ledgerEnd h x.role cause (modSec (fun c => { c with sessions := c.sessions.filter (fun y => y.handle != h) }) s)
  | none => s

/-- End every session with a cause, in the order in which they were opened; the provisional handle goes too (R558). -/
def endSessions (cause : Nat) (s : State) : State :=
  modSec (fun c => { c with prov := none }) (forL (s.sec.sessions.map (·.handle)) (fun h s => endSession h cause s) s)

/-- A reset or an image start ends every session: their handles are kept for the END entries of R809. -/
def dropSessions : State → State :=
  modSec (fun c =>
    let e := (c.sessions.filter (fun x => x.role != .operator)).map (fun x => (x.handle, x.role))
    { c with prov := none, sessions := [], ended := e })

/-- Write the END entries that R809 asks for, with a cause. -/
def ledgerEnds (cause : Nat) (s : State) : State :=
  modSec (fun c => { c with ended := [] }) (forL s.sec.ended (fun e s => ledgerEnd e.1 e.2 cause s) s)

/-- The guard of a role (R562). -/
def guardOf (s : State) : Role → RoleGuard
  | .operator => s.sec.oper | .installer => s.sec.inst | .maker => s.sec.maker

/-- Change the guard of a role. -/
def modGuard (r : Role) (f : RoleGuard → RoleGuard) : State → State :=
  modSec (fun c => match r with
    | .operator => { c with oper := f c.oper }
    | .installer => { c with inst := f c.inst }
    | .maker => { c with maker := f c.maker })

/-! ## Doze -/

/-- A wake from Doze: the device leaves it for Run (R684); during the entry the wake is latched and acted on at its end (R682). -/
def wakeDoze (s : State) : State :=
  if rdG s F.PWR_STATUS_STATE = 2 then
    countDev 0x35 1 (evG F.PWR_EVENTS_WAKE (wrG F.WAKE_STATUS_DURING_ENTRY 0 (wrG F.WAKE_STATUS_SOURCE 4
      (wrG F.PWR_STATUS_STATE 0 (modPower (fun p => { p with sleep := none }) s)))))
  else if rdG s F.PWR_STATUS_STATE = 1 then
    wrG F.PWR_STATUS_WAKE_PENDING 1 (modPower (fun p => { p with wakeLatch := some (4, 0, 0) }) s)
  else s

/-! ## Receiving a packet -/

/-- The opcodes of R520. -/
def assignedOpcodes : List Nat :=
  [0x01, 0x02, 0x03, 0x10, 0x11, 0x12, 0x20, 0x21, 0x22, 0x23, 0x30, 0x31, 0x32, 0x40, 0x41, 0x50, 0x51, 0x52, 0x53, 0x58,
   0x59, 0x60, 0x61, 0x62, 0x70, 0x71, 0x72, 0x73] ++
  [0x80, 0x81, 0x90, 0x91, 0xA0, 0xA1, 0xB0, 0xB1, 0xC0, 0xC1, 0xD0, 0xE0, 0xF0]

/-- A packet or transaction is discarded: DROPPED (R504, R506, R511). -/
def setDropped : State → State := modCp (fun c => { c with dropped := true })

/-- A packet is discarded under R506. -/
def discardPacket (s : State) : State := countDev 0x29 1 (setDropped s)

/-- A packet is discarded under R511, which CP_DROPPED counts. -/
def discardBad (s : State) : State := addCnt 0 F.CP_DROPPED 1 (discardPacket s)

/-- The command stored for a session, or for session 0 (R512). -/
def storedFor (s : State) (h : BitVec 32) : Option Stored :=
  if h = 0 then s.cp.stored0 else (findSession s h).bind (·.stored)

/-- Hold a reply (R507). -/
def holdReply (r : List Byte) : State → State := modCp (fun c => { c with reply := some r, replyRead := 0, current := none })

/-- Store a command with its reply for its session, or for session 0; a command whose SESSION is not open is stored
nowhere (R512). -/
def storeReply (c : Packet) (r : List Byte) (s : State) : State :=
  let x : Stored := ⟨c.seq, retryFreeCrc c, r⟩
  if c.session = 0 then modCp (fun p => { p with stored0 := some x }) s
  else modSession c.session (fun y => { y with stored := some x }) s

/-- Complete a command with a status, results and RETRY_AFTER: the reply is held and stored (R507, R510, R512). -/
def complete (c : Packet) (st : Status) (retry : Nat) (results : List Byte) (s : State) : State :=
  let r := replyBytes c st retry results
  holdReply r (storeReply c r s)

/-- Check 2 (R512) and check 3 of R517 on a packet that passed check 1; any other command is new and is processed. -/
def judge (c : Packet) (s : State) : State :=
  match storedFor s c.session with
  | some x =>
    if x.seq = c.seq then
      if x.crc = retryFreeCrc c then addCnt 0 F.CP_RETRIES 1 (holdReply x.reply s)
      else holdReply (replyBytes c .badParam 0 []) s
    else if assignedOpcodes.contains c.opcode.toNat then modCp (fun p => { p with current := some c }) s
    else complete c .badParam 0 [] s
  | none =>
    if assignedOpcodes.contains c.opcode.toNat then modCp (fun p => { p with current := some c }) s
    else complete c .badParam 0 [] s

/-- A WRITE transaction brings bytes after its code (R504): the held reply goes (R507), and the packet is discarded, is a
duplicate, or becomes the command that is processed (R506, R511, R512). -/
def arrive (b : List Byte) (s : State) : State :=
  let s1 := modCp (fun p => { p with reply := none, replyRead := 0 }) s
  if !coresRun s1 || s1.cp.current.isSome then discardPacket s1
  else match parsePacket b with
    | some c => if crcOk c && decide (plen c ≤ 4352) then judge c s1 else discardBad s1
    | none => discardBad s1

/-! ## Executing a command -/

/-- The role that a command runs under: none for session 0. -/
def roleOf (s : State) (c : Packet) : Option Role := (findSession s c.session).map (·.role)

/-- SESSION names no open session (check 6). -/
def unknownSession (s : State) (c : Packet) : Bool := decide (c.session ≠ 0) && (findSession s c.session).isNone

/-- A keyless maker session (R560). -/
def keylessMaker (s : State) (c : Packet) : Bool :=
  match findSession s c.session with
  | some x => x.keyless && x.role == .maker
  | none => false

/-- TARGET of a Ledger entry (R567): the port for port opcodes, ADDRESS for WRITE_REG, the field number for
VAULT_PROGRAM. -/
def ledgerTarget (c : Packet) : Nat :=
  let op := c.opcode.toNat
  if [0x20, 0x21, 0x22, 0x23].contains op then pb c 0
  else if op = 0x11 then pf c 0 4
  else if op = 0xF0 then pb c 0
  else 0xFFFFFFFF

/-- The parameters as the DIGEST takes them: the DATA of a role key count as zero (R567). -/
def digestParams (c : Packet) : List Byte :=
  if c.opcode = 0xF0 ∧ 0x10 ≤ pb c 0 ∧ pb c 0 ≤ 0x15 then
    c.params.take 24 ++ List.replicate (plen c - 24) 0
  else c.params

/-- The COMMAND or LOCKED entry of a command (R565, R567). -/
def commandEntry (kind : Nat) (role : Option Role) (c : Packet) (p : Plan) : LedgerEntry :=
  let e := ledgerEntry kind (roleCode role) (if p.status = .accepted then natBE 4 p.opId else [0, 0, 0, 0])
  let e := { e with session := c.session, seq := c.seq.toNat, opcode := c.opcode.toNat, status := p.status.code }
  { e with paramLen := plen c, target := ledgerTarget c, digest := (sha256 (digestParams c)).take 24 }

/-- The role that a filter of R755 sees, and the address that READ_REG, WRITE_REG and READ_BLOCK name (R757). -/
def commandAttr (role : Option Role) (c : Packet) : PmAttr :=
  let a := if [0x10, 0x11, 0x12].contains c.opcode.toNat then some (pf c 0 4) else none
  { PmAttr.none with role := some (roleCode role), path := some 0, addr := a }

/-- The checks 4..12 of R517 before an opcode's own, in order; the opcode's plan decides from check 7 on. -/
def planOf (o : Opcode) (c : Packet) (s : State) : Plan :=
  let role := roleOf s c
  let least := if s.stage = .rom then none else o.least
  let p := firstOf
    [ chk (decide (o.code ≠ 0x01) && (match s.cp.helloVersion with | some v => v != c.proto.toNat | none => true))
        (Plan.refuse .version 0),
      chk (s.stage == .rom && !o.rom) (Plan.refuse .notReady 0),
      chk (unknownSession s c || !atLeast role least || (o.change && role == some .operator)
            || (keylessMaker s c && o.change && o.code != 0x11 && o.code != 0xF0) || o.denied c role s)
        (Plan.refuse .denied 0),
      bad (!headerOk c) ]
    (o.plan c role s)
  if p.executed && o.change && atLeast role (some .installer) && ledgerFull s then Plan.refuse .ledgerFull 0 else p

/-- The port that a command names (R614). -/
def namedPort (c : Packet) : Option Nat :=
  let op := c.opcode.toNat
  if [0x20, 0x21, 0x22, 0x23].contains op then some (pb c 0)
  else if op = 0x40 then some (pb c 1)
  else if op = 0x62 then some (pb c 3)
  else if op = 0x50 ∧ pb c 0 = 1 then some (pb c 1)
  else none

/-- An executed command that names a port has the Teller's record of it compared (R614). -/
def namedCheck (c : Packet) (s : State) : State :=
  match namedPort c with
  | some n => if hasPort s n then tellerCheck n s else s
  | none => s

/-- What precedes a command's effect: its session is alive (R563), a change wakes the device from Doze (R684), the Ledger takes its entry
(R565, R566), the counts of R757 and R758 take it, and the port that it names is compared (R614). -/
def beforeEffect (o : Opcode) (c : Packet) (p : Plan) (s : State) : State :=
  let role := roleOf s c
  let s0 := modSession c.session (fun x => { x with aliveTick := s.tick }) s
  let s1 := if o.change && p.executed then wakeDoze s0 else s0
  let s2 := if p.executed && o.change && atLeast role (some .installer) then ledger (commandEntry 1 role c p) s1
            else if p.status = .locked then ledger (commandEntry 2 role c p) s1 else s1
  if p.executed then namedCheck c (countDev 0x28 1 (pmEv 0x18 1 (commandAttr role c) s2)) else pmEv 0x18 2 (commandAttr role c) s2

/-- Carry out a plan: what precedes the effect, the effect, then the reply. -/
def carryOut (o : Opcode) (c : Packet) (p : Plan) (s : State) : State :=
  complete c p.status p.retry p.results (p.effect (beforeEffect o c p s))

/-- The Teller processes the command in hand when it is this one. -/
def process (o : Opcode) (c : Packet) (s : State) : State :=
  if s.cp.current = some c ∧ c.opcode.toNat = o.code then carryOut o c (planOf o c s) s else s

/-- A command row: a command not yet received arrives first, over the Command Port (R504-R512), and is then processed. -/
def runOpcode (o : Opcode) (c : Packet) (s : State) : State :=
  process o c (if s.cp.current = some c then s else arrive (packetBytes c) s)

end Sys2Proof.Machine
end

