-- ==== Sys2Proof/Machine/Vault.lean ====
section
/-!
DEFINITION. The Vault: its fields and their shadow (R578-R581, R588), programming (R582-R584), and scan enable (R585, R586).
-/
namespace Sys2Proof.Machine

/-! ## Fields -/

/-- A Vault field: its offset, its bytes, and the bit of its word for a single-bit field (R578). -/
structure VField where
  offset : Nat
  len : Nat
  bit : Option Nat
  deriving DecidableEq, Repr

/-- The field of a number (R578); none for a reserved number. -/
def vField (f : Nat) : Option VField :=
  if f = 0x00 then some ⟨0x000, 16, none⟩
  else if f = 0x01 then some ⟨0x040, 64, none⟩
  else if f = 0x02 then some ⟨0x080, 64, none⟩
  else if f = 0x03 then some ⟨0x0C0, 1, some 0⟩
  else if 0x10 ≤ f ∧ f ≤ 0x15 then some ⟨0x100 + 32 * (f - 0x10), 32, none⟩
  else if 0x17 ≤ f ∧ f ≤ 0x19 then some ⟨0x0C0, 1, some (f - 0x16)⟩
  else if f = 0x20 then some ⟨0x1C0, 128, none⟩
  else if f = 0x21 then some ⟨0x240, 32, none⟩
  else if 0x40 ≤ f ∧ f ≤ 0x7F then some ⟨0x400 + 8 * (f - 0x40), 8, none⟩
  else if f = 0xFE then some ⟨0x0C0, 1, some 7⟩
  else none

/-- Byte `o` of the fuses, and of the shadow. -/
def fuse (s : State) (o : Nat) : Byte := SMap.get s.vault.fuses 0 o
@[inherit_doc fuse]
def shadow (s : State) (o : Nat) : Byte := SMap.get s.vault.shadow 0 o

/-- Bytes of the shadow. -/
def shadowBytes (s : State) (o n : Nat) : List Byte := (List.range n).map (fun i => shadow s (o + i))

/-- Bit n of the 32-bit word of single-bit fields at 0x0C0 (R578). -/
def vBit (s : State) (n : Nat) : Bool := bitsOf (shadow s (0xC3 - n / 8)).toNat (n % 8) (n % 8) == 1

/-- The SPENT bit of field f (R578). -/
def spentBit (s : State) (f : Nat) : Bool := bitsOf (fuse s (0xFF - f / 8)).toNat (f % 8) (f % 8) == 1

/-- CLOSE is burned. -/
def vClosed (s : State) : Bool := vBit s 7

/-- The fields that CLOSE leaves programmable (R579). -/
def closeExempt (f : Nat) : Bool :=
  f == 2 || f == 3 || f == 0x11 || f == 0x13 || f == 0x15 || decide (0x17 ≤ f ∧ f ≤ 0x19) || decide (0x40 ≤ f ∧ f ≤ 0x7F)

/-- A field accepts no further programming (R579). -/
def vSpent (s : State) (f : Nat) : Bool := spentBit s f || (vClosed s && !closeExempt f)

/-- A word of the field shows an uncorrectable error (R588). -/
def vBad (s : State) (f : Nat) : Bool :=
  match vField f with
  | some v => s.vault.badWords.any (fun w => decide (v.offset < 4 * w + 4 ∧ 4 * w < v.offset + v.len))
  | none => false

/-- A field counts as programmed: spent by its own programming, with no uncorrectable word (R580, R588). -/
def vProgrammed (s : State) (f : Nat) : Bool := spentBit s f && !vBad s f

/-- The bytes of a field in the shadow. -/
def vBytes (s : State) (f : Nat) : List Byte :=
  match vField f with
  | some v => shadowBytes s v.offset v.len
  | none => []

/-- The key field of a role and slot (R578). -/
def keyField (r : Role) (slot : Nat) : Nat :=
  0x10 + slot + (match r with | .operator => 0 | .installer => 2 | .maker => 4)

/-- The revoke field of a role's slot A. -/
def revokeBit (r : Role) : Nat := match r with | .operator => 1 | .installer => 2 | .maker => 3

/-- The role key that SESSION_OPEN accepts in a slot (R580). -/
def roleKey (s : State) (r : Role) (slot : Nat) : Option (List Byte) :=
  let f := keyField r slot
  if vProgrammed s f && !(slot == 0 && vBit s (revokeBit r)) then some (vBytes s f) else none

/-- The SERIAL of IDENTITY. -/
def vSerial (s : State) : List Byte := shadowBytes s 8 8

/-- An image or an endorsement verifies against an image key (R581). -/
def imageKeyOk (s : State) (digest sig : List Byte) : Bool :=
  (!vBit s 0 && ecdsaVerify (vBytes s 1) digest sig) || (spentBit s 2 && !vBad s 2 && ecdsaVerify (vBytes s 2) digest sig)

/-- Load the shadow from the fuses: a field with an uncorrectable word reads 0 (R587, R588). -/
def loadShadow (s : State) : State :=
  let keep := fun o => !s.vault.badWords.contains (o / 4)
    && !((List.range 256).any (fun f => vBad s f && (match vField f with
          | some v => decide (v.offset ≤ o ∧ o < v.offset + v.len) | none => false)))
  let s1 := modVault (fun v => { v with shadow := v.fuses.filter (fun e => keep e.1) }) s
  wrG F.VAULT_STATUS_SHADOW_BAD (bit (!s.vault.badWords.isEmpty)) (wrG F.VAULT_STATUS_SHADOW_CORR
    (bit (!s.vault.corrWords.isEmpty)) (wrG F.VAULT_STATUS_CLOSED (bit (vClosed s1)) s1))

/-! ## VAULT_PROGRAM -/

/-- A VDD_CORE warning is in force. -/
def coreWarn (s : State) : Bool := wordBits (rdReg s 0x2005C) 31 31 == 1

/-- The data bytes that a field burns: for a single-bit field its word. -/
def burnData (v : VField) (d : List Byte) : List Byte := match v.bit with | some b => natBE 4 (2 ^ b) | none => d

/-- Some bit that is burned already is 0 in the data (R584). -/
def missesBurned (s : State) (v : VField) (d : List Byte) : Bool :=
  v.bit.isNone && (List.range v.len).any (fun i => (fuse s (v.offset + i)) &&& ~~~ (d.getD i 0) != 0)

/-- The session key of the command's session. -/
def sessionKey (s : State) (c : Packet) : List Byte := match findSession s c.session with | some x => x.key | none => []

/-- The revoke fields with the slot-B key that each needs (R580). -/
def revokeNeeds (f : Nat) : Option Nat :=
  if f = 0x17 then some 0x11 else if f = 0x18 then some 0x13 else if f = 0x19 then some 0x15 else none

/-- Checks 6 and 7 to 13 of VAULT_PROGRAM (R579-R584). -/
def vaultPlan (c : Packet) (role : Option Role) (s : State) : Plan :=
  let f := pb c 0
  let n := pf c 4 2
  match vField f with
  | none => Plan.refuse .badParam 0
  | some v =>
    let d := slice c.params 24 n
    let all := c.params.drop (24 + n)
    let auth := (hmac (sessionKey s c) (natBE 2 c.seq.toNat ++ slice c.params 0 8 ++ d)).take 16
    firstOf
      [ bad (n ≠ v.len || plen c ≠ 24 + n + (if f = 2 then 64 else 0) || !zeros c 1 3 || !zeros c 6 2
          || (v.bit.isSome && d != [1])),
        chk (slice c.params 8 16 != auth) (Plan.refuse .denied 0),
        bad (!vSpent s f && (missesBurned s v d
          || (match revokeNeeds f with | some k => !vProgrammed s k | none => false))),
        chk (s.vault.burn.isSome) (Plan.busy s),
        chk (vSpent s f) (Plan.refuse .locked 0),
        chk (rdG s F.VAULT_STATUS_FUSE_PRESENT == 0 || coreWarn s) (Plan.retryIn .notReady 1),
        chk (f == 2 && !ecdsaVerify (vBytes s 1) (sha256 d) all) (Plan.done .recordBad [] id) ]
      (Plan.long s 0xF0 role 3 (fun id s => opProgress id 2 3 33
        (modVault (fun x => { x with burn := some ⟨id, f, v.offset, burnData v d, 0, false, none⟩ }) s)))

/-- A keyless maker session programs only the maker key fields (R560). -/
def vaultDenied (c : Packet) (_ : Option Role) (s : State) : Bool :=
  keylessMaker s c && !(pb c 0 == 0x14 || pb c 0 == 0x15)

/-- VAULT_PROGRAM (0xF0). -/
def opVaultProgram : Opcode := ⟨0xF0, some .maker, false, true, vaultDenied, vaultPlan⟩

/-- VAULT_PROGRAM: R582, R583. -/
def execVaultProgram (c : Packet) (s : State) : Host.Outcome State Fault Refusal := .next (runOpcode opVaultProgram c s)

/-- Burn bits into the fuses: the bits already burned stay. -/
def burnBytes (o : Nat) (d : List Byte) (s : State) : State :=
  forN d.length (fun i s => modVault (fun v =>
    { v with fuses := SMap.set v.fuses 0 (o + i) (SMap.get v.fuses 0 (o + i) ||| d.getD i 0) }) s) s

/-- The bits of a word that fails verification which burned all the same: spec/ does not say which. -/
def partWord (s : State) (d : List Byte) : List Byte :=
  let m := natBE 4 (Config.burnPart s.draws).toNat
  (List.range d.length).map (fun i => d.getD i 0 &&& m.getD i 0)

/-- End a burn with a status. -/
def burnEnd (b : Burn) (st : Status) (s : State) : State :=
  endOp b.op st [] (modVault (fun v => { v with burn := none }) s)

/-- The SPENT bit is burned: the ITEM entry, and the shadow shows the field (R583). -/
def burnDone (b : Burn) (s : State) : State :=
  let len := match vField b.field with | some v => (if v.bit.isSome then 4 else v.len) | none => 0
  let copy := fun o n s => forN n (fun i s => modVault (fun v =>
    { v with shadow := SMap.set v.shadow 0 (o + i) (SMap.get v.fuses 0 (o + i)) }) s) s
  let s1 := copy 0xE0 32 (copy b.offset len s)
  burnEnd b .ok (wrG F.VAULT_STATUS_CLOSED (bit (vClosed s1)) (opItem b.op 0 b.field 0 0 s1))

/-- One word of a burn: VAULT_WORD_BURN. `ok` says that it verified within three pulses (R583, R584). -/
def wordBurn (ok : Bool) (s : State) : State :=
  match s.vault.burn with
  | none => s
  | some b =>
    let spent : List Byte := (List.range 4).map (fun i =>
      if (0x1F - b.field / 8) % 4 = i then BitVec.ofNat 8 (2 ^ (b.field % 8)) else 0)
    let o := if b.spentStep then 0xE0 + (0x1F - b.field / 8) / 4 * 4 else b.offset + 4 * b.word
    let d := if b.spentStep then spent else slice b.data (4 * b.word) 4
    if !ok then burnEnd b .incomplete (draw (burnBytes o (partWord s d) s))
    else
      let s1 := burnBytes o d s
      if b.spentStep then burnDone b s1
      else if abortAsked s1 b.op then burnEnd b .aborted s1
      else match b.stop with
        | some st => burnEnd b st s1
        | none =>
          if 4 * (b.word + 1) ≥ b.data.length then
            opProgress b.op 3 3 90 (modVault (fun v => { v with burn := some { b with spentStep := true } }) s1)
          else opProgress b.op 2 3 (33 + 50 * (b.word + 1) * 4 / b.data.length)
            (modVault (fun v => { v with burn := some { b with word := b.word + 1 } }) s1)

/-- VAULT_WORD_BURN: R583, R584. -/
def execVaultWordBurn (ok : Bool) (s : State) : Host.Outcome State Fault Refusal := .next (wordBurn ok s)

/-- A burn stops after the current word (R584). -/
def burnStop (s : State) : State :=
  modVault (fun v => { v with burn := v.burn.map (fun b => { b with stop := some .incomplete }) }) s

/-- VDD_FUSE comes within its limits, or leaves them and stops a burn (R584, R587). -/
def execVddFuseChange (ok : Bool) (s : State) : Host.Outcome State Fault Refusal :=
  .next (wrG F.VAULT_STATUS_FUSE_PRESENT (bit ok) (if ok then s else burnStop s))

/-! ## Scan enable -/

/-- The steps of a scan enable after the reply: the safe state, secrets zeroed, sessions ended with cause 6, READ_LOCK
(R585). Ports go down by the action that host software commanded. -/
def scanOpen (s : State) : State :=
  if s.sec.scanRequested then
    let s1 := safeEnter (fun s => holdAll (portsDown (fun _ => true) 5 s))
      (modSec (fun c => { c with scanRequested := false, scanOpen := true }) s)
    let s2 := endSessions 6 s1
    wrG F.VAULT_STATUS_READ_LOCK 1 (modVault (fun v => { v with shadow := [] }) s2)
  else s

/-- SCAN_EN: R585. -/
def execScanEn (s : State) : Host.Outcome State Fault Refusal := .next (scanOpen s)

end Sys2Proof.Machine
end

