-- ==== Sys2Proof/Machine/Clocks.lean ====
section
/-!
DEFINITION. Clocks, the start of the management cores, the safe state, clock switching, gating and CLKOUT (R620-R644,
R656), and the power-up calibration (R704, R705).
-/
namespace Sys2Proof.Machine

/-! ## What the management cores do at a start (R537, R656 step 5, R747, R748, R809) -/

/-- The Journal entries held, oldest first. -/
def heldEntries (s : State) : List JournalEntry :=
  let l := s.journal.slots
  let p := s.journal.next % 2048
  (l.filter (fun e => decide (p ≤ e.1)) ++ l.filter (fun e => decide (e.1 < p))).filterMap (·.2)

/-- Write the CUT entry of an operation, as its latest entry shows it. -/
def cutEntry (held : List JournalEntry) (id : Nat) (s : State) : State :=
  match (held.filter (fun e => e.opId == id)).getLast? with
  | some e => journal ⟨0, id, e.opcode, 5, e.k, e.n, Status.aborted.code, e.pct, 0, 0, 0, 0, 0, 0⟩ s
  | none => s

/-- A CUT entry for every operation whose START has no END or CUT among the entries held, but one (R537). -/
def cutOpen (keep : Nat) (s : State) : State :=
  let held := heldEntries s
  let open' := (held.filter (fun e => e.kind == 1 && e.opId != keep
    && !held.any (fun x => x.opId == e.opId && (x.kind == 4 || x.kind == 5)))).map (·.opId)
  forL open' (cutEntry held) s

/-- A device event with a code. -/
def isEvent (c : Nat) (e : JournalEntry) : Bool := e.kind == 6 && e.d0 == c

/-- The entries after the latest AUDIT_START held. -/
def sinceAudit (s : State) : List JournalEntry :=
  ((heldEntries s).reverse.takeWhile (fun e => !isEvent 0x30 e)).reverse

/-- An AUDIT_START is among the entries held. -/
def auditHeld (s : State) : Bool := (heldEntries s).any (isEvent 0x30)

/-- The repairs of REPAIR_A entries directly followed by a REPAIR_B of the same instance: instance, failing row, spare
row (R748, R750). -/
def journalRepairs : List JournalEntry → List (Nat × Nat × Nat)
  | a :: b :: t =>
    if isEvent 0x32 a && isEvent 0x33 b && a.d1 == b.d1 && a.d2 == b.d2 then
      (a.d1 * 256 + a.d2, a.sf % 2 ^ 24, b.sf / 2 ^ 24) :: journalRepairs t
    else journalRepairs (b :: t)
  | _ => []

/-- The repairs of the Vault's fields that are programmed (R578). -/
def vaultRepairs (s : State) : List (Nat × Nat × Nat) :=
  ((List.range 64).filter (fun i => vProgrammed s (0x40 + i))).map (fun i =>
    let b := vBytes s (0x40 + i)
    (beAt b 0 2, beAt b 2 3, beAt b 5 2))

/-- AUDIT_RESULT after a start reports the latest audit that the Journal still holds, with no failure record (R742). -/
def auditRebuild (s : State) : State :=
  if auditHeld s then modAudit (fun a => { a with fails := [] }) s
  else modAudit (fun a => { Audit.init with unusable := a.unusable, repairsInForce := a.repairsInForce }) s

/-- Apply the repairs at a start: the Vault's first, then those that the latest audit recorded, without the rows that the
Vault repairs (R748); and hold out what is unrepairable (R749). -/
def applyRepairs (s : State) : State :=
  let v := vaultRepairs s
  let es := if auditHeld s then sinceAudit s else []
  let j := (journalRepairs es).filter (fun r => !v.any (fun x => x.1 == r.1 && x.2.1 == r.2.1))
  let bad := (es.filter (isEvent 0x35)).map (fun e => e.d1 * 256 + e.d2)
  wrG F.START_STATUS_REPAIRS (min 255 j.length) (modAudit (fun a => { a with repairsInForce := v ++ j, unusable := bad }) s)

/-- Write the AUDIT_END of an audit whose AUDIT_START has none (R747). -/
def endCutAudit (s : State) : State :=
  if auditHeld s && !(sinceAudit s).any (isEvent 0x34) then
    journalEvent 0 0x34 Status.aborted.code (min 255 s.audit.repairs) s
  else s

/-- Write the entry of a safe state that no core could record (R631). -/
def safeLate (s : State) : State :=
  if s.clk.lossPending && coresRun s then
    safeEntry (modClk (fun c => { c with lossPending := false }) s)
  else s

/-- GENESIS, when VDD_AON was lost (R567, R571). -/
def genesis (s : State) : State :=
  if s.clk.aonLost then
    draw (ledger (ledgerEntry 8 0 (natBE 4 (Config.genesis s.draws).toNat)) (modClk (fun c => { c with aonLost := false }) s))
  else s

/-- The entries after a power-on reset, RESET_N or a warm reset, in the order of R809 and R537; `profile` is the profile
that came into force at a warm reset, if any (R525, R568). -/
def startEntries (profile : Option Nat) (s : State) : State :=
  let kind := rdG s F.RESET_STATUS_LAST_KIND
  let s1 := ledgerEnds 3 (ledgerDevice 5 (kind * 65536) (genesis s))
  let s2 := match profile with | some p => ledgerDevice 4 (p * 65536) s1 | none => s1
  endCutAudit (cutOpen 0 (journalReset kind (rdG s F.RESET_STATUS_LAST_CAUSE) s2))

/-- The management cores start in the boot ROM (R656 steps 3 to 5). The shadow is loaded unless READ_LOCK is set (R647). -/
def romStart (s : State) : State :=
  let s1 := { s with stage := .rom }
  let s2 := if rdG s F.VAULT_STATUS_READ_LOCK = 1 then s1 else loadShadow s1
  safeLate (auditRebuild (applyRepairs (startEntries none s2)))

/-! ## The management domain (R630-R632) -/

/-- The domain switches by the forced path to the first valid source when its source has failed (R630). -/
def mgmtFallback (s : State) : State :=
  if mgmtValid s (rdG s F.CLK_SEL_STATUS_MGMT_SRC) then s
  else match [0, 1, 2].find? (mgmtValid s) with
    | some k => evG F.CLK_EVENTS_OLD_CLOCK_DEAD (evG F.CLK_EVENTS_MGMT_FALLBACK (wrG F.CLK_SEL_STATUS_MGMT_SRC k s))
    | none => s

/-- The cores start, or resume, when their domain has a valid source. -/
def mgmtGo (s : State) : State :=
  let s1 := mgmtFallback s
  if !s1.clk.resetHeld && s1.stage == .held && mgmtValid s1 (rdG s1 F.CLK_SEL_STATUS_MGMT_SRC) then romStart s1
  else safeLate s1

/-! ## Ready flags (R621, R622) -/

/-- The AVSBus master writes a VDD_CORE target, which has then to read back (R667); with AVS_EN 0 it sends nothing (R668). -/
def avsWrite (mv : Nat) (s : State) : State :=
  let old := rdG s F.AVS_CTRL_TARGET
  if rdG s F.AVS_CTRL_AVS_EN = 0 ∨ old = mv then s
  else wrG F.AVS_CTRL_TARGET mv (modPower (fun p => { p with avsPending := some (mv, old) }) s)

/-- The AVSBus master raises VDD_CORE, and the cores resume at a wake from Retain (R690 steps 2 and 3). -/
def wakeCores (s : State) : State :=
  if s.power.wakeStep = 1 then
    let s1 := { modPower (fun p => { p with wakeStep := 2 }) (avsWrite 750 s) with stage := .firmware }
    journalEvent 0 0x20 (rdG s1 F.WAKE_STATUS_SOURCE) (rdG s1 F.WAKE_STATUS_DURING_ENTRY)
      (countDev 0x35 1 (evG F.PWR_EVENTS_WAKE (wrG F.PWR_STATUS_WAKE_PENDING 0 s1)))
  else s

/-- The IRO becomes valid. -/
def iroValid (s : State) : State :=
  if s.clk.resetHeld || (s.stage == .stopped && s.power.wakeStep != 1) then s
  else mgmtGo (wakeCores (wrG F.CLK_READY_IRO_VALID 1 s))

/-- IRO_VALID: R621, R656 step 3, R690 step 3. -/
def execIroValid (s : State) : Host.Outcome State Fault Refusal := .next (iroValid s)

/-- REFCLK becomes valid: its failure has ended. -/
def refclkValid (s : State) : State :=
  if s.clk.resetHeld || s.stage == .stopped then s
  else mgmtGo (wrG F.CLK_READY_REFCLK_VALID 1
    (modClk (fun c => { c with safeNow := { c.safeNow with refclk := false } }) s))

/-- REFCLK_VALID: R621, R632. -/
def execRefclkValid (s : State) : Host.Outcome State Fault Refusal := .next (refclkValid s)

/-- IRO_MEASURED: the IRO is measured against a valid REFCLK (R622). -/
def execIroMeasured (f : BitVec 16) (s : State) : Host.Outcome State Fault Refusal :=
  .next (if rdG s F.CLK_READY_IRO_VALID = 1 ∧ rdG s F.CLK_READY_REFCLK_VALID = 1 then
    wrG F.CLK_READY_IRO_MEASURED 1 (wrG F.IRO_FREQ f.toNat s) else s)

/-- The ready flag of a PLL (R657). -/
def pllFld : Pll → Fld
  | .mgmt => F.CLK_READY_PLL_MGMT
  | .line => F.CLK_READY_PLL_LINE
  | .ch => F.CLK_READY_PLL_CH
  | .lane => F.CLK_READY_PLL_LANE
  | .dspA g => bitFld F.CLK_READY_PLL_DSP (2 * g.val)
  | .dspB g => bitFld F.CLK_READY_PLL_DSP (2 * g.val + 1)

/-- A DSP PLL's group and its number among the two, 0 for A. -/
def pllDsp : Pll → Option (Nat × Nat)
  | .dspA g => some (g.val, 0)
  | .dspB g => some (g.val, 1)
  | _ => none

/-- The PLL in use by DSPg (R620). -/
def dspUse (s : State) (g : Nat) : Nat := if rdBit s 0 F.CLK_SEL_STATUS_DSP_SRC g then 1 else 0

/-- The level at whose clock a DSP PLL is locked, plus 1; 0 where it is powered down. After reset PLL_DSPg_A is powered at
its group's level. -/
def dspLevel (s : State) (g x : Nat) : Nat := SMap.get s.power.dspFreq (if x = 0 then 4 else 0) (2 * g + x)

/-- Set the level of a DSP PLL. -/
def setDsp (g x l : Nat) : State → State :=
  modPower (fun p => { p with dspFreq := SMap.set p.dspFreq (if x = 0 then 4 else 0) (2 * g + x) l })

/-- The performance level of group g (R701). -/
def levelOf (s : State) (g : Nat) : Nat := wordBits (rdReg s 0x20040) (2 * g + 1) (2 * g)

/-- The level whose voltage group g has (R665). -/
def voltLevel (s : State) (g : Nat) : Nat := 3 - SMap.get s.power.volt 0 g

/-- A PLL may lock: REFCLK is valid, no reset is held, the device is not in Retain, VDD_PLL is up, and a DSP PLL is powered. -/
def pllMay (p : Pll) (s : State) : Bool :=
  !s.clk.resetHeld && s.stage != .stopped && rdG s F.CLK_READY_REFCLK_VALID == 1 && !s.power.lowRails.contains .pll
    && (match pllDsp p with
        | some (g, x) => hasGroup s g && dspLevel s g x != 0
        | none => true)

/-- A PLL is ready: clocks that wait for it start (R621, R639). -/
def pllReady (p : Pll) (s : State) : State :=
  if pllMay p s then mgmtGo (settle s (wrFld 0 (pllFld p) 1 s)) else s

/-- PLL_READY: R621, R639. -/
def execPllReady (p : Pll) (s : State) : Host.Outcome State Fault Refusal := .next (pllReady p s)

/-! ## The power-up calibration (R704, R705) -/

/-- The code of a block in R704, and its START_STATUS bit. -/
def calBlockCode : CalBlock → Nat
  | .bias => 1 | .pll => 2 | .time => 3 | .term => 4 | .clkLane => 5
@[inherit_doc calBlockCode]
def calBlockFld : CalBlock → Fld
  | .bias => F.START_STATUS_BIAS_CAL | .pll => F.START_STATUS_PLL_CAL | .time => F.START_STATUS_TIME_CAL
  | .term => F.START_STATUS_TERM_CAL | .clkLane => F.START_STATUS_CLKLANE_CAL

/-- A block's calibration has its turn: the bias generator first; the others once REFCLK is valid. -/
def calTurn (s : State) (b : CalBlock) : Bool :=
  !s.clk.resetHeld && !s.cal.finished.contains b
    && (b == .bias || (s.cal.finished.contains .bias && rdG s F.CLK_READY_REFCLK_VALID == 1))

/-- A block's calibration ends with codes: with all five ended, start-up no longer holds the safe state (R656 step 8). -/
def calFinish (b : CalBlock) (codes : List Byte) (s : State) : State :=
  let s1 := modCal (fun c => { c with finished := b :: c.finished, codes := SMap.set c.codes [] (calBlockCode b) codes }) s
  if s1.cal.finished.length = 5 then modClk (fun c => { c with safeNow := { c.safeNow with start := false } }) s1 else s1

/-- The bytes of a block's codes in the device record (R728). -/
def codeLen : CalBlock → Nat
  | .bias => 4 | .pll => 16 | .time => 16 | .term => 72 | .clkLane => 16

/-- A block's default codes (R705). -/
def makerCodes (s : State) (b : CalBlock) : List Byte :=
  (List.range (codeLen b)).map (Config.makerCode (vBytes s 0x20) (calBlockCode b))

/-- A power-up calibration gives a result (R704); the second implausible one falls back to MAKER_TRIM (R705). -/
def powerupCal (b : CalBlock) (ok : Bool) (codes : List Byte) (s : State) : State :=
  if !calTurn s b then s
  else if ok then wrFld 0 (calBlockFld b) 1 (calFinish b codes s)
  else if s.cal.firstBad.contains b then
    journalEvent 0 0x3A (calBlockCode b) 0 (evG F.CAL_EVENTS_PWRUP_FALLBACK (calFinish b (makerCodes s b) s))
  else modCal (fun c => { c with firstBad := b :: c.firstBad }) s

/-- POWERUP_CALIBRATION: R704, R705. -/
def execPowerupCalibration (b : CalBlock) (ok : Bool) (codes : List Byte) (s : State) : Host.Outcome State Fault Refusal :=
  .next (powerupCal b ok codes s)

/-! ## Failures (R623-R632) -/

/-- Hold every output, with every port down for the loss of a clock. -/
def failAll (s : State) : State :=
  holdAll (portsDown (fun _ => true) 4 (modClk (fun c => { c with gpioLatch := some (c.gpioLatch.getD (rdReg s 0x100C0)) }) s))

/-- REFCLK fails, with its flag (R623, R626, R630). -/
def refclkFail (f : Fld) (s : State) : State :=
  if s.clk.resetHeld || s.stage == .stopped
      || (rdG s F.CLK_READY_REFCLK_VALID == 0 && rdG s F.CLK_READY_IRO_VALID == 1) then s
  else
    let s1 := wrG F.CLK_READY_REFCLK_VALID 0 (evG f
      (modClk (fun c => { c with safeNow := { c.safeNow with refclk := true } }) s))
    mgmtGo (safeEnter failAll s1)

/-- REFCLK_LOST: R623, R625, R626, R631. -/
def execRefclkLost (s : State) : Host.Outcome State Fault Refusal := .next (refclkFail F.SAFE_CAUSE_REFCLK_LOST s)

/-- REFCLK_RANGE: R623, R625, R626. -/
def execRefclkRange (s : State) : Host.Outcome State Fault Refusal := .next (refclkFail F.SAFE_CAUSE_REFCLK_RANGE s)

/-- The IRO leaves its range: no output is made safe, unless no clock source is left (R626, R630, R632). -/
def iroRange (s : State) : State :=
  if rdG s F.CLK_READY_IRO_VALID = 0 then s
  else
    let s1 := wrG F.CLK_READY_IRO_VALID 0 (evG F.SAFE_CAUSE_IRO_RANGE s)
    mgmtGo (if rdG s F.CLK_READY_REFCLK_VALID = 1 then s1 else safeEnter failAll s1)

/-- IRO_RANGE: R623, R626, R630, R632. -/
def execIroRange (s : State) : Host.Outcome State Fault Refusal := .next (iroRange s)

/-- The cause flag of a PLL; none for a DSP PLL that is not in use (R623). -/
def unlockFld (s : State) : Pll → Option Fld
  | .mgmt => some F.SAFE_CAUSE_MGMT_UNLOCK
  | .line => some F.SAFE_CAUSE_LINE_UNLOCK
  | .ch => some F.SAFE_CAUSE_CH_UNLOCK
  | .lane => some F.SAFE_CAUSE_LANE_UNLOCK
  | .dspA g => if dspUse s g = 0 then some (bitFld F.SAFE_CAUSE_DSP_UNLOCK g) else none
  | .dspB g => if dspUse s g = 1 then some (bitFld F.SAFE_CAUSE_DSP_UNLOCK g) else none

/-- What a PLL's unlock makes safe (R626). -/
def unlockHold (p : Pll) (s : State) : State :=
  match p with
  | .mgmt => s
  | .line => failAll s
  | .ch => modCh (fun c => { c with held := true }) s
  | .lane => wrG F.SAFE_STATUS_WAITING 0 (wrG F.SAFE_STATUS_LANES_HELD 1 s)
  | .dspA g | .dspB g =>
    wrG F.SAFE_STATUS_WAITING 0 (wrBit 0 F.SAFE_STATUS_PG_HELD g 1 (portsDown (fun n => groupOf n == g.val) 4 s))

/-- A PLL loses lock: only the REFCLK flag is recorded within 10 µs of a REFCLK failure (R624). -/
def pllUnlock (p : Pll) (near : Bool) (s : State) : State :=
  if rdFld s 0 (pllFld p) = 0 then s
  else
    let s1 := wrFld 0 (pllFld p) 0 s
    match unlockFld s p with
    | none => s1
    | some f =>
      let s2 := countDev 0x34 1 (if near && s.clk.safeNow.refclk then s1 else evG f s1)
      mgmtGo (safeEnter (fun x => unlockHold p (settle s x)) s2)

/-- PLL_UNLOCK: R623, R624, R626, R630. -/
def execPllUnlock (p : Pll) (near : Bool) (s : State) : Host.Outcome State Fault Refusal := .next (pllUnlock p near s)

/-- The safe state's conditions have cleared: release, or wait for RELEASE (R628). -/
def safeRelease (s : State) : State :=
  if safeHeldAny s && safeClear s then
    if rdG s F.SAFE_CTRL_AUTO_RELEASE = 1 then
      safeDrop (modClk (fun c => { c with gpioLatch := if s.power.heldPads % 2 = 1 then c.gpioLatch else none }) s)
    else wrG F.SAFE_STATUS_WAITING 1 s
  else s

/-- SAFE_RELEASE: R628, R629. -/
def execSafeRelease (s : State) : Host.Outcome State Fault Refusal := .next (safeRelease s)

/-- A write of 1 to SAFE_CTRL.RELEASE: ignored while a condition holds (R628). -/
def releaseWrite (s : State) : State :=
  if safeHeldAny s && safeClear s then
    safeDrop (modClk (fun c => { c with gpioLatch := if s.power.heldPads % 2 = 1 then c.gpioLatch else none }) s)
  else s

/-- RELEASE: R628, R629. -/
def execRelease (s : State) : Host.Outcome State Fault Refusal := .next (releaseWrite s)

/-! ## Switching sources (R633-R638, R665) -/

/-- A domain and source that CLOCK_SELECT and CLK_SWITCH may name: MGMT, or DSPg of a group that the part has (R635, R636). -/
def switchNamed (s : State) (d src : Nat) : Bool :=
  (d == 0 && decide (src ≤ 2)) || (decide (0x10 ≤ d ∧ d ≤ 0x15) && hasGroup s (d - 0x10) && decide (src ≤ 1))

/-- The source a domain uses now. -/
def switchNow (s : State) (d : Nat) : Nat := if d = 0 then rdG s F.CLK_SEL_STATUS_MGMT_SRC else dspUse s (d - 0x10)

/-- A source is valid or ready (R633). -/
def sourceReady (s : State) (d src : Nat) : Bool :=
  if d = 0 then mgmtValid s src else rdBit s 0 F.CLK_READY_PLL_DSP (2 * (d - 0x10) + src)

/-- A DSP switch names a PLL locked at another frequency than the group's clock (R636). -/
def switchOther (s : State) (d src : Nat) : Bool :=
  decide (d ≠ 0) && sourceReady s d src
    && dspLevel s (d - 0x10) src != dspLevel s (d - 0x10) (dspUse s (d - 0x10))

/-- The interlock refuses a DSP source above the highest level whose voltage is good (R665). -/
def interlock (s : State) (d src : Nat) : Bool :=
  decide (d ≠ 0) && decide (dspLevel s (d - 0x10) src > voltLevel s (d - 0x10) + 1)

/-- Make a switch: by the forced path when the old clock is dead (R637, R638). -/
def switchTo (d src : Nat) (s : State) : State :=
  let s1 := if sourceReady s d (switchNow s d) then s else evG F.CLK_EVENTS_OLD_CLOCK_DEAD s
  let s2 := if d = 0 then wrG F.CLK_SEL_STATUS_MGMT_SRC src s1 else wrBit 0 F.CLK_SEL_STATUS_DSP_SRC (d - 0x10) src s1
  mgmtGo (settle s s2)

/-- A raw write of CLK_SWITCH: DOMAIN and SOURCE are stored; GO asks for the switch (R634, R638, R657). -/
def clkSwitch (v : Word) (s : State) : State :=
  let s1 := wrG F.CLK_SWITCH_SOURCE (wordBits v 7 0) (wrG F.CLK_SWITCH_DOMAIN (wordBits v 23 16) s)
  let d := wordBits v 23 16
  let src := wordBits v 7 0
  if wordBits v 31 31 = 0 then s1
  else if !switchNamed s d src then evG F.CLK_EVENTS_CONFIG_ERR s1
  else if !sourceReady s d src || interlock s d src then evG F.CLK_EVENTS_SW_REFUSED s1
  else if sourceReady s d (switchNow s d) then switchTo d src s1
  else modClk (fun c => { c with switchWait := some (d, src) }) s1

/-- CLK_SWITCH_GO: R634, R637, R657. -/
def execClkSwitchGo (v : Word) (s : State) : Host.Outcome State Fault Refusal := .next (clkSwitch v s)

/-- The old clock shows no edge in 64 cycles of the new one: the switch completes by the forced path (R638). -/
def oldClockDead (s : State) : State :=
  match s.clk.switchWait with
  | some (d, src) => switchTo d src (modClk (fun c => { c with switchWait := none }) s)
  | none => s

/-- OLD_CLOCK_DEAD: R638. -/
def execOldClockDead (s : State) : Host.Outcome State Fault Refusal := .next (oldClockDead s)

/-! ## Gating (R639-R642) -/

/-- Every Siruigo port goes down by command and negotiates, without Siruigo (R641, R642). -/
def sirDown (s : State) : State :=
  forL ((allPorts s).filter (fun n => isSir s n || (port s n).st == .listen)) (downRestart · 5) s

/-- A write of CLK_EN: bits of blocks that the part lacks ignore it; what stops does so by command (R640, R641). -/
def clkEnWrite (v : Word) (s : State) : State :=
  let en := (blockCodes s).foldl (fun a b => a + wordBits v b b * 2 ^ b) 0
  let s1 := wrG F.CLK_EN en s
  let off := fun b => clkRun s b && !clkRun s1 b
  let s2 := portsDown (fun n => off (groupOf n)) 5 s1
  let s3 := settle s s2
  if off 16 then sirDown s3 else s3

/-- CLK_EN_WRITE: R639-R642. -/
def execClkEnWrite (v : Word) (s : State) : Host.Outcome State Fault Refusal := .next (clkEnWrite v s)

/-! ## CLKOUT (R643, R644) -/

/-- The frequency of a level's DSP clock in kHz (R661). -/
def levelKhz (l : Nat) : Nat := match l with | 0 => 600000 | 1 => 900000 | 2 => 1200000 | _ => 1500000

/-- The frequency of the IRO in kHz: as measured, else nominal (R620, R622). -/
def iroKhz (s : State) : Nat := if rdG s F.CLK_READY_IRO_MEASURED = 1 then rdG s F.IRO_FREQ * 10 else 200000

/-- The frequency of a source of CLKOUT in kHz; none for a reserved code (R643). -/
def clkoutKhz (s : State) (src : Nat) : Option Nat :=
  match src with
  | 0 => some 156250
  | 1 => some (iroKhz s)
  | 2 => some (match rdG s F.CLK_SEL_STATUS_MGMT_SRC with | 0 => iroKhz s | 1 => 400000 | _ => 156250)
  | 3 => some 1600000
  | 4 => some 800000
  | 5 => some 1200000
  | 6 => some 10625000
  | 8 | 9 | 10 | 11 | 12 | 13 => some (levelKhz (dspLevel s (src - 8) (dspUse s (src - 8)) - 1))
  | _ => none

/-- A source of CLKOUT is running (R644). -/
def clkoutRuns (s : State) (src : Nat) : Bool :=
  match src with
  | 0 => rdG s F.CLK_READY_REFCLK_VALID == 1
  | 1 => rdG s F.CLK_READY_IRO_VALID == 1
  | 2 => mgmtValid s (rdG s F.CLK_SEL_STATUS_MGMT_SRC)
  | 3 => rdG s F.CLK_READY_PLL_LINE == 1
  | 4 => clkRun s 16
  | 5 => rdG s F.CLK_READY_PLL_CH == 1
  | 6 => rdG s F.CLK_READY_PLL_LANE == 1
  | _ => hasGroup s (src - 8) && dspReady s (src - 8)

/-- DIV of a CLKOUT_CTRL word. -/
def clkoutDiv (v : Word) : Nat := if wordBits v 11 0 = 0 then 4096 else wordBits v 11 0

/-- SRC is reserved, or the output would exceed 250 MHz (R644). -/
def clkoutBad (s : State) (v : Word) : Bool :=
  match clkoutKhz s (wordBits v 27 24) with
  | some f => decide (f > 250000 * clkoutDiv v)
  | none => true

/-- CLKOUT is held low (R625, R644, R692). -/
def clkoutLow (s : State) : Bool :=
  wordBits s.clk.clkoutNow 31 31 == 0 || clkoutBad s s.clk.clkoutNow
    || !clkoutRuns s (wordBits s.clk.clkoutNow 27 24) || rdG s F.SAFE_STATUS_ACTIVE == 1
    || s.power.heldPads / 2 % 2 == 1

/-- A change of CLKOUT_CTRL takes effect at the end of an output period (R644). -/
def clkoutChange (v : Word) (s : State) : State :=
  let s1 := wrG F.CLKOUT_CTRL_DIV (wordBits v 11 0) (wrG F.CLKOUT_CTRL_SRC (wordBits v 27 24)
    (wrG F.CLKOUT_CTRL_EN (wordBits v 31 31) s))
  let w := rdReg s1 0x20020
  let s2 := modClk (fun c => { c with clkoutNow := w }) s1
  if clkoutBad s2 w then evG F.CLK_EVENTS_CLKOUT_ERR s2 else s2

/-- CLKOUT_CHANGE: R643, R644. -/
def execClkoutChange (v : Word) (s : State) : Host.Outcome State Fault Refusal := .next (clkoutChange v s)

/-- CLOCK_SELECT (R635, R636). -/
def clockSelectPlan (c : Packet) (_ : Option Role) (s : State) : Plan :=
  let d := pb c 0
  let src := pb c 1
  let div := pf c 2 2
  if d = 0x30 then
    firstOf [bad (plen c ≠ 8 || !zeros c 5 3 || (clkoutKhz s src).isNone || div = 0 || div > 4096 || pb c 4 > 1)]
      (Plan.done .ok (natBE 1 src ++ [0]) (clkoutChange (BitVec.ofNat 32 (pb c 4 * 2 ^ 31 + src * 2 ^ 24 + div % 4096))))
  else
    firstOf
      [ bad (plen c ≠ 8 || !zeros c 5 3 || !switchNamed s d src || switchOther s d src),
        chk (!sourceReady s d src || interlock s d src) (Plan.retryIn .notReady 0) ]
      (Plan.done .ok (natBE 1 src ++ natBE 1 (bit (!sourceReady s d (switchNow s d)))) (switchTo d src))

/-- CLOCK_SELECT (0x73). -/
def opClockSelect : Opcode := ⟨0x73, some .installer, false, true, noArea, clockSelectPlan⟩

/-- CLOCK_SELECT: R635, R636. -/
def execClockSelect (c : Packet) (s : State) : Host.Outcome State Fault Refusal := .next (runOpcode opClockSelect c s)

end Sys2Proof.Machine
end

