-- ==== Sys2Proof/Machine/CalRecords.lean ====
section
/-!
DEFINITION. Calibration Records (R726-R729): their bodies, the roles of converter elements (R708, R711), the commit and its ramp
(R712, R713), and what a spare substitution changes (R713).
-/
namespace Sys2Proof.Machine

/-! ## Targets -/

/-- The number of a calibration target. -/
def tgtNo : CalTgt → Nat
  | .port n => n.val
  | .lane g => 64 + g.val

/-- The base of a target's CAL_PORT word (targets 0..47) or CAL_LANE word (64..67) (R751). -/
def calBase (t : Nat) : Nat := if t < 64 then 4 * t else 0xC0 + 4 * (t % 4)

/-- The code of a target in the Journal (R750). -/
def tgtCode (t : Nat) : Nat := if t < 64 then t else 0x80 + (t - 64)

/-! ## Bodies (R709, R728) -/

/-- The default body of a pair: mid-scale trims, slices 0..15 and segments 0..63 working, the hybrid codes of MAKER_TRIM (R709). -/
def defaultPair (s : State) (v : Nat) : List Byte :=
  (List.range 18).flatMap (fun i => natBE 1 (if i < 16 then i else 0x40) ++ [0, 0, 0])
    ++ (List.range 68).flatMap (fun i => natBE 1 (if i < 64 then i else 0x40) ++ [0])
    ++ (List.range 2).map (Config.makerHybrid (vBytes s 0x20) v) ++ List.replicate 6 0

/-- The default body of a target. -/
def defaultBody (s : State) (t : Nat) : List Byte :=
  if t < 64 then (List.range 4).flatMap (fun p => defaultPair s (4 * t + p)) else List.replicate 32 0

/-- The body of a record of a target. -/
def recBody (s : State) (t : Nat) (r : CalRec) : List Byte := if r.body.isEmpty then defaultBody s t else r.body

/-- The body in force of a target. -/
def activeBody (s : State) (t : Nat) : List Byte := recBody s t (calTarget s t).active

/-- An element of a body: its role (0 working, 1 spare, 2 excluded), its position and its trims. -/
structure ElemSt where
  role : Nat
  pos : Nat
  trims : List Byte
  deriving DecidableEq, Repr

/-- Read n elements of w bytes from byte `i` of a body. -/
def readElems (b : List Byte) (i n w : Nat) : List ElemSt :=
  (List.range n).map (fun k =>
    let x := byteAt b (i + w * k)
    ⟨x / 64, x % 64, slice b (i + w * k + 1) (w - 1)⟩)

/-- The bytes of elements of w bytes. -/
def elemBytes (w : Nat) (l : List ElemSt) : List Byte :=
  l.flatMap (fun e => natBE 1 (e.role * 64 + e.pos) ++ e.trims.take (w - 1) ++ List.replicate (w - 1 - e.trims.length) 0)

/-- Where a set of converter elements lies in the body of pair p, its number of elements, their width and their working number: 1 the
ADC slices, 2 the DAC segments (R707, R728). -/
def setPlace (set p : Nat) : Nat × Nat × Nat × Nat := if set = 1 then (216 * p, 18, 4, 16) else (216 * p + 72, 68, 2, 64)

/-- The elements of a set of pair p. -/
def setElems (b : List Byte) (set p : Nat) : List ElemSt := let (i, n, w, _) := setPlace set p; readElems b i n w

/-- Replace bytes of a body from byte `i`. -/
def putBytes (b : List Byte) (i : Nat) (x : List Byte) : List Byte := b.take i ++ x ++ b.drop (i + x.length)

/-- Replace the elements of a set of pair p. -/
def putElems (b : List Byte) (set p : Nat) (l : List ElemSt) : List Byte :=
  let (i, _, w, _) := setPlace set p
  putBytes b i (elemBytes w l)

/-! ## What follows the Active record -/

/-- The spare pools of a port and ACTIVE_SEQ follow the Active record (R751). -/
def showActive (t : Nat) (s : State) : State :=
  let b := activeBody s t
  let spares := fun set p => ((setElems b set p).filter (fun e => e.role == 1)).length
  let s1 := wrFld (calBase t) F.CAL_PORT_ACTIVE_SEQ ((calTarget s t).active.seq % 65536) s
  if t < 64 then
    wrP t F.DAC_SPARES (((List.range 4).map (fun p => min 7 (spares 2 p) * 8 ^ p)).sum)
      (wrP t F.ADC_SPARES (((List.range 4).map (fun p => min 3 (spares 1 p) * 4 ^ p)).sum) s1)
  else s1

/-- The Active record's roles change by a substitution (R713): the retired element is excluded, the spare works in its position. -/
def substRoles (n : Nat) (x : Subst) (s : State) : State :=
  let set := if x.retire.dac then 2 else 1
  let b := activeBody s n
  let l := setElems b set x.retire.pair
  let pos := (l.getD x.retire.idx ⟨0, 0, []⟩).pos
  let l1 := l.mapIdx (fun i e => if i = x.retire.idx then { e with role := 2, pos := 0 } else if i = x.spare.idx then { e with role := 0, pos := pos } else e)
  showActive n (evG F.CAL_EVENTS_SUBST
    (modTarget n (fun c => { c with active := { c.active with seq := c.active.seq + 1, body := putElems b set x.retire.pair l1 } }) s))

/-- The role of an element in the Active record. -/
def elemRole (s : State) (n : Nat) (e : Elem) : Nat := ((setElems (activeBody s n) (if e.dac then 2 else 1) e.pair).getD e.idx ⟨2, 0, []⟩).role

/-- A ramp runs on a target (R712). -/
def ramping (s : State) (t : Nat) : Bool := decide ((calTarget s t).rampLeft ≠ 0)

/-- A commit exchanges the Active and Staged records and starts the ramp (R712, R726). -/
def commitRecord (t : Nat) (s : State) : State :=
  let old := activeBody s t
  let s1 := modTarget t (fun c => { c with active := c.staged, staged := c.active, commit := none, rampLeft := 256, oldBody := old }) s
  showActive t (wrFld (calBase t) F.CAL_PORT_RAMP 1 s1)

end Sys2Proof.Machine
end

