-- ==== Sys2Proof/Machine/Loading.lean ====
section
/-!
DEFINITION. Bit loading: the loading tables (R102-R105), Reed-Solomon parameters (R97, R98), rates (R136-R138), range items
and requests (R166-R168), and the limits on tones (R120, R121, R208).
-/
namespace Sys2Proof.Machine

/-! ## Tables -/

/-- A loading table: for each pair A..D its entries by tone 0..4095. -/
abbrev Table := List (List LoadEntry)

/-- An entry that carries nothing. -/
def LoadEntry.none : LoadEntry := ⟨0, 0⟩

/-- A table that carries nothing. -/
def emptyTable : Table := List.replicate 4 (List.replicate 4096 LoadEntry.none)

/-- The window address of a port's table for direction d (0 transmit, 1 receive). -/
def tableAddr (n d : Nat) : Nat := portBase n + 0x10000 + d * 32768

/-- An entry from its two bytes. -/
def entryOf (hi lo : Byte) : LoadEntry :=
  ⟨⟨hi.toNat / 16 % 16, Nat.mod_lt _ (by decide)⟩, BitVec.ofNat 12 (hi.toNat % 16 * 256 + lo.toNat)⟩

/-- The two bytes of an entry. -/
def entryBytes (e : LoadEntry) : List Byte := natBE 2 (e.bits.val * 4096 + e.gain.toNat)

/-- The table of a port as memory holds it. -/
def readTable (s : State) (n d : Nat) : Table :=
  (List.range 4).map (fun p => (List.range 4096).map (fun t =>
    let a := tableAddr n d + (p * 4096 + t) * 2
    entryOf (memByte s a) (memByte s (a + 1))))

/-- Store a table. -/
def writeTable (n d : Nat) (tb : Table) (s : State) : State :=
  writeMem (tableAddr n d) (tb.flatMap (fun l => l.flatMap entryBytes)) s

/-- A port's tables carry nothing. -/
def clearTables (n : Nat) : State → State :=
  clearMem (fun a => decide (tableAddr n 0 ≤ a ∧ a < tableAddr n 0 + 65536))

/-- Entries from tone `i` up replace a pair's. -/
def setRange (l : List LoadEntry) (i : Nat) (es : List LoadEntry) : List LoadEntry :=
  l.take i ++ es.take (4096 - i) ++ l.drop (i + es.length)

/-- A table with the range items of a request (R166). -/
def applyItems (items : List LoadRange) (tb : Table) : Table :=
  items.foldl (fun tb it => tb.mapIdx (fun p l => if p = it.pair.val then setRange l it.start.toNat it.entries else l)) tb

/-- The table that a request gives a direction: FULL replaces every tone (R167). -/
def requestTable (old : Table) (r : LoadReq) : Table := applyItems r.items (if r.full then emptyTable else old)

/-! ## Kinds of tone index and information bits (R102, R110, R111) -/

/-- The BITS of tone t on the four pairs. -/
def toneBits (tb : Table) (t : Nat) : List Nat := tb.map (fun l => ((l.getD t LoadEntry.none).bits).val)

/-- A tone index is coded-4 or coded-3: BITS of at least 2 on four pairs, or on three with 0 on the fourth (R102). -/
def coded (b : List Nat) : Bool :=
  let two := (b.filter (fun x => decide (2 ≤ x))).length
  two == 4 || (two == 3 && b.contains 0)

/-- The information bits of a tone index (R111). -/
def infoAt (b : List Nat) : Nat := if coded b then b.sum - 1 else b.sum

/-- The information bits of a data symbol. -/
def infoBits (tb : Table) : Nat := ((List.range 4096).map (fun t => infoAt (toneBits tb t))).sum

/-- Every entry is well-formed: BITS of at most 14, and GAIN 0 exactly with BITS 0, else 0x100..0x5A0. -/
def entriesOk (tb : Table) : Bool :=
  tb.all (fun l => l.all (fun e => decide (e.bits.val ≤ 14) &&
    (if e.bits.val = 0 then e.gain == 0 else decide (0x100 ≤ e.gain.toNat ∧ e.gain.toNat ≤ 0x5A0))))

/-- R98. -/
def rsOk (q n k info : Nat) : Bool :=
  decide (32 ≤ n ∧ n ≤ 255 ∧ k + 2 ≤ n ∧ n ≤ k + 16 ∧ (n - k) % 2 = 0 ∧ 1 ≤ q ∧ 192 ≤ q * k ∧ q * n * 8 ≤ info)

/-- Every loaded tone lies in 1..top and outside the notches (R121, R208). -/
def tonesOk (tb : Table) (nots : List (Nat × Nat)) (top : Nat) : Bool :=
  tb.all (fun l => (l.zip (List.range 4096)).all (fun e => e.1.bits.val == 0
    || (decide (1 ≤ e.2 ∧ e.2 ≤ top) && !notched nots e.2)))

/-! ## Rates (R125, R136-R138) -/

/-- The service rates in units of 1 Mb/s by code (R48). -/
def rateMbps (c : Nat) : Nat := [1000, 2500, 5000, 10000, 15000, 20000, 25000].getD c 0

/-- The net rate of Q·K message bytes per data symbol, in b/s times 1,024: 8 (Q·K − 128) × 1.6e9 / 9216 × 255 / 256 ×
504 / 512 (R125, R136). -/
def net1024 (qk : Nat) : Nat := (qk - 128) * 8 * 1600000000 * 255 * 504 * 1024 / (9216 * 256 * 512)

/-- A net rate supports a service rate: 0.999 S ≤ N (R138). -/
def supports (qk c : Nat) : Bool := decide (rateMbps c * 999000 * 1024 ≤ net1024 qk)

/-- The highest service rate code that Q·K supports, at most `cap` (R138). -/
def serviceRate (qk cap : Nat) : Option Nat := ((List.range 7).filter (fun c => decide (c ≤ cap) && supports qk c)).getLast?

/-! ## Computing a loading (R105) -/

/-- 10^(i/10), 10^(i/100) and 10^(i/1000) for i = 0..9, times 10^24. -/
def pow10a : List Nat :=
  [1000000000000000000000000, 1258925411794167210423954, 1584893192461113485202101, 1995262314968879601352455,
   2511886431509580111085032, 3162277660168379331998893, 3981071705534972507702523, 5011872336272722850015541,
   6309573444801932494343601, 7943282347242815020659182]
@[inherit_doc pow10a]
def pow10b : List Nat :=
  [1000000000000000000000000, 1023292992280754130966275, 1047128548050899533464502, 1071519305237606417408302,
   1096478196143185013143713, 1122018454301963435591038, 1148153621496882751546224, 1174897554939529541722067,
   1202264434617412905832612, 1230268770812381534241540]
@[inherit_doc pow10a]
def pow10c : List Nat :=
  [1000000000000000000000000, 1002305238077899671915404, 1004615790278395142404651, 1006931668851804169929660,
   1009252886076684411915527, 1011579454259898524440932, 1013911385736679411998827, 1016248692870695627673366,
   1018591388054116924079798, 1020939483707679955414903]

/-- 10^(g/1000) times 10^24, for a gap of g hundredths of a dB. -/
def gapNum (g : Int) : Nat :=
  let k := (g % 1000).toNat
  let m := pow10a.getD (k / 100) 0 * pow10b.getD (k / 10 % 10) 0 / 10 ^ 24 * pow10c.getD (k % 10) 0 / 10 ^ 24
  if g ≥ 0 then m * 10 ^ (g / 1000).toNat else m / 10 ^ (-(g / 1000)).toNat

/-- min(14, floor(log2(1 + SNR/Γ))) for an SNR in units of 1/65,536 and Γ as `gapNum` gives it (R105). -/
def bitsFor (gap snr : Nat) : Nat :=
  ((List.range 15).filter (fun b => decide ((2 ^ b - 1) * 65536 * gap ≤ snr * 10 ^ 24))).getLast?.getD 0

/-- The gaps of R105 for a margin in hundredths of a dB: Γ4, Γ3 and Γ. -/
structure Gaps where
  g4 : Nat
  g3 : Nat
  g0 : Nat

/-- Γ4 = 7.54 dB + M, Γ3 = 7.79 dB + M and Γ = 9.8 dB + M (R105). -/
def gapsOf (m : Int) : Gaps := ⟨gapNum (754 + m), gapNum (779 + m), gapNum (980 + m)⟩

/-- The BITS of one tone index from the SNR of each pair, 0 on an absent pair (R105). -/
def loadTone (g : Gaps) (snr : List Nat) : List Nat :=
  let b4 := snr.map (bitsFor g.g4)
  let good := (b4.filter (fun b => decide (2 ≤ b))).length
  let b3 := (snr.zip b4).map (fun e => if 2 ≤ e.2 then bitsFor g.g3 e.1 else 0)
  if good = 4 then b4
  else if good = 3 ∧ (b3.filter (fun b => decide (2 ≤ b))).length = 3 then b3
  else snr.map (bitsFor g.g0)

/-- The SNR of tones 1.. on the four pairs, written out. -/
def snrTones (runs : List SnrRun) : List (List Nat) :=
  (runs.flatMap (fun r => List.replicate (min 4095 r.count) [r.a, r.b, r.c, r.d])).take 4095

/-- The BITS of tones 1.. of a direction: tones that may not be loaded carry 0, and so does the absent pair. -/
def loadBits (g : Gaps) (ok : Nat → Bool) (absent : Option Nat) (snr : List (List Nat)) : List (List Nat) :=
  (snr.zip (List.range' 1 snr.length)).map (fun e =>
    if ok e.2 then loadTone g (e.1.mapIdx (fun p x => if absent = some p then 0 else x)) else [0, 0, 0, 0])

/-- A fine gain that spec/ leaves to the receiver: 0x100..0x5A0 (R102's table). -/
def freeGain (d p t : Nat) : BitVec 12 := BitVec.ofNat 12 (0x100 + Config.gain d p t % 0x4A1)

/-- The table of the BITS of tones 1.., with free gains drawn at `d`. -/
def bitsTable (d : Nat) (bs : List (List Nat)) : Table :=
  (List.range 4).map (fun p =>
    let l := bs.mapIdx (fun i b =>
      let x := min 14 (b.getD p 0)
      if x = 0 then LoadEntry.none else ⟨⟨x % 16, Nat.mod_lt _ (by decide)⟩, freeGain d p (i + 1)⟩)
    (LoadEntry.none :: l ++ List.replicate (4095 - l.length) LoadEntry.none))

/-- The information bits of the BITS of tones 1... -/
def bitsInfo (bs : List (List Nat)) : Nat := (bs.map infoAt).sum

/-- The pairs (N, K) of R98. -/
def rsPairs : List (Nat × Nat) :=
  (List.range' 32 224).flatMap (fun n => (List.range' 1 8).filterMap (fun h => if 2 * h < n then some (n, n - 2 * h) else none))

/-- The most Q·K that a number of information bits allows with (N, K). -/
def maxQK (info : Nat) (e : Nat × Nat) : Nat := info / (8 * e.1) * e.2

/-- The range of Q that gives at least the rate of code c, and at most 25.0 Gb/s net (R98, R137). -/
def qRange (info c : Nat) (e : Nat × Nat) : List Nat :=
  (List.range' 1 (info / (8 * e.1))).filter (fun q => supports (q * e.2) c && decide (192 ≤ q * e.2)
    && decide (net1024 (q * e.2) ≤ 25000000000 * 1024))

/-- Choose Q, N and K for a number of information bits (R98, R137): any choice that gives the highest service rate that
the channel supports, none where there is no service rate (R138). Which one is free, drawn at `d`. -/
def chooseRs (d info : Nat) : Option (Nat × Nat × Nat) :=
  let best := rsPairs.foldl (fun a e => max a (maxQK info e)) 0
  match serviceRate best 6 with
  | none => none
  | some c =>
    let ps := rsPairs.filter (fun e => !(qRange info c e).isEmpty)
    let e := ps.getD (Config.pick d % max 1 ps.length) (0, 0)
    let qs := qRange info c e
    if ps.isEmpty then none else some (qs.getD (Config.pick (d + 1) % max 1 qs.length) 0, e.1, e.2)

/-- A range item for each pair with all of tones 1..4095 (R167). -/
def fullItems (tb : Table) : List LoadRange :=
  (List.range 4).map (fun p => ⟨⟨p % 4, Nat.mod_lt _ (by decide)⟩, 1, (tb.getD p []).drop 1⟩)

/-- A full request for a table (R166). -/
def fullReq (sf id rate : Nat) (three : Bool) (q n k : Nat) (tb : Table) : LoadReq :=
  { s := BitVec.ofNat 40 sf, loadId := ⟨id % 16, Nat.mod_lt _ (by decide)⟩, full := true, threePair := three,
    rate := ⟨rate % 8, Nat.mod_lt _ (by decide)⟩, q := BitVec.ofNat 16 q, n := BitVec.ofNat 8 n, k := BitVec.ofNat 8 k,
    items := fullItems tb }

/-- What a receiver computes from its SNR at a margin in hundredths of a dB: BITS, Q, N, K and the service rate that R138
gives under `cap` (R105, R98, R137, R219); none where N gives no service rate. -/
def computeAt (d : Nat) (ok : Nat → Bool) (absent : Option Nat) (cap : Nat) (snr : List (List Nat)) (m : Int) :
    Option (List (List Nat) × Nat × Nat × Nat × Nat) :=
  let bs := loadBits (gapsOf m) ok absent snr
  match chooseRs d (bitsInfo bs) with
  | some (q, n, k) => (serviceRate (q * k) cap).map (fun r => (bs, q, n, k, r))
  | none => none

/-- The target margin, 6.0 dB (R105). -/
def targetMargin : Int := 600

/-- The loading for 1 Gb/s at the highest achievable margin, searched in steps of 0.1 dB below the target margin (R304);
none where no margin down to −30 dB gives one. -/
def computeLow (d : Nat) (ok : Nat → Bool) (absent : Option Nat) (snr : List (List Nat)) :
    Option (List (List Nat) × Nat × Nat × Nat × Nat) :=
  (List.range 361).findSome? (fun i => computeAt d ok absent 0 snr (targetMargin - 10 * ((i : Nat) : Int)))

/-! ## What a port may load -/

/-- The rate code that a port's performance level allows at most (R661, R662). -/
def levelCap (s : State) (n : Nat) : Nat := [2, 3, 5, 6].getD (levelNow s (groupOf n)) 6

/-- The highest service rate code of a port: the ceiling of R56, RATE_CAP (its reserved code acts as the reset value,
R358) and the level (R662). -/
def rateCap (s : State) (n : Nat) : Nat :=
  min (min (port s n).tr.ceiling (if rdP s n F.LINK_CTRL_RATE_CAP = 7 then 6 else rdP s n F.LINK_CTRL_RATE_CAP)) (levelCap s n)

/-- The union of both ends' notches (R208). -/
def linkNotches (s : State) (n : Nat) : List (Nat × Nat) :=
  notches s n ++ (port s n).tr.peerNotches.map (fun b => (b.lo.toNat, b.hi.toNat))

/-- The highest tone that a port sends in T_PARAMS: the lower of its own limit and CH_TOP_TONE (R273). -/
def ownTop (s : State) : Nat := min 4095 (rdG s F.CH_TOP_TONE)

/-- The highest tone that the link may load (R56, R208). -/
def linkTop (s : State) (n : Nat) : Nat :=
  let t := (port s n).tr
  min (64 * (t.topBand + 1) - 1) (min (ownTop s) (if t.gotParams then t.peerTop else 4095))

/-- A tone may be loaded on a port. -/
def toneOk (s : State) (n t : Nat) : Bool := decide (t ≤ linkTop s n) && !notched (linkNotches s n) t

/-- The absent pair of a port, in three-pair operation. -/
def absentOf (s : State) (n : Nat) : Option Nat := if threePair s n then some (absentPair s n) else none

end Sys2Proof.Machine
end

