-- ==== Sys2Proof/Machine/Signal.lean ====
section
/-!
DEFINITION. The line signal of Siruigo as functions (R91-R95, R96-R111, R189): sync symbols and pilots, Reed-Solomon, interleaving,
scrambling, the trellis code and the constellations, and handshake bursts. A point is given as its pair of odd integers; its scale s_b, GAIN
and the transmit PSD multiply it (R106).
-/
namespace Sys2Proof.Machine

/-! ## Reed-Solomon (R97-R99) -/

/-- The product with α in GF(256) over x^8 + x^4 + x^3 + x^2 + 1. -/
def xtime (a : Byte) : Byte := if a.msb then (a <<< 1) ^^^ 0x1D else a <<< 1

/-- The product in GF(256). -/
def gfMul (a b : Byte) : Byte :=
  (List.range 8).foldl (fun (r : Byte) i => if a.getLsbD (7 - i) then xtime r ^^^ b else xtime r) 0

/-- α^i. -/
def gfAlpha : Nat → Byte
  | 0 => 1
  | i + 1 => xtime (gfAlpha i)

/-- The generator polynomial of r parity bytes, highest degree first: Π (x + α^i), i < r. -/
def rsGen : Nat → List Byte
  | 0 => [1]
  | r + 1 => List.zipWith (· ^^^ ·) (rsGen r ++ [0]) (0 :: (rsGen r).map (gfMul (gfAlpha r)))

/-- One message byte enters the division by a generator polynomial without its leading 1. -/
def rsStep (g : List Byte) (rem : List Byte) (m : Byte) : List Byte :=
  let f := m ^^^ rem.headD 0
  List.zipWith (· ^^^ ·) (rem.drop 1 ++ [0]) (g.map (gfMul f))

/-- The N − K parity bytes of a message. -/
def rsParity (n k : Nat) (m : List Byte) : List Byte :=
  m.foldl (rsStep ((rsGen (n - k)).drop 1)) (List.replicate (n - k) 0)

/-- The systematic codeword of a message (R97). -/
def rsEncode (n k : Nat) (m : List Byte) : List Byte := m ++ rsParity n k m

/-- The frame of a symbol: byte j is byte (j div Q) of codeword (j mod Q) (R99). -/
def interleave (q n : Nat) (cws : List (List Byte)) : List Byte :=
  (List.range (q * n)).map (fun j => (cws.getD (j % q) []).getD (j / q) 0)

/-- The frame of a data symbol from its Q·K message bytes (R96 steps 2 and 3). -/
def symbolFrame (l : Loading) (m : List Byte) : List Byte :=
  interleave l.q l.n ((List.range l.q).map (fun i => rsEncode l.n l.k (slice m (i * l.k) l.k)))

/-- The bits of bytes, each byte most significant bit first. -/
def byteBits (bs : List Byte) : List Bool := bs.flatMap (fun b => (List.range 8).map (fun i => b.getLsbD (7 - i)))

/-! ## Scrambling (R100, R101) -/

/-- One step of x^23 + x^18 + 1: f = x18 xor x23, which moves into x1. -/
def prbsStep (r : BitVec 23) : Bool × BitVec 23 :=
  let f := r.getLsbD 17 != r.getLsbD 22
  (f, (r <<< 1) ||| (if f then 1 else 0))

/-- The first outputs of the generator. -/
def prbs : Nat → BitVec 23 → List Bool
  | 0, _ => []
  | k + 1, r => (prbsStep r).1 :: prbs k (prbsStep r).2

/-- Scramble bits: the output, and the register after them. -/
def scramble : List Bool → BitVec 23 → List Bool × BitVec 23
  | [], r => ([], r)
  | b :: bs, r =>
    let (f, r1) := prbsStep r
    let (out, r2) := scramble bs r1
    ((b != f) :: out, r2)

/-- The seed of the scrambler at symbol 1 of superframe S (R101). -/
def scrSeed (down : Bool) (sf : Nat) : BitVec 23 :=
  0x400000 ||| (BitVec.ofNat 23 (sf % 0x400000) ^^^ (if down then 0 else 0x155555))

/-! ## Constellations (R106, R107) -/

/-- The places of the label bits that form X, most significant first. -/
def xPlaces (b : Nat) : List Nat :=
  if b = 1 then [0]
  else if b % 2 = 0 then (List.range (b / 2)).map (fun i => b - 1 - 2 * i)
  else (b - 1) :: (List.range (b / 2)).map (fun i => b - 2 - 2 * i)

/-- The places of the label bits that form Y. -/
def yPlaces (b : Nat) : List Nat :=
  if b % 2 = 0 then (List.range (b / 2)).map (fun i => b - 2 - 2 * i) else (List.range (b / 2)).map (fun i => b - 3 - 2 * i)

/-- Label bits as a two's-complement integer. -/
def labelInt (v : Nat) (ps : List Nat) : Int := signed ps.length (ps.foldl (fun a i => 2 * a + bitsOf v i i) 0)

/-- The point of b bits with label v, as its pair of odd integers; the imaginary part is 0 for b = 1. -/
def point (b v : Nat) : Int × Int :=
  if b = 0 then (0, 0) else (2 * labelInt v (xPlaces b) + 1, if b = 1 then 0 else 2 * labelInt v (yPlaces b) + 1)

/-- E_b: the point is scaled by 1/√E_b. -/
def energy (b : Nat) : Nat := ((4 ^ (xPlaces b).length - 1) + (4 ^ (if b = 1 then 0 else b / 2) - 1)) / 3

/-! ## The trellis code (R108-R111) -/

/-- The latest values of u0, u1 and u2: bit j holds the value j + 1 coded tone indices back. -/
structure Trellis where
  u0 : BitVec 6
  u1 : BitVec 6
  u2 : BitVec 6
  deriving DecidableEq, Repr

/-- The all-zero history at the first coded tone index of symbol 1 of a superframe (R109). -/
def Trellis.init : Trellis := ⟨0, 0, 0⟩

/-- u0 of the next coded tone index (R108). -/
def Trellis.next (h : Trellis) : Bool :=
  [h.u0.getLsbD 4, h.u0.getLsbD 5, h.u1.getLsbD 0, h.u1.getLsbD 1, h.u1.getLsbD 2, h.u1.getLsbD 3, h.u2.getLsbD 0, h.u2.getLsbD 2,
    h.u2.getLsbD 4].foldl (· != ·) false

/-- The history after a coded tone index. -/
def Trellis.push (h : Trellis) (a b c : Bool) : Trellis :=
  let f := fun (r : BitVec 6) (x : Bool) => (r <<< 1) ||| (if x then 1 else 0)
  ⟨f h.u0 a, f h.u1 b, f h.u2 c⟩

/-- Bits taken in ascending order into a label from place `i` up. -/
def takeLabel : Nat → Nat → List Bool → Nat × List Bool
  | 0, _, bs => (0, bs)
  | k + 1, i, bs =>
    let (v, r) := takeLabel k (i + 1) (bs.drop 1)
    (bit (bs.headD false) * 2 ^ i + v, r)

/-- The label of a loaded pair of a coded tone index: z1, then v2 and up; v1 = z1 and v0 = z0 xor z1. -/
def codedLabel (b : Nat) (z0 : Bool) (bs : List Bool) : Nat × List Bool :=
  let z1 := bs.headD false
  let (v, r) := takeLabel (b - 2) 2 (bs.drop 1)
  (bit (z0 != z1) + 2 * bit z1 + v, r)

/-- Labels of the pairs of a coded tone index, given the z0 of the label positions in the order of the pairs. -/
def codedLabels : List Nat → List Bool → List Bool → List Nat × List Bool
  | b :: t, z :: zs, bs =>
    let (v, r) := if b = 0 then (0, bs) else codedLabel b z bs
    let (vs, r1) := codedLabels t zs r
    (v :: vs, r1)
  | _, _, bs => ([], bs)

/-- Labels of an uncoded tone index. -/
def plainLabels : List Nat → List Bool → List Nat × List Bool
  | b :: t, bs =>
    let (v, r) := takeLabel b 0 bs
    let (vs, r1) := plainLabels t r
    (v :: vs, r1)
  | [], bs => ([], bs)

/-- The label positions' z0 in the order A..D: L0..L3 on a coded-4 index; on a coded-3 index the pair without bits takes L0 (R110). -/
def zPattern (bits : List Nat) (r u0 u1 u2 : Bool) : List Bool :=
  match bits.idxOf? 0 with
  | none => [r, u0 != r, u1 != r, u2 != r]
  | some i => [u0, u1, u2].insertIdx i false

/-- One tone index takes its bits: the labels of the pairs A..D, the trellis after it, and the bits left (R111). -/
def toneLabels (bits : List Nat) (h : Trellis) (bs : List Bool) : List Nat × Trellis × List Bool :=
  if coded bits then
    let four := !bits.contains 0
    let r := four && bs.headD false
    let bs1 := if four then bs.drop 1 else bs
    let u1 := bs1.getD 0 false
    let u2 := bs1.getD 1 false
    let u0 := h.next
    let (v, rest) := codedLabels bits (zPattern bits r u0 u1 u2) (bs1.drop 2)
    (v, h.push u0 u1 u2, rest)
  else
    let (v, rest) := plainLabels bits bs
    (v, h, rest)

/-- The labels of the tones of a data symbol, in ascending order. -/
def symbolLabels : List (List Nat) → Trellis → List Bool → List (List Nat) × Trellis
  | [], h, _ => ([], h)
  | b :: t, h, bs =>
    let (v, h1, r) := toneLabels b h bs
    let (vs, h2) := symbolLabels t h1 r
    (v :: vs, h2)

/-- A data symbol from its message bytes, the scrambler and the trellis: the points of tones 1..4095 on pairs A..D, and both registers
after it. The frame bits are followed by pad bits of 0 up to the information bits (R96, R99). -/
def dataSymbol (l : Loading) (tb : Table) (m : List Byte) (r : BitVec 23) (h : Trellis) :
    List (List (Int × Int)) × BitVec 23 × Trellis :=
  let f := byteBits (symbolFrame l m)
  let (bs, r1) := scramble (f ++ List.replicate (infoBits tb - f.length) false) r
  let bits := (List.range' 1 4095).map (toneBits tb)
  let (vs, h1) := symbolLabels bits h bs
  (List.zipWith (fun b v => List.zipWith point b v) bits vs, r1, h1)

/-! ## Sync symbols (R91-R95) -/

/-- The seed of the sync generator of a pair (R91). -/
def syncSeed (p : Nat) : BitVec 23 := [0x7FFFFF, 0x555555, 0x2AAAAA, 0x333333].getD p 0

/-- The pattern point of a tone on a pair: two bits of the generator select it, v1 first (R91). -/
def patternPoint (p t : Nat) : Int × Int :=
  let b := (prbs (2 * t) (syncSeed p)).drop (2 * t - 2)
  point 2 (2 * bit (b.getD 0 false) + bit (b.getD 1 false))

/-- The pilot code of pair p of port n: the device's own, or the partner's (R92). -/
def pilotCode (partner : Bool) (n p : Nat) : Nat := (if partner then 256 else 0) + 4 * n + p

/-- The number of ones among the low nine bits. -/
def ones9 (v : Nat) : Nat := ((List.range 9).filter (fun i => bitsOf v i i == 1)).length

/-- The pilot sign w_c(S mod 512), true for −1 (R93). -/
def pilotNeg (c sf : Nat) : Bool := ones9 (c &&& (sf % 512)) % 2 == 1

/-- A point with a sign. -/
def negIf (b : Bool) (x : Int × Int) : Int × Int := if b then (-x.1, -x.2) else x

/-- A pair sends sync symbols: not while it is calibrated as the absent pair (R95). -/
def syncOn (s : State) (n p : Nat) : Bool :=
  !((portCal s n).any (fun r => r.left.headD 4 == p && (match r.phase with | .out _ => true | .quiet => true | _ => false)))

/-- The point that the sync symbol of superframe S carries on tone t of pair p of port n, (0, 0) where it carries none (R93-R95). -/
def syncPoint (s : State) (n p sf t : Nat) : Int × Int :=
  if decide (1 ≤ t ∧ t ≤ 64 * ((port s n).tr.topBand + 1) - 1) && !notched (notches s n) t && syncOn s n p then negIf (pilotNeg (pilotCode false n p) sf) (patternPoint p t) else (0, 0)

/-! ## Handshake bursts (R189) -/

/-- The handshake tones that a sender's notches leave. -/
def hsTones (l : List (Nat × Nat)) : List Nat := ((List.range 32).map (fun m => 32 * m + 16)).filter (fun t => !notched l t)

/-- M, the number of message symbols: max(16, ⌈512/T⌉). -/
def hsM (l : List (Nat × Nat)) : Nat := max 16 ((512 + (hsTones l).length - 1) / (hsTones l).length)

/-- The length of a burst in symbols. -/
def hsLength (l : List (Nat × Nat)) : Nat := 37 + hsM l

/-- The code bits c_0..c_32 of a seed. -/
def hsCode (seed : BitVec 20) : List Bool := prbs 33 (0x400000 ||| seed.setWidth 23)

/-- Message bit i of a burst: the 128 bits of the message repeated without a break. -/
def hsBit (msg : List Byte) (i : Nat) : Bool := (byteBits msg).getD (i % 128) false

/-- The sign of handshake tone k of symbol j of a burst against the preamble, true for −1. -/
def hsNeg (tones : Nat) (seed : BitVec 20) (msg : List Byte) (j k : Nat) : Bool :=
  if j < 4 then false
  else if j < 37 then (hsCode seed).getD (j - 4) false
  else (List.range (j - 36)).foldl (fun a i => a != hsBit msg (i * tones + k)) ((hsCode seed).getD 32 false)

/-- The point on handshake tone k of pair p in symbol j of the burst that port n sends with a message. -/
def hsPoint (s : State) (n p j k : Nat) (msg : List Byte) : Int × Int :=
  let ts := hsTones (notches s n)
  negIf (hsNeg ts.length (port s n).an.seed msg j k) (patternPoint p (ts.getD k 0))

end Sys2Proof.Machine
end

