-- ==== Sys2Proof/Machine/Channel.lean ====
section
/-!
DEFINITION. The message streams of a port as bytes: message bodies (R162, R166, R203), headers and precedence (R156, R160), the message
bytes of an embedded-channel block (R153), and the codeword of the training channel (R200-R202).
-/
namespace Sys2Proof.Machine

/-! ## Message bodies -/

/-- A range item of a loading (R166). -/
def rangeBytes (x : LoadRange) : List Byte :=
  natBE 2 (x.pair.val * 0x4000 + x.start.toNat) ++ natBE 2 x.entries.length ++ x.entries.flatMap entryBytes

/-- The body of a LOADING_REQUEST (R166). -/
def loadReqBytes (r : LoadReq) : List Byte :=
  natBE 5 r.s.toNat ++ natBE 1 r.loadId.val ++ natBE 1 (bit r.full * 128 + bit r.threePair * 64 + (if r.full then r.rate.val * 8 else 0))
    ++ natBE 2 r.q.toNat ++ natBE 1 r.n.toNat ++ natBE 1 r.k.toNat ++ natBE 2 r.items.length ++ r.items.flatMap rangeBytes

/-- START and END of a band of tones. -/
def bandBytes (b : Band) : List Byte := natBE 2 b.lo.toNat ++ natBE 2 b.hi.toNat

/-- The body of a message (R162, R203). -/
def bodyBytes : MsgBody → List Byte
  | .ack type tag => [type, tag]
  | .version proto vendor part rev fw profile =>
    [proto] ++ natBE 3 vendor.toNat ++ natBE 2 part.toNat ++ [rev] ++ natBE 4 fw.toNat ++ [profile]
  | .feStatus body => body
  | .loadingRequest r => loadReqBytes r
  | .loadingConfirm s id => natBE 5 s.toNat ++ natBE 1 id.val
  | .loadingReject tag reason => [tag, reason]
  | .loadingNeed s bands => natBE 5 s.toNat ++ natBE 1 bands.length ++ bands.flatMap bandBytes
  | .rateNotice s rate => natBE 5 s.toNat ++ natBE 1 rate.val
  | .pairFallback s action pair txId rxId => natBE 5 s.toNat ++ [action] ++ natBE 1 pair.val ++ natBE 1 (txId.val * 16 + rxId.val)
  | .shutter s action reason => natBE 5 s.toNat ++ [action, reason]
  | .feedbackSet rate pairs => [rate] ++ natBE 1 pairs.toNat
  | .feedback s first count pairs exp err => natBE 5 s.toNat ++ natBE 2 first.toNat ++ [count] ++ natBE 1 pairs.toNat ++ [exp] ++ err
  | .timeMark s sec ns frac epoch delay valid disc step =>
    natBE 5 s.toNat ++ natBE 6 sec.toNat ++ natBE 4 ns.toNat ++ natBE 2 frac.toNat ++ natBE 2 epoch.toNat ++ natBE 4 delay.toNat
      ++ natBE 1 (bit valid + 2 * bit disc + 4 * bit step)
  | .timeReport s turn skew => natBE 5 s.toNat ++ natBE 4 turn.toNat ++ skew.flatMap (fun x => natBE 2 x.toNat) ++ [0, 0]
  | .tParams pilot top mask notches =>
    natBE 2 pilot.toNat ++ natBE 2 top.toNat ++ natBE 1 mask.length ++ natBE 1 notches.length
      ++ mask.flatMap (fun b => natBE 2 b.tone.toNat ++ natBE 2 b.level.toNat) ++ notches.flatMap bandBytes
  | .tAlign offset delay aligned => natBE 4 offset.toNat ++ natBE 4 delay.toNat ++ natBE 1 (bit aligned)
  | .tReady phase => [phase]
  | .tNext phase s => [phase] ++ natBE 5 s.toNat
  | .tPairs live => natBE 1 live.toNat
  | .tLoading r => loadReqBytes r
  | .tConfirm s id => natBE 5 s.toNat ++ natBE 1 id.val
  | .tGo s => natBE 5 s.toNat
  | .tAbort reason => [reason]

/-- A message: its header and its body (R156). -/
def messageBytes (m : Nat × Nat × MsgBody) : List Byte :=
  let b := bodyBytes m.2.2
  natBE 1 m.1 ++ natBE 1 m.2.1 ++ natBE 2 b.length ++ b

/-- The types in their order of precedence (R160). -/
def precedence : List (List Nat) :=
  [[0x01], [0x11], [0x20], [0x10], [0x12], [0x13], [0x14], [0x21], [0x02], [0x40, 0x41], [0x03], [0x30], [0x31]]

/-- Queued messages in the order in which the stream takes them; those of the training channel keep their order. -/
def inPrecedence (l : List (Nat × Nat × MsgBody)) : List (Nat × Nat × MsgBody) :=
  precedence.flatMap (fun ts => l.filter (fun m => ts.contains m.1)) ++ l.filter (fun m => precedence.all (fun ts => !ts.contains m.1))

/-! ## The message bytes of a block or codeword -/

/-- Begin messages while there is room for a byte: the bytes, the offset of the first header, and the messages left. -/
def takeMsgs (room : Nat) : List (Nat × Nat × MsgBody) → List Byte → Option Nat → List Byte × Option Nat × List (Nat × Nat × MsgBody)
  | [], acc, ptr => (acc, ptr, [])
  | m :: t, acc, ptr =>
    if room ≤ acc.length then (acc, ptr, m :: t) else takeMsgs room t (acc ++ messageBytes m) (some (ptr.getD acc.length))

/-- What a block with `room` message bytes carries: them, MSG_PTR, the bytes that the next block goes on with, and the messages left; fill
bytes of 0 follow the last message (R153, R156). -/
def fillMsgs (room : Nat) (rest : List Byte) (l : List (Nat × Nat × MsgBody)) :
    List Byte × Nat × List Byte × List (Nat × Nat × MsgBody) :=
  let (acc, ptr, left) := takeMsgs room (inPrecedence l) rest none
  (acc.take room ++ List.replicate (room - acc.length) 0, ptr.getD 0xFF, acc.drop room, left)

/-! ## The training channel (R200-R202) -/

/-- The 24 message bytes of a training codeword. -/
def trainingMessage (phase ptr : Nat) (bytes : List Byte) : List Byte := natBE 1 (phase * 16) ++ natBE 1 ptr ++ bytes

/-- The codeword of a training symbol, the same on all four pairs. -/
def trainingCodeword (m : List Byte) : List Byte := rsEncode 32 24 m

/-- The frame bits of one pair of a training symbol: the codeword's bits on tones 8j, j = 1..128, and 0 elsewhere, two bits per tone of
1..4095. -/
def trainingBits (m : List Byte) : List Bool :=
  let bs := byteBits (trainingCodeword m)
  (List.range' 1 4095).flatMap (fun t =>
    if t % 8 = 0 ∧ t ≤ 1024 then [bs.getD (2 * (t / 8) - 2) false, bs.getD (2 * (t / 8) - 1) false] else [false, false])

end Sys2Proof.Machine
end

