-- ==== Sys2Proof/Machine/CommandPort.lean ====
section
/-!
DEFINITION. The Command Port's transactions (R504-R507), HELLO and profiles (R522-R525), sessions (R553-R564), operation
records (R530), the Ledger's opcodes (R573, R574) and the reset command (R650).
-/
namespace Sys2Proof.Machine

/-! ## Transactions -/

/-- The Command Port answers: no reset is held, the device is not in Retain, and its logic has a clock (R620, R686). -/
def cpAnswers (s : State) : Bool :=
  s.stage != .held && s.stage != .stopped && mgmtValid s (rdG s F.CLK_SEL_STATUS_MGMT_SRC)

/-- The bytes that the device drives in a READ: the status byte, then the reply that is held (R504). -/
def readBytes (s : State) : List Byte := statusByte s :: (s.cp.reply.getD [])

/-- A READ of k bytes returns DROPPED, and takes note of how much of the reply has been read (R505, R507, R516). -/
def cpRead (k : Nat) (s : State) : State :=
  if cpAnswers s then
    modCp (fun p => { p with out := (readBytes s).take k, dropped := p.dropped && k == 0,
                             replyRead := if p.reply.isSome then max p.replyRead (k - 1) else p.replyRead }) s
  else modCp (fun p => { p with out := [] }) s

/-- A WRITE transaction that brings a packet (R504); in Retain it is ignored (R688). -/
def cpWrite (b : List Byte) (s : State) : State :=
  let s1 := modCp (fun p => { p with out := [] }) s
  if s.stage = .stopped then setDropped s1 else if cpAnswers s1 then arrive b s1 else s1

/-- WRITE: R504, R506, R511, R512. -/
def execWrite (bytes : List Byte) (s : State) : Host.Outcome State Fault Refusal := .next (cpWrite bytes s)

/-- READ: R504, R507. -/
def execRead (k : Nat) (s : State) : Host.Outcome State Fault Refusal := .next (cpRead k s)

/-- POLL: the status byte alone (R504, R505). -/
def execPoll (s : State) : Host.Outcome State Fault Refusal :=
  .next (if cpAnswers s then modCp (fun p => { p with out := [statusByte s], dropped := false }) s
         else modCp (fun p => { p with out := [] }) s)

/-- A transaction that begins with any other code is ignored and sets DROPPED (R504). -/
def execTransactionIgnored (code : Byte) (s : State) : Host.Outcome State Fault Refusal :=
  .next (if code = 0xC1 ∨ code = 0xC2 ∨ code = 0xC3 ∨ cpAnswers s = false then s
         else setDropped (modCp (fun p => { p with out := [] }) s))

/-! ## HELLO and profiles -/

/-- The profile in force for a requested one: B0 implements profile 1 only (R8, R9). -/
def profileFor (_req : Nat) : Nat := 1

/-- PART: 0x4880 or 0x4824 (R522). -/
def partCode (s : State) : Nat := if s.part = .qn4880 then 0x4880 else 0x4824

/-- The results of HELLO (R522). -/
def helloBytes (s : State) (sel : Nat) : List Byte :=
  let fw := s.stage == .firmware
  natBE 1 sel ++ [0x01] ++ natBE 2 (partCode s) ++ [0xB0] ++ natBE 1 (rdG s F.DEV_ID_PROFILE_REQ)
    ++ natBE 1 (rdG s F.DEV_ID_PROFILE) ++ [if fw then 0x02 else 0x01]
    ++ natBE 4 (if fw then s.images.fwVersion else 0) ++ natBE 4 Config.romVersion.toNat ++ [0x11, 0x00, 8, 0]

/-- A version is selected: sessions end where it differs from the one in force (R523). -/
def helloDone (s : State) : State :=
  modCp (fun p => { p with helloVersion := some 1 }) (if s.cp.helloVersion = some 1 then s else endSessions 5 s)

/-- HELLO (R522, R523). -/
def helloPlan (c : Packet) (_ : Option Role) (s : State) : Plan :=
  firstOf [bad (plen c ≠ 4 || !zeros c 1 3)]
    (if pb c 0 % 2 = 1 then Plan.done .ok (helloBytes s 1) helloDone else Plan.done .version (helloBytes s 0) id)

/-- HELLO (0x01). -/
def opHello : Opcode := ⟨0x01, none, true, false, noArea, helloPlan⟩

/-- HELLO: R522, R523. -/
def execHello (c : Packet) (s : State) : Host.Outcome State Fault Refusal := .next (runOpcode opHello c s)

/-- The profile that the next warm reset requests (R10, R524). -/
def nextProfile (s : State) (sel : Nat) : Nat := if sel = 0 then s.strapReq else sel

/-- PROFILE_SELECT (R524, R525). -/
def profilePlan (c : Packet) (_ : Option Role) (s : State) : Plan :=
  let p := pb c 0
  firstOf [bad (plen c ≠ 4 || !zeros c 1 3 || p > 4)]
    (Plan.done .ok (natBE 1 (nextProfile s p) ++ natBE 1 (profileFor (nextProfile s p))) (fun s => { s with profileSel := p, profileNew := true }))

/-- PROFILE_SELECT (0xE0). -/
def opProfileSelect : Opcode := ⟨0xE0, some .maker, false, true, noArea, profilePlan⟩

/-- PROFILE_SELECT: R524, R525. -/
def execProfileSelect (c : Packet) (s : State) : Host.Outcome State Fault Refusal := .next (runOpcode opProfileSelect c s)

/-! ## Sessions -/

/-- A role of R556. -/
def roleOfCode (n : Nat) : Option Role :=
  match n with | 1 => some .operator | 2 => some .installer | 3 => some .maker | _ => none

/-- The idle limit in force, in s; 0 for none (R587). -/
def idleLimit (s : State) : Nat :=
  let v := rdG s F.SEC_CTRL_IDLE
  if 1 ≤ v ∧ v ≤ 9 then 10 else v

/-- A handle that R558 allows. -/
def handleOk (s : State) (h : BitVec 32) : Bool :=
  h != 0 && h != 0xFFFFFFFF && (findSession s h).isNone

/-- The handle drawn: the drawn value, or the next one after it that R558 allows. -/
def drawHandle (s : State) : BitVec 32 :=
  let h := Config.handle s.draws
  (((List.range 16).map (fun i => h + BitVec.ofNat 32 i)).find? (handleOk s)).getD h

/-- The limits of R561 leave no room for a session of a role. -/
def sessionFull (s : State) (r : Role) : Bool :=
  decide (s.sec.sessions.length ≥ 8) || (r == .maker && s.sec.sessions.any (fun x => x.role == .maker))

/-- M of R557. -/
def authM (s : State) (r : Role) (slot : Nat) (h : BitVec 32) (dev host : List Byte) : List Byte :=
  natBE 1 (roleCode (some r)) ++ natBE 1 slot ++ natBE 4 h.toNat ++ vSerial s ++ dev ++ host

/-- The labels of R557. -/
def labelQns1 : List Byte := [0x51, 0x4E, 0x53, 0x31]
@[inherit_doc labelQns1]
def labelQnd1 : List Byte := [0x51, 0x4E, 0x44, 0x31]
@[inherit_doc labelQns1]
def labelQnk1 : List Byte := [0x51, 0x4E, 0x4B, 0x31]

/-- A session opens: the role's count and hold-off return to zero; an OPEN entry for installer and maker (R562, R565). -/
def openSession (c : Packet) (x : Session) (s : State) : State :=
  let s1 := modGuard x.role (fun _ => RoleGuard.init) (modSec (fun k => { k with prov := none, sessions := k.sessions ++ [x] }) s)
  let e0 := ledgerEntry 3 (roleCode (some x.role)) [0, 0, 0, 0]
  let e := { e0 with session := x.handle, seq := c.seq.toNat, opcode := 2, paramLen := plen c, digest := (sha256 c.params).take 24 }
  countDev 0x2F 1 (if x.role = .operator then s1 else ledger e s1)

/-- A phase 2 fails: an AUTH_FAIL entry, and a failure counted for the named role, whose eighth and each further one in a
row begins a hold-off (R559, R562). -/
def authFail (c : Packet) (r : Role) (s : State) : State :=
  let e0 := ledgerEntry 5 (roleCode (some r)) [0, 0, 0, 0]
  let e := { e0 with session := BitVec.ofNat 32 (pf c 4 4), seq := c.seq.toNat, opcode := 2, status := Status.denied.code }
  let e := { e with paramLen := plen c, digest := (sha256 c.params).take 24 }
  let s1 := ledger e (modSec (fun k => { k with prov := none }) s)
  let s2 := countDev 0x30 1 (addCnt 0 F.AUTH_FAILS 1 (evG F.LEDGER_EVENTS_AUTH_FAIL s1))
  let g := guardOf s2 r
  if g.fails + 1 ≥ 8 then
    evG F.LEDGER_EVENTS_BACKOFF (modGuard r (fun g =>
      ⟨g.fails + 1, true, if g.lastHoldS = 0 then 60 else min 3600 (2 * g.lastHoldS)⟩) s2)
  else modGuard r (fun g => { g with fails := g.fails + 1 }) s2

/-- A role opens without a key in a slot (R560). -/
def keylessOpen (s : State) (r : Role) (slot : Nat) : Bool :=
  match r with
  | .operator => !vProgrammed s (keyField .operator slot)
  | .installer => false
  | .maker => !vProgrammed s 0x14 && !vProgrammed s 0x15 && s.straps.testEn

/-- Phase 1 of SESSION_OPEN (R556, R559, R560). -/
def openPhase1 (c : Packet) (r : Role) (slot : Nat) (s : State) : Plan :=
  let h := drawHandle s
  let dev := natBE 16 (Config.nonce s.draws).toNat
  let host := slice c.params 4 16
  let out := natBE 4 h.toNat ++ dev ++ vSerial s
  let drop := modSec (fun k => { k with prov := none })
  firstOf
    [ chk (sessionFull s r) (Plan.busy s),
      chk (rdG s F.VAULT_STATUS_READ_LOCK == 1 && r != .operator) (Plan.done .notReady [] drop),
      chk ((guardOf s r).held) (Plan.done .refused [] drop),
      chk (keylessOpen s r slot) (Plan.done .ok (out ++ natBE 2 (idleLimit s)) (fun s =>
        openSession c ⟨h, r, slot, hmac (List.replicate 32 0) (labelQnk1 ++ authM s r slot h dev host), true, none, s.tick⟩
          (draw s))) ]
    (Plan.done .ok out (fun s => modSec (fun k => { k with prov := some ⟨h, r, slot, host, dev⟩ }) (draw s)))

/-- Phase 2 of SESSION_OPEN (R556, R557, R559). -/
def openPhase2 (c : Packet) (r : Role) (slot : Nat) (s : State) : Plan :=
  let h := BitVec.ofNat 32 (pf c 4 4)
  if rdG s F.VAULT_STATUS_READ_LOCK = 1 ∧ r ≠ .operator then Plan.done .notReady [] id
  else if sessionFull s r then Plan.busy s
  else
    match s.sec.prov, roleKey s r slot with
    | some p, some k =>
      let m := authM s r slot h p.devNonce p.hostNonce
      if p.handle = h ∧ p.role = r ∧ p.slot = slot ∧ slice c.params 8 32 = hmac k (labelQns1 ++ m) then
        Plan.done .ok (natBE 4 h.toNat ++ hmac k (labelQnd1 ++ m) ++ natBE 2 (idleLimit s)) (fun s =>
          openSession c ⟨h, r, slot, hmac k (labelQnk1 ++ m), false, none, s.tick⟩ s)
      else Plan.done .denied [] (authFail c r)
    | _, _ => Plan.done .denied [] (authFail c r)

/-- SESSION_OPEN (R556-R562). -/
def sessionOpenPlan (c : Packet) (_ : Option Role) (s : State) : Plan :=
  let ph := pb c 0
  match roleOfCode (pb c 1) with
  | none => Plan.refuse .badParam 0
  | some r =>
    firstOf [bad (c.session ≠ 0 || (ph ≠ 1 && ph ≠ 2) || plen c ≠ (if ph = 1 then 20 else 40) || pb c 2 > 1 || pb c 3 ≠ 0)]
      (if ph = 1 then openPhase1 c r (pb c 2) s else openPhase2 c r (pb c 2) s)

/-- SESSION_OPEN (0x02). -/
def opSessionOpen : Opcode := ⟨0x02, none, false, false, noArea, sessionOpenPlan⟩

/-- SESSION_OPEN: R556-R562. -/
def execSessionOpen (c : Packet) (s : State) : Host.Outcome State Fault Refusal := .next (runOpcode opSessionOpen c s)

/-- SESSION_CLOSE (R563). -/
def opSessionClose : Opcode :=
  ⟨0x03, some .operator, false, false, noArea, fun c _ _ =>
    firstOf [bad (plen c ≠ 0)] (Plan.done .ok [] (endSession c.session 1))⟩

/-- SESSION_CLOSE: R563. -/
def execSessionClose (c : Packet) (s : State) : Host.Outcome State Fault Refusal := .next (runOpcode opSessionClose c s)

/-- The idle limit passes without a command in a session (R563); in Retain it does not count (R685). -/
def sessionIdle (h : BitVec 32) (s : State) : State :=
  match findSession s h with
  | some x =>
    if idleLimit s ≠ 0 ∧ s.stage ≠ .stopped ∧ x.aliveTick + idleLimit s * 100000000 ≤ s.tick then endSession h 2 s else s
  | none => s

/-- SESSION_IDLE_TIMEOUT: R563. -/
def execSessionIdleTimeout (h : BitVec 32) (s : State) : Host.Outcome State Fault Refusal := .next (sessionIdle h s)

/-- PROVISIONAL_HANDLE_EXPIRY: 10 s pass without a phase 2 (R558). -/
def execProvisionalHandleExpiry (s : State) : Host.Outcome State Fault Refusal :=
  .next (modSec (fun k => { k with prov := none }) s)

/-- HOLDOFF_EXPIRY: a role's hold-off ends (R562). -/
def execHoldoffExpiry (r : Role) (s : State) : Host.Outcome State Fault Refusal :=
  .next (modGuard r (fun g => { g with held := false }) s)

/-! ## Operation records -/

/-- OP_QUERY (R530, R531). -/
def opQueryPlan (c : Packet) (_ : Option Role) (s : State) : Plan :=
  let id := pf c 0 4
  let hit := if id = 0xFFFFFFFF then s.ops.find? (fun o => o.st == .done && !o.collected) else findOp s id
  firstOf [bad (plen c ≠ 4 || (hit.isNone && id ≠ 0xFFFFFFFF))]
    (match hit with
     | some o => Plan.done .ok (opRecord s o) (fun s =>
         if o.st = .done then modOp o.id (fun o => { o with collected := true }) s else draw s)
     | none => Plan.done .ok (List.replicate 24 0) (fun s => s))

/-- OP_QUERY (0xA0). -/
def opOpQuery : Opcode := ⟨0xA0, none, true, false, noArea, opQueryPlan⟩

/-- OP_QUERY: R530, R531. -/
def execOpQuery (c : Packet) (s : State) : Host.Outcome State Fault Refusal := .next (runOpcode opOpQuery c s)

/-! ## The Ledger's opcodes -/

/-- An INDEX lies in TAIL..HEAD − 1 (R573). -/
def ledgerIn (l : Ledger) (i : Nat) : Bool := i != 0 && decide (indexRun l.tail i < ledgerUsed l)

/-- The INDEX values of a run of n from i. -/
def indexFrom : Nat → Nat → List Nat
  | 0, _ => []
  | n + 1, i => i :: indexFrom n (nextIndex i)

/-- LEDGER_READ (R573). -/
def ledgerReadPlan (c : Packet) (_ : Option Role) (s : State) : Plan :=
  let i := pf c 0 4
  let k := min (pb c 4) (indexRun i s.ledger.head)
  firstOf [bad (plen c ≠ 8 || !zeros c 5 3 || pb c 4 = 0 || pb c 4 > 64 || !ledgerIn s.ledger i)]
    (Plan.done .ok (natBE 4 s.ledger.head ++ natBE 4 s.ledger.tail ++ natBE 1 k ++ [0, 0, 0]
      ++ (indexFrom k i).flatMap (fun j => ledgerSlot s (j % 4096))) id)

/-- LEDGER_READ (0x90). -/
def opLedgerRead : Opcode := ⟨0x90, some .operator, false, false, noArea, ledgerReadPlan⟩

/-- LEDGER_READ: R573. -/
def execLedgerRead (c : Packet) (s : State) : Host.Outcome State Fault Refusal := .next (runOpcode opLedgerRead c s)

/-- Free the entries up to INDEX and write the DRAIN entry (R574). -/
def ledgerDrain (c : Packet) (role : Option Role) (i : Nat) (s : State) : State :=
  let e0 := ledgerEntry 9 (roleCode role) (natBE 4 i)
  let e := { e0 with session := c.session, seq := c.seq.toNat, opcode := 0x91, paramLen := plen c,
                     digest := (sha256 c.params).take 24 }
  ledger e { s with ledger := { s.ledger with tail := nextIndex i } }

/-- LEDGER_DRAIN_ACK (R574). -/
def ledgerDrainPlan (c : Packet) (role : Option Role) (s : State) : Plan :=
  let i := pf c 0 4
  let check := match SMap.get s.ledger.slots none (i % 4096) with | some e => e.check.toNat | none => 0
  firstOf
    [ bad (plen c ≠ 8 || !ledgerIn s.ledger i),
      chk (check != pf c 4 4) (Plan.done .recordBad [] id) ]
    (Plan.done .ok [] (ledgerDrain c role i))

/-- LEDGER_DRAIN_ACK (0x91). -/
def opLedgerDrainAck : Opcode := ⟨0x91, some .installer, false, false, noArea, ledgerDrainPlan⟩

/-- LEDGER_DRAIN_ACK: R574. -/
def execLedgerDrainAck (c : Packet) (s : State) : Host.Outcome State Fault Refusal := .next (runOpcode opLedgerDrainAck c s)

/-! ## DEVICE_RESET -/

/-- The reset that KIND and TARGET name, none where R650 refuses them. -/
def resetNamed (s : State) (kind tgt : Nat) : Option ResetReq :=
  if kind = 3 ∧ tgt = 0 then some (.warm 1)
  else if kind = 4 ∧ hasPort s tgt = true then some (.port tgt)
  else if kind = 5 ∧ (blockCodes s).contains tgt = true ∧ tgt ≠ 16 then some (.block tgt)
  else none

/-- DEVICE_RESET: the reset begins after the reply (R650). -/
def deviceResetPlan (c : Packet) (_ : Option Role) (s : State) : Plan :=
  firstOf [bad (plen c ≠ 4 || !zeros c 2 2 || (resetNamed s (pb c 0) (pb c 1)).isNone)]
    (Plan.done .ok [] (fun s => match resetNamed s (pb c 0) (pb c 1) with
      | some r => modClk (fun k => { k with resetReq := k.resetReq ++ [r] }) s
      | none => s))

/-- DEVICE_RESET (0xD0). -/
def opDeviceReset : Opcode := ⟨0xD0, some .installer, false, true, noArea, deviceResetPlan⟩

/-- DEVICE_RESET: R650. -/
def execDeviceReset (c : Packet) (s : State) : Host.Outcome State Fault Refusal := .next (runOpcode opDeviceReset c s)

end Sys2Proof.Machine
end

