-- ==== Sys2Proof/Machine/Diag.lean ====
section
/-!
DEFINITION. The diagnostics engine's results and the capture store (R284, R386, R389-R395), which joins, Surveys and power
states also reach.
-/
namespace Sys2Proof.Machine

/-- The run of a diagnostic operation. -/
def findRun (s : State) (op : Nat) : Option DiagRun := s.diag.runs.find? (fun r => r.op == op)

/-- The diagnostic of port n that has begun, if any. -/
def portRun (s : State) (n : Nat) : Option DiagRun := s.diag.runs.find? (fun r => r.port == n && r.begun)

/-- Change the run of an operation. -/
def modRun (op : Nat) (f : DiagRun → DiagRun) : State → State :=
  modDiag (fun d => { d with runs := d.runs.map (fun r => if r.op = op then f r else r) })

/-- A 20-byte record with nothing in it (R378). -/
def noRecord : List Byte := List.replicate 20 0

/-- The pairs of a mask, A first. -/
def maskPairs (m : Nat) : List Nat := (List.range 4).filter (fun p => bitsOf m p p == 1)

/-- The pairs of a run whose data are valid (R392): those with a valid record, or every pair requested of the other kinds
when they end OK. -/
def validPairs (r : DiagRun) (st : Status) : Nat :=
  if r.kind = 1 ∨ r.kind = 2 then
    ((List.range 4).map (fun p => if 128 ≤ byteAt (r.records.getD p []) 0 then 2 ^ p else 0)).sum
  else if st = .ok then (if r.kind = 4 then 15 else r.pairs) else 0

/-- The 20-byte result header of R392. -/
def diagHeader (r : DiagRun) (st : Status) : List Byte :=
  natBE 1 r.kind ++ natBE 1 r.port ++ natBE 1 st.code ++ natBE 1 (validPairs r st) ++ natBE 5 r.startS ++ natBE 6 r.startSec
    ++ natBE 4 r.startNs ++ [0]

/-- The data that follow the header: the records joined; a capture has none (R392). -/
def diagData (r : DiagRun) : List Byte := if r.kind = 5 then [] else r.records.flatten

/-- The pairs that a reflectometry has done. -/
def pairsDone (r : DiagRun) : Nat := (maskPairs r.pairs).length - r.pairsLeft.length

/-- A write to the capture store advances GEN (R389). -/
def storeWrite (s : State) : State :=
  let g := (s.diag.gen + 1) % 2 ^ 32
  writeMem 0x400000 (natBE 4 g) (modDiag (fun d => { d with gen := g }) s)

/-- Write the capture header but for GEN, S and the trigger's time (R389). -/
def capHeader (r : DiagRun) (st len : Nat) (s : State) : State :=
  writeMem 0x400018 (natBE 4 len) (writeMem 0x400004 (natBE 1 r.kind ++ natBE 1 r.port ++ natBE 1 r.pairs
    ++ natBE 1 (byteAt r.args 0) ++ natBE 1 st) s)

/-- A diagnostic ends: the latest 16 results are kept, the store is free, and the operation completes (R392, R394, R395). -/
def diagEnd (op : Nat) (st : Status) (s : State) : State :=
  match findRun s op with
  | some r =>
    let s1 := modDiag (fun d => { d with
      runs := d.runs.filter (fun x => x.op != op), holder := if d.holder = some op then none else d.holder,
      results := (⟨op, diagHeader r st, diagData r⟩ :: d.results).take 16 }) s
    endOpWith (st == .ok || st == .partialDone) op st [] s1
  | none => s

/-- A capture stops short, keeping what was recorded (R390, R393): STATUS 0x03. -/
def captureCut (op : Nat) (s : State) : State :=
  match findRun s op with
  | some r => diagEnd op .aborted (capHeader r 3 (beNat (readMem s 0x400018 4)) s)
  | none => s

/-- A join takes the store from a capture or a noise-floor measurement, which ends ABORTED (R284). -/
def storeYield (s : State) : State :=
  match s.diag.holder with
  | some op => diagEnd op .aborted s
  | none => s

/-- Diagnostics of port n that need a state which the port has left end NOT_READY (R392). -/
def diagLeft (n : Nat) (s : State) : State :=
  forL (s.diag.runs.filter (fun r => r.port == n && r.begun)) (fun r s =>
    let p := port s n
    let okIdle := p.st == .listen || !enabled s n
    let ok := if r.kind = 1 ∨ r.kind = 3 then okIdle else if r.kind = 2 then p.st == .service else true
    if ok then s else diagEnd r.op .notReady s) s

/-- Line energy of a partner ends the active runs and noise-floor measurements of port n, begun or due, with INPUT_BUSY; their
results are discarded (R371, R383). -/
def diagBusy (n : Nat) (s : State) : State :=
  forL (s.diag.runs.filter (fun r => r.port == n && (r.kind == 1 || r.kind == 3) && (r.begun || decide (totalNs r.sec r.ns ≤ nowTotal s))))
    (fun r s => diagEnd r.op .inputBusy (modRun r.op (fun x => { x with records := [] }) s)) s

end Sys2Proof.Machine
end

