-- ==== Sys2Proof/Machine/Bank.lean ====
section
/-!
DEFINITION. The Clearing House and the Coefficient Bank: which lots exist, where they apply, how they are selected, staged,
committed, swept, reclaimed and freed, and how a join starts and ends (R232-R269, R285-R290).
-/
namespace Sys2Proof.Machine

/-! ## Victims and disturbers (R232, R233, R239) -/

/-- A port's place in the sets: 1 Siruigo with the device as timing master, 2 as timing slave, 3 a standard mode from
1000BASE-T up, 0 none. A Siruigo port counts from its join on. -/
def chKind (s : State) (n : Nat) : Nat :=
  let st := rdP s n F.CH_PORT_CH_STATE
  if isSir s n && (st == 1 || st == 2) then (if (port s n).tr.master then 1 else 2)
  else if (port s n).st == .stdUp && decide (3 ≤ (port s n).an.resolved) then 3 else 0

/-- The link carries precoding: Siruigo 2 and a partner that sent FEEDBACK = 1 (R58, R233). -/
def precodes (s : State) (n : Nat) : Bool := (port s n).tr.ver == 2 && (port s n).tr.feedback

/-- The sets of a victim pair's port (R233). -/
def victimSets (s : State) (n : Nat) : List Nat :=
  match chKind s n with
  | 1 => if precodes s n then [0, 1, 2] else [0, 1]
  | 2 => [0]
  | _ => []

/-- A port is a disturber in a set (R239). -/
def distSet (s : State) (n set : Nat) : Bool :=
  match chKind s n with
  | 1 => true
  | 2 => set == 0
  | 3 => true
  | _ => false

/-- The disturber pairs that a victim port sees in a set: those of other ports (R234). -/
def distPairs (s : State) (n set : Nat) : List Nat :=
  ((allPorts s).filter (fun m => m != n && distSet s m set)).flatMap (fun m => (List.range 4).map (· + 4 * m))

/-- An eligible victim pair's port (R259). -/
def eligible (s : State) (n : Nat) : Bool := rdP s n F.SIR_AN_CTRL_SIR_EN == 1 && enabled s n

/-- Pair v is the absent pair of a three-pair port. -/
def pairAbsent (s : State) (v : Nat) : Bool := threePair s (v / 4) && absentPair s (v / 4) == v % 4

/-- The field of CH_PAIR_A..D that holds ACTIVE_GEN of victim pair v (R296). -/
def genFld (v : Nat) : Fld := ⟨0x708C8 + 4 * (v % 4), 15, 15, .ro, 0⟩

/-- The field of CH_PAIR_A..D that holds WORST_NEAR. -/
def worstFld (v : Nat) : Fld := ⟨0x708C8 + 4 * (v % 4), 7, 0, .ro, 255⟩

/-- ACTIVE_GEN of victim pair v (R244). -/
def activeGen (s : State) (v : Nat) : Nat := rdP s (v / 4) (genFld v)

/-! ## Lots (R240-R249) -/

/-- The lots of the part (R240). -/
def lotCount (s : State) : Nat := if s.part = .qn4880 then 262144 else 131072

/-- The lots that rows found unrepairable hold out of allocation (R749). -/
def heldOut (s : State) : Nat := (s.audit.unusable.map Config.instLots).sum

/-- The free lots. -/
def freeLots (s : State) : Nat := lotCount s - s.ch.lots.length - heldOut s

/-- The lot number that is k-th (from 0) among those not listed, from number c up. -/
def nthFree : SMap Lot → Nat → Nat → Nat
  | [], c, k => c + k
  | (l, _) :: t, c, k => if c + k < l then c + k else nthFree t (l + 1) (k - (l - c))

/-- Stage a lot for a victim pair, set, disturber and band, where one is free; which free lot it is spec/ leaves open. A
staged lot is written anew, and written with GEN inverted (R244). How many components saturate in it under R251 depends on the estimate. -/
def stageLot (v set d band : Nat) (lent : Bool) (s : State) : State :=
  let f := freeLots s
  if f = 0 then s
  else
    let l := nthFree s.ch.lots 0 (Config.pick s.draws % f)
    let clips := Config.bankClips s.draws
    let s0 := clearMem (fun a => decide (0x40000000 + 256 * l ≤ a ∧ a < 0x40000100 + 256 * l)
      || decide (0x800000 + 8 * l ≤ a ∧ a < 0x800008 + 8 * l)) (draw s)
    let s1 := modLot l (fun _ => ⟨.staged, 1 - activeGen s v, v, set, d, band, lent, false⟩) s0
    pmEvN 8 3 { PmAttr.none with port := some (v / 4) } clips (countDev 0x18 clips (addCnt 0 F.BANK_CLIP clips s1))

/-- Mark a live lot retiring, with GEN inverted (R244). -/
def retireLot (l : Nat) (s : State) : State :=
  modLot l (fun x => if x.st = .live then { x with st := .retiring, gen := 1 - activeGen s x.victim } else x) s

/-- The 32-bit tag of a lot (R244). -/
def lotTag (x : Lot) : Nat :=
  (match x.st with | .free => 0 | .live => 1 | .staged => 2 | .retiring => 3) * 2 ^ 30 + x.gen * 2 ^ 29 + x.victim * 2 ^ 21
    + x.set * 2 ^ 19 + x.dist * 2 ^ 11 + x.band * 2 ^ 7

/-- The Clearing House applies lots of a set: clocked, not held safe, not under the Closing Audit, and enabled in CH_CTRL (R245, R626, R642, R734). -/
def setOn (s : State) (set : Nat) : Bool :=
  clkRun s 8 && !s.ch.held && !s.audit.held.contains 8 && rdG s F.CH_CTRL_CH_EN == 1
    && (match set with
        | 0 => rdG s F.CH_CTRL_NEXT_EN == 1
        | 1 => rdG s F.CH_CTRL_FEXT_EN == 1
        | _ => rdG s F.CH_CTRL_PRE_EN == 1)

/-- The Clearing House applies a lot (R245, R268). -/
def lotApplied (s : State) (x : Lot) : Bool :=
  let g := activeGen s x.victim
  ((match x.st with | .live => true | .staged => x.gen == g | .retiring => x.gen != g | .free => false)) && setOn s x.set
    && !x.dormant && !pairAbsent s x.victim && !pairAbsent s x.dist && (victimSets s (x.victim / 4)).contains x.set
    && distSet s (x.dist / 4) x.set && !(x.set == 2 && (victim s x.victim).preStopped)

/-- PRE_ACTIVE: precoding is applied on some pair of the port (R296). -/
def preActive (s : State) (n : Nat) : Bool :=
  s.ch.lots.any (fun e => e.2.set == 2 && e.2.victim / 4 == n && lotApplied s e.2)

/-- The live lots held by a port's four victim pairs (R296). -/
def portLots (s : State) (n : Nat) : Nat :=
  (s.ch.lots.filter (fun e => e.2.st == .live && e.2.victim / 4 == n)).length

/-- A victim pair's lots in a set and band that are in use or staged for use: not dormant, not retiring. -/
def heldLots (s : State) (v set band : Nat) : List (Nat × Lot) :=
  s.ch.lots.filter (fun e => e.2.victim == v && e.2.set == set && e.2.band == band && !e.2.dormant
    && (e.2.st == .live || e.2.st == .staged))

/-! ## The Coupling Map (R258, R264) -/

/-- The address of a coupling byte (R384). -/
def mapAddr (v set d b : Nat) : Nat := 0xE00000 + ((3 * v + set) * 192 + d) * 16 + b

/-- A coupling byte. -/
def coupling (s : State) (v set d b : Nat) : Nat := (memByte s (mapAddr v set d b)).toNat

/-- The map's noise floor for a victim pair, set and band. -/
def mapFloor (s : State) (v set b : Nat) : Nat := SMap.get s.ch.floors 255 ((3 * v + set) * 16 + b)

/-- A disturber pair qualifies: measured, and at least 6 dB above the floor (R258). -/
def qualifies (s : State) (v set d b : Nat) : Bool :=
  let u := coupling s v set d b
  u != 255 && decide (u + 12 ≤ mapFloor s v set b)

/-- Store what a map window measured. For the precoding set with Siruigo disturbers the coupling is taken by reciprocity
from the alien FEXT coupling (R264). -/
def storeMap (cells : List MapCell) (floors : List MapFloor) (s : State) : State :=
  let s1 := forL cells (fun c s =>
    let s1 := writeMem (mapAddr c.v.val c.set.val c.d.val c.band.val) [c.u] s
    if c.set.val = 1 ∧ chKind s (c.d.val / 4) = 1 ∧ chKind s (c.v.val / 4) = 1 then
      writeMem (mapAddr c.d.val 2 c.v.val c.band.val) [c.u] s1
    else s1) s
  forL floors (fun f s => modCh (fun c => { c with
    floors := SMap.set c.floors 255 ((3 * f.v.val + f.set.val) * 16 + f.band.val) f.u.toNat }) s) (storeWrite s1)

/-- Put an item before the first that it does not follow. -/
def insertBy {α : Type} (le : α → α → Bool) (x : α) : List α → List α
  | [] => [x]
  | y :: t => if le x y then x :: y :: t else y :: insertBy le x t

/-- Sort by an order, keeping the order of equals. -/
def sortBy {α : Type} (le : α → α → Bool) : List α → List α
  | [] => []
  | x :: t => insertBy le x (sortBy le t)

/-- The qualifying disturbers of a victim pair, set and band, strongest first: coupling byte and pair. -/
def ranked (s : State) (v set b : Nat) : List (Nat × Nat) :=
  sortBy (fun x y => decide (x.1 ≤ y.1))
    (((distPairs s (v / 4) set).filter (fun d => qualifies s v set d b)).map (fun d => (coupling s v set d b, d)))

/-! ## Reclaiming and selection (R257, R262, R285) -/

/-- The live lent lot of the lowest rank. -/
def weakestLent (s : State) : Option (Nat × Lot) :=
  s.ch.lots.foldl (fun a e =>
    if e.2.st == .live && e.2.lent then
      match a with
      | some x => if coupling s x.2.victim x.2.set x.2.dist x.2.band < coupling s e.2.victim e.2.set e.2.dist e.2.band
          then some e else a
      | none => some e
    else a) none

/-- Make sure that a lot is free, reclaiming the lowest-ranked lent lot where none is (R262). -/
def needLot (s : State) : State :=
  if freeLots s = 0 then
    match weakestLent s with
    | some e => countDev 0x17 1 (evG F.CH_EVENTS_RECLAIM (modLot e.1 (fun _ => Lot.init) s))
    | none => s
  else s

/-- Stage a lot that the base allocation needs. -/
def stageBase (v set d b : Nat) (s : State) : State := stageLot v set d b false (needLot s)

/-- Select the base allocation of a victim pair in one set and band: the BASE strongest qualifying disturbers (R257). Lots
outside it retire unless lent; new ones are staged. -/
def selectBand (v set b : Nat) (s : State) : State :=
  let want := ((ranked s v set b).take s.ch.policy.base).map (·.2)
  let held := heldLots s v set b
  let s1 := forL held (fun e s =>
    if want.contains e.2.dist then modLot e.1 (fun x => { x with lent := false }) s
    else if e.2.lent then s else retireLot e.1 s) s
  forL (want.filter (fun d => !held.any (fun e => e.2.dist == d))) (fun d s => stageBase v set d b s) s1

/-- Dormant lots that name a port as disturber, or are a victim pair's own, retire at the pair's next commit (R289). -/
def retireDormant (v n : Nat) (s : State) : State :=
  forL (s.ch.lots.filter (fun e => e.2.victim == v && e.2.dormant && (v / 4 == n || e.2.dist / 4 == n)))
    (fun e s => retireLot e.1 s) s

/-- Select and stage the whole allocation of a victim pair. -/
def selectVictim (v : Nat) (s : State) : State :=
  forL (victimSets s (v / 4)) (fun set s => forN 16 (fun b s => selectBand v set b s) s) (retireDormant v (v / 4) s)

/-- Stage lots for a joiner's disturber pairs in another victim pair, where they outrank the weakest lot held (R285). -/
def joinInto (w n : Nat) (s : State) : State :=
  forL ((victimSets s (w / 4)).filter (distSet s n)) (fun set s => forN 16 (fun b s =>
    forL ((List.range 4).map (· + 4 * n)) (fun d s =>
      let held := heldLots s w set b
      if !qualifies s w set d b || held.any (fun e => e.2.dist == d) then s
      else if held.length < s.ch.policy.base then stageBase w set d b s
      else
        let live := held.filter (fun e => e.2.st == .live)
        match (sortBy (fun x y => decide (coupling s w set y.2.dist b ≤ coupling s w set x.2.dist b)) live).head? with
        | some e => if coupling s w set d b < coupling s w set e.2.dist b then stageBase w set d b (retireLot e.1 s) else s
        | none => s) s) s) (retireDormant w n s)

/-! ## Staging and commits (R244-R246, R263, R266-R268, R276, R281) -/

/-- A victim pair has lots staged or retiring. -/
def hasStaged (s : State) (v : Nat) : Bool :=
  s.ch.lots.any (fun e => e.2.victim == v && (e.2.st == .staged || e.2.st == .retiring))

/-- Something waits for a victim pair's commit. -/
def Victim.staged (x : Victim) : Bool := x.survey || !x.joins.isEmpty || x.lending

/-- A VDD_CORE warning is in force: commits are held (R281). -/
def coreHold (s : State) : Bool := coreWarn s

/-- The first superframe after the current one with S mod 512 = 0. -/
def nextWindow (s : State) : Nat := (s.time.s / 512 + 1) * 512

/-- The current window of 512 superframes (R255). -/
def windowNow (s : State) : Nat := s.time.s / 512

/-- Every victim pair of the device's ports. -/
def allVictims (s : State) : List Nat := (allPorts s).flatMap (fun n => (List.range 4).map (· + 4 * n))

/-- The progress of a joining port: 30..80 in proportion to its victim pairs committed (R230). -/
def joinProgress (n : Nat) (s : State) : State :=
  let left := (s.ch.victims.filter (fun e => e.2.joins.contains n)).length
  let total := (port s n).tr.joinTotal
  if phase s n = 4 ∧ total ≠ 0 then
    let pct := 30 + 50 * (total - left) / total
    let s1 := wrP n F.SIR_TRAIN_STATUS_PROGRESS pct s
    match (port s n).retrainOp with
    | some id => opProgress id 4 5 pct s1
    | none => s1
  else s

/-- A join whose last victim pair is settled is complete: the port is active (R285, R296). -/
def joinCheck (n : Nat) (s : State) : State :=
  let s1 := joinProgress n s
  if (port s1 n).tr.joinTotal = 0 ∨ rdP s1 n F.CH_PORT_CH_STATE ≠ 1 ∨ s1.ch.victims.any (fun e => e.2.joins.contains n) then s1
  else wrP n F.CH_PORT_CH_STATE 2 (modPort n (fun p => { p with tr := { p.tr with joinDone := true } }) s1)

/-- Record a Survey's outcome for a victim pair: 1 committed, 2 kept, 3 discarded and to be measured again (R278, R538). -/
def surveyNote (v out sf : Nat) (s : State) : State :=
  match s.ch.survey with
  | some r =>
    let r' := if out = 3 then r else { r with outcome := (v, out) :: r.outcome.filter (fun e => e.1 != v) }
    opItem r.op sf v out 0 (modCh (fun c => { c with survey := some r' }) s)
  | none => s

/-- A pair's UXT_FAR codes that are measured, over its loaded tone groups: their sum and number (R268). -/
def farSum (s : State) (v : Nat) : Nat × Nat :=
  let tb := (readTable s (v / 4) 0).getD (v % 4) []
  let us := ((List.range 2048).filter (fun k => ((tb.getD (2 * k) LoadEntry.none).bits.val != 0)
      || ((tb.getD (2 * k + 1) LoadEntry.none).bits.val != 0))).map
    (fun k => (memByte s (0xC00000 + 0x2000 * v + 2167 + k)).toNat)
  let m := us.filter (· != 255)
  (m.sum, m.length)

/-- Victim pair v commits: ACTIVE_GEN inverts, and in that step its staged lots start and its retiring lots stop (R244). A
sweep is due (R246). -/
def commitVictim (v : Nat) (s : State) : State :=
  let x := victim s v
  let far := if (victimSets s (v / 4)).contains 2 then some (farSum s v) else none
  let s1 := wrP (v / 4) (genFld v) (1 - activeGen s v) s
  let code := if x.survey || !x.joins.isEmpty then 1 else 2
  let s2 := pmEv 8 code { PmAttr.none with port := some (v / 4) } (countDev (0x14 + code) 1 (addCnt 0 F.CH_COMMITS 1 s1))
  let s3 := modVictim v (fun y => { y with survey := false, joins := [], lending := false, again := false, tries := 0,
                                           commitAt := none, sweep := true, farBefore := far }) s2
  let s4 := whenB x.survey (surveyNote v 1 s.time.s) s3
  let s5 := wrP (v / 4) F.CH_PORT_PRE_ACTIVE (bit (preActive s4 (v / 4))) s4
  forL x.joins joinCheck s5

/-- The sweep of R246: the victim's staged lots turn live and its retiring lots free. -/
def sweepVictim (v : Nat) (s : State) : State :=
  if (victim s v).sweep then
    let g := activeGen s v
    modVictim v (fun y => { y with sweep := false }) (mapLots (fun _ l =>
      if l.victim = v ∧ l.gen = g then (match l.st with
        | .staged => { l with st := .live }
        | .retiring => Lot.init
        | _ => l) else l) s)
  else s

/-- A due commit of victim pair v is made, or held while a VDD_CORE warning is in force (R281); it waits for the sweep of
an earlier one (R246). -/
def commitDue (v : Nat) (s : State) : State :=
  match (victim s v).commitAt with
  | some k =>
    if k ≤ s.time.s ∧ (victim s v).sweep = false ∧ clkRun s 8 = true then
      if coreHold s then evG F.CH_EVENTS_COMMIT_HELD (wrG F.SURVEY_STATUS_HELD 1 s)
      else commitVictim v (wrG F.SURVEY_STATUS_HELD 0 s)
    else s
  | none => s

/-- A victim pair's staged lots are freed and its retiring lots are live again: STAGE_DISCARD (R267, R277). -/
def discardStaged (v : Nat) (s : State) : State := evG F.CH_EVENTS_STAGE_DISCARD (dropStaged (· == v) s)

/-- A port takes its place for the measurement store: it holds it, or waits (R286). A capture or a noise-floor
measurement gives way (R284). -/
def wantStore (n : Nat) (s : State) : State :=
  if s.ch.join = some n ∨ s.ch.joinQueue.contains n then s
  else match s.ch.join with
    | none => storeYield (modCh (fun c => { c with join := some n }) s)
    | some _ => evG F.CH_EVENTS_JOIN_WAIT (modCh (fun c => { c with joinQueue := c.joinQueue ++ [n] }) s)

/-- A victim pair that is discarded for the second time stays as it was: no join waits for it, and a Survey keeps it. -/
def keepVictim (v : Nat) (s : State) : State :=
  let x := victim s v
  let s1 := modVictim v (fun y => { y with survey := false, joins := [], lending := false, again := false, tries := 0,
                                           commitAt := none }) s
  forL x.joins joinCheck (whenB x.survey (surveyNote v 2 0) s1)

/-- A victim pair is to be measured again: in one extra batch of the Survey, or when its join holds the store again
(R267, R277). -/
def measureAgain (v : Nat) (s : State) : State :=
  let x := victim s v
  let s1 := modVictim v (fun y => { y with survey := false, lending := false, again := !y.joins.isEmpty, tries := y.tries + 1,
                                           commitAt := none }) s
  let s2 := match s1.ch.survey with
    | some r => if x.survey then
        let more := if r.again.isEmpty then 1 else 0
        let s2 := modCh (fun c => { c with survey := some { r with again := r.again ++ [v], n := r.n + more } }) s1
        opProgress r.op r.k (r.n + more) 0 (surveyNote v 3 0 s2)
      else s1
    | none => s1
  forL x.joins wantStore s2

/-- A join starts at the boundary at which ECHO begins (R214, R285): the port is joining, its dormant lots stay dormant
(R289), and it takes the store or waits for it. -/
def joinStart (n : Nat) (s : State) : State :=
  let s1 := if s.ch.leaving.contains n then chDormant n s else s
  let s2 := modCh (fun c => { c with dormant := SMap.set c.dormant 0 n 0 }) s1
  let s3 := wrP n F.CH_PORT_NEXT_ONLY (bit (!(port s n).tr.master)) (wrP n F.CH_PORT_CH_STATE 1 s2)
  wantStore n (modPort n (fun p => { p with tr := { p.tr with joinDone := false, joinTotal := 0 } }) s3)

/-- Every lot in which a port is victim or disturber is freed; victims with such lots staged or retiring keep the
others (R288). -/
def freePort (n : Nat) (s : State) : State :=
  wrP n F.CH_PORT_NEXT_ONLY 0 (wrP n F.CH_PORT_CH_STATE 0
    (modCh (fun c => { c with dormant := SMap.set c.dormant 0 n 0 }) (mapLots (fun _ l =>
      if (l.victim / 4 = n ∨ l.dist / 4 = n) ∧ l.dormant = true then Lot.init else l) s)))

end Sys2Proof.Machine
end

