-- ==== Sys2Proof/Machine/Negotiation.lean ====
section
/-!
DEFINITION. Line modes and auto-negotiation: pages and ghosts (R76-R84), the result (R55-R65), falling back (R66-R70) and the
links of the standard modes (R40, R352, R354).
-/
namespace Sys2Proof.Machine

/-! ## Operations that follow a port (R546) -/

/-- The retrain operation of a port reports step k of 5 and a percentage. -/
def retrainStep (n k pct : Nat) (s : State) : State :=
  match (port s n).retrainOp with
  | some id => opProgress id k 5 pct s
  | none => s

/-- A port that has come up completes its retrain operation with LINK_STATE and SIR_AN_STATUS (R546). -/
def retrainDone (n : Nat) (s : State) : State :=
  endRetrain n .ok (natBE 2 (rdReg s (portBase n + 0x70900)).toNat ++ natBE 2 (rdReg s (portBase n + 0x70804)).toNat) s

/-! ## Training phases (R229, R230) -/

/-- The first percentage of a phase's band (R230). -/
def phaseStart (k : Nat) : Nat := [0, 0, 5, 20, 30, 85, 100].getD k 0

/-- A port enters a training phase: PHASE, PROGRESS at the start of its band, and the step and item of its retrain
operation (R230, R538). -/
def setPhase (n k : Nat) (s : State) : State :=
  let s1 := wrP n F.SIR_TRAIN_STATUS_PROGRESS (phaseStart k) (wrP n F.SIR_TRAIN_STATUS_PHASE k s)
  match (port s n).retrainOp with
  | some id => opItem id s.time.s n k 0 (opProgress id (min k 5) 5 (phaseStart k) s1)
  | none => s1

/-- An attempt starts with HANDSHAKE, on what the two ability messages resolved (R56, R58, R180). -/
def beginTraining (n ver : Nat) (master : Bool) (a : Ability) (s : State) : State :=
  let ctrl := (port s n).an.ctrl
  let own := if wordBits ctrl 10 8 = 7 then 6 else wordBits ctrl 10 8
  let two := ver == 2
  let tr := { Train.init with master := master, ver := ver, ceiling := min own a.rateMax.val, topBand := min 63 a.topBand.val,
                              feedback := two && a.feedback, fallback3 := two && a.fallback3, startTick := s.tick }
  let tr := { tr with shutter := two && a.shutter, timeXfer := two && a.timeXfer }
  let s1 := modPort n (fun p => { p.stopped .training with tr := tr, an := { p.an with resolved := 7, peerSeed := a.seed } }) s
  let s2 := wrReg (portBase n + 0x70884) 0 (wrP n F.LINK_STATE_CAUSE 6 s1)
  setPhase n 1 (countDev 0x12 1 s2)

/-! ## Pages (R76-R83) -/

/-- The source of a burst that the device sent on another port of the part, if it is a ghost (R78, R82). -/
def ghostSource (s : State) (n : Nat) (g : Option Port) : Option Nat :=
  match g with
  | some p => if p.val ≠ n ∧ hasPort s p.val then some p.val else none
  | none => none

/-- Record a ghost in AN_GHOST_SRC (R75). -/
def ghostSrc (n kind pair src : Nat) : State → State :=
  wrReg (portBase n + 0x70810) (BitVec.ofNat 32 (0x8000 + kind * 0x4000 + pair * 0x1000 + src))

/-- A page or burst flagged under R78 is discarded and counted; 16 in a row from one source are a self-loop (R79, R83). -/
def ghostPage (n pair src : Nat) (s : State) : State :=
  let a := (port s n).an
  let run := if a.ghostPort.map (·.val) = some src then a.ghostRun + 1 else 1
  let s1 := ghostSrc n 0 pair src (addCnt (portBase n) F.AN_GHOST_SELF 1 s)
  let gp : Option Port := if h : src < 48 then some ⟨src, h⟩ else none
  let s2 := modPort n (fun p => { p with an := { p.an with ghostRun := run, ghostPort := gp } }) s1
  if run ≥ 16 then
    countDev 0x14 1 (evP n F.AN_EVENTS_SELF_LOOP (modPort n (fun p => { p with st := .selfLoop }) s2))
  else s2

/-- A page received from the partner: three that match in a row are acknowledged; the first of them is the base page. -/
def goodPage (n pair : Nat) (b : Burst) (s : State) : State :=
  let a := (port s n).an
  let k := if a.lastPage = some b.page then a.matches3 + 1 else 1
  let a1 := { a with lastPage := some b.page, matches3 := k, inProgress := SMap.set a.inProgress none pair (some b.page) }
  let s1 := modPort n (fun p => { p with an := { a1 with ghostRun := 0, ghostPort := none } }) s
  if k = 3 then
    let s2 := wrP n F.AN_PAGE_RCVD 1 s1
    if rdP s2 n F.AN_LP_ABLE = 0 then wrP n F.AN_LP_ABLE 1 (wrP n F.AN_LP_BASE b.page.word.toNat s2) else s2
  else s1

/-- A burst on a pair of a port that negotiates or listens. -/
def takePage (n : Nat) (b : Burst) (s : State) : State :=
  let pair := b.pair.val
  match ghostSource s n b.ghostOf with
  | some src => ghostPage n pair src s
  | none =>
    let busy := (SMap.get (port s n).an.inProgress none pair).isSome
    let s1 := if b.strongerDb && busy then ghostSrc n 1 pair 0 (addCnt (portBase n) F.AN_GHOST_ABANDON 1 s) else s
    goodPage n pair b s1

/-- The port leaves Listen for a negotiation (R224). -/
def leaveListen (n : Nat) (s : State) : State :=
  startAn n (modPort n (fun p => p.stopped .idle) (clearTrain n s))

/-- AN_PAGE: R76-R83; in Listen, a page that is no ghost starts a negotiation (R224), also out of Doze (R684); in service,
after the first 16 superframes, the partner has gone back to negotiation (R352). -/
def anPage (n : Nat) (b : Burst) (s : State) : State :=
  if !lineFree s n then s
  else match (port s n).st with
    | .negotiating => takePage n b s
    | .listen =>
      if (ghostSource s n b.ghostOf).isSome then takePage n b s
      else takePage n b (leaveListen n (diagBusy n (wakeDoze s)))
    | .service =>
      if (ghostSource s n b.ghostOf).isSome ∨ s.time.s < (port s n).serviceS + 16 then s else downRestart n 2 s
    | _ => s

@[inherit_doc anPage]
def execAnPage (n : Port) (b : Burst) (s : State) : Host.Outcome State Fault Refusal := .next (anPage n.val b s)

/-- FLP_BURST_SEND: the port sends a burst and varies its interval (R81). -/
def execFlpBurstSend (n : Port) (s : State) : Host.Outcome State Fault Refusal :=
  let p := port s n.val
  .next (if p.st = .negotiating ∨ (p.st = .listen ∧ p.tr.listenTx = true) then
    draw (modPort n.val (fun p => { p with an := { p.an with flpInterval := Config.flpInterval s.draws } }) s) else s)

/-! ## The result (R55-R65) -/

/-- What R61 gives: master, slave, fault or seed tie. -/
inductive Mastership where
  | master | slave | fault | tie
  deriving DecidableEq, Repr

/-- MS_PREF as it acts: 0b11 acts as 0b00 (R53, R72). -/
def pref (v : Nat) : Nat := if v = 3 then 0 else v

/-- R61, on the preferences (0 automatic, 1 force master, 2 force slave), the partner's MULTIPORT and the seeds; the device
sends MULTIPORT = 1 (R49). -/
def mastership (own peer : Nat) (peerMulti : Bool) (seed peerSeed : Nat) : Mastership :=
  if (own = 1 ∧ peer = 1) ∨ (own = 2 ∧ peer = 2) then .fault
  else if own = 1 ∨ peer = 2 then .master
  else if own = 2 ∨ peer = 1 then .slave
  else if peerMulti = false then .master
  else if peerSeed < seed then .master
  else if seed < peerSeed then .slave
  else .tie

/-- The highest Siruigo version that both ends offer, 0 for none (R56); versions above 2 are ignored (R53). -/
def commonVersion (verEn : Nat) (peer : BitVec 4) : Nat :=
  let both := fun i => bitsOf verEn i i = 1 ∧ peer.getLsbD i = true
  if both 1 then 2 else if both 0 then 1 else 0

/-- The standard modes that both ends advertise, highest first, as R74 codes them with the duplex (R59). Parallel detection
resolves only the half-duplex 10BASE-Te and 100BASE-TX (R45). -/
def commonModes (a : An) (p : PartnerAdv) : List (Nat × Bool) :=
  let list : List (Bool × Nat × Bool) :=
    [ (!p.parallel && wordBits a.advMg 12 12 == 1 && p.ten, 6, true),
      (!p.parallel && wordBits a.advMg 8 8 == 1 && p.five, 5, true),
      (!p.parallel && wordBits a.advMg 7 7 == 1 && p.twoFive, 4, true),
      (!p.parallel && wordBits a.gigCtrl 15 15 == 1 && p.gig, 3, true),
      (!p.parallel && wordBits a.advBase 8 8 == 1 && p.hundredFd, 2, true),
      (wordBits a.advBase 7 7 == 1 && p.hundredHd, 2, false),
      (!p.parallel && wordBits a.advBase 6 6 == 1 && p.tenFd, 1, true),
      (wordBits a.advBase 5 5 == 1 && p.tenHd, 1, false) ]
  list.filterMap (fun e => if e.1 then some e.2 else none)

/-- A mode above `m` that R68 withholds and that the partner advertises (R354, DOWNSHIFT). -/
def downshiftedTo (a : An) (p : PartnerAdv) (m : Nat) : Bool :=
  (decide (m < 6) && a.w10 && p.ten) || (decide (m < 5) && a.w5 && p.five) || (decide (m < 4) && a.w2g5 && p.twoFive)
    || (decide (m < 3) && a.gigWithheld && p.gig)

/-- SIR_AN_STATUS (R73). -/
def anStatus (mode : Nat) (duplex : Bool) (ver : Nat) (master : Bool) (sir : Option Ability) (fall : Bool) : Nat :=
  let q := match sir with
    | some a => 0x100 + a.versions.toNat % 4 * 0x40 + a.rateMax.val * 8 + bit a.feedback * 4 + bit a.multiport * 2
    | none => 0
  mode * 0x2000 + bit duplex * 0x1000 + ver * 0x400 + bit master * 0x200 + q + bit fall

/-- The result of a negotiation is shown: SIR_AN_STATUS, and the MMD 7 status. -/
def showResult (n mode : Nat) (duplex : Bool) (ver : Nat) (master : Bool) (p : PartnerAdv) (s : State) : State :=
  let fall := (port s n).an.sirWithheld
  let lp := bit p.stdMsFault * 0x8000 + bit p.stdMaster * 0x4000 + bit p.ten * 0x800 + bit p.five * 0x40 + bit p.twoFive * 0x20
  wrP n F.AN_DONE 1 (wrP n F.AN_LP_MG lp
    (wrReg (portBase n + 0x70804) (BitVec.ofNat 32 (anStatus mode duplex ver master p.sir fall)) s))

/-- No Siruigo: resolve the highest common standard mode (R59), or none (R60). -/
def resolveStd (n : Nat) (p : PartnerAdv) (s : State) : State :=
  let a := (port s n).an
  match (commonModes a p).head? with
  | some (m, fd) =>
    let s1 := showResult n m fd 0 (decide (3 ≤ m) && p.stdMaster) p s
    let s2 := if m = 3 then wrP n F.AN_1000T_STATUS_MS_FAULT (bit p.stdMsFault)
      (wrP n F.AN_1000T_STATUS_MS_RESOLVED (bit p.stdMaster) s1) else s1
    retrainStep n 5 0 (modPort n (fun q => { q with st := .stdTraining, an := { q.an with
      resolved := m, halfDuplex := !fd, downshifted := downshiftedTo a p m } }) (wrP n F.LINK_STATE_CAUSE 6 s2))
  | none => modPort n (fun q => { q with st := .inhibit, an := { q.an with resolved := 0 } }) (showResult n 0 false 0 false p s)

/-- A mastership fault: remembered with the configurations under which it occurred (R63). -/
def msFault (n : Nat) (w : Word) (peer : Nat) (p : PartnerAdv) (s : State) : State :=
  resolveStd n p (evP n F.AN_EVENTS_MS_FAULT (modPort n (fun q => { q with an := { q.an with ties := 0, msFault := some (w, peer) } }) s))

/-- AN_COMPLETE: R55-R65. -/
def anComplete (n : Nat) (p : PartnerAdv) (s : State) : State :=
  let a := (port s n).an
  if (port s n).st ≠ .negotiating ∨ lineFree s n = false then s
  else match p.sir with
    | none => resolveStd n p s
    | some b =>
      let ver := commonVersion (wordBits a.ctrl 12 11) b.versions
      let s0 := if ver = 0 then evP n F.AN_EVENTS_VERSION_NONE s else s
      if ver = 0 ∨ a.offer = false ∨ p.parallel = true then resolveStd n p s0
      else if a.msFault = some (a.ctrl, b.msPref.val) then msFault n a.ctrl b.msPref.val p s0
      else
        let done := fun m => beginTraining n ver m b (showResult n 7 true ver m p
          (modPort n (fun q => { q with an := { q.an with ties := 0, msFault := none } }) s0))
        match mastership (pref (wordBits a.ctrl 14 13)) (pref b.msPref.val) b.multiport a.seed.toNat b.seed.toNat with
        | .master => done true
        | .slave => done false
        | .fault => msFault n a.ctrl b.msPref.val p s0
        | .tie =>
          if a.ties ≥ 7 then msFault n a.ctrl b.msPref.val p s0
          else startAn n (modPort n (fun q => { q with an := { q.an with ties := q.an.ties + 1 } }) s0)

@[inherit_doc anComplete]
def execAnComplete (n : Port) (p : PartnerAdv) (s : State) : Host.Outcome State Fault Refusal := .next (anComplete n.val p s)

/-! ## Falling back (R60, R66-R70) -/

/-- A failed attempt to reach link in a standard mode: the count of the mode, and whether it is now withheld (R68). -/
def countFail (n : Nat) (s : State) : State :=
  let a := (port s n).an
  let tries := max 1 (wordBits a.ctrl 2 0)
  let k := (match a.resolved with | 3 => a.failGig | 4 => a.fail2g5 | 5 => a.fail5 | _ => a.fail10) + 1
  let hit := wordBits a.ctrl 3 3 == 1 && decide (tries ≤ k)
  let a' := match a.resolved with
    | 3 => { a with failGig := k, gigWithheld := a.gigWithheld || hit }
    | 4 => { a with fail2g5 := k, w2g5 := a.w2g5 || hit }
    | 5 => { a with fail5 := k, w5 := a.w5 || hit }
    | 6 => { a with fail10 := k, w10 := a.w10 || hit }
    | _ => a
  whenB (hit && decide (3 ≤ a.resolved ∧ a.resolved ≤ 6)) (evP n F.AN_EVENTS_DOWNSHIFT) (modPort n (fun p => { p with an := a' }) s)

/-- LINK_FAIL_INHIBIT_EXPIRY: negotiation restarts, after no mode (R60) or after a resolved mode reached no link (R68). -/
def linkFailExpiry (n : Nat) (s : State) : State :=
  match (port s n).st with
  | .inhibit => startAn n s
  | .stdTraining => if rdP s n F.AN_ENABLE = 1 then startAn n (countFail n s) else s
  | _ => s

@[inherit_doc linkFailExpiry]
def execLinkFailInhibitExpiry (n : Port) (s : State) : Host.Outcome State Fault Refusal := .next (linkFailExpiry n.val s)

/-- NO_LINE_ENERGY: 1 s without line energy restores the withheld modes and the Siruigo message while the link is not up
(R69); a self-loop that is gone negotiates afresh. -/
def noLineEnergy (n : Nat) (s : State) : State :=
  if linkUp s n || !hasPort s n then s
  else
    let s1 := restoreModes n s
    if (port s n).st = .selfLoop then startAn n s1 else s1

@[inherit_doc noLineEnergy]
def execNoLineEnergy (n : Port) (s : State) : Host.Outcome State Fault Refusal := .next (noLineEnergy n.val s)

/-- A failed Siruigo attempt is counted; at FALLBACK_LIMIT the message is withheld (R66, R67). -/
def countSirFail (n : Nat) (s : State) : State :=
  let a := (port s n).an
  let k := a.failedSir + 1
  let limit := rdP s n F.SIR_AN_CTRL_FALLBACK_LIMIT
  let s1 := modPort n (fun p => { p with an := { p.an with failedSir := k } }) s
  if limit ≠ 0 ∧ limit ≤ k then
    evP n F.AN_EVENTS_SIR_FALLBACK (wrP n F.SIR_AN_STATUS_FALLBACK_ACTIVE 1
      (modPort n (fun p => { p with an := { p.an with sirWithheld := true } }) s1))
  else s1

/-! ## Standard-mode links -/

/-- PCS_LINK_UP: a standard-mode link comes up: the count of its mode is cleared (R70), and the reasons follow (R354). -/
def pcsLinkUp (n : Nat) (s : State) : State :=
  if (port s n).st ≠ .stdTraining ∨ lineFree s n = false then s
  else
    let a := (port s n).an
    let a' := match a.resolved with
      | 3 => { a with failGig := 0 }
      | 4 => { a with fail2g5 := 0 }
      | 5 => { a with fail5 := 0 }
      | 6 => { a with fail10 := 0 }
      | _ => a
    let s1 := portUp n (modPort n (fun p => { p with st := .stdUp, an := a' }) s)
    retrainDone n (setReason n F.DEGRADE_DOWNSHIFT a.downshifted s1)

@[inherit_doc pcsLinkUp]
def execPcsLinkUp (n : Port) (s : State) : Host.Outcome State Fault Refusal := .next (pcsLinkUp n.val s)

/-- PCS_LINK_DOWN: the link of a standard mode is lost, by loss of signal (cause 1) or otherwise (cause 2) (R352, R353). -/
def execPcsLinkDown (n : Port) (lost : Bool) (s : State) : Host.Outcome State Fault Refusal :=
  .next (if (port s n.val).st = .stdUp then downRestart n.val (if lost then 1 else 2) s else s)

/-- FAST_RETRAIN: a standard mode retrains fast with the link kept: degraded for DEGRADE_HOLD (R354). -/
def execFastRetrain (n : Port) (s : State) : Host.Outcome State Fault Refusal :=
  .next (if (port s n.val).st = .stdUp then
    setReason n.val F.DEGRADE_FAST_RETRAIN false (setReason n.val F.DEGRADE_FAST_RETRAIN true s) else s)

end Sys2Proof.Machine
end

