-- ==== Sys2Proof/Machine/Training.lean ====
section
/-!
DEFINITION. Training a Siruigo link (05_siruigo_training.md): the phases, the handshake, the training channel, the pair check,
the join's ramp, the agreement on a loading, the entry into service, Listen and the failed attempt.
-/
namespace Sys2Proof.Machine

/-! ## Superframe indexes -/

/-- The grid index of the partner's superframe index: a timing slave counts from what the handshake showed. -/
def toGrid (s : State) (n k : Nat) : Nat := ((k : Int) - (port s n).tr.sOff).toNat

/-- The link's superframe index of a grid index. -/
def toLink (s : State) (n k : Nat) : Nat := ((k : Int) + (port s n).tr.sOff).toNat

/-- Change a port's training state. -/
def modTr (n : Nat) (f : Train → Train) : State → State := modPort n (fun p => { p with tr := f p.tr })

/-- The port is in training, in a phase. -/
def inPhase (s : State) (n k : Nat) : Bool := (port s n).st == .training && phase s n == k

/-- The training channel is open: from ECHO to the end of LOADING. -/
def channelOpen (s : State) (n : Nat) : Bool := (port s n).st == .training && decide (2 ≤ phase s n)

/-- In the first 16 superframes of service (R187). -/
def earlyService (s : State) (n : Nat) : Bool := inService s n && decide (s.time.s < (port s n).serviceS + 16)

/-- A superframe 8..64 ahead that the master names; which one is its choice (R204). -/
def nameAhead (s : State) : Nat := s.time.s + 8 + Config.pick s.draws % 57

/-- SIR_TRAIN_CTRL.TRAIN_BACKOFF in dB; its reserved code acts as 0b00 (R227, R228). -/
def backoffDb (s : State) (n : Nat) : Nat := [12, 6, 18, 12].getD (rdP s n F.SIR_TRAIN_CTRL_TRAIN_BACKOFF) 12

/-! ## The PSD mask (R114-R117) -/

/-- The breakpoint words of a port. -/
def breakpoints (s : State) (n : Nat) : List Word := (List.range 64).map (fun k => rdReg s (portBase n + 0x3000 + 4 * k))

/-- The leading valid breakpoints of a list of words. -/
def leadingValid : List Word → List Brk
  | [] => []
  | w :: t => if wordBits w 31 31 = 1 then ⟨BitVec.ofNat 12 (wordBits w 27 16), BitVec.ofNat 11 (wordBits w 10 0)⟩ :: leadingValid t else []

/-- TONE rises strictly and lies in 1..4095. -/
def risingTones : Nat → List Brk → Bool
  | _, [] => true
  | a, b :: t => decide (a < b.tone.toNat) && risingTones b.tone.toNat t

/-- A table of breakpoint words meets R117. -/
def maskOk (ws : List Word) : Bool :=
  let l := leadingValid ws
  !l.isEmpty && risingTones 0 l && l.length == (ws.filter (fun w => wordBits w 31 31 == 1)).length

/-- The default mask (R116). -/
def defaultMask : List Brk := [⟨1, 790⟩, ⟨512, 790⟩, ⟨4095, 840⟩]

/-- The mask in force: the default mask where the table breaks R117. -/
def psdMask (s : State) (n : Nat) : List Brk :=
  if maskOk (breakpoints s n) then leadingValid (breakpoints s n) else defaultMask

/-! ## The handshake message (R194) -/

/-- The 16-byte message of a burst that the port sends now. -/
def hsMessage (s : State) (n : Nat) (second : Bool) : List Byte :=
  let p := port s n
  let echo := match p.tr.sEcho with | some k => if p.tr.master then min 15 (k - s.time.s) else 0 | none => 0
  let b := natBE 1 (if p.tr.master then 1 else 2) ++ natBE 1 p.tr.ver ++ natBE 3 p.an.seed.toNat ++ natBE 3 p.an.peerSeed.toNat
    ++ natBE 5 (if p.tr.master then s.time.s else 0)
    ++ natBE 1 (bit p.tr.heard * 128 + echo * 8 + bit (second && p.tr.master) * 4)
  b ++ natBE 2 (crc16 b)

/-! ## Leaving an attempt -/

/-- Stop transmitting Siruigo and enter Listen (R185). -/
def toListen (n : Nat) (s : State) : State :=
  let s1 := chLeave n (saveElapsed n s)
  let s2 := modPort n (fun p => { p.stopped .listen with tr := { Train.init with listenTx := true, listenLimit := 500 } }) s1
  let s3 := wrP n F.SIR_TRAIN_STATUS_PHASE 7 (clearTrain n s2)
  endRetrain n .incomplete [] (evP n F.TRAIN_EVENTS_LISTEN s3)

/-- Back to HANDSHAKE within the same attempt (R186, R187); a port in service leaves it. -/
def restartHandshake (n : Nat) (s : State) : State :=
  let old := (port s n).tr
  let s1 := if (port s n).st = .service then portDown n 6 s else s
  let tr := { Train.init with master := old.master, ver := old.ver, ceiling := old.ceiling, topBand := old.topBand, feedback := old.feedback }
  let tr := { tr with fallback3 := old.fallback3, shutter := old.shutter, timeXfer := old.timeXfer, startTick := old.startTick }
  let s2 := modPort n (fun p => { p.stopped .training with tr := tr }) s1
  let s3 := wrP n F.SIR_TRAIN_STATUS_THREE_PAIR 0 (wrP n F.SIR_TRAIN_STATUS_ABSENT_PAIR 0 s2)
  setPhase n 1 (addCnt (portBase n) F.SIR_TRAIN_RESTARTS 1 s3)

/-- The attempt fails at its deadline (R188): it is counted under R67, and negotiation restarts. -/
def attemptFails (n : Nat) (s : State) : State :=
  let s1 := countSirFail n (countDev 0x13 1 (evP n F.TRAIN_EVENTS_DEADLINE s))
  let s2 := chLeave n (saveElapsed n (endRetrain n .incomplete [] s1))
  startAn n (clearTrain n (modPort n (fun p => p.stopped .idle) s2))

/-! ## Phases -/

/-- Enter ECHO (R205, R208, R214): T_PARAMS is sent, the join starts, and a port that comes onto the grid cancels a pending
anchor (R464). -/
def enterEcho (n : Nat) (s : State) : State :=
  let master := (port s n).tr.master
  let s1 := setPhase n 2 (modTr n (fun t => { t with next := none, converged := false, aligned := false }) s)
  let s2 := if master && s1.time.anchor.isSome then
      evG F.TIME_EVENTS_ANCHOR_CANCELLED (modTime (fun t => { t with anchor := none }) s1) else s1
  let nots := (notches s n).map (fun e => Band.mk (BitVec.ofNat 12 e.1) (BitVec.ofNat 12 e.2))
  let params := MsgBody.tParams (if master then BitVec.ofNat 16 (256 + 4 * n) else 0) (BitVec.ofNat 16 (ownTop s)) (psdMask s n) nots
  joinStart n (sendMsg n 0x50 true params s2)

/-- Enter a named phase. A master measures the one-way delay by the end of ECHO (R207): its value is free. -/
def enterPhase (n k : Nat) (s : State) : State :=
  let s1 := setPhase n k (modTr n (fun t => { t with next := none }) s)
  if k = 3 ∧ (port s n).tr.master = true then draw (modTr n (fun t => { t with delay := Config.pick s.draws % 2 ^ 32 }) s1)
  else if k = 4 then joinProgress n (modTr n (fun t => { t with rampLeft := backoffDb s n }) s1)
  else s1

/-- The phase change that is due takes effect (R182, R197, R204). -/
def phaseDue (n : Nat) (s : State) : State :=
  let t := (port s n).tr
  if inPhase s n 1 then
    match t.sEcho with
    | some k => if k ≤ s.time.s ∧ (t.master = true ∨ t.peerHeard = true) then enterEcho n s else s
    | none => s
  else if channelOpen s n then
    match t.next with
    | some (ph, k) => if k ≤ s.time.s then enterPhase n ph s else s
    | none => s
  else s

/-- The master that has both T_READY messages of its phase names the next one (R204, R209, R213). -/
def maybeNext (n : Nat) (s : State) : State :=
  let t := (port s n).tr
  let k := phase s n
  if t.master ∧ channelOpen s n ∧ k ≤ 4 ∧ t.ownReady = k ∧ t.peerReady = k ∧ t.next = none then
    let sf := nameAhead s
    sendMsg n 0x53 true (.tNext (BitVec.ofNat 8 (k + 1)) (BitVec.ofNat 40 sf)) (draw (modTr n (fun t => { t with next := some (k + 1, sf) }) s))
  else s

/-- The port has completed phase k: T_READY. -/
def ready (n k : Nat) (s : State) : State :=
  if (port s n).tr.ownReady = k then s
  else maybeNext n (sendMsg n 0x52 true (.tReady (BitVec.ofNat 8 k)) (modTr n (fun t => { t with ownReady := k }) s))

/-- ECHO is complete when the canceller has converged and, on the slave, ALIGNED has come (R209). -/
def echoReady (n : Nat) (s : State) : State :=
  let t := (port s n).tr
  if inPhase s n 2 && t.converged && (t.master || t.aligned) then ready n 2 s else s

/-! ## The pair check (R211-R213) -/

/-- Decide the link pair set from both reports (R212). -/
def decidePairs (n : Nat) (s : State) : State :=
  let t := (port s n).tr
  match t.peerLive with
  | some q =>
    let live := (List.range 4).filter (fun p => t.ownLive.getLsbD p && q.getLsbD p)
    let dead := (List.range 4).filter (fun p => !live.contains p)
    let s1 := whenB (!dead.isEmpty) (evP n F.TRAIN_EVENTS_PAIR_DEAD) s
    if t.pairsDecided then s
    else if dead.isEmpty then ready n 3 (modTr n (fun t => { t with pairsDecided := true }) s1)
    else if dead.length = 1 ∧ t.fallback3 = true then
      ready n 3 (modTr n (fun t => { t with pairsDecided := true })
        (wrP n F.SIR_TRAIN_STATUS_ABSENT_PAIR (dead.headD 0) (wrP n F.SIR_TRAIN_STATUS_THREE_PAIR 1 s1)))
    else s1
  | none => s

/-- A pair measurement of DISCOVERY is reported in T_PAIRS (R211). -/
def reportPairs (n : Nat) (live : BitVec 4) (s : State) : State :=
  decidePairs n (sendMsg n 0x54 true (.tPairs live) (modTr n (fun t => { t with ownLive := live }) s))

/-! ## LOADING (R219-R222) -/

/-- The absent pair of a port in training. -/
def trainAbsent (s : State) (n : Nat) : Option Nat :=
  if rdP s n F.SIR_TRAIN_STATUS_THREE_PAIR = 1 then some (rdP s n F.SIR_TRAIN_STATUS_ABSENT_PAIR) else none

/-- Send a computed loading in T_LOADING with its gains drawn at `d`, where there is one (R221). -/
def sendTable (n d : Nat) (x : Option (List (List Nat) × Nat × Nat × Nat × Nat)) (s : State) : State :=
  match x with
  | some (bs, q, nn, k, r) =>
    let req := fullReq 0 0 r (trainAbsent s n).isSome q nn k (bitsTable (d + 2) bs)
    sendMsg n 0x55 true (.tLoading req) (modTr n (fun t => { t with rxTable := some req, gotConfirm := false }) s)
  | none => s

/-- Compute the receive loading from the measured SNR and send T_LOADING; without a service rate none is sent (R219,
R220, R307). -/
def sendLoading (n : Nat) (snr : List SnrRun) (s : State) : State :=
  sendTable n s.draws (computeAt s.draws (toneOk s n) (trainAbsent s n) (rateCap s n) (snrTones snr) targetMargin) (draw (draw (draw s)))

/-- Back to the start of LOADING (R221). -/
def restartLoading (n : Nat) (s : State) : State :=
  let s1 := modTr n (fun t => { t with rxTable := none, txTable := none, gotConfirm := false, sentConfirm := false, s0 := none }) s
  wrP n F.SIR_TRAIN_STATUS_PROGRESS 85 s1

/-- A FULL table passes the transmitter's checks: it covers tones 1..4095 of every pair (R167), R98, R102, R121, and the
highest tone and ceiling of R56 (R221). -/
def fullOk (s : State) (n : Nat) (r : LoadReq) (cap : Nat) : Bool :=
  let tb := applyItems r.items emptyTable
  let covers := (List.range 4).all (fun p => r.items.any (fun it => it.pair.val == p && it.start == 1 && it.entries.length == 4095))
  r.full && covers && entriesOk tb && rsOk r.q.toNat r.n.toNat r.k.toNat (infoBits tb) && tonesOk tb (linkNotches s n) (linkTop s n)
    && decide (r.rate.val ≤ cap)

/-- The master that has sent and received a T_CONFIRM names S0 (R222). -/
def maybeGo (n : Nat) (s : State) : State :=
  let t := (port s n).tr
  if inPhase s n 5 ∧ t.master ∧ t.sentConfirm ∧ t.gotConfirm ∧ t.s0 = none then
    let sf := nameAhead s
    sendMsg n 0x57 true (.tGo (BitVec.ofNat 40 sf)) (draw (modTr n (fun t => { t with s0 := some sf }) s))
  else s

/-! ## Entry into service (R181, R222) -/

/-- The VERSION message of the device (R162). -/
def versionBody (s : State) (n : Nat) : MsgBody :=
  .version (BitVec.ofNat 8 (port s n).tr.ver) 0x5A1DA5 (BitVec.ofNat 16 (partCode s)) 0xB0 (BitVec.ofNat 32 s.images.fwVersion)
    (BitVec.ofNat 8 (rdG s F.DEV_ID_PROFILE))

/-- The port enters service at S0: each direction applies its confirmed loading as LOAD_ID 0, the port reports up, and sends
VERSION (R164, R181, R222). -/
def enterService (n : Nat) (s : State) : State :=
  let t := (port s n).tr
  match t.rxTable, t.txTable with
  | some rx, some tx =>
    let three := trainAbsent s n
    let s1 := writeTable n 1 (requestTable emptyTable rx) (writeTable n 0 (requestTable emptyTable tx) (saveElapsed n s))
    let s2 := modPort n (fun p => { p.stopped .service with
      tr := p.tr, serviceS := s.time.s, txRate0 := tx.rate.val, rxRate0 := rx.rate.val, idleSince := symNow s 1,
      txLoad := ⟨0, tx.q.toNat, tx.n.toNat, tx.k.toNat⟩, rxLoad := ⟨0, rx.q.toNat, rx.n.toNat, rx.k.toNat⟩ }) s1
    let s3 := modPort n (fun p => { p with an := { p.an with failedSir := 0 } }) (setPhase n 6 s2)
    let s4 := wrP n F.LINK_STATE_TX_RATE tx.rate.val (wrP n F.LINK_STATE_RX_RATE rx.rate.val s3)
    let s5 := wrP n F.LINK_STATE_THREE_PAIR (bit three.isSome) (wrP n F.LINK_STATE_ABSENT (three.getD 0) s4)
    let s6 := setReason n F.DEGRADE_THREE_PAIR three.isSome (updateRateReason n (portUp n s5))
    retrainDone n (sendMsg n 2 true (versionBody s6 n) s6)
  | _, _ => s

/-- The entry into service that is due takes effect, in stage 5 of R29 (R182). -/
def serviceDue (n : Nat) (s : State) : State :=
  match (port s n).tr.s0 with
  | some k => if inPhase s n 5 && decide (k ≤ s.time.s) then enterService n s else s
  | none => s

/-! ## The rows: the handshake -/

/-- HANDSHAKE_DETECTOR_FIRE: a detector of a pair fires and must confirm (R198); the pair's other detector keeps running
(R199). -/
def execHandshakeDetectorFire (n : Port) (p : Pair) (d : Fin 2) (s : State) : Host.Outcome State Fault Refusal :=
  .next (if lineFree s n.val && isSir s n.val then
    modTr n.val (fun t => { t with firing := SMap.set t.firing 0 (2 * p.val + d.val) 1 }) s else s)

/-- HANDSHAKE_CONFIRM_TIMEOUT: a detection that is not confirmed is abandoned and counted (R198). -/
def execHandshakeConfirmTimeout (n : Port) (p : Pair) (d : Fin 2) (s : State) : Host.Outcome State Fault Refusal :=
  .next (if SMap.get (port s n.val).tr.firing 0 (2 * p.val + d.val) = 1 then
    addCnt (portBase n.val) F.SIR_TRAIN_FALSE_HS 1
      (modTr n.val (fun t => { t with firing := SMap.set t.firing 0 (2 * p.val + d.val) 0 }) s) else s)

/-- A burst that passes R195, in HANDSHAKE (R192, R196, R197). The master's first HEARD burst is its next one, in this
superframe or the next. -/
def goodBurst (n : Nat) (m : HsMsg) (s : State) : State :=
  let t := (port s n).tr
  if t.master then
    if t.sEcho.isSome then s
    else draw (modTr n (fun t => { t with confirmed := true, heard := true, peerHeard := m.heard,
                                          sEcho := some (s.time.s + 8 + Config.pick s.draws % 2) }) s)
  else
    let off : Int := (m.sField.toNat : Int) - (s.time.s : Int)
    let echo := if m.heard ∧ m.echoIn.val ≠ 0 then some (s.time.s + m.echoIn.val) else t.sEcho
    modTr n (fun t => { t with confirmed := true, heard := t.heard || m.heard, peerHeard := t.peerHeard || m.heard,
                               sOff := off, sEcho := echo }) s

/-- HANDSHAKE_BURST: a confirmed burst is a ghost (R84), or fails R195 and is counted, or is the partner's: in HANDSHAKE it
advances the handshake, after it the port returns to HANDSHAKE (R187), and after the first 16 superframes of service it
goes down (R352). -/
def handshakeBurst (n : Nat) (m : HsMsg) (s : State) : State :=
  let t := (port s n).tr
  let a := (port s n).an
  if !isSir s n then s
  else
    let s0 := modTr n (fun t => { t with firing := [] }) s
    match ghostSource s n m.ghostOf with
    | some src => ghostSrc n 0 0 src (addCnt (portBase n) F.AN_GHOST_SELF 1 s0)
    | none =>
      let s1 := if m.stronger then ghostSrc n 1 0 0 (addCnt (portBase n) F.AN_GHOST_ABANDON 1 s0) else s0
      let ok := m.crcOk && m.ver.val == t.ver && m.role.val == (if t.master then 2 else 1) && m.seed == a.peerSeed && m.peerSeed == a.seed
      if !ok then addCnt (portBase n) F.SIR_TRAIN_FALSE_HS 1 s1
      else if inPhase s n 1 then goodBurst n m s1
      else if channelOpen s n || earlyService s n then restartHandshake n s1
      else downRestart n 2 s1

@[inherit_doc handshakeBurst]
def execHandshakeBurst (n : Port) (m : HsMsg) (s : State) : Host.Outcome State Fault Refusal := .next (handshakeBurst n.val m s)

/-- SLAVE_BURST: the slave sends its burst after a master burst that it has confirmed (R192, R194). -/
def execSlaveBurst (n : Port) (s : State) : Host.Outcome State Fault Refusal :=
  let t := (port s n.val).tr
  .next (if inPhase s n.val 1 && !t.master && t.confirmed then
    modTr n.val (fun t => { t with hsOut := hsMessage s n.val false }) s else s)

/-- PARTNER_SILENT: in training the port enters Listen (R185); in service outside Shutter it goes down (R352). -/
def execPartnerSilent (n : Port) (s : State) : Host.Outcome State Fault Refusal :=
  .next (if (port s n.val).st = .training then toListen n.val s
    else if inService s n.val ∧ inShutter s n.val = false then downRestart n.val 1 s else s)

/-- FIRST_BURST_TIMEOUT: no burst of the partner within 20 ms counts as silence (R184). -/
def execFirstBurstTimeout (n : Port) (s : State) : Host.Outcome State Fault Refusal :=
  .next (if inPhase s n.val 1 && !(port s n.val).tr.confirmed then toListen n.val s else s)

/-! ## The rows: Listen -/

/-- The largest quiet window, in ms (R227). -/
def listenMax (s : State) (n : Nat) : Nat := 2000 * 2 ^ rdP s n F.SIR_TRAIN_CTRL_LISTEN_MAX

/-- LISTEN_WINDOW: a transmit window follows a quiet one and the other way round; a quiet window is drawn from 0.25 s up to a
limit that doubles each time (R224). -/
def execListenWindow (n : Port) (s : State) : Host.Outcome State Fault Refusal :=
  let t := (port s n.val).tr
  .next (if (port s n.val).st ≠ .listen then s
    else if t.listenTx then
      let w := 250 + Config.listenQuiet s.draws % (t.listenLimit - 250 + 1)
      draw (modTr n.val (fun t => { t with listenTx := false, listenWindow := w, listenLimit := min (2 * t.listenLimit) (listenMax s n.val) }) s)
    else modTr n.val (fun t => { t with listenTx := true }) s)

/-- The LISTEN_DIAG word of a pair: an open and its distance, or none found (R231). -/
def listenWord : Option (BitVec 11) → Word
  | some d => BitVec.ofNat 32 (0xC000 + d.toNat)
  | none => 0x8000

/-- LISTEN_TDR: with AUTO_DIAG, one reflectometry run in a quiet window; line energy abandons it and the port negotiates
(R225). -/
def execListenTdr (n : Port) (energy : Bool) (res : List (Option (BitVec 11))) (s : State) : Host.Outcome State Fault Refusal :=
  let t := (port s n.val).tr
  .next (if (port s n.val).st ≠ .listen ∨ rdP s n.val F.SIR_TRAIN_CTRL_AUTO_DIAG = 0 ∨ t.listenTx = true ∨ t.tdrDone = true
      ∨ t.listenWindow < 250 then s
    else if energy then leaveListen n.val s
    else
      let s1 := modTr n.val (fun t => { t with tdrDone := true }) s
      let s2 := forN 4 (fun p s => wrReg (portBase n.val + 0x70894 + 4 * p) (listenWord (res.getD p none)) s) s1
      whenB (res.any (·.isSome)) (evP n.val F.TRAIN_EVENTS_OPEN_FOUND) s2)

/-! ## The rows: limits and restarts -/

/-- PHASE_LIMIT: a phase other than JOIN outlasts its limit (R186). -/
def execPhaseLimit (n : Port) (s : State) : Host.Outcome State Fault Refusal :=
  .next (if (port s n.val).st = .training ∧ phase s n.val ≠ 4 then restartHandshake n.val (sendMsg n.val 0x5F false (.tAbort 1) s) else s)

/-- PHASE_MISMATCH: four superframes of training-channel codewords with another PHASE (R187). -/
def execPhaseMismatch (n : Port) (s : State) : Host.Outcome State Fault Refusal :=
  .next (if channelOpen s n.val || earlyService s n.val then restartHandshake n.val s else s)

/-- TRAINING_DEADLINE: R188. -/
def execTrainingDeadline (n : Port) (s : State) : Host.Outcome State Fault Refusal :=
  .next (if (port s n.val).st = .training then attemptFails n.val s else s)

/-- TRAINING_PHASE_CHANGE: the superframe named in the handshake or in T_NEXT begins (R182, R204). -/
def execTrainingPhaseChange (n : Port) (s : State) : Host.Outcome State Fault Refusal := .next (phaseDue n.val s)

/-- CANCELLER_CONVERGED: the canceller has converged on every pair (R206, R209). -/
def execCancellerConverged (n : Port) (s : State) : Host.Outcome State Fault Refusal :=
  .next (if inPhase s n.val 2 then echoReady n.val (modTr n.val (fun t => { t with converged := true }) s) else s)

/-! ## The rows: training-channel messages -/

/-- Receive a reliable message of the training channel. -/
def onTrain (n type : Nat) (tag : Byte) (act : State → State) (s : State) : State :=
  if channelOpen s n then onReliable n type tag.toNat act s else s

/-- T_PARAMS: the partner's mask, notches, highest tone and, from the master, the pilot code (R203, R208); parameters that
break R117 or R120 are refused. -/
def execTParams (n : Port) (tag : Byte) (pilot top : BitVec 16) (mask : List Brk) (nots : List Band) (s : State) :
    Host.Outcome State Fault Refusal :=
  .next (onTrain n.val 0x50 tag (fun s =>
    if decide (1 ≤ mask.length ∧ mask.length ≤ 64 ∧ nots.length ≤ 16) && risingTones 0 mask
        && nots.all (fun b => decide (b.lo.toNat ≤ b.hi.toNat)) then
      modTr n.val (fun t => { t with gotParams := true, pilot := if t.master then t.pilot else pilot.toNat, peerTop := top.toNat,
                                     peerMask := mask, peerNotches := nots }) s
    else sendMsg n.val 0x5F false (.tAbort 3) s) s)

/-- T_ALIGN: the slave moves its upstream timing by −OFFSET, and takes DELAY and ALIGNED (R207, R209). -/
def execTAlign (n : Port) (offset delay : BitVec 32) (aligned : Bool) (s : State) : Host.Outcome State Fault Refusal :=
  .next (if channelOpen s n.val && !(port s n.val).tr.master then
    echoReady n.val (modTr n.val (fun t => { t with offset := t.offset - offset.toInt, delay := delay.toNat, aligned := t.aligned || aligned }) s)
    else s)

/-- T_READY: the partner has completed a phase (R209, R213). -/
def execTReady (n : Port) (tag phase : Byte) (s : State) : Host.Outcome State Fault Refusal :=
  .next (onTrain n.val 0x52 tag (fun s => maybeNext n.val (modTr n.val (fun t => { t with peerReady := phase.toNat }) s)) s)

/-- T_NEXT: the slave enters the named phase at the named superframe, when that has not begun (R204). -/
def execTNext (n : Port) (tag ph : Byte) (sf : BitVec 40) (s : State) : Host.Outcome State Fault Refusal :=
  .next (onTrain n.val 0x53 tag (fun s =>
    let k := toGrid s n.val sf.toNat
    if (port s n.val).tr.master = false ∧ ph.toNat = phase s n.val + 1 ∧ ph.toNat ≤ 5 ∧ s.time.s < k then
      modTr n.val (fun t => { t with next := some (ph.toNat, k) }) s else s) s)

/-- T_PAIRS: the pairs that the partner receives live (R211, R212). -/
def execTPairs (n : Port) (tag : Byte) (live : BitVec 4) (s : State) : Host.Outcome State Fault Refusal :=
  .next (onTrain n.val 0x54 tag (fun s =>
    let s1 := modTr n.val (fun t => { t with peerLive := some live }) s
    if inPhase s n.val 3 then decidePairs n.val s1 else s1) s)

/-- T_LOADING: the transmitter checks the table; it answers T_CONFIRM, or T_ABORT and back to the start of LOADING (R221). -/
def execTLoading (n : Port) (tag : Byte) (r : LoadReq) (s : State) : Host.Outcome State Fault Refusal :=
  .next (onTrain n.val 0x55 tag (fun s =>
    if !inPhase s n.val 5 then s
    else if fullOk s n.val r (port s n.val).tr.ceiling && r.threePair == (trainAbsent s n.val).isSome then
      maybeGo n.val (sendMsg n.val 0x56 true (.tConfirm 0 0)
        (modTr n.val (fun t => { t with txTable := some r, sentConfirm := true }) s))
    else restartLoading n.val (sendMsg n.val 0x5F false (.tAbort 2) s)) s)

/-- T_CONFIRM: the partner accepts the receive loading (R222). -/
def execTConfirm (n : Port) (tag : Byte) (s : State) : Host.Outcome State Fault Refusal :=
  .next (onTrain n.val 0x56 tag (fun s =>
    if inPhase s n.val 5 && (port s n.val).tr.rxTable.isSome then
      maybeGo n.val (modTr n.val (fun t => { t with gotConfirm := true }) s) else s) s)

/-- T_GO: the slave enters service at the named superframe, when that has not begun (R204, R222). -/
def execTGo (n : Port) (tag : Byte) (sf : BitVec 40) (s : State) : Host.Outcome State Fault Refusal :=
  .next (onTrain n.val 0x57 tag (fun s =>
    let k := toGrid s n.val sf.toNat
    if inPhase s n.val 5 ∧ (port s n.val).tr.master = false ∧ s.time.s < k then
      modTr n.val (fun t => { t with s0 := some k }) s else s) s)

/-- T_ABORT: reason 0x02 in LOADING returns to its start (R221); any other returns to HANDSHAKE (R187). -/
def execTAbort (n : Port) (reason : Byte) (s : State) : Host.Outcome State Fault Refusal :=
  .next (if reason = 2 ∧ inPhase s n.val 5 = true then restartLoading n.val s
    else if channelOpen s n.val || earlyService s n.val then restartHandshake n.val s else s)

/-! ## The rows: DISCOVERY, JOIN, LOADING and service -/

/-- DISCOVERY_MEASURED: the live pairs are reported (R210, R211). -/
def execDiscoveryMeasured (n : Port) (live : BitVec 4) (s : State) : Host.Outcome State Fault Refusal :=
  .next (if inPhase s n.val 3 then reportPairs n.val live s else s)

/-- PAIR_CHECK_RETRY: the pair check repeats while the pair set is not decided (R212). -/
def execPairCheckRetry (n : Port) (live : BitVec 4) (s : State) : Host.Outcome State Fault Refusal :=
  .next (if inPhase s n.val 3 && !(port s n.val).tr.pairsDecided then reportPairs n.val live s else s)

/-- JOIN_RAMP_STEP: once the join has committed, or is late, the power rises by 3 dB; at 0 dB the phase is complete
(R215, R216). -/
def execJoinRampStep (n : Port) (s : State) : Host.Outcome State Fault Refusal :=
  let t := (port s n.val).tr
  .next (if inPhase s n.val 4 && (t.joinDone || rdP s n.val F.SIR_TRAIN_STATUS_JOIN_LATE == 1) then
    let left := t.rampLeft - 3
    let pct := 80 + 5 * (backoffDb s n.val - left) / backoffDb s n.val
    let s1 := retrainStep n.val 4 pct (wrP n.val F.SIR_TRAIN_STATUS_PROGRESS pct
      (modTr n.val (fun t => { t with rampLeft := left, rampOn := true }) s))
    if left = 0 then ready n.val 4 s1 else s1
    else s)

/-- JOIN_LATE: the join has not committed 2.5 s after JOIN began (R216). -/
def execJoinLate (n : Port) (s : State) : Host.Outcome State Fault Refusal :=
  .next (if inPhase s n.val 4 && !(port s n.val).tr.joinDone then
    evP n.val F.TRAIN_EVENTS_JOIN_LATE (wrP n.val F.SIR_TRAIN_STATUS_JOIN_LATE 1 s) else s)

/-- LOADING_MEASURED: the receive loading is computed and sent (R219). -/
def execLoadingMeasured (n : Port) (snr : List SnrRun) (s : State) : Host.Outcome State Fault Refusal :=
  .next (if inPhase s n.val 5 then sendLoading n.val snr s else s)

/-- LOADING_REMEASURE: a direction without a service rate is measured again (R220). -/
def execLoadingRemeasure (n : Port) (snr : List SnrRun) (s : State) : Host.Outcome State Fault Refusal :=
  .next (if inPhase s n.val 5 && (port s n.val).tr.rxTable.isNone then sendLoading n.val snr s else s)

/-- SERVICE_ENTRY: S0 begins (R181, R222). -/
def execServiceEntry (n : Port) (s : State) : Host.Outcome State Fault Refusal := .next (serviceDue n.val s)

end Sys2Proof.Machine
end

