-- ==== Sys2Proof/Machine/Frames.lean ====
section
/-!
DEFINITION. Frames between the line and the host lanes: their timestamps (R476-R480), the one-step correction of PTP event
messages (R481-R484), delivery on HTX (R417), the hold buffer with XOFF and PAUSE (R428-R430), and the egress records.
-/
namespace Sys2Proof.Machine

/-! ## Time in units of 1/8 ns -/

/-- The network time now. -/
def now8 (s : State) : Nat := s.time.t * 8 / nsUnit

/-- The network time of the boundary of symbol `sym` of the current superframe (R466, R476): a symbol lasts 5.76 us. -/
def symTime8 (s : State) (sym : Nat) : Nat := s.time.sTime * 8 + sym * 46080

/-- A time moved by a signed 16-bit latency. -/
def addLat (t lat : Nat) : Nat := ((t : Int) + signed 16 lat).toNat

/-- The nanoseconds field of a time. -/
def ns8 (t : Nat) : Nat := t / 8 % 1000000000

/-- The seconds of a time. -/
def sec8 (t : Nat) : Nat := t / 8000000000

/-- ns(t) × 2^16 plus its fraction (R482). -/
def cf8 (t : Nat) : Nat := ns8 t * 65536 + t % 8 * 8192

/-! ## Who the partner is (R753) -/

/-- The PARTNER codes that a port's events carry. -/
def partnerCodes (s : State) (n : Nat) : List Nat :=
  let p := port s n
  if p.st = .service then (if p.tr.ver = 2 then [3] else [2]) ++ (if p.peerVendor = 0x5A1DA5 then [4] else [5])
  else if p.st = .stdUp then [1] else []

/-- A port group event of port n that carries its port and its partner (R757). -/
def pmPort (n code k : Nat) (s : State) : State :=
  pmEvN (groupOf n) code { PmAttr.none with port := some n, partner := some (partnerCodes s n) } k s

/-! ## PTP event messages (R481-R483) -/

/-- The offset of a frame's EtherType, past up to two VLAN tags. -/
def typeOff (f : List Byte) : Nat :=
  let tag := fun i => beAt f i 2 == 0x8100 || beAt f i 2 == 0x88A8
  if tag 12 then (if tag 16 then 20 else 16) else 12

/-- Where a PTP message may lie: the encapsulation (0 Ethernet, 1 UDP over IPv4, 2 UDP over IPv6) and the offset of its header. -/
def ptpPlace (f : List Byte) : Option (Nat × Nat) :=
  let e := typeOff f
  let o := e + 2
  if beAt f e 2 = 0x88F7 then some (0, o)
  else if beAt f e 2 = 0x0800 ∧ byteAt f o = 0x45 ∧ byteAt f (o + 9) = 17 ∧ beAt f (o + 6) 2 % 8192 = 0 ∧ beAt f (o + 22) 2 = 319 then
    some (1, o + 28)
  else if beAt f e 2 = 0x86DD ∧ byteAt f o / 16 = 6 ∧ byteAt f (o + 6) = 17 ∧ beAt f (o + 42) 2 = 319 then some (2, o + 48)
  else none

/-- A recognised event message: its encapsulation and its header's offset (R481). -/
def ptpEvent (f : List Byte) : Option (Nat × Nat) :=
  match ptpPlace f with
  | some (k, h) => if byteAt f h % 16 ≤ 3 ∧ byteAt f (h + 1) % 16 = 2 ∧ h + 38 ≤ f.length then some (k, h) else none
  | none => none

/-- A frame with bytes replaced from offset i. -/
def setBytes (f : List Byte) (i : Nat) (bs : List Byte) : List Byte := f.take i ++ bs ++ f.drop (i + bs.length)

/-- The sum of bytes as 16-bit words, modulo 65,535, for a checksum. -/
def onesSum (bs : List Byte) : Nat := (bs.mapIdx (fun i b => if i % 2 = 0 then b.toNat * 256 else b.toNat)).sum % 65535

/-- The UDP datagram over IPv6 has the two compensation bytes after its PTP message (R483). -/
def hasComp (f : List Byte) (h : Nat) : Bool := decide (beAt f (h + 2) 2 + 10 ≤ beAt f (h - 4) 2) && decide (h - 8 + beAt f (h - 4) 2 ≤ f.length)

/-- Set the compensation bytes so that the UDP checksum of the frame stays valid (R483). -/
def fixComp (old new : List Byte) (h : Nat) : List Byte :=
  let u := h - 8
  let len := beAt old (u + 4) 2
  let i := len - 2
  let z := setBytes new (u + i) [0, 0]
  let need := (onesSum (slice old u len) + 65535 - onesSum (slice z u len)) % 65535
  let v := if i % 2 = 0 then need else need % 256 * 256 + need / 256
  setBytes new (u + i) (natBE 2 v)

/-- A frame's FCS computed anew. -/
def newFcs (f : List Byte) : List Byte := f.take (f.length - 4) ++ fcsOf (f.take (f.length - 4))

/-- A changed message with its checksum and FCS put right (R483). -/
def ptpFinish (kind h : Nat) (old new : List Byte) : List Byte :=
  newFcs (if kind = 1 then setBytes new (h - 2) [0, 0] else if kind = 2 then fixComp old new h else new)

/-- The correctionField with an amount added, modulo 2^64. -/
def addCf (f : List Byte) (h : Nat) (x : Int) : List Byte :=
  setBytes f (h + 8) (natBE 8 (((beAt f (h + 8) 8 : Nat) : Int) + x).toNat)

/-- The correctionField with an amount taken away. -/
def subCf (f : List Byte) (h x : Nat) : List Byte :=
  setBytes f (h + 8) (natBE 8 (beAt f (h + 8) 8 + 2 ^ 64 - x % 2 ^ 64))

/-- The change that ING_MODE makes (R482). -/
def ingChange (mode h t : Nat) (f : List Byte) : List Byte :=
  if mode = 1 then setBytes f (h + 16) (natBE 4 (ns8 t)) else subCf f h (cf8 t)

/-- The change that EGR_MODE makes (R482). -/
def egrChange (mode h t : Nat) (f : List Byte) : List Byte :=
  if mode = 1 then
    let d := (ns8 t + 1000000000 - beAt f (h + 16) 4 % 1000000000) % 1000000000
    setBytes (addCf f h ((d * 65536 : Nat) : Int)) (h + 16) [0, 0, 0, 0]
  else addCf f h ((cf8 t : Nat) : Int)

/-- A PTP mode field; its reserved code acts as 0b00 (R503). -/
def ptpMode (m : Nat) : Nat := if m = 3 then 0 else m

/-- Correct a frame as a mode field says: the frame, whether it was changed, and the counts (R482, R483). -/
def ptpCorrect (n mode : Nat) (change : Nat → List Byte → List Byte) (f : List Byte) (s : State) : List Byte × Bool × State :=
  match ptpEvent f with
  | some (k, h) =>
    if ptpMode mode = 0 then (f, false, s)
    else if k = 2 ∧ hasComp f h = false then (f, false, addCnt (portBase n) F.PTP_SKIP 1 (evP n F.PTP_EVENTS_SKIP s))
    else
      let s1 := pmEv 0x10 5 { PmAttr.none with port := some n } (countDev 0x23 1 (addCnt (portBase n) F.PTP_UPDATED 1 s))
      (ptpFinish k h f (change h f), true, s1)
  | none => (f, false, s)

/-! ## Egress timestamp records (R479, R480) -/

/-- Put a record into the port's FIFO, or discard it where 16 are held (R479). -/
def pushTs (n : Nat) (r : TsRec) (s : State) : State :=
  if (hostPort s n).fifo.length ≥ 16 then evP n F.PTP_EVENTS_FIFO_OVF s
  else
    let l := (hostPort s n).fifo ++ [r]
    wrP n F.TS_FIFO_TS_LEVEL l.length (modHost n (fun h => { h with fifo := l }) s)

/-- What a launch context shows of its latest launch, at a plane (R485): LAST_LATE is the plane less the launch time. -/
def noteLaunch (n : Nat) (f : Frame) (at8 : Nat) (s : State) : State :=
  match f.ctx with
  | some (c, _) => modCtx c (fun x => { x with
      lastSec := sec8 at8, lastNs := ns8 at8, lastLate := ((at8 : Int) - (f.at8 : Int)) / 8, lastEpoch := s.time.epoch % 65536,
      lastS := if inService s n then toLink s n s.time.s else 0 }) s
  | none => s

/-- A frame leaves: at the plane `at8` it is corrected as EGR_MODE says where its PTP bit is 1, and its egress record is taken
where it asks for one (R479-R484). -/
def egress (n : Nat) (f : Frame) (at8 : Nat) (s : State) : List Byte × State :=
  let t := addLat at8 (rdP s n F.TS_EGR_LAT)
  let mode := if f.ptp then rdP s n F.PTP_CTRL_EGR_MODE else 0
  let (b, changed, s1) := ptpCorrect n mode (fun h x => egrChange (ptpMode mode) h t x) f.bytes s
  let s2 := if f.tsReq then modHost n (fun h => { h with tsReqs := (h.tsReqs + 1) % 65536 }) s1 else s1
  let event := if f.ptp then ptpEvent f.bytes else none
  let (tag, src, msg) := match event, f.ctx with
    | some (_, h), _ => (beAt f.bytes (h + 30) 2, 1, byteAt f.bytes h % 16)
    | none, some (c, _) => (c, 2, 0)
    | none, none => ((hostPort s2 n).tsReqs, 3, 0)
  let sf := if inService s n then toLink s n s.time.s else 0
  let r : TsRec := ⟨sec8 t, ns8 t, t % 8 * 8192, s.time.epoch % 65536, tag, src, msg, sf⟩
  let s3 := pmEv (groupOf n) 8 { PmAttr.none with port := some n, cls := some f.cls } s2
  let s4 := noteLaunch n f at8 s3
  (b, if f.tsReq || (f.ctx.map (·.2)).getD false || changed then pushTs n r s4 else s4)

/-! ## Towards the host lanes -/

/-- The port paces with notices, else with PAUSE (R424). -/
def usesNotices (s : State) (n : Nat) : Bool := (hostPort s n).noticesInForce

/-- A PAUSE frame (R430). -/
def pauseFrame (s : State) (time : Nat) : List Byte :=
  let sa := natBE 2 (rdReg s 0x11700).toNat ++ natBE 2 (rdReg s 0x11704).toNat ++ natBE 2 (rdReg s 0x11708).toNat
  let b := natBE 6 0x0180C2000001 ++ sa ++ [0x88, 0x08, 0x00, 0x01] ++ natBE 2 time
  let b := b ++ List.replicate (60 - b.length) 0
  b ++ fcsOf b

/-- Put a PAUSE frame ahead of every queued record of the group, behind those already there (R430). -/
def sendPause (n time : Nat) (s : State) : State :=
  let r : HostRec := ⟨n, ⟨pauseFrame s time, 0, now8 s, s.time.epoch % 4, false, false, none⟩, true⟩
  let put := fun q : List HostRec => q.takeWhile (·.pause) ++ [r] ++ q.dropWhile (·.pause)
  countDev 0x20 1 (addCnt (portBase n) F.HL_PAUSE_SENT 1 (modLane (laneOf n) (fun l => { l with htxQueue := put l.htxQueue }) s))

/-- XOFF follows the hold buffer: set at 12 KiB, cleared at 6 KiB; a port that uses PAUSE sends a frame for each (R428,
R430). -/
def holdCheck (n : Nat) (s : State) : State :=
  let h := hostPort s n
  let show' := fun b s => wrP n F.HL_PORT_STATUS_XOFF (bit b) (modHost n (fun h => { h with xoff := b }) s)
  if !h.xoff && decide (h.hold ≥ 12288) then
    let s1 := pmEv (12 + laneOf n) 9 { PmAttr.none with port := some n } (countDev 0x1F 1 (show' true s))
    if usesNotices s n || !laneActive s (laneOf n) then s1 else sendPause n 0xFFFF s1
  else if h.xoff && decide (h.hold ≤ 6144) then
    let s1 := show' false s
    if usesNotices s n || !laneActive s (laneOf n) then s1 else sendPause n 0 s1
  else s

/-- A frame received from the line, with the time of its plane: it is delivered on HTX, or discarded and counted (R134, R417,
R440, R477, R482). -/
def lineIn (n : Nat) (f : List Byte) (at8 epoch : Nat) (retx : Bool) (s : State) : State :=
  if !(laneActive s (laneOf n) && fcsOk f && decide (64 ≤ f.length ∧ f.length ≤ 10240)) then addCnt (portBase n) F.HL_HTX_DROP 1 s
  else
    let t := addLat at8 (rdP s n F.TS_ING_LAT)
    let mode := rdP s n F.PTP_CTRL_ING_MODE
    let (b, _, s1) := ptpCorrect n mode (fun h x => ingChange (ptpMode mode) h t x) f (whenB retx (evP n F.PTP_EVENTS_RETX_TS) s)
    let s2 := pmEv (groupOf n) 9 { PmAttr.none with port := some n } (countDev 0x19 1 s1)
    modLane (laneOf n) (fun l => { l with htxQueue := l.htxQueue ++ [⟨n, ⟨b, 0, t, epoch % 4, false, false, none⟩, false⟩] }) s2

/-! ## Towards the line -/

/-- Frames wait at a port in or entering Shutter: an entry that is still far enough is cancelled, else the port wakes
(R337). -/
def wantWake (n : Nat) (s : State) : State :=
  let p := port s n
  match p.shut.accepted with
  | some k =>
    if s.time.s + 2 < k then
      sendMsg n 0x21 true (.shutter (BitVec.ofNat 40 (toLink s n k)) 4 0)
        (modPort n (fun p => { p with shut := { p.shut with asked := none, accepted := none } }) s)
    else modPort n (fun p => { p with shut := { p.shut with wakeSoon := true } }) s
  | none => if inShutter s n then modPort n (fun p => { p with shut := { p.shut with wakeSoon := true } }) s else s

/-- Pass a frame of the ASIC to the line: a Siruigo port takes it into its hold buffer, a standard-mode port sends it at once. -/
def lineOut (n : Nat) (f : Frame) (s : State) : State :=
  if inService s n then
    let s1 := modPort n (fun p => { p with esc := { p.esc with txFrames := p.esc.txFrames ++ [f] } }) s
    wantWake n (holdCheck n (modHost n (fun h => { h with hold := h.hold + f.bytes.length }) s1))
  else (egress n f (now8 s) s).2

end Sys2Proof.Machine
end

