-- ==== Sys2Proof/Machine/Escrow.lean ====
section
/-!
DEFINITION. The Escrow and the embedded channel's blocks: DTUs sent and received, acknowledgement, retransmission, loss, and
frame records (R127-R155).
-/
namespace Sys2Proof.Machine

/-- Change a port's Escrow. -/
def modEsc (n : Nat) (f : Escrow → Escrow) : State → State := modPort n (fun p => { p with esc := f p.esc })

/-- x is after y (R140). -/
def seqAfter (x y : Nat) : Bool := decide (1 ≤ (x + 65536 - y) % 65536 ∧ (x + 65536 - y) % 65536 ≤ 32767)

/-- How far x lies after y, modulo 65,536. -/
def seqDist (x y : Nat) : Nat := (x + 65536 - y) % 65536

/-- The window W by service rate (R141). -/
def window (rate : Nat) : Nat := [48, 80, 160, 320, 384, 384, 384].getD rate 384

/-- A port sends and receives DTUs: in service and not in Shutter. -/
def dtuOpen (s : State) (n : Nat) : Bool := inService s n && !inShutter s n

/-- Loops frozen in a direction resume when a data DTU passes in it (R333). -/
def thaw (n : Nat) (tx : Bool) : State → State := modPort n (fun p => { p with frozen := p.frozen.filter (fun f => f.tx != tx) })

/-! ## Frame records (R132, R133) -/

/-- The bytes of a frame record. -/
def recordBytes (f : List Byte) : List Byte := natBE 2 f.length ++ f

/-- Fill a payload: the bytes not yet placed, then records of the frames that wait. Answers the payload, the offset of the first
record that begins in it, the bytes left over, and the state with those frames taken: each is corrected and stamped at the data
symbol that carries its first byte (R476, R484, R491), and leaves the hold buffer unless a launch brought it. -/
def fillPayload (n at8 : Nat) : List Frame → List Byte → Option Nat → State → List Byte × Option Nat × List Byte × List Frame × State
  | [], acc, ptr, s => (acc.take 504, ptr, acc.drop 504, [], s)
  | f :: t, acc, ptr, s =>
    if acc.length ≥ 504 then (acc.take 504, ptr, acc.drop 504, f :: t, s)
    else
      let (b, s1) := egress n f at8 s
      let s2 := if f.ctx.isNone then modHost n (fun h => { h with hold := h.hold - f.bytes.length }) s1 else s1
      fillPayload n at8 t (acc ++ recordBytes b) (some (ptr.getD acc.length)) s2

/-- The 512 bytes of a DTU (R128). -/
def dtuBytes (seq kind : Nat) (retx : Bool) (ptr : Nat) (payload : List Byte) : List Byte :=
  let b := natBE 2 seq ++ natBE 2 (kind * 0x4000 + bit retx * 0x2000 + ptr) ++ payload
  b ++ natBE 4 (crc32c b)

/-! ## The block that the port sends (R145, R153) -/

/-- The consecutive missing DTUs from ACK_BASE. -/
def gapLen : Nat → List RxSlot → Nat
  | b, x :: t => if x.seq = b ∧ x.payload.isNone then 1 + gapLen ((b + 1) % 65536) t else 0
  | _, [] => 0

/-- The acknowledgement state of a receiver (R153): ACK_BASE, GAP_LEN, RX_LAST and ACK_MAP. -/
def ackBytes (e : Escrow) : List Byte :=
  let g := gapLen e.rxBase e.rx
  let held := fun i => e.rx.any (fun x => x.seq == (e.rxBase + g + i) % 65536 && x.payload.isSome)
  let map := (List.range 64).foldl (fun a i => a + bit (held i) * 2 ^ i) 0
  natBE 2 e.rxBase ++ natBE 2 g ++ natBE 2 e.rxLast ++ natBE 8 map

/-- The DTU-stream bytes of a data symbol (R96). -/
def dtuStream (l : Loading) : Nat := l.q * l.k - 128

/-- DTU_PTR of a data symbol (R153), from the phase at data symbol 1. -/
def dtuPtr (phase : Nat) (l : Loading) (sym : Nat) : Nat :=
  let off := (512 - (phase + (sym - 1) * dtuStream l) % 512) % 512
  if off < dtuStream l then off else 0xFFFF

/-- The embedded-channel block of a data symbol, with its MSG_PTR and message bytes. -/
def blockBytes (s : State) (n sym ptr : Nat) (msg : List Byte) : List Byte :=
  let p := port s n
  let b := natBE 2 (dtuPtr p.esc.txPhase p.txLoad sym) ++ ackBytes p.esc ++ natBE 1 ptr
    ++ natBE 1 (bit (p.esc.rxDefect || p.trial.isSome) * 128 + p.txLoad.loadId % 16) ++ msg
  b ++ natBE 2 (crc16 b)

/-- The block of a data symbol goes out, once in each symbol: it takes the message stream on (R153, R156, R160). -/
def sendBlock (n sym : Nat) (s : State) : State :=
  let p := port s n
  if p.esc.blockSym = symNow s sym then s
  else
    let (msg, ptr, rest, left) := fillMsgs 108 p.esc.msgRest p.sent
    let e := { p.esc with eocOut := blockBytes s n sym ptr msg, blockSym := symNow s sym, msgRest := rest }
    modPort n (fun p => { p with sent := left, esc := e }) s

/-! ## Sending (R131, R142, R143, R146) -/

/-- A data DTU slot is due a retransmission: the oldest such DTU. -/
def dueDtu (e : Escrow) : Option TxDtu := e.held.find? (·.due)

/-- The window allows a new data DTU (R142, R143). -/
def mayNew (s : State) (n : Nat) : Bool :=
  let e := (port s n).esc
  match e.held.head? with
  | some o => decide (seqDist e.nextSeq o.seq < window (txRate s n))
  | none => true

/-- Frames to begin a record from: none while the port is split (R440). -/
def ready8 (s : State) (n : Nat) : List Frame := if rdP s n F.HL_PORT_STATUS_SPLIT = 1 then [] else (port s n).esc.txFrames

/-- Send a retransmission: RETX 1, the SEQ of the original; reports of it are ignored for 6 symbol periods (R140, R146). -/
def sendRetx (n sym : Nat) (d : TxDtu) (s : State) : State :=
  let b := dtuBytes d.seq 0 true d.framePtr d.payload
  let held := (port s n).esc.held.map (fun x => if x.seq = d.seq then { x with due := false, quietTo := symNow s sym + 6 } else x)
  pmPort n 3 1 (countDev 3 1 (addCnt (portBase n) F.ESC_DTU_RETX 1 (modEsc n (fun e => { e with held := held, dtuOut := b }) s)))

/-- Send a new data DTU (R128, R132, R133). -/
def sendNew (n sym : Nat) (s : State) : State :=
  let e := (port s n).esc
  let fs := ready8 s n
  let (pay, ptr, rest, left, s1) := fillPayload n (symTime8 s sym) fs e.txBytes none s
  let pay := pay ++ List.replicate (504 - pay.length) 0
  let p := ptr.getD 0x3FF
  let left := if rdP s n F.HL_PORT_STATUS_SPLIT = 1 then e.txFrames else left
  let d : TxDtu := ⟨e.nextSeq, pay, p, symNow s sym, false, 0⟩
  let b := dtuBytes e.nextSeq 0 false p pay
  let s2 := modEsc n (fun e => { e with held := e.held ++ [d], nextSeq := (e.nextSeq + 1) % 65536, txBytes := rest, txFrames := left,
                                        sentSf := true, dtuOut := b }) s1
  let s3 := modPort n (fun p => { p with idleSince := symNow s sym }) (thaw n true s2)
  holdCheck n (pmPort n 1 1 (countDev 1 1 s3))

/-- DTU_SLOT: in each slot a retransmission that is due, else a new data DTU, else an idle one (R131, R142, R336). -/
def dtuSlot (n sym : Nat) (s : State) : State :=
  if !(dtuOpen s n && decide (1 ≤ sym)) then s
  else
    let s0 := sendBlock n sym s
    let e := (port s n).esc
    match dueDtu e with
    | some d => sendRetx n sym d s0
    | none =>
      if (e.txBytes.length ≠ 0 ∨ (ready8 s n).length ≠ 0) ∧ mayNew s n = true ∧ (port s n).shut.accepted = none then sendNew n sym s0
      else
        let b := dtuBytes e.nextSeq 1 false 0x3FF (List.replicate 504 0)
        modEsc n (fun e => { e with dtuOut := b }) s0

@[inherit_doc dtuSlot]
def execDtuSlot (n : Port) (sym : Fin 256) (s : State) : Host.Outcome State Fault Refusal := .next (dtuSlot n.val sym.val s)

/-! ## Receiving frame records (R132, R135) -/

/-- Read frame records off a byte string whose first `old` bytes came with earlier DTUs: deliver each whole frame, keep the
record that is not complete. The fuel bounds the records of one DTU. A frame's time is that of the DTU that carried its first
byte (R476, R477). -/
def takeRecords (n : Nat) (x : RxSlot) : Nat → List Byte → Nat → State → State
  | 0, _, _, s => s
  | fuel + 1, b, old, s =>
    let e := (port s n).esc
    let (t, ep, rx) := if old ≥ 3 then (e.partialAt, e.partialEpoch, e.partialRetx) else (x.at8, x.epoch, x.retx)
    if b.length < 2 then modEsc n (fun e => { e with partialRec := b }) s
    else
      let len := beAt b 0 2 % 16384
      if len = 0 then modEsc n (fun e => { e with partialRec := [] }) s
      else if len < 64 ∨ 10240 < len then modEsc n (fun e => { e with partialRec := [], sync := false }) s
      else if b.length < len + 2 then
        modEsc n (fun e => { e with partialRec := b, partialAt := t, partialEpoch := ep, partialRetx := rx }) s
      else takeRecords n x fuel (b.drop (len + 2)) 0 (lineIn n (slice b 2 len) t ep rx s)

/-- Deliver one DTU in sequence order: from the record in assembly, or from FRAME_PTR where the receiver has lost its place
(R135). A byte of fill that a record header cannot begin with is dropped where a record begins at offset 0. -/
def deliverDtu (n : Nat) (x : RxSlot) (s : State) : State :=
  let e := (port s n).esc
  let pay := x.payload.getD []
  let s1 := modEsc n (fun e => { e with deliveredSf := true }) s
  if e.sync then
    let old := if x.framePtr = 0 then [] else e.partialRec
    takeRecords n x 600 (old ++ pay) old.length s1
  else if x.framePtr < 504 then
    takeRecords n x 600 (pay.drop x.framePtr) 0 (modEsc n (fun e => { e with sync := true, partialRec := [] }) s1)
  else s1

/-- Deliver what is held from ACK_BASE on (R147). -/
def deliverHeld (n : Nat) : List RxSlot → State → State
  | [], s => modEsc n (fun e => { e with rx := [] }) s
  | x :: t, s =>
    if x.seq = (port s n).esc.rxBase ∧ x.payload.isSome then
      deliverHeld n t (deliverDtu n x (modEsc n (fun e => { e with rxBase := (e.rxBase + 1) % 65536 }) s))
    else modEsc n (fun e => { e with rx := x :: t }) s

/-- The SEQs first known missing when the next one known to be sent becomes `y` (R128, R148). -/
def noteMissing (y : Nat) (e : Escrow) : Escrow :=
  if seqAfter y e.rxNext ∧ seqDist y e.rxNext ≤ 384 then
    let new := (List.range (seqDist y e.rxNext)).map (fun i => RxSlot.mk ((e.rxNext + i) % 65536) none 0 0 0 false)
    { e with rx := e.rx ++ new, rxNext := y }
  else e

/-! ## Receiving DTUs (R130, R147) -/

/-- A DTU is received good (R130). -/
def dtuGood (d : RxDtu) : Bool :=
  d.bytes.length == 512 && !d.codewordBad && beAt d.bytes 508 4 == crc32c (d.bytes.take 508) && decide (byteAt d.bytes 2 / 64 < 2)

/-- A data DTU received good: held in its place, and delivered with what it completes; a duplicate is discarded (R147). -/
def dataDtu (n sym : Nat) (d : RxDtu) (s : State) : State :=
  let seq := beAt d.bytes 0 2
  let ctl := beAt d.bytes 2 2
  let e := (port s n).esc
  let dup := seqAfter e.rxBase seq || e.rx.any (fun x => x.seq == seq && x.payload.isSome)
  let s1 := modPort n (fun p => { p with idleSince := symNow s sym }) (thaw n false (pmPort n 2 1 (countDev 2 1 s)))
  if dup ∨ seqDist seq e.rxBase ≥ 384 then s1
  else
    let e1 := noteMissing ((seq + 1) % 65536) e
    let slot : RxSlot := ⟨seq, some (slice d.bytes 4 504), ctl % 1024, now8 s, s.time.epoch % 65536, bitsOf ctl 13 13 == 1⟩
    let rx := e1.rx.map (fun x => if x.seq = seq then slot else x)
    let last := if seqAfter seq e1.rxLast then seq else e1.rxLast
    deliverHeld n rx (modEsc n (fun _ => { e1 with rx := rx, rxLast := last }) s1)

/-- DTU_RECEIVED: R130, R147; an idle DTU shows which data DTUs have been sent (R131). -/
def execDtuReceived (n : Port) (sym : Fin 256) (d : RxDtu) (s : State) : Host.Outcome State Fault Refusal :=
  .next (if dtuOpen s n.val && dtuGood d then
    if byteAt d.bytes 2 / 64 = 0 then dataDtu n.val sym.val d s else modEsc n.val (noteMissing (beAt d.bytes 0 2)) s
  else s)

/-! ## Losing and discarding (R148, R149) -/

/-- Pass ACK_BASE over what lies up to a lost DTU: what is held is delivered, and where a DTU is missing every frame with a byte in
it is dropped (R135, R148). -/
def passLost (n seq : Nat) : List RxSlot → State → State
  | [], s => s
  | x :: t, s =>
    if seqAfter x.seq seq then deliverHeld n (x :: t) s
    else
      let s1 := modEsc n (fun e => { e with rxBase := (x.seq + 1) % 65536, rx := t }) s
      passLost n seq t (if x.payload.isSome then deliverDtu n x s1 else modEsc n (fun e => { e with sync := false, partialRec := [] }) s1)

/-- DTU_LOST: a DTU known missing for 40 symbol periods is lost: counted, ACK_BASE passes it, and reason LOSS holds (R148,
R314). -/
def execDtuLost (n : Port) (seq : BitVec 16) (s : State) : Host.Outcome State Fault Refusal :=
  let e := (port s n.val).esc
  .next (if dtuOpen s n.val && e.rx.any (fun x => x.seq == seq.toNat && x.payload.isNone) then
    let s1 := pmPort n.val 4 1 (countDev 4 1 (addCnt (portBase n.val) F.ESC_DTU_LOST 1 s))
    let s2 := passLost n.val seq.toNat e.rx s1
    modPort n.val (fun p => { p with lossAt := s.tick + 1 }) (setReason n.val F.DEGRADE_LOSS true s2)
  else s)

/-- ESCROW_DISCARD: a data DTU leaves the transmit store 44 symbol periods after its first transmission (R149). -/
def execEscrowDiscard (n : Port) (seq : BitVec 16) (s : State) : Host.Outcome State Fault Refusal :=
  .next (modEsc n.val (fun e => { e with held := e.held.filter (fun d => d.seq != seq.toNat) }) s)

/-! ## Blocks received (R144, R146, R154, R155) -/

/-- A block shows a DTU acknowledged (R144). -/
def ackedBy (b : List Byte) (seq : Nat) : Bool :=
  let base := beAt b 2 2
  let i := seqDist seq ((base + beAt b 4 2) % 65536)
  seqAfter base seq || (decide (i < 64) && bitsOf (beAt b 8 8) i i == 1)

/-- A block shows a DTU missing (R144). -/
def missingBy (b : List Byte) (seq : Nat) : Bool :=
  let base := beAt b 2 2
  let gap := beAt b 4 2
  let i := seqDist seq ((base + gap) % 65536)
  decide (seqDist seq base < gap) || (decide (i < 64) && bitsOf (beAt b 8 8) i i == 0 && !seqAfter seq (beAt b 6 2))

/-- The transmitter acts on a block's acknowledgement state (R144, R146, R149). -/
def takeAck (sym : Nat) (b : List Byte) (e : Escrow) : Escrow :=
  { e with held := (e.held.filter (fun d => !ackedBy b d.seq)).map (fun d =>
      if missingBy b d.seq && decide (d.quietTo ≤ sym) then { d with due := true } else d) }

/-- The receiver checks DTU delineation against a DTU_PTR: a mismatch loses it, and the next DTU_PTR that names a place
regains it (R155). -/
def takePtr (n sym ptr : Nat) (s : State) : State :=
  let p := port s n
  let set' := fun b s => setReason n F.DEGRADE_DEFECT (b || (port s n).trial.isSome) (modEsc n (fun e => { e with rxDefect := b }) s)
  if p.esc.rxDefect then
    if ptr = 0xFFFF then s
    else
      let ph := (512 * (dtuStream p.rxLoad + 1) * 256 - ptr - (sym - 1) * dtuStream p.rxLoad) % 512
      set' false (modEsc n (fun e => { e with rxPhase := ph }) s)
  else if ptr = dtuPtr p.esc.rxPhase p.rxLoad sym ∨ p.trial.isSome then s
  else set' true s

/-- EOC_BLOCK: a block that fails CRC16 is discarded and counted (R154); a good one carries the acknowledgement state and
DTU_PTR. Its messages come as their own commands. -/
def execEocBlock (n : Port) (sym : Fin 256) (b : List Byte) (s : State) : Host.Outcome State Fault Refusal :=
  .next (if !dtuOpen s n.val then s
    else if b.length ≠ 128 ∨ crc16 (b.take 126) ≠ beAt b 126 2 then
      countDev 7 1 (addCnt (portBase n.val) F.ESC_EOC_BAD 1 s)
    else takePtr n.val sym.val (beAt b 0 2) (modEsc n.val (takeAck (symNow s sym.val) b) s))

/-- At a boundary the DTU streams have advanced by the 255 data symbols of the superframe that ends (R127). -/
def phaseStep (n : Nat) (s : State) : State :=
  if dtuOpen s n then
    modPort n (fun p => { p with esc := { p.esc with txPhase := (p.esc.txPhase + 255 * dtuStream p.txLoad) % 512,
                                                     rxPhase := (p.esc.rxPhase + 255 * dtuStream p.rxLoad) % 512,
                                                     deliveredSf := false, sentSf := false } }) s
  else s

end Sys2Proof.Machine
end

