-- ==== Sys2Proof/Machine/Messages.lean ====
section
/-!
DEFINITION. Messages of the embedded channel and the agreement on loading changes: acknowledgement and resending (R156-R158),
VERSION and FE_STATUS (R162-R165), LOADING_REQUEST to LOADING_REJECT (R166-R178), and the answers to needs and notices (R808).
-/
namespace Sys2Proof.Machine

/-! ## Leads and the messages a port takes -/

/-- The reason to reject a superframe named: 1 too close, 2 too far ahead (R170, R175). -/
def leadReason (s : State) (k : Nat) : Option Nat :=
  if k < s.time.s + 4 then some 1 else if s.time.s + 65536 < k then some 2 else none

/-- Receive a reliable message of the embedded channel in service. -/
def onService (n type : Nat) (tag : Byte) (act : State → State) (s : State) : State :=
  if inService s n then onReliable n type tag.toNat act s else s

/-- Receive a reliable Siruigo 2 message: on a Siruigo 1 link its TYPE is not implemented (R159). -/
def onService2 (n type : Nat) (tag : Byte) (act : State → State) (s : State) : State :=
  if inService s n && (port s n).tr.ver == 2 then onReliable n type tag.toNat act s else s

/-! ## Rates and loadings in force -/

/-- A step of a service rate that stage 6 is to make: the port, whether it is the transmit direction, and the rate. -/
structure RateStep where
  port : Nat
  tx : Bool
  rate : Nat

/-- Make a service-rate change: counted, with its event and the notices that fall at the boundary (R310, R312, R354). -/
def setRate (r : RateStep) (s : State) : State :=
  let n := r.port
  let old := if r.tx then txRate s n else rxRate s n
  if old = r.rate ∨ !linkUp s n then s
  else
    let s1 := wrP n (if r.tx then F.LINK_STATE_TX_RATE else F.LINK_STATE_RX_RATE) r.rate s
    let s2 := countDev 9 1 (addCnt (portBase n) F.HL_RATE_STEPS 1 s1)
    let s3 := evP n (if r.rate < old then F.LINK_EVENTS_STEP_DOWN else F.LINK_EVENTS_STEP_UP) s2
    let s4 := if r.tx then (if old < r.rate then txNotice n r.rate s.time.s s3 else s3) else rxNotice n r.rate s.time.s s3
    updateRateReason n s4

/-- Make the rate steps of stage 6. -/
def rateSteps (l : List RateStep) (s : State) : State := forL l setRate s

/-- The notice of a step-down of the transmit direction, ahead of its boundary (R309). -/
def noticeDown (n rate k : Nat) (s : State) : State := if rate < txRate s n then txNotice n rate k s else s

/-- Put a request's loading in force in direction d (0 transmit, 1 receive): its table, its LOAD_ID, and Q, N and K where FULL
is 1 (R167, R168). -/
def putLoading (n d : Nat) (r : LoadReq) (id : Nat) (s : State) : State :=
  let old := if d = 0 then (port s n).txLoad else (port s n).rxLoad
  let new : Loading := if r.full then ⟨id % 16, r.q.toNat, r.n.toNat, r.k.toNat⟩ else { old with loadId := id % 16 }
  let s1 := writeTable n d (requestTable (readTable s n d) r) s
  modPort n (fun p => if d = 0 then { p with txLoad := new } else { p with rxLoad := new }) s1

/-- A loading change takes effect in direction d, in stage 5: counted, and a FULL = 0 change as a swap (R168, R169, R302). -/
def applyChange (n d : Nat) (c : Change) (s : State) : List RateStep × State :=
  let id := (if d = 0 then (port s n).txLoad.loadId else (port s n).rxLoad.loadId) + 1
  let s1 := countDev 8 1 (putLoading n d c.req id s)
  let s2 := if c.req.full then s1 else addCnt (portBase n) F.HL_SWAPS 1 s1
  let s3 := if !c.req.full && d == 1 then modPort n (fun p => { p with watch := { p.watch with lastSwap := some s.time.s } }) s2 else s2
  (if c.req.full then [⟨n, d == 0, c.req.rate.val⟩] else [], s3)

/-! ## Asking for a change of the receive direction (R172, R301) -/

/-- The items of the entries in which two tables differ. -/
def diffItems (old new : Table) : List LoadRange :=
  (List.range 4).flatMap (fun p => ((old.getD p []).zip (new.getD p [])).zipIdx.filterMap (fun e =>
    if e.1.1 = e.1.2 then none else some ⟨⟨p % 4, Nat.mod_lt _ (by decide)⟩, BitVec.ofNat 12 e.2, [e.1.2]⟩))

/-- Request a change of the receive direction for superframe k: it is outstanding until it is applied or rejected (R301). -/
def requestChange (n k : Nat) (r : LoadReq) (s : State) : State :=
  let id : Fin 16 := ⟨((port s n).rxLoad.loadId + 1) % 16, Nat.mod_lt _ (by decide)⟩
  let r := { r with s := BitVec.ofNat 40 (toLink s n k), loadId := id }
  let tag := SMap.get (port s n).txTag 0 0x10
  modPort n (fun p => { p with rxChange := some ⟨r, tag, k, false, false⟩ }) (sendMsg n 0x10 true (.loadingRequest r) s)

/-- Request a FULL = 0 change to a table. -/
def requestSwap (n k : Nat) (tb : Table) (s : State) : State :=
  let l := (port s n).rxLoad
  requestChange n k { fullReq 0 0 0 (threePair s n) l.q l.n l.k [] with full := false, items := diffItems (readTable s n 1) tb } s

/-- Request a FULL = 1 change. -/
def requestFull (n k rate q nn kk : Nat) (tb : Table) (s : State) : State := requestChange n k (fullReq 0 0 rate (threePair s n) q nn kk tb) s

/-- The receive direction has a change of its own outstanding (R301). -/
def rxBusy (s : State) (n : Nat) : Bool := (port s n).rxChange.isSome || (port s n).trial.isSome

/-- Reject a request, need or notice of the partner (R175, R179). -/
def sendReject (n : Nat) (tag : Nat) (reason : Nat) (s : State) : State :=
  evP n F.ESC_EVENTS_LOAD_REJECT (sendMsg n 0x12 true (.loadingReject (BitVec.ofNat 8 tag) (BitVec.ofNat 8 reason)) s)

/-! ## Moving bits (R299, R300, R808) -/

/-- A table with one entry replaced. -/
def setEntry (tb : Table) (p t : Nat) (e : LoadEntry) : Table := tb.mapIdx (fun i l => if i = p then l.set t e else l)

/-- The BITS of a pair's tone. -/
def bitsAt (tb : Table) (p t : Nat) : Nat := ((tb.getD p []).getD t LoadEntry.none).bits.val

/-- An entry with a number of bits and a gain that the receiver sets (R300). -/
def entryWith (d p t b : Nat) : LoadEntry :=
  if b = 0 then LoadEntry.none else ⟨⟨min 14 b % 16, Nat.mod_lt _ (by decide)⟩, freeGain d p t⟩

/-- Change a tone's bits on one pair, where its index keeps its kind and the number of information bits moves by exactly the
change (R102, R111). -/
def stepBits (d : Nat) (tb : Table) (p t b : Nat) : Option Table :=
  let old := toneBits tb t
  let new := toneBits (setEntry tb p t (entryWith d p t b)) t
  if b ≤ 14 ∧ coded old = coded new then some (setEntry tb p t (entryWith d p t b)) else none

/-- Add `k` bits, one to each of the tones listed in turn that can take one; none where they cannot take them all. -/
def addBits (d : Nat) : List (Nat × Nat) → Nat → Table → Option Table
  | _, 0, tb => some tb
  | [], _ + 1, _ => none
  | (p, t) :: l, k + 1, tb =>
    match stepBits d tb p t (bitsAt tb p t + 1) with
    | some tb' => addBits d l k tb'
    | none => addBits d l (k + 1) tb

/-- The gap of a tone index's kind (R105). -/
def kindGap (g : Gaps) (b : List Nat) : Nat :=
  if coded b then (if (b.filter (fun x => decide (2 ≤ x))).length = 4 then g.g4 else g.g3) else g.g0

/-- The loaded tones that a test allows and whose margin exceeds +1.5 dB, highest margin first: pair and tone (R299, R300). -/
def spareTones (ok : Nat → Bool) (tb : Table) (snr : List (List Nat)) : List (Nat × Nat) :=
  let hi := gapsOf (targetMargin + 150)
  let l := (snr.zip (List.range' 1 snr.length)).flatMap (fun e =>
    let b := toneBits tb e.2
    (List.range 4).filterMap (fun p =>
      let x := b.getD p 0
      if ok e.2 && decide (1 ≤ x ∧ x ≤ 13) && decide ((2 ^ x - 1) * 65536 * kindGap hi b < e.1.getD p 0 * 10 ^ 24) then
        some (e.1.getD p 0, (2 ^ x - 1) * kindGap hi b, p, e.2) else none))
  (sortBy (fun x y => decide (y.1 * x.2.1 ≤ x.1 * y.2.1)) l).map (fun x => (x.2.2.1, x.2.2.2))

/-- An SNR that the command brings no measurement of (R298). -/
def freeSnr (d : Nat) : List (List Nat) := (List.range' 1 4095).map (fun t => (List.range 4).map (fun p => Config.snr d p t))

/-- A table with the tones of bands at BITS 0 on every pair. -/
def clearBands (bands : List Band) (tb : Table) : Table :=
  tb.map (fun l => l.mapIdx (fun t e => if bands.any (fun b => decide (b.lo.toNat ≤ t ∧ t ≤ b.hi.toNat)) then LoadEntry.none else e))

/-! ## Answering a need or a notice (R172, R808) -/

/-- Request a computed loading with its gains drawn at `d`, where there is one. -/
def requestLoading (n k d : Nat) (x : Option (List (List Nat) × Nat × Nat × Nat × Nat)) (s : State) : State :=
  match x with
  | some (bs, q, nn, kk, r) => requestFull n k r q nn kk (bitsTable (d + 2) bs) s
  | none => s

/-- Load the receive direction for at most a rate, or for 1 Gb/s at the highest achievable margin, and request it (R172,
R304, R307). -/
def requestRate (n k cap : Nat) (ok : Nat → Bool) (snr : List (List Nat)) (s : State) : State :=
  let d := s.draws
  let a := absentOf s n
  requestLoading n k d ((computeAt d ok a (min cap (rateCap s n)) snr targetMargin).or (computeLow d ok a snr)) (draw (draw (draw s)))

/-- Q, N and K for a table, and the rate that they give at most `cap`. -/
def rsFor (d cap : Nat) (tb : Table) : Option (Nat × Nat × Nat × Nat) :=
  (chooseRs d (infoBits tb)).bind (fun x => (serviceRate (x.1 * x.2.2) cap).map (fun r => (r, x)))

/-- Request what is left of a table with FULL = 1, where it still gives a rate. -/
def requestRest (n k : Nat) (tb : Table) (x : Option (Nat × Nat × Nat × Nat)) (other : State → State) (s : State) : State :=
  match x with
  | some (r, q, nn, kk) => requestFull n k r q nn kk tb s
  | none => other s

/-- Request a table with FULL = 0, where the bits could be moved. -/
def requestMoved (n k : Nat) (x : Option Table) (other : State → State) (s : State) : State :=
  match x with
  | some new => requestSwap n k new s
  | none => other s

/-- Request that the tones of bands be cleared: FULL = 0 where their bits can be moved, else FULL = 1 with what is left
(R808). -/
def requestClear (n k : Nat) (bands : List Band) (snr : List (List Nat)) (s : State) : State :=
  let d := s.draws
  let old := readTable s n 1
  let tb := clearBands bands old
  let ok := fun t => toneOk s n t && !bands.any (fun b => decide (b.lo.toNat ≤ t ∧ t ≤ b.hi.toNat))
  requestMoved n k (addBits d (spareTones ok tb snr) (infoBits old - infoBits tb) tb)
    (requestRest n k tb (rsFor d (rxRate s n) tb) (requestRate n k 0 ok snr)) (draw (draw s))

/-- Answer a need or notice, still for the S that it named; where that no longer leaves the lead, reject it (R808). This end's
own clearing takes the superframe six ahead (R301). -/
def answerNeed (n : Nat) (x : Need) (s : State) : State :=
  let k := if x.own then s.time.s + 6 else x.s
  match leadReason s k with
  | some r => if x.own then s else sendReject n x.tag r s
  | none =>
    let snr := if x.snr.isEmpty then freeSnr s.draws else snrTones x.snr
    let s1 := if x.snr.isEmpty then draw s else s
    match x.rate with
    | some r => requestRate n k r (toneOk s n) snr s1
    | none => requestClear n k x.bands snr s1

/-- Answer the oldest need or notice that waits, where the direction has no change of its own outstanding (R808). -/
def answerNext (n : Nat) (s : State) : State :=
  match (port s n).needs with
  | x :: t => if rxBusy s n then s else answerNeed n x (modPort n (fun p => { p with needs := t }) s)
  | [] => s

/-- A need or notice arrives or arises: it is answered now or later. -/
def addNeed (n : Nat) (x : Need) (s : State) : State := answerNext n (modPort n (fun p => { p with needs := p.needs ++ [x] }) s)

/-! ## The transmitter's answer to a request (R173, R175, R177) -/

/-- A request is of the form that answers a need or notice. -/
def answersNeed (s : State) (n : Nat) (r : LoadReq) : MsgBody → Bool
  | .loadingNeed _ bands =>
    let tb := requestTable (readTable s n 0) r
    clearBands bands tb == tb
  | .rateNotice _ rate => r.full && decide (r.rate.val ≤ rate.val)
  | _ => false

/-- The table of a request keeps R98, R102, R121, and R167 (R175). -/
def requestOk (s : State) (n : Nat) (r : LoadReq) : Bool :=
  let old := readTable s n 0
  let tb := requestTable old r
  let l := (port s n).txLoad
  let absent := match absentOf s n with | some p => (tb.getD p []).all (fun e => e.bits.val == 0) | none => true
  r.threePair == threePair s n && absent
    && (if r.full then fullOk s n r 7
        else r.q.toNat == l.q && r.n.toNat == l.n && r.k.toNat == l.k && infoBits tb == infoBits old && entriesOk tb
          && tonesOk tb (linkNotches s n) (linkTop s n))

/-- Why the transmitter rejects a request for superframe k, in the order of R175. -/
def rejectReason (s : State) (n : Nat) (r : LoadReq) (k : Nat) : Option Nat :=
  let p := port s n
  match leadReason s k with
  | some x => some x
  | none =>
    if p.txChange.any (fun c => c.s == k) || (match p.fallback with | some f => f.s == k | none => false) then some 3
    else if !requestOk s n r then some 4
    else if r.full && decide (rateCap s n < r.rate.val) then some 5
    else match p.needSent with
      | some (k', body) => if k ≠ k' ∧ answersNeed s n r body = true then some 6 else none
      | none => none

/-- The pair that a standby table's zero entries mark absent (R167). -/
def standbyPair (r : LoadReq) : Option Nat :=
  let tb := applyItems r.items emptyTable
  (List.range 4).find? (fun p => (tb.getD p []).all (fun e => e.bits.val == 0))

/-- The transmitter takes a request: a standby table is stored (R316); another is confirmed or rejected (R173). A
step-down's notice is issued with the confirm (R309). -/
def takeRequest (n tag : Nat) (r : LoadReq) (s : State) : State :=
  if r.threePair ∧ r.s = 0 then
    match standbyPair r with
    | some p => if r.full then modPort n (fun x => { x with peerStandby := SMap.set x.peerStandby none p (some r) }) s else s
    | none => s
  else
    let k := toGrid s n r.s.toNat
    match rejectReason s n r k with
    | some x => sendReject n tag x s
    | none =>
      let p := port s n
      let sent := match p.needSent with | some (k', _) => if k' = k then none else p.needSent | none => none
      let s1 := modPort n (fun p => { p with txChange := p.txChange ++ [⟨r, tag, k, true, false⟩], needSent := sent }) s
      let s2 := sendMsg n 0x11 true (.loadingConfirm r.s r.loadId) s1
      if r.full then noticeDown n r.rate.val k s2 else s2

/-! ## Changes that are due (R169, R173, R174, R176) -/

/-- The receiver decodes under both loadings: a trial (R176, R354). -/
def startTrial (n : Nat) (c : Change) (s : State) : State :=
  let s1 := modPort n (fun p => { p with trial := some c, rxChange := if c.fall then p.rxChange else none }) s
  setReason n F.DEGRADE_DEFECT true s1

/-- The receive change that is due: applied when confirmed, else on trial (R174, R176). -/
def rxDue (n : Nat) (s : State) : List RateStep × State :=
  match (port s n).rxChange with
  | some c =>
    if s.time.s < c.s then ([], s)
    else if c.confirmed then
      applyChange n 1 c (modPort n (fun p => { p with rxChange := none }) s)
    else
      ([], startTrial n c (evP n F.ESC_EVENTS_LOAD_DOUBT (addCnt (portBase n) F.ESC_LOAD_DOUBT 1 s)))
  | none => ([], s)

/-- The transmit changes that are due. -/
def txDue (n : Nat) : List Change → List RateStep × State → List RateStep × State
  | [], a => a
  | c :: t, a =>
    if a.2.time.s < c.s then txDue n t a
    else
      let (r, s) := applyChange n 0 c (modPort n (fun p => { p with txChange := p.txChange.filter (fun x => x.s != c.s) }) a.2)
      txDue n t (a.1 ++ r, s)

/-- Stage 5 on one port: the loading changes that are due in both directions. -/
def loadingStage (n : Nat) (a : List RateStep × State) : List RateStep × State :=
  if !inService a.2 n then a
  else
    let a1 := txDue n (port a.2 n).txChange a
    let (r, s) := rxDue n a1.2
    (a1.1 ++ r, s)

/-- LOADING_CHANGE_APPLY: what is due on the port takes effect, loadings before rates (R169). -/
def execLoadingChangeApply (n : Port) (s : State) : Host.Outcome State Fault Refusal :=
  let (r, s1) := loadingStage n.val ([], s)
  .next (answerNext n.val (rateSteps r s1))

/-! ## The rows: acknowledgement and resending -/

/-- A fallback of this end that is not yet due is cancelled, with the loading changes that it had not voided kept (R318). -/
def cancelFallback (n : Nat) : State → State :=
  modPort n (fun p => match p.fallback with | some f => if f.own then { p with fallback := none } else p | none => p)

/-- Loading changes named for superframe k or later are void, and their confirms are no longer repeated (R178). -/
def voidChanges (n k : Nat) (s : State) : State :=
  let keep := fun (m : OutMsg) => match m.body with
    | .loadingConfirm x _ => decide (toGrid s n x.toNat < k)
    | _ => true
  modPort n (fun p => { p with outbox := p.outbox.filter keep, txChange := p.txChange.filter (fun c => decide (c.s < k)),
                               rxChange := p.rxChange.filter (fun c => decide (c.s < k)) }) s

/-- The partner has acknowledged a standby table (R323). -/
def ackStandby (p : Nat) (r : LoadReq) (x : PortState) : PortState :=
  match SMap.get x.ownStandby none p with
  | some (q, a) => { x with ownStandby := SMap.set x.ownStandby none p (some (q, a || q == r)) }
  | none => x

/-- MSG_ACK: the message is acknowledged (R157). An acknowledged standby table is held in both ends (R323); an acknowledged
PAIR_FALLBACK voids the changes from its superframe on (R178). -/
def msgAck (n type tag : Nat) (s : State) : State :=
  match (port s n).outbox.find? (fun m => m.type == type && m.tag == tag) with
  | some m =>
    let s1 := modPort n (fun p => { p with outbox := p.outbox.filter (fun m => !(m.type == type && m.tag == tag)) }) s
    match m.body with
    | .loadingRequest r =>
      match standbyPair r with
      | some p => if r.threePair ∧ r.s = 0 then modPort n (ackStandby p r) s1 else s1
      | none => s1
    | .pairFallback _ _ _ _ _ =>
      match (port s1 n).fallback with
      | some f => if f.own then voidChanges n f.s s1 else s1
      | none => s1
    | _ => s1
  | none => s

@[inherit_doc msgAck]
def execMsgAck (n : Port) (type tag : Byte) (s : State) : Host.Outcome State Fault Refusal :=
  .next (if isSir s n.val then msgAck n.val type.toNat tag.toNat s else s)

/-- A reliable message is abandoned after 32 sends (R157); an abandoned PAIR_FALLBACK is not applied (R318). -/
def abandon (n : Nat) (m : OutMsg) (s : State) : State :=
  let s1 := modPort n (fun p => { p with outbox := p.outbox.filter (fun x => !(x.type == m.type && x.tag == m.tag)) }) s
  let s2 := match m.body with
    | .pairFallback _ _ _ _ _ => cancelFallback n s1
    | .shutter _ a _ => whenB (a == 1) (modPort n (fun p => { p with shut := { p.shut with asked := none } })) s1
    | _ => s1
  evP n F.ESC_EVENTS_MSG_FAIL s2

/-- MESSAGE_RESEND: a reliable message goes again with the same TAG, up to 32 times (R157). A LOADING_CONFIRM repeats under
its own rule (R174). -/
def execMessageResend (n : Port) (type tag : Byte) (s : State) : Host.Outcome State Fault Refusal :=
  .next (match (port s n.val).outbox.find? (fun m => m.type == type.toNat && m.tag == tag.toNat) with
    | some m =>
      let again := fun (x : OutMsg) => if x.type = m.type ∧ x.tag = m.tag then { x with sends := x.sends + 1 } else x
      if type = 0x11 then s
      else if m.sends ≥ 32 then abandon n.val m s
      else modPort n.val (fun p => { p with sent := p.sent ++ [(m.type, m.tag, m.body)], outbox := p.outbox.map again }) s
    | none => s)

/-- LOADING_CONFIRM_REPEAT: a confirm goes again until it is acknowledged or superframe S − 1 begins (R174). -/
def execLoadingConfirmRepeat (n : Port) (s : State) : Host.Outcome State Fault Refusal :=
  let old := fun (m : OutMsg) => match m.body with
    | .loadingConfirm k _ => decide (toGrid s n.val k.toNat ≤ s.time.s + 1)
    | _ => false
  let again := (port s n.val).outbox.filter (fun m => m.type == 0x11 && !old m)
  let more := fun (m : OutMsg) => if m.type = 0x11 then { m with sends := m.sends + 1 } else m
  let out := ((port s n.val).outbox.filter (fun m => !old m)).map more
  .next (modPort n.val (fun p => { p with sent := p.sent ++ again.map (fun m => (m.type, m.tag, m.body)), outbox := out }) s)

/-! ## The rows: VERSION and FE_STATUS -/

/-- VERSION: the partner's maker; a PROTO other than the version resolved sets VERSION_MISMATCH and retrains the port (R164). -/
def execVersion (n : Port) (tag proto : Byte) (vendor : BitVec 24) (_part : BitVec 16) (_rev : Byte) (_fw : BitVec 32) (_profile : Byte)
    (s : State) : Host.Outcome State Fault Refusal :=
  .next (onService n.val 2 tag (fun s =>
    let s1 := modPort n.val (fun p => { p with peerVendor := vendor.toNat }) s
    if proto.toNat = (port s n.val).tr.ver then s1
    else
      let s2 := evP n.val F.ESC_EVENTS_VERSION_MISMATCH s1
      if earlyService s n.val then restartHandshake n.val s2 else downRestart n.val 2 s2) s)

/-- A MARGIN field: 0x8000 where a pair has none (R162). -/
def marginOf (v : Nat) : Option Int := if v = 0x8000 then none else some (signed 16 v)

/-- The MARGIN field of a margin. -/
def marginBytes (m : Option Int) : List Byte := natBE 2 (match m with | some x => unsigned 16 x | none => 0x8000)

/-- FE_STATUS: the partner's state and margins; reason PARTNER follows its STATE (R162, R354). -/
def execFeStatus (n : Port) (body : List Byte) (s : State) : Host.Outcome State Fault Refusal :=
  .next (if inService s n.val ∧ body.length = 30 then
    let m := (List.range 4).map (fun p => marginOf (beAt body (6 + 2 * p) 2))
    let s1 := modPort n.val (fun p => { p with fe := body, watch := { p.watch with feMargins := m } }) s
    setReason n.val F.DEGRADE_PARTNER (byteAt body 5 / 64 == 1) s1
  else s)

/-- The FE_STATUS body of the device: STATE shows degraded for any reason but PARTNER (R162, R355). -/
def feBody (s : State) (n : Nat) (counts : List (BitVec 32)) : List Byte :=
  let own := wordBits (rdReg s (portBase n + 0x70904)) 15 10 != 0 || wordBits (rdReg s (portBase n + 0x70904)) 8 6 != 0
  let cnt := (List.range 4).flatMap (fun i => natBE 4 (counts.getD i 0).toNat)
  natBE 5 (toLink s n s.time.s) ++ natBE 1 (bit own * 64 + bit (threePair s n) * 32 + (if threePair s n then absentPair s n else 0) * 8)
    ++ (List.range 4).flatMap (fun p => marginBytes ((port s n).watch.margins.getD p none)) ++ cnt

/-- FE_STATUS_SEND: every 8 superframes, with the counts since the previous one: codewords corrected and uncorrectable, DTUs
reported missing and declared lost (R162, R165). The codeword counts go to the monitors as well (R757, R758). -/
def execFeStatusSend (n : Port) (counts : List (BitVec 32)) (s : State) : Host.Outcome State Fault Refusal :=
  let c := (counts.getD 0 0).toNat
  let u := (counts.getD 1 0).toNat
  .next (if inService s n.val ∧ inShutter s n.val = false then
    let s1 := pmPort n.val 6 u (pmPort n.val 5 c (countDev 6 u (countDev 5 c s)))
    sendMsg n.val 3 false (.feStatus (feBody s n.val counts)) s1
  else s)

/-! ## The rows: agreeing a change -/

/-- LOADING_REQUEST: R166-R168, R173. -/
def execLoadingRequest (n : Port) (tag : Byte) (r : LoadReq) (s : State) : Host.Outcome State Fault Refusal :=
  .next (onService n.val 0x10 tag (takeRequest n.val tag.toNat r) s)

/-- LOADING_CONFIRM: the change that the port asked for is confirmed (R174). -/
def execLoadingConfirm (n : Port) (tag : Byte) (sf : BitVec 40) (id : Fin 16) (s : State) : Host.Outcome State Fault Refusal :=
  let take := fun (c : Change) => if c.req.s = sf ∧ c.req.loadId = id then { c with confirmed := true } else c
  .next (onService n.val 0x11 tag (modPort n.val (fun p => { p with rxChange := p.rxChange.map take })) s)

/-- LOADING_REJECT: the request, need or notice with that TAG is rejected (R175, R179). -/
def execLoadingReject (n : Port) (tag which _reason : Byte) (s : State) : Host.Outcome State Fault Refusal :=
  .next (onService n.val 0x12 tag (fun s =>
    let s1 := evP n.val F.ESC_EVENTS_LOAD_REJECT s
    match (port s n.val).rxChange with
    | some c =>
      if c.tag = which.toNat ∧ c.confirmed = false then answerNext n.val (modPort n.val (fun p => { p with rxChange := none }) s1)
      else modPort n.val (fun p => { p with needSent := none }) s1
    | none => modPort n.val (fun p => { p with needSent := none }) s1) s)

/-- LOADING_NEED: the partner asks for tones to be cleared; it is answered with a request for the same S, or rejected where S
is too close or too far (R170, R172, R808). -/
def execLoadingNeed (n : Port) (tag : Byte) (sf : BitVec 40) (bands : List Band) (snr : List SnrRun) (s : State) :
    Host.Outcome State Fault Refusal :=
  .next (onService n.val 0x13 tag (fun s =>
    let k := toGrid s n.val sf.toNat
    match leadReason s k with
    | some r => sendReject n.val tag.toNat r s
    | none =>
      if 1 ≤ bands.length ∧ bands.length ≤ 16 then addNeed n.val ⟨false, tag.toNat, k, bands, none, snr⟩ s else s) s)

/-- RATE_NOTICE: the partner asks for another service rate of its transmit direction (R172). -/
def execRateNotice (n : Port) (tag : Byte) (sf : BitVec 40) (rate : Fin 8) (snr : List SnrRun) (s : State) : Host.Outcome State Fault Refusal :=
  .next (onService n.val 0x14 tag (fun s =>
    let k := toGrid s n.val sf.toNat
    match leadReason s k with
    | some r => sendReject n.val tag.toNat r s
    | none => addNeed n.val ⟨false, tag.toNat, k, [], some rate.val, snr⟩ s) s)

end Sys2Proof.Machine
end

