-- ==== Sys2Proof/Machine/Hitless.lean ====
section
/-!
DEFINITION. Remedies that keep a link up (07_hitless_operation_and_shutter.md): swaps, rate steps, PORT_RATE, pair fallback,
spare elements, drift fences, and what the boundary's measurements show (R298-R333).
-/
namespace Sys2Proof.Machine

/-! ## What a boundary shows (R298, R299, R303, R320, R354) -/

/-- A count of consecutive superframes goes on while its condition holds. -/
def runOn (b : Bool) (k : Nat) : Nat := if b then k + 1 else 0

/-- Take the measurements of a port at a boundary; a pair with no loaded tone takes no part, nor does the absent pair. -/
def takeMeas (m : PortMeas) (s : State) : State :=
  let n := m.port.val
  if !inService s n then s
  else
    let w := (port s n).watch
    let live := fun p => absentOf s n != some p
    let below := fun (x : Int) (l : List Nat) => (List.range 4).map (fun p =>
      runOn (live p && (match m.margins.getD p none with | some y => decide (y < x) | none => false)) (l.getD p 0))
    let low := (List.range 4).map (fun p => runOn (m.lowSync.getLsbD p) (w.lowSyncRun.getD p 0))
    let w1 := { w with lowSyncRun := low, nearSync := m.nearSync }
    if inShutter s n then modPort n (fun p => { p with watch := w1 }) s
    else
      let b3 := below (-30) w.below3
      let w2 := { w1 with swapRun := runOn m.swapNeeded w.swapRun, below3 := b3, below45 := below (-45) w.below45,
                          margins := m.margins, c4 := m.c4.map (·.val), support := m.support.map (·.val) }
      setReason n F.DEGRADE_MARGIN (b3.any (fun k => decide (64 ≤ k))) (modPort n (fun p => { p with watch := w2 }) s)

/-! ## Swaps (R299-R302) -/

/-- Pair each tone below −1.5 dB, lowest first, with one above +1.5 dB, highest first: the bit moves where both can (R299,
R300). -/
def swapBits (d : Nat) : List (Nat × Nat) → List (Nat × Nat) → Table → Table
  | [], _, tb => tb
  | (p, t) :: low, high, tb =>
    match stepBits d tb p t (bitsAt tb p t - 1) with
    | none => swapBits d low high tb
    | some tb1 =>
      let takes := high.findSome? (fun h => (stepBits d tb1 h.1 h.2 (bitsAt tb1 h.1 h.2 + 1)).map (fun x => (h, x)))
      match takes with
      | some (h, tb2) => swapBits d low (high.filter (· != h)) tb2
      | none => swapBits d low high tb

/-- The change of a swap: tones in the order of their margins. -/
def swapTable (d : Nat) (tones : List ToneMargin) (tb : Table) : Table :=
  let place := fun (x : ToneMargin) => (x.pair.val, x.tone.toNat)
  let low := sortBy (fun x y => decide (x.margin ≤ y.margin)) (tones.filter (fun x => decide (x.margin < -15) && bitsAt tb x.pair.val x.tone.toNat != 0))
  let high := sortBy (fun x y => decide (y.margin ≤ x.margin)) (tones.filter (fun x => decide (15 < x.margin) && bitsAt tb x.pair.val x.tone.toNat != 0))
  swapBits d (low.map place) (high.map place) tb

/-- The port may ask for a change of its receive direction now. -/
def mayAsk (s : State) (n : Nat) : Bool := dtuOpen s n && !rxBusy s n && (port s n).fallback.isNone

/-- SEAMLESS_SWAP: the conditions of R299 have held for 16 superframes: a FULL = 0 change six superframes ahead, at most one in any
8 (R299-R302). -/
def execSeamlessSwap (n : Port) (tones : List ToneMargin) (s : State) : Host.Outcome State Fault Refusal :=
  let w := (port s n.val).watch
  let k := s.time.s + 6
  let spaced := match w.lastSwap with | some l => decide (l + 8 ≤ k) | none => true
  .next (if mayAsk s n.val && spaced && decide (16 ≤ w.swapRun) then
    let old := readTable s n.val 1
    let tb := swapTable s.draws tones old
    if tb = old then s else requestSwap n.val k tb (draw s)
  else s)

/-! ## Pair fallback (R315-R326) -/

/-- The link allows three-pair operation (R58). -/
def allows3 (s : State) (n : Nat) : Bool := (port s n).tr.ver == 2 && (port s n).tr.fallback3

/-- C3 of a pair: the rate of the receiver's own standby table (R316). -/
def c3 (s : State) (n p : Nat) : Option Nat := (SMap.get (port s n).ownStandby none p).map (fun x => x.1.rate.val)

/-- The tables for a pair are held in both directions (R323). -/
def holdsBoth (s : State) (n p : Nat) : Bool :=
  (match SMap.get (port s n).ownStandby none p with | some (_, a) => a | none => false)
    && (SMap.get (port s n).peerStandby none p).isSome

/-- The pairs that meet every condition of R317: C3, the partner's margin, and the pair. -/
def fallbackPairs (s : State) (n : Nat) : List (Nat × Int × Nat) :=
  let w := (port s n).watch
  (List.range 4).filterMap (fun p =>
    match c3 s n p, w.feMargins.getD p none with
    | some r, some m =>
      let above := match w.c4 with | some c => decide (c < r) | none => true
      if above && decide (m < 0) && holdsBoth s n p then some (r, m, p) else none
    | _, _ => none)

/-- The pair that R317 names: the highest C3, then the lowest margin, then the lowest letter. -/
def bestPair (l : List (Nat × Int × Nat)) : Option Nat :=
  ((sortBy (fun x y => decide (y.1 < x.1) || (x.1 == y.1 && decide (x.2.1 ≤ y.2.1))) l).head?).map (·.2.2)

/-- The rate that a standby table gives the transmit direction. -/
def standbyTx (s : State) (n p : Nat) : Nat := match SMap.get (port s n).peerStandby none p with | some r => r.rate.val | none => txRate s n

/-- Send PAIR_FALLBACK for superframe k (R309, R317, R324). -/
def sendFallback (n k action pair : Nat) (cal : Bool) (s : State) : State :=
  let p := port s n
  let t : Fin 16 := ⟨(p.txLoad.loadId + 1) % 16, Nat.mod_lt _ (by decide)⟩
  let r : Fin 16 := ⟨(p.rxLoad.loadId + 1) % 16, Nat.mod_lt _ (by decide)⟩
  let body := MsgBody.pairFallback (BitVec.ofNat 40 (toLink s n k)) (BitVec.ofNat 8 action) ⟨pair % 4, Nat.mod_lt _ (by decide)⟩ t r
  let f : Fallback := ⟨k, action == 1, pair, t.val, r.val, false, true, cal⟩
  let s1 := sendMsg n 0x20 true body (modPort n (fun p => { p with fallback := some f }) s)
  if action = 1 then noticeDown n (standbyTx s n pair) k s1 else s1

/-- Enter pair fallback where a pair meets R317; answers whether it did. -/
def tryFallback (n : Nat) (s : State) : Option State :=
  if rdP s n F.LINK_CTRL_FALLBACK_EN == 1 && allows3 s n && !threePair s n && dtuOpen s n && (port s n).fallback.isNone then
    (bestPair (fallbackPairs s n)).map (fun p => sendFallback n (s.time.s + 6) 1 p false s)
  else none

/-- FALLBACK_TRIGGER: R317. -/
def execFallbackTrigger (n : Port) (s : State) : Host.Outcome State Fault Refusal := .next ((tryFallback n.val s).getD s)

/-- STANDBY_TABLE_SEND: the standby table for the loss of a pair, computed at margin 0, is held and sent (R315, R316). -/
def execStandbyTableSend (n : Port) (p : Pair) (snr : List SnrRun) (s : State) : Host.Outcome State Fault Refusal :=
  let d := s.draws
  .next (if allows3 s n.val && dtuOpen s n.val && !threePair s n.val then
    match computeAt d (toneOk s n.val) (some p.val) (rateCap s n.val) (snrTones snr) targetMargin with
    | some (bs, q, nn, kk, r) =>
      let req := fullReq 0 0 r true q nn kk (bitsTable (d + 2) bs)
      sendMsg n.val 0x10 true (.loadingRequest req)
        (modPort n.val (fun x => { x with ownStandby := SMap.set x.ownStandby none p.val (some (req, false)) }) (draw (draw (draw s))))
    | none => modPort n.val (fun x => { x with ownStandby := SMap.set x.ownStandby none p.val none }) s
  else s)

/-- A direction's loading and rate as they stand (R325). -/
def saveDir (s : State) (n d : Nat) : Saved :=
  ⟨if d = 0 then (port s n).txLoad else (port s n).rxLoad, readTable s n d, if d = 0 then txRate s n else rxRate s n⟩

/-- Restore a saved loading in direction d under a LOAD_ID (R325). -/
def restoreDir (n d id : Nat) (x : Saved) (s : State) : State :=
  let l := { x.loading with loadId := id % 16 }
  modPort n (fun p => if d = 0 then { p with txLoad := l } else { p with rxLoad := l }) (writeTable n d x.table s)

/-- Enter three-pair operation, in stage 1 (R318, R321, R326). -/
def enterThree (n : Nat) (f : Fallback) (s : State) : List RateStep × State :=
  match SMap.get (port s n).peerStandby none f.pair, SMap.get (port s n).ownStandby none f.pair with
  | some t, some (r, _) =>
    let svT := if threePair s n then (port s n).savedTx else some (saveDir s n 0)
    let svR := if threePair s n && (port s n).savedRx.isSome then (port s n).savedRx else some (saveDir s n 1)
    let s1 := modPort n (fun p => { p with savedTx := svT, savedRx := svR, subst := p.subst.filter (fun x => x.retire.pair != f.pair) }) s
    let s2 := putLoading n 1 r f.rxId (putLoading n 0 t f.txId s1)
    let s3 := wrP n F.LINK_STATE_ABSENT f.pair (wrP n F.LINK_STATE_THREE_PAIR 1 s2)
    let ev := if f.fast then F.LINK_EVENTS_FAST_FALLBACK else F.LINK_EVENTS_FALLBACK
    let s4 := countDev 0xA 1 (addCnt (portBase n) F.HL_FALLBACKS 1 (evP n ev s3))
    let s5 := setReason n F.DEGRADE_THREE_PAIR (!f.calibration) s4
    ([⟨n, true, t.rate.val⟩, ⟨n, false, r.rate.val⟩], startTrial n ⟨r, 0, f.s, true, true⟩ s5)
  | _, _ => ([], s)

/-- Leave three-pair operation, in stage 1 (R325). -/
def leaveThree (n : Nat) (f : Fallback) (s : State) : List RateStep × State :=
  match (port s n).savedTx, (port s n).savedRx with
  | some t, some r =>
    if !threePair s n then ([], s)
    else
      let s1 := modPort n (fun p => { p with savedTx := none, savedRx := none, trial := none })
        (restoreDir n 1 f.rxId r (restoreDir n 0 f.txId t s))
      let s2 := evP n F.LINK_EVENTS_RETURN (wrP n F.LINK_STATE_ABSENT 0 (wrP n F.LINK_STATE_THREE_PAIR 0 s1))
      let s3 := setReason n F.DEGRADE_DEFECT (port s2 n).esc.rxDefect (setReason n F.DEGRADE_THREE_PAIR false s2)
      ([⟨n, true, t.rate⟩, ⟨n, false, r.rate⟩], s3)
  | _, _ => ([], s)

/-- The fallback that is due takes effect; the changes that it voids are dropped (R178, R318). -/
def fallbackStage (n : Nat) (a : List RateStep × State) : List RateStep × State :=
  let s := a.2
  match (port s n).fallback with
  | some f =>
    if !inService s n || decide (s.time.s < f.s) then a
    else
      let s1 := voidChanges n f.s (modPort n (fun p => { p with fallback := none }) s)
      let (r, s2) := if f.enter then enterThree n f s1 else leaveThree n f s1
      (a.1 ++ r, wrP n F.CH_PORT_PRE_ACTIVE (bit (preActive s2 n)) s2)
  | none => a

/-- PAIR_FALLBACK_APPLY: what is due on the port takes effect, the rates in stage 6 (R318). -/
def execPairFallbackApply (n : Port) (s : State) : Host.Outcome State Fault Refusal :=
  let (r, s1) := fallbackStage n.val ([], s)
  .next (rateSteps r s1)

/-- The partner's PAIR_FALLBACK is taken: of two that cross the earlier superframe applies, at the same superframe the
master's (R318, R319). -/
def takeFallback (n : Nat) (f : Fallback) (s : State) : State :=
  let keep := match (port s n).fallback with
    | some o => decide (o.s < f.s) || (o.s == f.s && (port s n).tr.master)
    | none => false
  if keep || decide (f.s ≤ s.time.s) then s
  else
    let s1 := voidChanges n f.s (modPort n (fun p => { p with fallback := some f }) s)
    if f.enter then noticeDown n (standbyTx s n f.pair) f.s s1 else s1

/-- PAIR_FALLBACK: entry is acknowledged only where both directions hold a standby table for the pair (R318). -/
def execPairFallback (n : Port) (tag : Byte) (sf : BitVec 40) (action : Byte) (pair : Pair) (txId rxId : Fin 16) (s : State) :
    Host.Outcome State Fault Refusal :=
  let held := (SMap.get (port s n.val).peerStandby none pair.val).isSome && (SMap.get (port s n.val).ownStandby none pair.val).isSome
  let f : Fallback := ⟨toGrid s n.val sf.toNat, action == 1, pair.val, rxId.val, txId.val, false, false, false⟩
  .next (if action = 1 ∧ held = false then s
    else onService2 n.val 0x20 tag (fun s =>
      if action = 1 then (if allows3 s n.val then takeFallback n.val f s else s)
      else if action = 2 then (if threePair s n.val then takeFallback n.val f s else s)
      else s) s)

/-- LOADING_TRIAL: under which loading the block passed (R176). After a fallback, a receiver whose partner did not apply it keeps the
four-pair loading, and the port sends PAIR_FALLBACK again for the first superframe that it may name (R318). -/
def execLoadingTrial (n : Port) (newOk oldOk : Bool) (s : State) : Host.Outcome State Fault Refusal :=
  .next (match (port s n.val).trial with
    | some c =>
      let s0 := modPort n.val (fun p => { p with trial := none }) s
      let s0 := setReason n.val F.DEGRADE_DEFECT (port s0 n.val).esc.rxDefect s0
      if newOk then
        if c.fall then s0
        else
          let (r, s1) := applyChange n.val 1 c s0
          answerNext n.val (rateSteps r s1)
      else if oldOk then
        match c.fall, (port s n.val).savedRx with
        | true, some x =>
          let s1 := restoreDir n.val 1 x.loading.loadId x s0
          sendFallback n.val (s.time.s + 4) 1 (absentPair s n.val) false (setRate ⟨n.val, false, x.rate⟩ s1)
        | _, _ => answerNext n.val s0
      else s
    | none => s)

/-- A pair is broken: its sync power has been low in two sync symbols in a row, and every other pair is near its value (R320). -/
def pairLow (s : State) (n p : Nat) : Bool :=
  let w := (port s n).watch
  decide (2 ≤ w.lowSyncRun.getD p 0) && (List.range 4).all (fun q => q == p || absentOf s n == some q || w.nearSync.getLsbD q)

/-- PAIR_BREAK: a pair breaks suddenly. In Shutter the port wakes first (R349); where three-pair operation is not allowed, not
prepared, or already in force, the port goes down with cause PAIRS (R323); else both ends enter it at S_e (R321). -/
def execPairBreak (n : Port) (p : Pair) (s : State) : Host.Outcome State Fault Refusal :=
  let k := n.val
  .next (if !inService s k || !pairLow s k p.val then s
    else if inShutter s k then wantWake k s
    else if threePair s k || !allows3 s k || !holdsBoth s k p.val then
      if threePair s k ∧ absentPair s k = p.val then s else downRestart k 3 s
    else
      let e := toGrid s k (((toLink s k s.time.s + 3) + 3) / 4 * 4)
      let x := port s k
      let f : Fallback := ⟨e, true, p.val, (x.txLoad.loadId + 1) % 16, (x.rxLoad.loadId + 1) % 16, true, false, false⟩
      let s1 := voidChanges k e (modPort k (fun y => { y with fallback := some f }) s)
      let t := standbyTx s k p.val
      let r := (c3 s k p.val).getD (rxRate s k)
      let s2 := if t = txRate s k then s1 else txNotice k t e s1
      if r = rxRate s k then s2 else rxNotice k r e s2)

/-- FALLBACK_RETURN: the absent pair has had margin at both ends for 60 s: the master sends ACTION 0x02 (R324). -/
def execFallbackReturn (n : Port) (s : State) : Host.Outcome State Fault Refusal :=
  let w := (port s n.val).watch
  let a := absentPair s n.val
  let high := fun (l : List (Option Int)) => match l.getD a none with | some m => decide (10 ≤ m) | none => false
  .next (if dtuOpen s n.val && threePair s n.val && (port s n.val).tr.master && (port s n.val).fallback.isNone && high w.margins
      && high w.feMargins && (port s n.val).savedTx.isSome then
    sendFallback n.val (s.time.s + 6) 2 a false s
  else s)

/-! ## Rate steps (R303-R308) -/

/-- A pair's margin has been too low for too long (R303). -/
def stepDownDue (s : State) (n : Nat) : Bool :=
  let w := (port s n).watch
  w.below3.any (fun k => decide (64 ≤ k)) || w.below45.any (fun k => decide (4 ≤ k))

/-- STEP_DOWN: pair fallback where R317 holds, else a FULL = 1 loading for C4, or for 1 Gb/s at the highest achievable
margin (R303, R304). -/
def execStepDown (n : Port) (snr : List SnrRun) (s : State) : Host.Outcome State Fault Refusal :=
  .next (if mayAsk s n.val && stepDownDue s n.val then
    match tryFallback n.val s with
    | some s1 => s1
    | none => requestRate n.val (s.time.s + 6) (rxRate s n.val) (toneOk s n.val) (snrTones snr) s
  else s)

/-- STEP_UP: with AUTO_UP, to the highest rate that a loading at margin +1.0 dB supports and the latest boundary supported (R305). -/
def execStepUp (n : Port) (snr : List SnrRun) (s : State) : Host.Outcome State Fault Refusal :=
  let d := s.draws
  .next (if mayAsk s n.val && rdP s n.val F.LINK_CTRL_AUTO_UP == 1 then
    match (port s n.val).watch.support, computeAt d (toneOk s n.val) (absentOf s n.val) (rateCap s n.val) (snrTones snr) (targetMargin + 100) with
    | some x, some (bs, q, nn, kk, r) =>
      let r := min r x
      if rxRate s n.val < r then requestFull n.val (s.time.s + 6) r q nn kk (bitsTable (d + 2) bs) (draw (draw (draw s))) else s
    | _, _ => s
  else s)

/-- RATE_CAP in force (R359). -/
def capNow (s : State) (n : Nat) : Nat := if rdP s n F.LINK_CTRL_RATE_CAP = 7 then 6 else rdP s n F.LINK_CTRL_RATE_CAP

/-- Ask for the receive direction to run at `cap` from superframe k: the loading in force, at that rate (R308). -/
def askRx (n k cap : Nat) (s : State) : State :=
  let l := (port s n).rxLoad
  requestFull n k cap l.q l.n l.k (readTable s n 1) s

/-- Ask for the transmit direction to run at `cap` from superframe k (R308). -/
def askTx (n k cap : Nat) (s : State) : State :=
  let body := MsgBody.rateNotice (BitVec.ofNat 40 (toLink s n k)) ⟨cap % 8, Nat.mod_lt _ (by decide)⟩
  modPort n (fun p => { p with needSent := some (k, body) }) (sendMsg n 0x14 true body s)

/-- A lower rate of the transmit direction is already agreed or asked for. -/
def txAsked (s : State) (n cap : Nat) : Bool :=
  (port s n).needSent.isSome || (port s n).txChange.any (fun c => c.req.full && decide (c.req.rate.val ≤ cap))

/-- Ask for the steps that controls for a superframe need, as soon as their messages may go (R171, R301, R308). -/
def askRates (n : Nat) (x : RateCtl) (s : State) : RateCtl × State :=
  let k := max x.s (s.time.s + 6)
  let near := decide (k ≤ s.time.s + 65536) && dtuOpen s n && (port s n).fallback.isNone
  let rx := near && !x.rxSent && decide (x.cap < rxRate s n) && !rxBusy s n
  let s1 := whenB rx (askRx n k x.cap) s
  let tx := near && !x.txSent && decide (x.cap < txRate s1 n) && !txAsked s1 n x.cap
  ({ x with rxSent := x.rxSent || rx, txSent := x.txSent || tx }, whenB tx (askTx n k x.cap) s1)

/-- Store rate controls (R306, R307). -/
def storeRate (n cap below : Nat) (auto : Bool) (s : State) : State :=
  updateRateReason n (wrP n F.LINK_CTRL_DEGRADE_BELOW below (wrP n F.LINK_CTRL_RATE_CAP cap (wrP n F.LINK_CTRL_AUTO_UP (bit auto) s)))

/-- The result of a PORT_CONFIG item on a register word (R541). -/
def CfgItem.result (i : CfgItem) (w : Word) : Word := (w &&& ~~~i.mask) ||| (i.value &&& i.mask)

/-- The superframes and the rates that pending PORT_CONFIG commands name for a lower RATE_CAP (R308, R543). -/
def cfgCaps (s : State) (n : Nat) : List (Nat × Nat) :=
  (port s n).pendCfg.flatMap (fun c => match c.due with
    | .frame k => (c.items.filter (fun i => i.offset == 0x70908 && wordBits i.mask 14 12 != 0)).map
        (fun i => (k, wordBits (i.result (rdReg s (portBase n + 0x70908))) 14 12))
    | .time _ _ => [])

/-- Ask for the steps that those need. -/
def askCaps (n : Nat) (s : State) : State :=
  forL (cfgCaps s n) (fun x s => (askRates n ⟨x.1, x.2, 0, false, false, false⟩ s).2) s

/-- The superframe and the ceiling of the step-downs that a POWER_LEVEL makes on a port (R672). -/
def levelStepDown (s : State) (n : Nat) : Option (Nat × Nat) :=
  match s.power.levelOp with
  | some o => if o.groups.any (fun x => x.1 == groupOf n && decide (o.level < x.2)) then some (o.frame, [2, 3, 5, 6].getD o.level 6) else none
  | none => none

/-- At a boundary: controls that are due are stored, steps that wait are asked for, and a direction above RATE_CAP is
stepped down to it, or to the ceiling of a level that is being lowered (R306, R308, R672). -/
def rateCheck (n : Nat) (s : State) : State :=
  if !inService s n then s
  else
    let due := (port s n).pendRate.filter (fun x => decide (x.s ≤ s.time.s))
    let s1 := forL due (fun x s => storeRate n x.cap x.below x.autoUp s) s
    let wait := (port s n).pendRate.filter (fun x => decide (s.time.s < x.s))
    let (wait', s2) := wait.foldl (fun a x => let (y, s) := askRates n x a.2; (a.1 ++ [y], s)) ([], s1)
    let s3 := modPort n (fun p => { p with pendRate := wait' }) s2
    let s4 := if wait.isEmpty then (askRates n ⟨0, capNow s3 n, 0, false, false, false⟩ s3).2 else s3
    let s5 := askCaps n s4
    match levelStepDown s5 n with
    | some (k, cap) => (askRates n ⟨k, cap, 0, false, false, false⟩ s5).2
    | none => s5

/-- The superframe of a host-scheduled change: the first that begins at or after a time, and at least 8 superframes after
the command (R26, R27, R171). -/
def hostFrame (s : State) (sec ns : Nat) : Nat := sfAt s (max (totalNs sec ns) (nowTotal s + 8 * 1474560))

/-- The checks and effect of PORT_RATE (R306, R307). -/
def portRatePlan (c : Packet) (_ : Option Role) (s : State) : Plan :=
  let n := pb c 0
  let cap := pb c 1
  let below := pb c 2
  let auto := pb c 3 == 1
  let up := inService s n
  let k := hostFrame s (pf c 4 6) (pf c 10 4)
  let show' := fun r => if up then min r cap else r
  firstOf
    [ bad (plen c ≠ 14 || !hasPort s n || decide (6 < cap) || decide (7 < below) || decide (1 < pb c 3) || !nsOk (pf c 10 4)),
      gated s (groupOf n), inAudit s (groupOf n) ]
    (Plan.done .ok (natBE 5 (if up then toLink s n k else 0) ++ natBE 1 (show' (txRate s n)) ++ natBE 1 (show' (rxRate s n)))
      (fun s =>
        if up then
          let (x, s1) := askRates n ⟨k, cap, below, auto, false, false⟩ s
          modPort n (fun p => { p with pendRate := p.pendRate ++ [x] }) s1
        else storeRate n cap below auto s))

/-- PORT_RATE (R306). -/
def opPortRate : Opcode := ⟨0x23, some .installer, false, true, noArea, portRatePlan⟩

/-- PORT_RATE: R306-R308. -/
def execPortRate (c : Packet) (s : State) : Host.Outcome State Fault Refusal := .next (runOpcode opPortRate c s)

/-! ## Spare elements (R327-R330) -/

/-- The spares left of a pair: ADC slices or DAC segments. -/
def sparesLeft (s : State) (n p : Nat) (dac : Bool) : Nat :=
  if dac then bitsOf (rdP s n F.DAC_SPARES) (3 * p + 2) (3 * p) else bitsOf (rdP s n F.ADC_SPARES) (2 * p + 1) (2 * p)

/-- ELEMENT_RETIRE: a working element beyond its limit is to be replaced by a spare that qualifies, one superframe later; where
none remains, SPARE_OUT (R327-R330). Which spare is free. -/
def execElementRetire (n : Port) (p : Pair) (dac : Bool) (idx : Fin 68) (good : List (Fin 68)) (s : State) : Host.Outcome State Fault Refusal :=
  let k := n.val
  let e : Elem := ⟨p.val, dac, idx.val⟩
  let left := sparesLeft s k p.val dac - ((port s k).subst.filter (fun x => x.retire.pair == p.val && x.retire.dac == dac)).length
  let due := if inService s k then When.frame (s.time.s + 2) else When.time ((nowTotal s + 1474560) / 1000000000) ((nowTotal s + 1474560) % 1000000000)
  let good := good.filter (fun i => elemRole s k ⟨p.val, dac, i.val⟩ == 1)
  .next (if !linkUp s k || (port s k).subst.any (fun x => x.retire == e) || elemRole s k e != 0 then s
    else if good.isEmpty ∨ left = 0 then
      let s1 := modPort k (fun x => { x with sparesOut := x.sparesOut ||| BitVec.ofNat 4 (2 ^ p.val) }) (evP k F.LINK_EVENTS_SPARE_OUT s)
      setReason k F.DEGRADE_SPARES true s1
    else
      let sp := (good.getD (Config.pick s.draws % good.length) 0).val
      draw (modPort k (fun x => { x with subst := x.subst ++ [⟨e, ⟨p.val, dac, sp⟩, due⟩] }) s))

/-- A scheduled change is due: its superframe has begun, or the clock reads its time or later (R26, R468). -/
def whenDue (s : State) : When → Bool
  | .frame k => decide (k ≤ s.time.s)
  | .time sec ns => decide (totalNs sec ns ≤ nowTotal s)

/-- Make the substitutions of a port that are due (R328, R750); while a ramp runs on the port they wait (R713). -/
def substDue (n : Nat) (s : State) : State :=
  let due := if ramping s n then [] else (port s n).subst.filter (fun x => whenDue s x.due)
  let s1 := modPort n (fun p => { p with subst := p.subst.filter (fun x => !due.contains x) }) s
  forL due (fun x s =>
    let s1 := evP n F.LINK_EVENTS_SUBST (addCnt (portBase n) F.HL_SUBST 1 (substRoles n x s))
    let sf := match x.due with | .frame _ => s.time.s | .time _ _ => 0
    let s2 := pmEv (groupOf n) 0xC { PmAttr.none with port := some n } (countDev 0xB 1 s1)
    journalEvent sf 0x39 (x.retire.pair * 64 + n) (bit x.retire.dac * 128 + x.retire.idx) s2) s1

/-- SPARE_SUBSTITUTION: R328, R330. -/
def execSpareSubstitution (n : Port) (s : State) : Host.Outcome State Fault Refusal := .next (substDue n.val s)

/-! ## Drift fences (R331-R333) -/

/-- DRIFT_FENCE: a loop crosses its fence in long idle and is frozen at once (R332, R333). -/
def execDriftFence (n : Port) (loop : Fin 5) (p : Pair) (tx : Bool) (s : State) : Host.Outcome State Fault Refusal :=
  let e := (port s n.val).esc
  let quiet := if tx then !e.sentSf else !e.deliveredSf
  .next (if linkUp s n.val && quiet && !(port s n.val).frozen.any (fun f => f.loop == loop.val && f.pair == p.val && f.tx == tx) then
    evP n.val F.LINK_EVENTS_DRIFT (modPort n.val (fun x => { x with frozen := x.frozen ++ [⟨loop.val, p.val, tx, false⟩] }) s)
  else s)

/-- Frozen loops are reverted to their snapshots (R333). -/
def driftRevert (n : Nat) (s : State) : State :=
  let k := ((port s n).frozen.filter (fun f => !f.reverted)).length
  if k = 0 then s
  else countDev 0xC k (addCnt (portBase n) F.HL_DRIFT k (modPort n (fun p => { p with frozen := p.frozen.map (fun f => { f with reverted := true }) }) s))

/-- DRIFT_REVERT: R333. -/
def execDriftRevert (n : Port) (s : State) : Host.Outcome State Fault Refusal := .next (driftRevert n.val s)

/-! ## The state rule's timers (R352, R354) -/

/-- DEGRADE_HOLD_EXPIRY: DEGRADE_HOLD has passed since the latest lost DTU or since the last other reason ended, whichever began
first (R314, R354). -/
def execDegradeHoldExpiry (n : Port) (s : State) : Host.Outcome State Fault Refusal :=
  let p := port s n.val
  let loss := rdP s n.val F.DEGRADE_LOSS == 1
  .next (if loss && (p.heldReasons == 0 || decide (p.lossAt ≤ p.heldReasons)) then
    setReason n.val F.DEGRADE_LOSS false (modPort n.val (fun p => { p with lossAt := 0 }) s)
  else updateState n.val (modPort n.val (fun p => { p with heldReasons := 0 }) s))

/-- PARTNER_BLOCK_TIMEOUT: no block received good for 250 ms while the partner's signal is present (R352). -/
def execPartnerBlockTimeout (n : Port) (s : State) : Host.Outcome State Fault Refusal :=
  .next (if dtuOpen s n.val && !earlyService s n.val then downRestart n.val 2 s else s)

end Sys2Proof.Machine
end

