-- ==== Sys2Proof/Machine/Shutter.lean ====
section
/-!
DEFINITION. Shutter and the Knock (R334-R349), low-power idle (R350), and feedback for precoding (R163, R269).
-/
namespace Sys2Proof.Machine

/-- Change a port's Shutter state. -/
def modShut (n : Nat) (f : Shut → Shut) : State → State := modPort n (fun p => { p with shut := f p.shut })

/-- The link allows Shutter (R58). -/
def allowsShutter (s : State) (n : Nat) : Bool := (port s n).tr.ver == 2 && (port s n).tr.shutter

/-- Both Escrow stores of the port are empty, and no frame waits (R334). -/
def escrowEmpty (s : State) (n : Nat) : Bool :=
  let e := (port s n).esc
  e.held.isEmpty && e.rx.isEmpty && e.txFrames.isEmpty && e.txBytes.isEmpty

/-- A loading change, rate change or pair fallback is outstanding (R334). -/
def changeOut (s : State) (n : Nat) : Bool :=
  let p := port s n
  !p.txChange.isEmpty || rxBusy s n || p.fallback.isSome || p.needSent.isSome || !p.needs.isEmpty || !p.pendRate.isEmpty

/-- SHUT_IDLE in units of 10 us (R358). -/
def shutIdle (s : State) (n : Nat) : Nat := [1000, 10000, 100000, 1000000].getD (rdP s n F.LINK_CTRL_SHUT_IDLE) 10000

/-- No data DTU has passed for SHUT_IDLE: the symbols since the latest one, of 5.76 us each (R334). -/
def longIdle (s : State) (n : Nat) : Bool := decide (shutIdle s n * 1000 ≤ (symNow s 0 - (port s n).idleSince) * 576)

/-- A timed launch or scheduled line event is due on the port within 8 superframes after S (R335). -/
def eventSoon (s : State) (n k : Nat) : Bool :=
  let limit := sfStart s (k + 8)
  s.ctxs.any (fun e => e.2.port == n && (e.2.st == .armed || e.2.st == .held) && decide (totalNs e.2.sec e.2.ns ≤ limit))
    || (port s n).pendCfg.any (fun c => match c.due with | .frame x => decide (x ≤ k + 8) | .time a b => decide (totalNs a b ≤ limit))

/-- SHUTTER_REQUEST_TRIGGER: the port asks for Shutter six superframes ahead (R334). -/
def execShutterRequestTrigger (n : Port) (s : State) : Host.Outcome State Fault Refusal :=
  let k := s.time.s + 6
  .next (if dtuOpen s n.val && allowsShutter s n.val && rdP s n.val F.LINK_CTRL_SHUTTER_EN == 1 && escrowEmpty s n.val
      && !changeOut s n.val && (port s n.val).shut.asked.isNone && (port s n.val).shut.accepted.isNone then
    sendMsg n.val 0x21 true (.shutter (BitVec.ofNat 40 (toLink s n.val k)) 1 0) (modShut n.val (fun x => { x with asked := some k }) s)
  else s)

/-- Why the port refuses Shutter at superframe k, if it does (R170, R335). -/
def shutRefusal (s : State) (n k : Nat) : Option Nat :=
  match leadReason s k with
  | some r => some r
  | none =>
    if rdP s n F.LINK_CTRL_SHUTTER_EN = 0 ∨ allowsShutter s n = false then some 2
    else if !escrowEmpty s n || !longIdle s n then some 1
    else if changeOut s n then some 3
    else if eventSoon s n k then some 4
    else none

/-- Answer a request for Shutter (R335). -/
def shutRequest (n k : Nat) (s : State) : State :=
  let sf := BitVec.ofNat 40 (toLink s n k)
  match shutRefusal s n k with
  | some r => sendMsg n 0x21 true (.shutter sf 3 (BitVec.ofNat 8 r)) s
  | none => sendMsg n 0x21 true (.shutter sf 2 0) (modShut n (fun x => { x with accepted := some k }) s)

/-- SHUTTER: a request is answered; an accept starts entry; a refusal is shown; an exit cancels entry, or ends Shutter at the
superframe named (R335-R337, R349). -/
def execShutter (n : Port) (tag : Byte) (sf : BitVec 40) (action _reason : Byte) (s : State) : Host.Outcome State Fault Refusal :=
  let k := toGrid s n.val sf.toNat
  .next (onService2 n.val 0x21 tag (fun s =>
    if action = 1 then shutRequest n.val k s
    else if action = 2 then
      (if (port s n.val).shut.asked = some k then modShut n.val (fun x => { x with asked := none, accepted := some k }) s else s)
    else if action = 3 then evP n.val F.LINK_EVENTS_SHUT_REFUSED (modShut n.val (fun x => { x with asked := none }) s)
    else if action = 4 then
      (if inShutter s n.val then modShut n.val (fun x => { x with resumeAt := some (256 * k + 1) }) s
       else modShut n.val (fun x => { x with asked := none, accepted := none }) s)
    else s) s)

/-- The entry that is due: both ends stop data symbols (R336). -/
def shutterDue (n : Nat) (s : State) : State :=
  match (port s n).shut.accepted with
  | some k =>
    if inService s n && !inShutter s n && decide (k ≤ s.time.s) then
      let wake := (port s n).shut.wakeSoon
      countDev 0xF 1 (wrP n F.LINK_STATE_SHUTTER 1 (modShut n (fun _ => { Shut.init with wakeSoon := wake }) s))
    else s
  | none => s

/-- SHUTTER_ENTRY: R336. -/
def execShutterEntry (n : Port) (s : State) : Host.Outcome State Fault Refusal := .next (shutterDue n.val s)

/-- REFRESH: the sync symbol of each superframe with S mod 16 = 0 (R338); two in a row without the partner's signal take the port
down (R352). -/
def execRefresh (n : Port) (heard : Bool) (s : State) : Host.Outcome State Fault Refusal :=
  .next (if !(inShutter s n.val && toLink s n.val s.time.s % 16 == 0) then s
    else if heard then modShut n.val (fun x => { x with missed := 0 }) s
    else if (port s n.val).shut.missed ≥ 1 then downRestart n.val 1 s
    else modShut n.val (fun x => { x with missed := 1 }) s)

/-! ## The Knock (R341-R348) -/

/-- The port knocks: KNOCK_A and KNOCK_B from symbol `k` on (R341). -/
def knockAt (n k : Nat) (s : State) : State :=
  let x := (port s n).shut
  if inShutter s n && x.knockAt.isNone && x.confirmedAt.isNone && x.resumeAt.isNone then
    modShut n (fun x => { x with knockAt := some k, knocks := 1, wakeSoon := false }) s
  else s

/-- KNOCK: a port in Shutter that has to wake knocks (R337, R341). -/
def execKnock (n : Port) (sym : Fin 256) (s : State) : Host.Outcome State Fault Refusal :=
  .next (if (port s n.val).shut.wakeSoon then knockAt n.val (symNow s sym.val) s else s)

/-- KNOCK_DETECTOR_FIRE: a detector fires and must confirm within two symbol periods (R342, R343). -/
def execKnockDetectorFire (n : Port) (p : Pair) (d : Fin 2) (sym : Fin 256) (s : State) : Host.Outcome State Fault Refusal :=
  .next (if inShutter s n.val then modShut n.val (fun x => { x with firing := SMap.set x.firing 0 (2 * p.val + d.val) (symNow s sym.val + 1) }) s else s)

/-- A detector of a pair has fired and has still to confirm. -/
def knockFiring (s : State) (n p : Nat) : Bool := (port s n).shut.firing.any (fun e => e.1 / 2 == p)

/-- The symbol number of symbol k when it is symbol `sym` now: k lies in this superframe or the one before. -/
def symBack (s : State) (k sym : Nat) : Nat := if k ≤ sym then symNow s k else symNow s k - 256

/-- KNOCK_CONFIRM: a partner's Knock that began at symbol k is confirmed. With an own Knock within two symbols of it both ends resume
at max(k, k') + 7 and no ANSWER is sent; else it is to be answered (R343, R344, R348). -/
def execKnockConfirm (n : Port) (p : Pair) (k sym : Fin 256) (s : State) : Host.Outcome State Fault Refusal :=
  let a := symBack s k.val sym.val
  .next (if !(inShutter s n.val && knockFiring s n.val p.val) then s
    else
      let s1 := modShut n.val (fun x => { x with firing := x.firing.filter (fun e => e.1 / 2 != p.val) }) s
      match (port s n.val).shut.knockAt with
      | some b =>
        if a ≤ b + 2 ∧ b ≤ a + 2 then modShut n.val (fun x => { x with resumeAt := some (max a b + 7), knockAt := none }) s1
        else modShut n.val (fun x => { x with confirmedAt := some a }) s1
      | none => modShut n.val (fun x => { x with confirmedAt := some a }) s1)

/-- FALSE_KNOCK: a detection that does not confirm is abandoned and counted (R343). -/
def execFalseKnock (n : Port) (p : Pair) (d : Fin 2) (_sym : Fin 256) (s : State) : Host.Outcome State Fault Refusal :=
  .next (if SMap.get (port s n.val).shut.firing 0 (2 * p.val + d.val) = 0 then s
    else countDev 0xE 1 (addCnt (portBase n.val) F.HL_FALSE_KNOCK 1
      (modShut n.val (fun x => { x with firing := SMap.set x.firing 0 (2 * p.val + d.val) 0 }) s)))

/-- ANSWER: sent by the woken end in symbol k + 3, k + 4 or k + 5, or received by the waker; data resumes at the fourth symbol
after it (R344, R347). -/
def execAnswer (n : Port) (sym : Fin 256) (s : State) : Host.Outcome State Fault Refusal :=
  let x := (port s n.val).shut
  let t := symNow s sym.val
  let go := modShut n.val (fun x => { x with resumeAt := some (t + 4), confirmedAt := none, knockAt := none }) s
  .next (if !inShutter s n.val then s
    else match x.confirmedAt, x.knockAt with
      | some k, _ => if k + 3 ≤ t ∧ t ≤ k + 5 then go else s
      | none, some k => if k < t ∧ t ≤ k + 6 then go else s
      | none, none => s)

/-- SHUTTER_RESUME: data symbols start as at symbol 1, with a new DTU at DTU-stream byte 0 (R346). -/
def execShutterResume (n : Port) (sym : Fin 256) (s : State) : Host.Outcome State Fault Refusal :=
  .next (match (port s n.val).shut.resumeAt with
    | some j =>
      if inShutter s n.val && decide (j ≤ symNow s sym.val) then
        let ph := fun (l : Loading) => (512 * 256 * (dtuStream l + 1) - (sym.val - 1) * dtuStream l) % 512
        let s1 := modPort n.val (fun p => { p with shut := Shut.init, idleSince := symNow s sym.val,
                                                   esc := { p.esc with txPhase := ph p.txLoad, rxPhase := ph p.rxLoad } }) s
        countDev 0xD 1 (addCnt (portBase n.val) F.HL_WAKES 1 (wrP n.val F.LINK_STATE_SHUTTER 0 s1))
      else s
    | none => s)

/-- KNOCK_RETRY: without an ANSWER by k + 6 the waker knocks again at k + 8; after four Knocks it goes down (R347). -/
def execKnockRetry (n : Port) (sym : Fin 256) (s : State) : Host.Outcome State Fault Refusal :=
  let x := (port s n.val).shut
  .next (match x.knockAt with
    | some k =>
      if !inShutter s n.val || decide (symNow s sym.val < k + 8) then s
      else if x.knocks ≥ 4 then downRestart n.val 2 (evP n.val F.LINK_EVENTS_KNOCK_FAIL s)
      else modShut n.val (fun x => { x with knockAt := some (k + 8), knocks := x.knocks + 1 }) s
    | none => s)

/-- SCHEDULED_WAKE: a port in Shutter wakes ahead of a timed launch or line event; one that is entering cancels or completes the entry
(R337, R340). -/
def execScheduledWake (n : Port) (sym : Fin 256) (s : State) : Host.Outcome State Fault Refusal :=
  .next (knockAt n.val (symNow s sym.val) (wantWake n.val s))

/-! ## Low-power idle of the standard modes (R350) -/

/-- LPI: a standard-mode port from 100BASE-TX up enters or leaves low-power idle; the bit SHUTTER shows it (R350, R356, R360). -/
def execLpi (n : Port) (enter : Bool) (s : State) : Host.Outcome State Fault Refusal :=
  let p := port s n.val
  .next (if p.st = .stdUp ∧ 2 ≤ p.an.resolved ∧ p.shut.lpi ≠ enter then
    let s1 := wrP n.val F.LINK_STATE_SHUTTER (bit enter) (modShut n.val (fun x => { x with lpi := enter }) s)
    if enter then s1 else addCnt (portBase n.val) F.HL_WAKES 1 s1
  else s)

/-! ## Feedback (R163) -/

/-- FEEDBACK_SET: the timing master asks for tone groups and pairs (R161, R162). -/
def execFeedbackSet (n : Port) (tag rate : Byte) (pairs : BitVec 4) (s : State) : Host.Outcome State Fault Refusal :=
  .next (onService2 n.val 0x30 tag (fun s =>
    if (port s n.val).tr.master = false ∧ (rate = 0 ∨ rate = 32 ∨ rate = 64 ∨ rate = 128) then
      modPort n.val (fun p => { p with peerFb := some (rate.toNat, pairs) }) s
    else s) s)

/-- FEEDBACK: a report in time ends FEEDBACK's silence for the pairs that it reports; one that arrives more than two superframes after
its own is discarded (R163, R269). -/
def execFeedback (n : Port) (sf : BitVec 40) (_firstTg : BitVec 16) (count : Byte) (pairs : BitVec 4) (_exp : Byte) (_err : List Byte) (s : State) :
    Host.Outcome State Fault Refusal :=
  let k := toGrid s n.val sf.toNat
  .next (if inService s n.val && (port s n.val).tr.master && (port s n.val).tr.ver == 2 && decide (s.time.s ≤ k + 2 ∧ k ≤ s.time.s ∧ 1 ≤ count.toNat ∧ count.toNat ≤ 16) then
    forN 4 (fun p s => if pairs.getLsbD p then modVictim (4 * n.val + p) (fun x => { x with farStopped := false }) s else s) s
  else s)

end Sys2Proof.Machine
end

