-- ==== Sys2Proof/Machine/Lanes.lean ====
section
/-!
DEFINITION. Host lanes (09_host_lanes.md): stripes and control stripes, records, notices and PAUSE, lane training, and LANE_TRAIN
and LANE_TEST.
-/
namespace Sys2Proof.Machine

/-! ## HTX (R406, R410-R413, R420, R421, R433) -/

/-- The 32-bit header of a lane frame (R404). -/
def frameHeader (type stripe laneNo ptr : Nat) : List Byte :=
  let h := natBE 3 ((type * 2 ^ 30 + stripe * 2 ^ 21 + laneNo * 2 ^ 18 + ptr * 2 ^ 8) / 256)
  h ++ natBE 1 (crc8 h)

/-- The HTX sideband word of a record (R413, R426). -/
def htxWord (s : State) (r : HostRec) : List Byte :=
  let n := r.port
  let pend := rdP s n F.HL_PORT_STATUS_NOTICE_PENDING
  let f := r.frame
  let w := n % 12 * 2 ^ 60 + f.bytes.length * 2 ^ 46 + ns8 f.at8 * 2 ^ 16 + f.at8 % 8 / 2 * 2 ^ 14 + f.epoch % 4 * 2 ^ 12
    + pend * 2 ^ 11 + (if pend = 1 then (hostPort s n).txnRate else 0) * 2 ^ 8
  let b := natBE 7 (w / 256)
  b ++ natBE 1 (crc8 b)

/-- Fill a DATA stripe's body with records: each begins only where it ends before the next CONTROL stripe (R410). `room` are
the body bytes from the start of this stripe to that stripe. Answers the bytes, the PTR, the records left, and their number. -/
def fillStripe (s : State) (room : Nat) : List HostRec → List Byte → Option Nat → Nat → List Byte × Option Nat × List HostRec × Nat
  | [], acc, ptr, k => (acc, ptr, [], k)
  | r :: t, acc, ptr, k =>
    let b := htxWord s r ++ r.frame.bytes
    if 992 ≤ acc.length ∨ room < acc.length + b.length then (acc, ptr, r :: t, k)
    else fillStripe s room t (acc ++ b) (some (ptr.getD acc.length)) (k + 1)

/-- A port record of a CONTROL stripe (R421). -/
def portRecord (s : State) (n : Nat) : List Byte :=
  let h := hostPort s n
  natBE 1 (rdP s n F.LINK_STATE_STATE * 64 + rdP s n F.LINK_STATE_CAUSE * 4 + rdP s n F.LINK_STATE_SHUTTER * 2 + rdP s n F.LINK_STATE_THREE_PAIR)
    ++ natBE 1 (rdP s n F.SIR_AN_STATUS_RESOLVED * 32 + rdP s n F.HL_PORT_STATUS_XOFF * 16 + rdP s n F.HL_PORT_STATUS_NOTICES * 8)
    ++ natBE 1 (txRate s n * 8 + rxRate s n) ++ [0] ++ natBE 1 h.txnSeq ++ natBE 1 (bit h.txnValid * 128 + (if h.txnValid then h.txnRate else 0))
    ++ natBE 5 h.txnS ++ natBE 6 (h.txnTime / 1000000000) ++ natBE 4 (h.txnTime % 1000000000) ++ natBE 1 h.rxnSeq
    ++ natBE 1 (bit h.rxnValid * 128 + (if h.rxnValid then h.rxnRate else 0)) ++ natBE 5 h.rxnS ++ [0, 0, 0]

/-- The body of a CONTROL stripe (R420). -/
def controlBody (s : State) (g : Nat) : List Byte :=
  let b := [1] ++ natBE 1 g ++ natBE 6 (nowSec s) ++ natBE 4 (nowNs s) ++ natBE 2 s.time.epoch ++ [0, 0]
    ++ (List.range 12).flatMap (fun i => portRecord s (12 * g + i)) ++ List.replicate 588 0
  b ++ natBE 4 (crc32c b)

/-- The STAGE that the device sends (R433-R435). -/
def trainStage (s : State) (g : Nat) : Nat :=
  if (lane s g).sentStage = 5 then 5 else if laneStep s g = 7 then 1 else laneStep s g

/-- The body of a TRAIN frame of a lane (R433). -/
def trainBody (s : State) (g laneNo : Nat) : List Byte :=
  let sel := if 3 ≤ laneStep s g ∧ laneStep s g ≤ 5 then 1 else 0
  let b := [1] ++ natBE 1 (trainStage s g) ++ [1] ++ natBE 1 sel ++ natBE 1 (2 + bit (lane s g).calIdle * 4)
    ++ natBE 1 (rdL s g F.HL_STATUS_LOCKED) ++ natBE 1 laneNo ++ [0] ++ natBE 2 (partCode s) ++ List.replicate 110 0
  b ++ natBE 4 (crc32c b)

/-- HTX_STRIPE: in service every stripe numbered 0 modulo 128 is a CONTROL stripe, every other a DATA stripe of records and fill
(R406, R411); in training, TRAIN frames. -/
def htxStripe (g : Nat) (s : State) : State :=
  let l := lane s g
  let st := laneStep s g
  if laneActive s g then
    let next := fun (l : LaneState) => { l with stripe := (l.stripe + 1) % 512 }
    let s1 := pmEv (12 + g) 1 PmAttr.none s
    if l.stripe % 128 = 0 then modLane g (fun l => next { l with htxOut := controlBody s g }) s1
    else
      let room := 992 * (128 - l.stripe % 128)
      let (b, _, left, k) := fillStripe s room l.htxQueue l.htxBytes none 0
      let body := b.take 992 ++ List.replicate (992 - b.length) 0
      pmEvN (12 + g) 3 PmAttr.none k (modLane g (fun l => next { l with htxOut := body, htxQueue := left, htxBytes := b.drop 992 }) s1)
  else if 2 ≤ st ∧ st ≠ 6 then modLane g (fun l => { l with htxOut := (List.range 8).flatMap (trainBody s g), stripe := (l.stripe + 1) % 512 }) s
  else s

@[inherit_doc htxStripe]
def execHtxStripe (g : Lane) (s : State) : Host.Outcome State Fault Refusal := .next (htxStripe g.val s)

/-! ## HRX (R408, R415, R416, R422, R432) -/

/-- A stripe is discarded whole and counted (R408). -/
def stripeDrop (g : Nat) (s : State) : State := pmEv (12 + g) 2 PmAttr.none (countDev 0x1B 1 (addCnt (laneBase g) F.HL_STRIPE_DROP 1 s))

/-- HRX_STRIPE: a stripe with a failing header, a stuff violation or a missing frame is discarded; SKIP frames and fill go no
further; another DATA stripe goes into the elastic buffer, or overflows it (R403, R407, R408, R432). -/
def execHrxStripe (g : Lane) (x : RxStripe) (s : State) : Host.Outcome State Fault Refusal :=
  let k := g.val
  .next (if laneStep s k < 2 ∨ laneStep s k = 6 then s
    else
      let s1 := whenB x.hecFail (fun s => pmEv (12 + k) 5 PmAttr.none (countDev 0x1C 1 (addCnt (laneBase k) F.HL_HEC_ERR 1 s))) s
      let s2 := whenB x.stuffErr (fun s => pmEv (12 + k) 6 PmAttr.none (countDev 0x1D 1 (addCnt (laneBase k) F.HL_STUFF_ERR 1 s))) s1
      if !x.good || x.hecFail || x.stuffErr then stripeDrop k s2
      else if x.type.val ≠ 0 ∨ x.body.all (· == 0) ∨ laneActive s k = false then s2
      else if (lane s k).elastic + 992 > 32768 then evL k F.HL_EVENTS_ELASTIC (stripeDrop k s2)
      else modLane k (fun l => { l with elastic := l.elastic + 992 }) s2)

/-- A NOTICE_ACK of a port: NOTICE ends when it equals TXN_SEQ (R426). -/
def noticeAck (n a : Nat) (s : State) : State :=
  let s1 := modHost n (fun h => { h with ackSeq := a }) s
  if a = (hostPort s n).txnSeq then wrP n F.HL_PORT_STATUS_NOTICE_PENDING 0 s1 else s1

/-- HRX_CONTROL_STRIPE: one that fails its CRC is ignored and flagged; else NOTICE_CAP and the NOTICE_ACK of each port (R422). -/
def execHrxControlStripe (g : Lane) (body : List Byte) (s : State) : Host.Outcome State Fault Refusal :=
  .next (if laneActive s g.val = false then s
    else if body.length ≠ 992 ∨ beAt body 988 4 ≠ crc32c (body.take 988) then evL g.val F.HL_EVENTS_CTRL_BAD s
    else
      let cap := byteAt body 2 % 2
      let s1 := wrL g.val F.HL_STATUS_PEER_NOTICE cap (modLane g.val (fun l => { l with noticeCap := cap == 1 }) s)
      forL (lanePorts s g.val) (fun n s => noticeAck n (byteAt body (4 + n % 12)) s) s1)

/-- The bytes of every launch queue (R488). -/
def launchBytes (s : State) : Nat := (s.ctxs.map (fun e => (e.2.queue.map (·.bytes.length)).sum)).sum

/-- A frame for a launch context is queued, or discarded (R488). -/
def toContext (n c : Nat) (f : Frame) (s : State) : State :=
  let x := ctx s c
  let full := decide (launchBytes s + f.bytes.length > 4194304)
  if x.st = .idle ∨ x.st = .done ∨ x.port ≠ n ∨ x.queue.length ≥ x.queueMax ∨ full = true then
    let full2 := full && !(x.st == .idle || x.st == .done || x.port != n || decide (x.queue.length ≥ x.queueMax))
    let s1 := modCtx c (fun x => { x with dropped := x.dropped + 1 }) (addCnt 0 F.LAUNCH_DROP 1 s)
    pmEv 0x10 3 { PmAttr.none with port := some n, cls := some f.cls } (countDev 0x26 1 (whenB full2 (evG F.TIME_EVENTS_QUEUE_FULL) s1))
  else modCtx c (fun x => { x with queue := x.queue ++ [{ f with at8 := now8 s }] }) s

/-- A record with a good sideband word: its frame is checked and passed on (R416). -/
def hrxFrame (n : Nat) (w : Nat) (f : List Byte) (s : State) : State :=
  let viaCtx := bitsOf w 31 31 == 1
  let x : Frame := ⟨f, bitsOf w 30 28, 0, 0, bitsOf w 27 27 == 1, bitsOf w 26 26 == 1, none⟩
  if !fcsOk f || !linkUp s n || (!viaCtx && decide ((hostPort s n).hold + f.length > 40960)) then addCnt (portBase n) F.HL_HRX_DROP 1 s
  else
    let s1 := pmEv (12 + laneOf n) 4 { PmAttr.none with port := some n, cls := some x.cls } (countDev 0x1A 1 s)
    if viaCtx then toContext n (bitsOf w 45 32) x s1 else lineOut n x s1

/-- HRX_RECORD: a record leaves the elastic buffer. A fill word carries nothing; one that cannot be trusted is discarded and counted
(R411, R414-R416); for a group under the Closing Audit it is a service request (R744). `cut` says that a stripe with a byte of it was
discarded. -/
def execHrxRecord (g : Lane) (sb : BitVec 64) (frame : List Byte) (cut : Bool) (s : State) : Host.Outcome State Fault Refusal :=
  let w := sb.toNat
  let len := bitsOf w 59 46
  let local' := bitsOf w 63 60
  let bad := crc8 (natBE 7 (w / 256)) ≠ w % 256 ∨ (len ≠ 0 ∧ (len < 64 ∨ 10240 < len)) ∨ 12 ≤ local' ∨ cut = true ∨ frame.length ≠ len
  .next (if s.audit.held.contains (12 + g.val) then auditRequest (12 + g.val) s
    else if laneActive s g.val = false then s
    else
      let s1 := modLane g.val (fun l => { l with elastic := l.elastic - (8 + frame.length) }) s
      if w = 0 then s1
      else if bad then countDev 0x1E 1 (addCnt (laneBase g.val) F.HL_SB_ERR 1 s1)
      else if len = 0 then s1
      else hrxFrame (12 * g.val + local') w frame s1)

/-! ## Notices, PAUSE and frames from the line -/

/-- PAUSE_REPEAT: every 500 us while XOFF would hold (R430). -/
def execPauseRepeat (n : Port) (s : State) : Host.Outcome State Fault Refusal :=
  .next (if (hostPort s n.val).xoff && !usesNotices s n.val && laneActive s (laneOf n.val) then sendPause n.val 0xFFFF s else s)

/-- NOTICE_TIMEOUT: 8 superframes after TXN_S begins NOTICE is no longer set (R426). -/
def execNoticeTimeout (n : Port) (s : State) : Host.Outcome State Fault Refusal :=
  .next (if rdP s n.val F.HL_PORT_STATUS_NOTICE_PENDING = 1 ∧ (hostPort s n.val).txnS + 8 ≤ s.time.s then
    wrP n.val F.HL_PORT_STATUS_NOTICE_PENDING 0 s else s)

/-- LINE_FRAME: a frame of a standard mode, with the time of its plane (R417, R476). -/
def execLineFrame (n : Port) (frame : List Byte) (sec ns eighth : Nat) (s : State) : Host.Outcome State Fault Refusal :=
  .next (if (port s n.val).st = .stdUp ∧ linkUp s n.val = true then
    lineIn n.val frame (totalNs sec ns * 8 + eighth % 8) (s.time.epoch % 65536) false s else s)

/-! ## Lane training (R434-R438) -/

/-- LANE_LOCK_LOST: a group in service leaves it; with AUTO_TRAIN it trains from step 2, else it stays failed (R409). -/
def execLaneLockLost (g : Lane) (l : Fin 8) (s : State) : Host.Outcome State Fault Refusal :=
  let k := g.val
  .next (if laneActive s k then
      let s1 := evL k F.HL_EVENTS_LOCK_LOST s
      if rdL s k F.HL_CTRL_AUTO_TRAIN = 1 then laneGo k 2 s1 else laneSet k 7 s1
    else if 2 ≤ laneStep s k ∧ laneStep s k ≤ 4 then wrBit (laneBase k) F.HL_STATUS_LOCKED l.val 0 (modLane k (fun x => { x with agree := 0 }) s)
    else s)

/-- Bring a LANE_TRAIN's position up to date. -/
def laneMoved (g : Nat) (s : State) : State := match (lane s g).trainOp with | some id => laneProgress id s | none => s

/-- HRX_CLOCK_DETECT: step 1 ends (R434). -/
def execHrxClockDetect (g : Lane) (s : State) : Host.Outcome State Fault Refusal :=
  .next (if laneStep s g.val = 1 then laneMoved g.val (laneStep2 g.val (modLane g.val (fun l => { l with clockSeen := true }) s)) else s)

/-- An attempt fails: held at step 2 with TRAIN_FAIL, and the next attempt takes the next place among adaptation and the
fallback entries (R435, R436). -/
def trainFails (g : Nat) (s : State) : State :=
  let l := lane s g
  let c := fbCount s g
  let next := match ctleMode s g with | 0 => (l.nextEntry + 1) % (c + 1) | 1 => (l.nextEntry + 1) % max 1 c | _ => 0
  let seen := l.clockSeen || decide (2 ≤ laneStep s g)
  let s1 := wrL g F.HL_STATUS_LOCKED 0 (wrL g F.HL_STATUS_STATE 7 s)
  let s2 := modLane g (fun l => { l with nextEntry := next, clockSeen := seen, agree := 0, sentStage := 0 }) s1
  laneFinish g (addCnt (laneBase g) F.HL_TRAINS 1 (evL g F.HL_EVENTS_TRAIN_FAIL s2))

/-- TRAIN_FAIL: a step passes its time limit (R435). -/
def execTrainFail (g : Lane) (s : State) : Host.Outcome State Fault Refusal :=
  .next (if 1 ≤ laneStep s g.val ∧ laneStep s g.val ≤ 4 then trainFails g.val s else s)

/-- TRAIN_RETRY: with AUTO_TRAIN, a new attempt 100 ms after a failed one (R435). -/
def execTrainRetry (g : Lane) (s : State) : Host.Outcome State Fault Refusal :=
  .next (if laneStep s g.val = 7 ∧ rdL s g.val F.HL_CTRL_AUTO_TRAIN = 1 then laneGo g.val (if (lane s g.val).clockSeen then 2 else 1) s else s)

/-- Four CTLE codes as a register holds them, the lowest lane in bits 3..0 (R450). -/
def ctleWord (l : List Nat) : Nat := (l.mapIdx (fun i c => c * 16 ^ i)).sum

/-- The CTLE codes of the attempt: those of its fallback entry, else those adapted (R436, R452). -/
def ctleCodes (s : State) (g : Nat) (adapted : List Nat) : Nat × Nat :=
  match (lane s g).entry with
  | some k => ((rdReg s (0x11600 + 0x40 * g + 8 * k)).toNat, (rdReg s (0x11604 + 0x40 * g + 8 * k)).toNat)
  | none => (ctleWord (adapted.take 4), ctleWord ((adapted.drop 4).take 4))

/-- Pacing of a port is chosen as its group enters service, and holds until it trains again (R424). -/
def choosePace (g : Nat) (s : State) : State :=
  forL (lanePorts s g) (fun n s =>
    let m := rdP s n F.HL_PORT_CTRL_PACE_MODE
    let b := if m = 1 then true else if m = 2 then false else (lane s g).noticeCap
    wrP n F.HL_PORT_STATUS_NOTICES (bit b) (modHost n (fun h => { h with noticesInForce := b }) s)) s

/-- A lane group enters service: stripe 0 is next, and its ports leave the split state (R434, R440). -/
def laneEnter (g : Nat) (s : State) : State :=
  let s1 := wrL g F.HL_STATUS_STATE 5 (modLane g (fun l => { l with stripe := 0, nextEntry := 0, tableOnly := false, adaptOnly := false }) s)
  laneFinish g (updateSplits g (choosePace g s1))

/-- A TRAIN message moves the group on: lock, the versions, deskew, service (R434, R435). -/
def trainFrame (g : Nat) (b : List Byte) (codes : Option (List (Fin 16))) (s : State) : State :=
  let st := laneStep s g
  let common := bitsOf (byteAt b 2) 0 0 == 1
  match st with
  | 2 =>
    let may := (ctleMode s g != 1 || (lane s g).entry.isSome) && !(lane s g).calIdle
    match codes with
    | some cs =>
      if may && cs.length == 8 then
        let (lo, hi) := ctleCodes s g (cs.map (·.val))
        laneMoved g (wrL g F.HL_STATUS_STATE 3 (wrL g F.HL_STATUS_LOCKED 0xFF (wrL g F.HL_CTLE_HI hi (wrL g F.HL_CTLE_LO lo s))))
      else s
    | none => s
  | 3 =>
    if !common then trainFails g (modLane g (fun l => { l with versionFail := true }) s)
    else
      let cap := byteAt b 4 % 2
      let s1 := wrL g F.HL_STATUS_PEER_NOTICE cap (wrL g F.HL_STATUS_VERSION 1 s)
      let run := if rdL s g F.HL_STATUS_LOCKED = 0xFF ∧ byteAt b 5 = 0xFF ∧ byteAt b 3 = 1 then (lane s g).agree + 1 else 0
      let s2 := modLane g (fun l => { l with agree := run, noticeCap := cap == 1 }) s1
      if 4 ≤ run then laneMoved g (wrL g F.HL_STATUS_STATE 4 (modLane g (fun l => { l with sentStage := 5 }) s2)) else s2
  | 4 => if byteAt b 1 = 5 then laneEnter g s else s
  | _ => s

/-- TRAIN_FRAME: a message that fails its CRC is ignored (R433, R434). `codes` are the CTLE codes under which the receiver has
reached lock on every lane, once it has. -/
def execTrainFrame (g : Lane) (body : List Byte) (codes : Option (List (Fin 16))) (s : State) : Host.Outcome State Fault Refusal :=
  .next (if laneFree s g.val && body.length == 124 && beAt body 120 4 == crc32c (body.take 120) && byteAt body 0 == 1 then trainFrame g.val body codes s else s)

/-! ## LANE_TRAIN (R445-R447) -/

/-- The lane groups of a mask. -/
def maskLanes (m : Nat) : List Nat := (List.range 4).filter (fun g => bitsOf m g g == 1)

/-- A lane group is held by an operation. -/
def laneBusy (s : State) (g : Nat) : Bool :=
  (lane s g).test.isSome || (lane s g).trainOp.isSome || s.cal.runs.any (fun r => r.lane && r.index == g)

/-- The first of a group's refusals: its clock, the audit (checks 8 and 9 of R517). -/
def laneGates (s : State) (gs : List Nat) : List (Option Plan) := gs.map (fun g => gated s (12 + g)) ++ gs.map (fun g => inAudit s (12 + g))

/-- The checks and effect of LANE_TRAIN (R446, R447, R749). -/
def laneTrainPlan (c : Packet) (role : Option Role) (s : State) : Plan :=
  let gs := maskLanes (pb c 0)
  let f := pb c 1
  firstOf
    ([ bad (plen c ≠ 2 || decide (16 ≤ pb c 0) || gs.isEmpty || decide (3 ≤ f) || gs.any (fun g => !hasLane s g)) ] ++ laneGates s gs
      ++ [ busyIf s (gs.any (laneBusy s)), chk (gs.any (laneHeld s)) (Plan.done .refused [] id) ])
    (Plan.long s 0xC0 role 5 (fun id s =>
      let s1 := forL gs (fun g => modLane g (fun l => { l with trainOp := some id, trainRes := none, tableOnly := f == 1, adaptOnly := f == 2, nextEntry := 0 })) s
      laneProgress id (forL gs (fun g s => laneGo g 1 s) s1)))

/-- LANE_TRAIN (R445). -/
def opLaneTrain : Opcode := ⟨0xC0, some .installer, false, true, noArea, laneTrainPlan⟩

/-- LANE_TRAIN: R446, R447. -/
def execLaneTrain (c : Packet) (s : State) : Host.Outcome State Fault Refusal := .next (runOpcode opLaneTrain c s)

/-! ## LANE_TEST (R442-R444, R448, R449) -/

/-- The data lanes of a mask. -/
def maskBits (m : Nat) : List Nat := (List.range 8).filter (fun l => bitsOf m l l == 1)

/-- The checks and effect of LANE_TEST (R448, R449). -/
def laneTestPlan (c : Packet) (role : Option Role) (s : State) : Plan :=
  let g := pb c 0
  let lanes := pb c 1
  let dir := pb c 2
  let pat := pb c 3
  let inj := pb c 4
  let burst := pf c 5 2
  let dur := pf c 11 4
  let wrong := plen c ≠ 15 || !hasLane s g || lanes == 0 || decide (4 ≤ dir) || !([0, 7, 0xF, 0x17, 0x1F].contains pat) || decide (2 < inj)
    || (pat == 0 && (inj == 0 || decide (2 ≤ dir))) || decide (burst < 1 ∨ 1024 < burst) || decide (dur < 1 ∨ 3600000 < dur)
  let check := decide (2 ≤ dir)
  firstOf ([bad wrong] ++ laneGates s [g] ++ [busyIf s (laneBusy s g)])
    (Plan.long s 0xC1 role 3 (fun id s =>
      let t : LaneTest := ⟨id, lanes, dir, pat, inj, burst, pf c 7 4, dur, 0, 0⟩
      let s1 := if pat = 0 then s else laneSet g 6 s
      opProgress id (if check then 1 else 2) 3 0 (modLane g (fun l => { l with test := some t }) s1)))

/-- LANE_TEST (R445). -/
def opLaneTest : Opcode := ⟨0xC1, some .installer, false, true, noArea, laneTestPlan⟩

/-- LANE_TEST: R448, R449. -/
def execLaneTest (c : Packet) (s : State) : Host.Outcome State Fault Refusal := .next (runOpcode opLaneTest c s)

/-- PRBS_SYNC: a checker has seen 64 correct bits; when every selected one has, step 2 begins (R442, R448, R538). -/
def execPrbsSync (g : Lane) (l : Fin 8) (s : State) : Host.Outcome State Fault Refusal :=
  .next (match (lane s g.val).test with
    | some t =>
      if t.dir < 2 ∨ bitsOf t.lanes l.val l.val = 0 ∨ bitsOf t.synced l.val l.val = 1 then s
      else
        let y := t.synced + 2 ^ l.val
        let s1 := modLane g.val (fun x => { x with test := some { t with synced := y } }) s
        if y = t.lanes then opProgress t.op 2 3 33 (opItem t.op 0 g.val y 0 s1) else s1
    | none => s)

/-- ERROR_INJECTION: the injector inverts a bit or a burst on the lanes selected; with PERIOD 0 once (R443, R448). -/
def execErrorInjection (g : Lane) (s : State) : Host.Outcome State Fault Refusal :=
  .next (match (lane s g.val).test with
    | some t =>
      if t.inject = 0 ∨ (t.period = 0 ∧ t.injected ≠ 0) then s
      else modLane g.val (fun x => { x with test := some { t with injected := t.injected + 1 } }) s
    | none => s)

/-- The completion data of a test: for each selected lane whether its checker synchronised, the bits checked and the errors
counted (R448). -/
def testData (t : LaneTest) (bits errs : List Nat) : List Byte :=
  (maskBits t.lanes).zipIdx.flatMap (fun e =>
    natBE 1 (bitsOf t.synced e.1 e.1) ++ natBE 6 (min (2 ^ 48 - 1) (bits.getD e.2 0)) ++ natBE 4 (min (2 ^ 32 - 1) (errs.getD e.2 0)))

/-- LANE_TEST_END: the test completes, or ends ABORTED where OP_ABORT asked for it; a group that a pattern took out of service trains
from step 2 where AUTO_TRAIN is 1 (R444, R448, R449). -/
def execLaneTestEnd (g : Lane) (bits errs : List Nat) (s : State) : Host.Outcome State Fault Refusal :=
  let k := g.val
  .next (match (lane s k).test with
    | some t =>
      let s1 := forL (maskBits t.lanes).zipIdx (fun e s =>
        if 2 ≤ t.dir then wrReg (laneBase k + 0x11440 + 4 * (e.1 % 8)) (BitVec.ofNat 32 (min 65535 (errs.getD e.2 0))) s else s) s
      let s2 := modLane k (fun x => { x with test := none }) s1
      let s3 := if t.pattern = 0 then s2 else if rdL s k F.HL_CTRL_AUTO_TRAIN = 1 then laneGo k 2 s2 else laneSet k 0 s2
      if abortAsked s t.op then endOp t.op .aborted (testData t bits errs) s3
      else endOp t.op .ok (testData t bits errs) (opProgress t.op 3 3 99 s3)
    | none => s)

end Sys2Proof.Machine
end

