-- ==== Sys2Proof/Machine/Launch.lean ====
section
/-!
DEFINITION. Network time (R454-R475) and timed launch (R485-R495): the clock, TIME_ADJUST, HOLD, the anchor, and launch
contexts.
-/
namespace Sys2Proof.Machine

/-! ## The clock (R455, R461, R465) -/

/-- The part of a slew that `ticks` of 10 ns absorb. -/
def slewPart (x : Slew) (ticks : Nat) : Nat := min x.left (ticks * 10 * nsUnit * x.rate / 65536000000)

/-- A slew ends. -/
def endSlew (s : State) : State := wrG F.TIME_STATUS_SLEWING 0 (modTime (fun t => { t with slew := none }) s)

/-- Move the clock by an amount, forward or backward. -/
def moveClock (back : Bool) (d : Nat) : State → State := modTime (fun t => { t with t := if back then t.t - d else t.t + d })

/-- The clock runs for `ticks` of 10 ns of REFCLK time: at 1 + FREQ, with the slew on top until it is absorbed (R455, R461). -/
def runClock (ticks : Nat) (s : State) : State :=
  if s.time.running then
    let base := (((ticks * 10 * nsUnit : Nat) : Int) * (65536000000 + s.time.freq) / 65536000000).toNat
    let s1 := moveClock false base s
    match s.time.slew with
    | some x =>
      let d := slewPart x ticks
      let s2 := moveClock x.back d s1
      if d = x.left then endSlew s2 else modTime (fun t => { t with slew := some { x with left := x.left - d } }) s2
    | none => s1
  else s

/-- The grid ramps, or stands at the ±50 ppm limit (R465). -/
def clamped (s : State) : Bool := decide (s.time.gridFreq ≠ s.time.freq)

/-- TIME_STATUS.GRID_CLAMP follows the grid, with its event where the state begins (R465). -/
def updateClamp (s : State) : State :=
  let was := rdG s F.TIME_STATUS_GRID_CLAMP == 1
  whenB (clamped s && !was) (evG F.TIME_EVENTS_GRID_CLAMP) (wrG F.TIME_STATUS_GRID_CLAMP (bit (clamped s)) s)

/-! ## Launch contexts (R485, R489-R495) -/

/-- PERIODIC, STAMP and LATE_DROP of a context's FLAGS. -/
def Ctx.periodic (x : Ctx) : Bool := bitsOf x.flags 3 3 == 1
@[inherit_doc Ctx.periodic]
def Ctx.stamp (x : Ctx) : Bool := bitsOf x.flags 4 4 == 1
@[inherit_doc Ctx.periodic]
def Ctx.lateDrop (x : Ctx) : Bool := bitsOf x.flags 2 2 == 1

/-- The launch time of a context in ns. -/
def Ctx.due (x : Ctx) : Nat := totalNs x.sec x.ns

/-- A context with another launch time. -/
def Ctx.setDue (x : Ctx) (t : Nat) : Ctx := { x with sec := t / 1000000000, ns := t % 1000000000 }

/-- The 64 bytes of a context (R485); its counters hold at their maximum. -/
def ctxBytes (x : Ctx) : List Byte :=
  let st := match x.st with | .idle => 0 | .armed => 1 | .held => 2 | .done => 3
  let cap := fun v => natBE 4 (min v 0xFFFFFFFF)
  natBE 1 st ++ natBE 1 x.port ++ natBE 1 x.flags ++ natBE 1 x.queueMax ++ natBE 6 x.sec ++ natBE 4 x.ns ++ natBE 4 x.period
    ++ natBE 4 x.remain ++ natBE 2 x.queue.length ++ cap x.launched ++ cap x.missed ++ cap x.dropped ++ natBE 6 x.lastSec
    ++ natBE 4 x.lastNs ++ natBE 4 (unsigned 32 x.lastLate) ++ natBE 2 x.lastEpoch ++ natBE 5 x.lastS ++ List.replicate 7 0

/-- A launch time is spent: a periodic context moves on by PERIOD, and one whose count ends, or a one-shot one, is done (R489). -/
def Ctx.advance (x : Ctx) (now : Nat) : Ctx :=
  if x.periodic then
    let y := x.setDue (x.due + x.period)
    let y := { y with overdue := x.overdue && decide (y.due < now) }
    if x.remain = 0 then y else { y with remain := x.remain - 1, st := if x.remain = 1 then .done else y.st }
  else { x with remain := 0, st := .done, overdue := false }

/-- The attributes of a launch event (R757). -/
def launchAttr (n : Nat) (f : Frame) : PmAttr := { PmAttr.none with port := some n, cls := some f.cls }

/-- A frame of a context leaves its queue into DROPPED. -/
def dropHead (c : Nat) : State → State := modCtx c (fun x => { x with queue := x.queue.drop 1, dropped := x.dropped + 1 })

/-- Whether the launch of a frame is late: it arrived less than 50 us (Siruigo) or 5 us (standard modes) before its launch time, or
that time had already passed (R493). The frame's `at8` is its arrival. -/
def launchLate (s : State) (x : Ctx) (f : Frame) : Bool :=
  x.overdue || decide (x.due * 8 < f.at8 + (if inService s x.port then 400000 else 40000))

/-- Put a launched frame ahead of the frames that wait at a port, behind those launched before it (R491, R494). -/
def putLaunched (f : Frame) (q : List Frame) : List Frame := q.takeWhile (·.ctx.isSome) ++ [f] ++ q.dropWhile (·.ctx.isSome)

/-- A launched frame goes to its line: into the next data symbol of a Siruigo port, woken if it is in Shutter; on a standard-mode port
its plane is the launch moment plus TS_EGR_LAT (R490-R492, R495). -/
def sendLaunched (n : Nat) (f : Frame) (at8 : Nat) (s : State) : State :=
  if inService s n then
    wantWake n (modPort n (fun p => { p with esc := { p.esc with txFrames := putLaunched f p.esc.txFrames } }) s)
  else (egress n f (addLat at8 (rdP s n F.TS_EGR_LAT)) s).2

/-- The launch of context c, its plane on a standard-mode port at `at8` (R489, R493, R495). -/
def doLaunch (c at8 : Nat) (s : State) : State :=
  let x := ctx s c
  let n := x.port
  let next := modCtx c (fun x => x.advance (nowTotal s))
  match x.queue with
  | [] => next (modCtx c (fun x => { x with missed := x.missed + 1 }) s)
  | f :: _ =>
    if !linkUp s n then next (dropHead c s)
    else
      let late := launchLate s x f
      let s1 := whenB late (fun s => pmEv 0x10 2 (launchAttr n f) (countDev 0x25 1 (evG F.TIME_EVENTS_LATE (addCnt 0 F.LAUNCH_LATE 1 s)))) s
      if late && x.lateDrop then next (dropHead c s1)
      else
        let s2 := modCtx c (fun x => { x with queue := x.queue.drop 1, launched := x.launched + 1 }) s1
        let s3 := pmEv 0x10 1 (launchAttr n f) (countDev 0x24 1 s2)
        next (sendLaunched n { f with at8 := x.due * 8, ctx := some (c, x.stamp) } at8 s3)

/-- LAUNCH: an armed context's launch time has come; `late` is by how many ns a standard-mode port starts the frame after it (R490,
R494). On a Siruigo port `sym` is the first data symbol whose boundary lies at or after the launch time (R491). -/
def execLaunch (c : Fin 16384) (sym : Fin 256) (late : Nat) (s : State) : Host.Outcome State Fault Refusal :=
  let x := ctx s c.val
  let sir := inService s x.port
  let come := if sir then decide (1 ≤ sym.val ∧ x.due * 8 ≤ symTime8 s sym.val) else decide (x.due ≤ nowTotal s)
  .next (if x.st = .armed ∧ come = true then doLaunch c.val ((x.due + late) * 8) s else s)

/-! ## Steps and HOLD (R469-R475) -/

/-- The contexts that a test picks, by number. -/
def ctxsWhere (s : State) (p : Ctx → Bool) : List Nat := (s.ctxs.filter (fun e => p e.2)).map (·.1)

/-- What an armed context does at the step that enters HOLD (R472). -/
def holdCtx (c : Nat) (s : State) : State :=
  let x := ctx s c
  let held := modCtx c (fun x => { x with st := if x.st = .done then .done else .held })
  match bitsOf x.flags 1 0 with
  | 1 => held (doLaunch c (now8 s) s)
  | 2 =>
    if x.queue.length = 0 then held s
    else
      let s1 := modCtx c (fun x => x.advance (nowTotal s)) (dropHead c s)
      held (if x.periodic then s1 else modCtx c (fun x => { x with st := .armed }) s1)
  | _ => s

/-- The moment at which a step takes the clock to `t`: what it changes (R456, R460, R469, R471, R472, R475). -/
def stepClock (t : Nat) (s : State) : State :=
  let old := nowTotal s
  let back := decide (t < s.time.t)
  let past := back && decide (rdG s F.TIME_CTRL_STEP_GUARD * 100000 * nsUnit < s.time.t - t)
  let s1 := modTime (fun x => { x with t := t, epoch := (x.epoch + 1) % 65536 }) (endSlew s)
  let s2 := countDev 0x27 1 (evG F.TIME_EVENTS_STEP s1)
  let now := nowTotal s2
  if past && rdG s2 F.TIME_STATUS_HOLD == 0 then
    let s3 := evG F.TIME_EVENTS_HOLD (wrG F.TIME_STATUS_HOLD 1 s2)
    forL (ctxsWhere s3 (fun x => x.st == .armed)) holdCtx s3
  else if back then forL (ctxsWhere s2 (fun x => x.overdue && decide (now ≤ x.due))) (fun c => modCtx c (fun x => { x with overdue := false })) s2
  else forL (ctxsWhere s2 (fun x => (x.st == .armed || x.st == .held) && decide (old ≤ x.due ∧ x.due < now)))
    (fun c => modCtx c (fun x => { x with overdue := true })) s2

/-- A held context when HOLD ends: a periodic one goes on at the first time of its grid at or after now; a one-shot one whose launch
was sent or dropped is done (R474). -/
def releaseCtx (c : Nat) (s : State) : State :=
  let now := nowTotal s + bit (s.time.t % nsUnit != 0)
  modCtx c (fun x =>
    if x.periodic then
      let t := now + ((((x.due : Int) - (now : Int)) % (x.period : Int)).toNat)
      { x.setDue t with st := .armed, overdue := false }
    else { x with st := if x.remain = 0 then .done else .armed }) s

/-! ## TIME_ADJUST (R458-R465) -/

/-- A time of the parameters in units of 2^-48 ns: T_SEC, T_NS and T_FRAC. -/
def adjTime (c : Packet) : Nat := (totalNs (pf c 2 6) (pf c 8 4 % 2 ^ 30)) * nsUnit + pf c 12 2 * 2 ^ 32

/-- FREQ as a signed value in 2^-16 ppm. -/
def adjFreq (c : Packet) : Int := signed 32 (pf c 14 4)

/-- NEG: the adjustment is backward. -/
def adjNeg (c : Packet) : Bool := bitsOf (pf c 8 4) 31 31 == 1

/-- The end of the clock's range. -/
def clockEnd : Nat := 2 ^ 48 * 1000000000 * nsUnit

/-- The time to which a SET, STEP or SLEW takes the clock. -/
def adjTarget (c : Packet) (s : State) : Int :=
  if pb c 0 = 1 then (adjTime c : Int) else (s.time.t : Int) + (if adjNeg c then -(adjTime c : Int) else (adjTime c : Int))

/-- TIME_ADJUST is malformed (R462). -/
def adjBad (c : Packet) (s : State) : Bool :=
  let k := pb c 0
  plen c ≠ 23 || decide (k < 1 ∨ 6 < k) || decide (3 ≤ pb c 1) || bitsOf (pf c 8 4) 30 30 == 1 || !nsOk (pf c 8 4 % 2 ^ 30)
    || (k == 3 && decide (adjFreq c < -32768000 ∨ 32768000 < adjFreq c))
    || (k == 4 && decide (pf c 14 4 < 65536 ∨ 6553600 < pf c 14 4 ∨ 1000000000 * nsUnit < adjTime c))
    || (k == 5 && decide (adjTime c < s.time.t + 10000000 * nsUnit))
    || ((k == 1 || k == 2 || k == 4) && decide (adjTarget c s < 0 ∨ (clockEnd : Int) ≤ adjTarget c s))

/-- The adjustment of each KIND, with DISC (R456, R460-R464). -/
def adjApply (c : Packet) (s : State) : State :=
  let d := pb c 1
  let s1 := if d = 0 then s else wrG F.TIME_STATUS_DISCIPLINED (bit (d == 2)) s
  match pb c 0 with
  | 1 => stepClock (adjTime c) s1
  | 2 => stepClock (adjTarget c s).toNat s1
  | 3 => updateClamp (modTime (fun t => { t with freq := adjFreq c }) s1)
  | 4 =>
    if adjTime c = 0 then endSlew s1
    else wrG F.TIME_STATUS_SLEWING 1 (modTime (fun t => { t with slew := some ⟨adjTime c, adjNeg c, pf c 14 4⟩ }) s1)
  | 5 => modTime (fun t => { t with anchor := some (pf c 18 5, adjTime c / nsUnit, adjTime c % nsUnit / 2 ^ 32) }) s1
  | _ => s1

/-- The reply of TIME_ADJUST: the time after it, the epoch, and whether HOLD is in force (R458). -/
def adjReply (c : Packet) (s : State) : List Byte :=
  let s1 := adjApply c s
  natBE 6 (nowSec s1) ++ natBE 4 (nowNs s1) ++ natBE 2 (s1.time.t % nsUnit / 2 ^ 32) ++ natBE 2 s1.time.epoch
    ++ natBE 1 (rdG s1 F.TIME_STATUS_HOLD)

/-- The checks and effect of TIME_ADJUST (R459-R464). -/
def timeAdjustPlan (c : Packet) (_ : Option Role) (s : State) : Plan :=
  firstOf
    [ bad (adjBad c s), gated s 0x10, busyIf s (pb c 0 == 5 && anyPort s onGrid) ]
    (Plan.done .ok (adjReply c s) (adjApply c))

/-- TIME_ADJUST (R458). -/
def opTimeAdjust : Opcode := ⟨0x60, some .installer, false, true, noArea, timeAdjustPlan⟩

/-- TIME_ADJUST: R459-R465. -/
def execTimeAdjust (c : Packet) (s : State) : Host.Outcome State Fault Refusal := .next (runOpcode opTimeAdjust c s)

/-- HOLD ends (R473, R474). -/
def endHold (s : State) : State := forL (ctxsWhere s (fun x => x.st == .held)) releaseCtx (wrG F.TIME_STATUS_HOLD 0 s)

/-- The checks and effect of TIME_ACK (R473). -/
def timeAckPlan (c : Packet) (_ : Option Role) (s : State) : Plan :=
  let hold := rdG s F.TIME_STATUS_HOLD == 1
  firstOf
    [ bad (plen c ≠ 2 || (hold && decide (pf c 0 2 ≠ s.time.epoch % 65536))), gated s 0x10 ]
    (Plan.done .ok [] (fun s => if hold then endHold s else s))

/-- TIME_ACK (R458). -/
def opTimeAck : Opcode := ⟨0x61, some .installer, false, true, noArea, timeAckPlan⟩

/-- TIME_ACK: R473, R474. -/
def execTimeAck (c : Packet) (s : State) : Host.Outcome State Fault Refusal := .next (runOpcode opTimeAck c s)

/-! ## LAUNCH_CTX_SET (R486, R487) -/

/-- The fields of a configuration are out of range (R485, R487). -/
def ctxBad (c : Packet) (s : State) : Bool :=
  let fl := pb c 4
  !hasPort s (pb c 3) || bitsOf fl 1 0 == 3 || decide (pb c 5 < 1 ∨ 64 < pb c 5)
    || (bitsOf fl 3 3 == 1 && decide (pf c 16 4 < 10000 ∨ 4000000000 < pf c 16 4))

/-- The queue of a context is discarded into DROPPED. -/
def Ctx.flush (x : Ctx) : Ctx := { x with queue := [], dropped := x.dropped + x.queue.length }

/-- A context after LAUNCH_CTX_SET (R487). -/
def ctxAfter (c : Packet) (s : State) : Ctx :=
  let x := ctx s (pf c 0 2)
  match pb c 2 with
  | 1 =>
    let x := { x with launched := 0, missed := 0, dropped := 0 }
    let x := if x.port = pb c 3 then x else x.flush
    let per := bitsOf (pb c 4) 3 3 == 1
    { x with st := .armed, port := pb c 3, flags := pb c 4, queueMax := pb c 5, sec := pf c 6 6, ns := pf c 12 4, period := pf c 16 4,
             remain := if per then pf c 20 4 else 1, overdue := decide (totalNs (pf c 6 6) (pf c 12 4) < nowTotal s) }
  | 2 => { x.flush with st := .idle, overdue := false }
  | _ => x.flush

/-- The checks and effect of LAUNCH_CTX_SET (R486, R487). -/
def launchCtxPlan (c : Packet) (_ : Option Role) (s : State) : Plan :=
  let a := pb c 2
  let x := ctxAfter c s
  firstOf
    [ bad (plen c ≠ 24 || decide (16383 < pf c 0 2) || decide (a < 1 ∨ 3 < a) || decide (32 ≤ pb c 4) || !nsOk (pf c 12 4)
        || (a == 1 && ctxBad c s)),
      gated s 0x10 ]
    (Plan.done .ok (((ctxBytes x).take 1) ++ natBE 6 x.sec ++ natBE 4 x.ns) (fun s => modCtx (pf c 0 2) (fun _ => ctxAfter c s) s))

/-- LAUNCH_CTX_SET (R458). -/
def opLaunchCtxSet : Opcode := ⟨0x62, some .installer, false, true, noArea, launchCtxPlan⟩

/-- LAUNCH_CTX_SET: R486, R487. -/
def execLaunchCtxSet (c : Packet) (s : State) : Host.Outcome State Fault Refusal := .next (runOpcode opLaunchCtxSet c s)

/-! ## Slew, ramp and anchor (R461, R464, R465) -/

/-- SLEW_END: the whole adjustment has been added (R461). -/
def execSlewEnd (s : State) : Host.Outcome State Fault Refusal :=
  .next (match s.time.slew with
    | some x => if s.time.running then endSlew (moveClock x.back x.left s) else s
    | none => s)

/-- Move a rate towards its goal by at most a step. -/
def toward (x goal : Int) (step : Nat) : Int := if x < goal then min goal (x + step) else max goal (x - step)

/-- GRID_RAMP: the grid's rate moves for `ds` tenths of a second at 2 ppm per second towards FREQ, no further than ±50 ppm (R465). -/
def execGridRamp (ds : Nat) (s : State) : Host.Outcome State Fault Refusal :=
  .next (if s.time.running then
    updateClamp (modTime (fun t => { t with gridFreq := toward t.gridFreq (clampFreq t.freq) (ds * 131072 / 10) }) s) else s)

/-- ANCHOR: the anchor's time arrives: the boundary of S_ANCHOR stands at the stated time (R464). -/
def execAnchor (s : State) : Host.Outcome State Fault Refusal :=
  .next (match s.time.anchor with
    | some (k, ns, frac) =>
      if s.time.running = true ∧ ns * nsUnit + frac * 2 ^ 32 ≤ s.time.t then
        evG F.TIME_EVENTS_ANCHOR (wrG F.TIME_STATUS_ANCHORED 1
          (modTime (fun t => { t with anchor := none, s := k, sTime := ns, sFrac := frac }) s))
      else s
    | none => s)

/-! ## Time transfer (R496-R500) -/

/-- The port carries time transfer: Siruigo 2 with time transfer agreed, in service, TT_EN 1 (R165, R496). -/
def ttOn (s : State) (n : Nat) : Bool :=
  inService s n && (port s n).tr.timeXfer && (port s n).tr.ver == 2 && rdP s n F.PTP_CTRL_TT_EN == 1

/-- The reference pair (R497). -/
def refPair (s : State) (n : Nat) : Nat := if threePair s n && absentPair s n == 0 then 1 else 0

/-- The measured skew of the reference pair relative to pair A, in units of 1/256 ns. -/
def refSkew (s : State) (n : Nat) : Int := if refPair s n = 1 then signed 16 (rdP s n F.TT_SKEW_B) else 0

/-- The mean of the latest delays. -/
def meanDelay (l : List Int) : Int := l.sum / (max 1 l.length : Nat)

/-- Every value lies within ±4 ns of the mean (R498). -/
def inBand (l : List Int) : Bool := l.all (fun d => decide (d - meanDelay l ≤ 1024 ∧ meanDelay l - d ≤ 1024))

/-- Show the mean delay. -/
def showDelay (n : Nat) (l : List Int) (s : State) : State :=
  let d := unsigned 32 (meanDelay l)
  wrP n F.TT_DELAY_HI (d / 65536) (wrP n F.TT_DELAY_LO (d % 65536) (modTt n (fun x => { x with delays := l }) s))

/-- DELAY loses validity (R498). -/
def loseDelay (n : Nat) (s : State) : State := evP n F.PTP_EVENTS_TT_LOST (wrP n F.TT_STATUS_VALID 0 s)

/-- TIME_REPORT: the master takes the one-way delay: half of ε − TURN, plus TS_ASYM and the reference pair's skew (R496-R498).
Both intervals are in units of 1/256 ns. -/
def timeReport (n : Nat) (turn eps : Int) (s : State) : State :=
  if !(ttOn s n && isMaster s n) then s
  else
    let d := (eps - turn) / 2 + signed 16 (rdP s n F.TS_ASYM) * 32 + refSkew s n
    let s0 := modTt n (fun x => { x with lastReport := s.time.s }) s
    let old := (ttPort s n).delays
    let l := (d :: old).take 8
    let reps := rdP s n F.TT_STATUS_REPORTS
    if rdP s n F.TT_STATUS_VALID = 1 then
      if d - meanDelay old ≤ 1024 ∧ meanDelay old - d ≤ 1024 then showDelay n l (wrP n F.TT_STATUS_REPORTS (min 255 (reps + 1)) s0)
      else showDelay n [d] (wrP n F.TT_STATUS_REPORTS 1 (loseDelay n s0))
    else if inBand l then
      showDelay n l (wrP n F.TT_STATUS_VALID (bit (decide (7 ≤ reps))) (wrP n F.TT_STATUS_REPORTS (min 255 (reps + 1)) s0))
    else showDelay n [d] (wrP n F.TT_STATUS_REPORTS 1 s0)

/-- TIME_REPORT: R496-R498. The partner's SKEW is taken and not used. -/
def execTimeReport (n : Port) (_sf : BitVec 40) (turn : BitVec 32) (_skew : List (BitVec 16)) (eps : Int) (s : State) :
    Host.Outcome State Fault Refusal := .next (timeReport n.val (signed 32 turn.toNat) eps s)

/-- TT_LOST: 64 superframes without a report (R498). -/
def execTtLost (n : Port) (s : State) : Host.Outcome State Fault Refusal :=
  .next (if rdP s n.val F.TT_STATUS_VALID = 1 ∧ (ttPort s n.val).lastReport + 64 ≤ s.time.s then
    loseDelay n.val (wrP n.val F.TT_STATUS_REPORTS 0 (modTt n.val (fun x => { x with delays := [] }) s)) else s)

/-- TIME_MARK: a slave compares its arrival of the boundary, in units of 1/256 ns, with what the master gives (R500). -/
def execTimeMark (n : Port) (_sf : BitVec 40) (sec : BitVec 48) (ns : BitVec 30) (frac _epoch : BitVec 16) (delay : BitVec 32)
    (valid _disc stepped : Bool) (arrival : Nat) (s : State) : Host.Outcome State Fault Refusal :=
  let k := n.val
  .next (if ttOn s k && !isMaster s k && valid && !stepped then
      let t := totalNs sec.toNat ns.toNat * 256 + frac.toNat / 256
      let o := unsigned 48 ((arrival : Int) - (t : Int) - (delay.toNat : Int))
      wrP k F.TT_OFFSET_HI (o / 2 ^ 32) (wrP k F.TT_OFFSET_MID (o / 65536 % 65536) (wrP k F.TT_OFFSET_LO (o % 65536) s))
    else s)

/-- TIME_MARK_SEND: the master describes the boundary of the current superframe, the slave reports TURN and SKEW, at least every 16
superframes; the skew measured is what TT_SKEW shows (R165, R497, R499, R500). -/
def execTimeMarkSend (n : Port) (turn : BitVec 32) (skew : List (BitVec 16)) (s : State) : Host.Outcome State Fault Refusal :=
  let k := n.val
  .next (if !ttOn s k then s
    else
      let w := fun i => (skew.getD i 0).toNat
      let s1 := wrP k F.TT_SKEW_D (w 2) (wrP k F.TT_SKEW_C (w 1) (wrP k F.TT_SKEW_B (w 0) s))
      let sf := BitVec.ofNat 40 (toLink s k s.time.s)
      if isMaster s k then
        let t := s.time.sTime
        let delay := rdP s k F.TT_DELAY_HI * 65536 + rdP s k F.TT_DELAY_LO
        let stepped := match (ttPort s k).markEpoch with | some e => e != s.time.epoch | none => false
        let m := MsgBody.timeMark sf (BitVec.ofNat 48 (t / 1000000000)) (BitVec.ofNat 30 (t % 1000000000)) (BitVec.ofNat 16 s.time.sFrac)
          (BitVec.ofNat 16 s.time.epoch) (BitVec.ofNat 32 delay) (rdP s k F.TT_STATUS_VALID == 1)
          (rdG s F.TIME_STATUS_DISCIPLINED == 1) stepped
        sendMsg k 0x40 false m (modTt k (fun x => { x with markEpoch := some s.time.epoch }) s1)
      else sendMsg k 0x41 false (.timeReport sf turn (skew.take 3)) s1)

end Sys2Proof.Machine
end

