-- ==== Sys2Proof/Machine/Diagnose.lean ====
section
/-!
DEFINITION. Cable and bundle diagnostics (R361-R395): DIAG_START, DIAG_RESULT, reflectometry, the noise floor, the crosstalk
ranking and capture.
-/
namespace Sys2Proof.Machine

/-! ## Starting (R361-R366, R377, R387, R388) -/

/-- A field of ARGS lies outside its range; 0 selects the default (R363). -/
def argBad (v lo hi : Nat) : Bool := decide (v ≠ 0 ∧ (v < lo ∨ hi < v))

/-- ARGS of a kind are out of range (R377, R387); kinds 0x03 and 0x04 take none. -/
def argsBad (kind : Nat) (a : List Byte) : Bool :=
  match kind with
  | 1 | 2 => argBad (beAt a 0 2) 500 900 || argBad (beAt a 2 2) 10 200 || argBad (byteAt a 4) 40 80 || (a.drop 5).any (· != 0)
  | 5 => decide (byteAt a 0 < 1 ∨ 3 < byteAt a 0) || decide (4 < byteAt a 1) || decide (100 < byteAt a 2) || byteAt a 3 != 0
      || (a.drop 6).any (· != 0)
  | _ => a.any (· != 0)

/-- A field of ARGS with its default. -/
def argOr (v d : Nat) : Nat := if v = 0 then d else v

/-- The steps n of a kind (R362). -/
def diagSteps (kind pairs : Nat) : Nat :=
  match kind with
  | 1 => (maskPairs pairs).length + 1
  | 4 => 1
  | 5 => 3
  | _ => 2

/-- A kind uses the capture store (R362). -/
def usesStore (kind : Nat) : Bool := kind == 3 || kind == 5

/-- The port is in the state that a kind requires (R362, R388). -/
def diagReady (s : State) (kind n : Nat) (a : List Byte) : Bool :=
  match kind with
  | 1 | 3 => !enabled s n || (port s n).st == .listen
  | 2 => inService s n
  | 5 => (byteAt a 0 == 1 || isSir s n) && (byteAt a 1 != 3 || rdP s n F.LINK_CTRL_SHUTTER_EN == 1)
  | _ => true

/-- The capture store is held by a diagnostic, a join or a Survey (R284). -/
def storeHeld (s : State) : Bool := s.diag.holder.isSome || s.ch.join.isSome || s.ch.survey.isSome

/-- The run that an accepted DIAG_START queues. -/
def newRun (c : Packet) (op : Nat) : DiagRun :=
  { op := op, kind := pb c 0, port := pb c 1, pairs := pb c 2, sec := pf c 4 6, ns := pf c 10 4, args := slice c.params 14 8,
    begun := false, stage := 0, pairsLeft := maskPairs (pb c 2), repeats := 0, startS := 0, startSec := 0, startNs := 0,
    records := if pb c 0 = 1 ∨ pb c 0 = 2 then List.replicate 4 noRecord else [], partialDone := false, endS := none }

/-- The checks and effect of DIAG_START (R363-R366). -/
def diagStartPlan (c : Packet) (role : Option Role) (s : State) : Plan :=
  let kind := pb c 0
  let n := pb c 1
  let args := slice c.params 14 8
  firstOf
    [ bad (plen c ≠ 22 || decide (kind < 1 ∨ 5 < kind) || !hasPort s n || decide (15 < pb c 2) || (kind != 4 && pb c 2 == 0)
        || pb c 3 != 0 || !nsOk (pf c 10 4) || argsBad kind args),
      gated s (groupOf n), gated s 18, inAudit s (groupOf n),
      busyIf s (s.diag.runs.any (fun r => r.port == n) || (usesStore kind && storeHeld s)),
      chk (!diagReady s kind n args) (Plan.done .notReady [] id) ]
    (Plan.long s 0x40 role (diagSteps kind (pb c 2)) (fun op s =>
      modDiag (fun d => { d with runs := d.runs ++ [newRun c op], holder := if usesStore kind then some op else d.holder }) s))

/-- DIAG_START (R361). -/
def opDiagStart : Opcode := ⟨0x40, some .installer, false, true, noArea, diagStartPlan⟩

/-- DIAG_START: R361-R366. -/
def execDiagStart (c : Packet) (s : State) : Host.Outcome State Fault Refusal := .next (runOpcode opDiagStart c s)

/-- The checks and results of DIAG_RESULT (R392, R394). -/
def diagResultPlan (c : Packet) (_ : Option Role) (s : State) : Plan :=
  let op := pf c 0 4
  match s.diag.results.find? (fun r => r.op == op) with
  | some r => firstOf [ bad (plen c ≠ 4) ] (Plan.done .ok (r.header ++ r.data) id)
  | none => firstOf [ bad (plen c ≠ 4 || (findRun s op).isNone) ] (Plan.busy s)

/-- DIAG_RESULT (R361). -/
def opDiagResult : Opcode := ⟨0x41, some .installer, false, false, noArea, diagResultPlan⟩

/-- DIAG_RESULT: R392, R394. -/
def execDiagResult (c : Packet) (s : State) : Host.Outcome State Fault Refusal := .next (runOpcode opDiagResult c s)

/-! ## Steps and ITEM entries (R395, R538) -/

/-- The stated start time of a run has come (R366). -/
def runDue (s : State) (r : DiagRun) : Bool := decide (totalNs r.sec r.ns ≤ nowTotal s)

/-- A run reaches step k: its ITEM entry gives the pairs done. -/
def diagStep (r : DiagRun) (k done : Nat) (s : State) : State :=
  let n := diagSteps r.kind r.pairs
  opItem r.op 0 r.port done 0 (opProgress r.op k n (100 * (k - 1) / n) (modRun r.op (fun x => { x with stage := k }) s))

/-- A run begins: its start is named in the Journal (R366, R392). -/
def runBegin (r : DiagRun) (sf : Nat) (s : State) : State :=
  let t := if r.kind = 3 then sfStart s sf else nowTotal s
  let sf' := if onGrid s r.port then sf else 0
  opStep r.op sf (modRun r.op (fun x => { x with begun := true, stage := 1, startS := sf', startSec := t / 1000000000,
                                                 startNs := t % 1000000000 }) s)

/-! ## Reflections (R373-R378) -/

/-- An event of R374: its type, the other pair, the distance and the magnitude. -/
structure CableEvent where
  type : Nat
  other : Nat
  dm : Nat
  mag : Nat
  deriving DecidableEq, Repr

/-- The type of a reflection (R374): none below the event threshold. -/
def echoType (e : Echo) (threshold : Nat) : Option Nat :=
  if e.cross.isSome then some 3
  else if e.mag ≤ 8 then some (if e.positive then 1 else 2)
  else if e.mag ≤ 40 then some (if e.positive then 4 else 5)
  else if e.mag ≤ threshold then some 6
  else none

/-- Merge reflections less than 1.5 m apart into the stronger, nearest first (R375). -/
def mergeEchoes : List Echo → List Echo
  | [] => []
  | e :: t =>
    match mergeEchoes t with
    | [] => [e]
    | f :: r => if f.dm < e.dm + 15 then (if e.mag ≤ f.mag then e else f) :: r else e :: f :: r

/-- The events of a pair (R373-R375): outside the dead zone, within the range, merged, at most four; an active run that finds no
end adds BEYOND, whose distance and magnitude spec/ does not give (assumption 7). -/
def cableEvents (passive : Bool) (range threshold draw : Nat) (l : List Echo) : List CableEvent :=
  let near := sortBy (fun a b : Echo => decide (a.dm ≤ b.dm)) (l.filter (fun e => decide (10 ≤ e.dm) && (passive || decide (e.dm ≤ 10 * range))
    && (echoType e threshold).isSome))
  let ev := (mergeEchoes near).map (fun e => (⟨(echoType e threshold).getD 0, (e.cross.map (·.val)).getD 0, e.dm, min 255 e.mag⟩ : CableEvent))
  let ev := if passive then ev.filter (fun e => 4 ≤ e.type) else ev
  let ended := ev.any (fun e => decide (1 ≤ e.type ∧ e.type ≤ 3))
  let ev := if passive || ended then ev else ev ++ [⟨7, 0, Config.pick draw % 65536, Config.pick (draw + 1) % 256⟩]
  ev.take 4

/-- The 4 bytes of an event (R378). -/
def eventBytes (e : CableEvent) : List Byte := natBE 1 (e.type * 16 + e.other * 4) ++ natBE 2 e.dm ++ natBE 1 e.mag

/-- The 20-byte record of a pair (R378). -/
def pairRecord (flags nvp : Nat) (ev : List CableEvent) : List Byte :=
  let b := natBE 1 flags ++ natBE 1 ev.length ++ natBE 2 nvp ++ ev.flatMap eventBytes
  b ++ List.replicate (20 - b.length) 0

/-- Put the record of a pair into a run. -/
def setRecord (op p : Nat) (b : List Byte) : State → State := modRun op (fun r => { r with records := r.records.set p b })

/-- LISTEN_DIAG of a pair after an active run on a port in Listen (R378). -/
def showListenDiag (n p : Nat) (ev : List CableEvent) (s : State) : State :=
  if (port s n).st = .listen then
    wrReg (portBase n + 0x70894 + 4 * p) (listenWord ((ev.find? (fun e => e.type == 1)).map (fun e => BitVec.ofNat 11 e.dm))) s
  else s

/-- A pair of an active run is done; after the last the events are classified and the operation ends (R367, R370, R395). -/
def pairDone (r : DiagRun) (s : State) : State :=
  let r1 := { r with pairsLeft := r.pairsLeft.drop 1 }
  let s1 := modRun r.op (fun x => { x with pairsLeft := x.pairsLeft.drop 1, repeats := 0 }) s
  let k := pairsDone r1 + 1
  let s2 := diagStep r k (pairsDone r1) s1
  if r1.pairsLeft.isEmpty then diagEnd r.op (if (findRun s2 r.op).any (·.partialDone) then .partialDone else .ok) s2 else s2

/-- ACTIVE_ACQUISITION: the 64 periods of the next pair are over, some of them discarded for voltage steps; more than 32 repeat it, up to
three times (R367, R370). -/
def execActiveAcquisition (n : Port) (discarded : Nat) (echoes : List Echo) (s : State) : Host.Outcome State Fault Refusal :=
  .next (match portRun s n.val with
    | some r =>
      match r.pairsLeft with
      | p :: _ =>
        if r.kind ≠ 1 then s
        else if diagReady s 1 n.val r.args = false then diagEnd r.op .notReady s
        else if 32 < discarded then
          if r.repeats < 3 then modRun r.op (fun x => { x with repeats := x.repeats + 1 }) s
          else pairDone r (modRun r.op (fun x => { x with partialDone := true })
            (setRecord r.op p (pairRecord 0x40 (argOr (beAt r.args 0 2) 690) []) s))
        else
          let ev := cableEvents false (argOr (beAt r.args 2 2) 150) (argOr (byteAt r.args 4) 60) s.draws echoes
          pairDone r (showListenDiag n.val p ev (setRecord r.op p (pairRecord 0x80 (argOr (beAt r.args 0 2) 690) ev) (draw (draw s))))
      | [] => s
    | none => s)

/-- INPUT_BUSY: line energy of a partner abandons an active run or a noise-floor measurement; a port in Listen negotiates (R371,
R383). -/
def execInputBusy (n : Port) (s : State) : Host.Outcome State Fault Refusal :=
  let s1 := diagBusy n.val s
  .next (if (port s1 n.val).st = .listen then leaveListen n.val s1 else s1)

/-- PASSIVE_COPY: at the first boundary at or after the start the echo coefficients of the requested pairs are copied, and the
reflections derived from them (R372, R373). -/
def execPassiveCopy (n : Port) (echoes : List (List Echo)) (s : State) : Host.Outcome State Fault Refusal :=
  .next (match portRun s n.val with
    | some r =>
      if r.kind ≠ 2 then s
      else if inService s n.val = false then diagEnd r.op .notReady s
      else
        let nvp := argOr (beAt r.args 0 2) 690
        let rec1 := fun i p => if threePair s n.val && absentPair s n.val == p then pairRecord 0x20 nvp []
          else pairRecord 0xA0 nvp (cableEvents true 0 (argOr (byteAt r.args 4) 60) s.draws (echoes.getD i []))
        let s1 := forL ((maskPairs r.pairs).mapIdx (fun i p => (i, p))) (fun e s => setRecord r.op e.2 (rec1 e.1 e.2) s) s
        let s2 := modRun r.op (fun x => { x with pairsLeft := [], startS := if onGrid s n.val then s.time.s else 0 }) s1
        diagEnd r.op .ok (diagStep r 2 (maskPairs r.pairs).length s2)
    | none => s)

/-! ## The noise floor (R379-R383) -/

/-- A level as stored: 0xFF for tone 0 and for notched tones, readings capped at 0xFE (R380). -/
def levelByte (nots : List (Nat × Nat)) (t : Nat) (b : Byte) : Byte :=
  if t = 0 || notched nots t then 0xFF else BitVec.ofNat 8 (min 0xFE b.toNat)

/-- The curve of each pair A..D, 0xFF for those not requested (R381). -/
def curves (nots : List (Nat × Nat)) (pairs : Nat) (l : List (List Byte)) : List (List Byte) :=
  (List.range 4).map (fun p =>
    if bitsOf pairs p p = 1 then
      let c := l.getD (maskPairs (pairs % 2 ^ p)).length []
      (List.range 4096).map (fun t => levelByte nots t (c.getD t 0xFF))
    else List.replicate 4096 0xFF)

/-- The mean level of a band of 256 tones (R382), over the tones that have one. -/
def bandMean (c : List Byte) (b : Nat) : Byte :=
  let l := (slice c (256 * b) 256).filter (· != 0xFF)
  if l.isEmpty then 0xFF else BitVec.ofNat 8 ((l.map (·.toNat)).sum / l.length)

/-- NOISE_FLOOR_WINDOW_END: the curves go to the capture store, the floor record is written for the pairs measured (R381, R382, R395).
The header's trigger fields, which spec/ gives for captures only, are free. -/
def execNoiseFloorWindowEnd (n : Port) (total unexpl : List (List Byte)) (s : State) : Host.Outcome State Fault Refusal :=
  .next (match portRun s n.val with
    | some r =>
      if r.kind ≠ 3 ∨ ¬ (r.endS.any (fun k => decide (k ≤ s.time.s)) = true) then s
      else if diagReady s 3 n.val r.args = false then diagEnd r.op .notReady s
      else
        let nots := notches s n.val
        let un := curves nots r.pairs unexpl
        let bands := fun p => (List.range 16).map (bandMean (un.getD p []))
        let s1 := writeMem 0x400040 ((curves nots r.pairs total).flatten ++ un.flatten) (capHeader r 0 32768 (storeWrite s))
        let s2 := writeMem 0x400009 (natBE 15 (Config.pick s.draws)) (draw s1)
        let base := portBase n.val + 0x3200
        let s3 := writeMem base (natBE 6 (s.time.sTime / 1000000000) ++ natBE 4 (s.time.sTime % 1000000000)) s2
        let s4 := forL (maskPairs r.pairs) (fun p s => writeMem (base + 10 + 16 * p) (bands p) s) s3
        let data := (List.range 4).flatMap (fun p => readMem s4 (base + 10 + 16 * p) 16)
        diagEnd r.op .ok (diagStep r 2 (maskPairs r.pairs).length (modRun r.op (fun x => { x with records := [data] }) s4))
    | none => s)

/-! ## The crosstalk ranking (R384, R385) -/

/-- The bands in which a victim pair has loaded tones. -/
def loadedBands (s : State) (v : Nat) : List Nat :=
  let l := (readTable s (v / 4) 1).getD (v % 4) []
  (List.range 16).filter (fun b => (slice' l (256 * b) 256).any (fun e => e.bits.val != 0))
where
  /-- Entries i .. i + n - 1 of a table. -/
  slice' (l : List LoadEntry) (i n : Nat) : List LoadEntry := (l.drop i).take n

/-- The mean coupling byte of a disturber over bands with a measured coupling; none where there is none. -/
def meanCoupling (s : State) (v set d : Nat) (bands : List Nat) : Option Nat :=
  let l := (bands.map (coupling s v set d)).filter (· != 255)
  if l.isEmpty then none else some (l.sum / l.length)

/-- FLAGS of a ranking item: NO_LOT and PART_LOT (R385). -/
def lotFlags (s : State) (v set d : Nat) (bands : List Nat) : Nat :=
  let has := bands.filter (fun b => (heldLots s v set b).any (fun e => e.2.dist == d))
  if has.isEmpty then 1 else if has.length < bands.length then 2 else 0

/-- The eight items of a victim pair and set (R385). -/
def rankItems (s : State) (v set : Nat) : List Byte :=
  let bands := loadedBands s v
  let all := (List.range 192).filterMap (fun d => (meanCoupling s v set d bands).map (fun u => (u, d)))
  let top := (sortBy (fun a b : Nat × Nat => decide (a.1 ≤ b.1)) all).take 8
  let b := top.flatMap (fun e => natBE 1 e.2 ++ natBE 1 e.1 ++ natBE 1 (lotFlags s v set e.2 bands))
  b ++ List.replicate (24 - b.length) 0xFF

/-- The 288 bytes of a port's ranking. -/
def ranking (s : State) (n : Nat) : List Byte := (List.range 4).flatMap (fun p => (List.range 3).flatMap (rankItems s (4 * n + p)))

/-! ## Capture (R386-R391) -/

/-- A capture's trigger: step 2, with the superframe and the time of the trigger (R388, R389). -/
def captureTrigger (r : DiagRun) (s : State) : State :=
  let s1 := writeMem 0x400009 (natBE 5 s.time.s ++ natBE 6 (nowSec s) ++ natBE 4 (nowNs s)) s
  diagStep r 2 0 s1

/-- CAPTURE_TRIGGER: the armed trigger of a capture occurs (R388). -/
def execCaptureTrigger (n : Port) (cause : Fin 5) (s : State) : Host.Outcome State Fault Refusal :=
  .next (match portRun s n.val with
    | some r => if r.kind = 5 ∧ r.stage = 1 ∧ byteAt r.args 1 = cause.val then captureTrigger r s else s
    | none => s)

/-- CAPTURE_FILLED: the rest of the capture is filled, and it is complete (R388, R389, R395). -/
def execCaptureFilled (n : Port) (data : List Byte) (s : State) : Host.Outcome State Fault Refusal :=
  .next (match portRun s n.val with
    | some r =>
      if r.kind = 5 ∧ r.stage = 2 then
        let d := data.take (4194304 - 64)
        diagEnd r.op .ok (diagStep r 3 (maskPairs r.pairs).length (writeMem 0x400040 d (capHeader r 0 d.length (storeWrite s))))
      else s
    | none => s)

/-- CAPTURE_TIMEOUT: no trigger within TIMEOUT (R390). -/
def execCaptureTimeout (n : Port) (s : State) : Host.Outcome State Fault Refusal :=
  .next (match portRun s n.val with
    | some r => if r.kind = 5 ∧ r.stage = 1 then diagEnd r.op .ok (capHeader r 2 0 s) else s
    | none => s)

/-! ## DIAG_BEGIN (R366, R369) -/

/-- An active run must wait: another runs, or an earlier one that is due waits (R369). -/
def activeWaits (s : State) (r : DiagRun) : Bool :=
  s.diag.runs.any (fun x => x.kind == 1 && x.begun)
    || (s.diag.runs.takeWhile (fun x => x.op != r.op)).any (fun x => x.kind == 1 && runDue s x)

/-- A run begins: the ranking is made at once; a noise-floor window is the first that begins after the start; a capture records, and one
without a trigger is triggered (R366, R379, R385, R388). -/
def diagBegin (r : DiagRun) (s : State) : State :=
  match r.kind with
  | 3 =>
    let k := (s.time.s / 512 + 1) * 512
    runBegin r k (modRun r.op (fun x => { x with endS := some (k + 512) }) s)
  | 4 =>
    let s1 := runBegin r s.time.s s
    diagEnd r.op .ok (diagStep r 1 4 (modRun r.op (fun x => { x with records := [ranking s r.port] }) s1))
  | 5 =>
    let s1 := diagStep r 1 0 (capHeader r 1 0 (storeWrite (runBegin r s.time.s s)))
    if byteAt r.args 1 = 0 then captureTrigger r s1 else s1
  | _ => runBegin r s.time.s s

/-- DIAG_BEGIN: the stated start of a queued diagnostic has come (R366); a port no longer in the state required ends it NOT_READY
(R392). -/
def execDiagBegin (n : Port) (s : State) : Host.Outcome State Fault Refusal :=
  .next (match s.diag.runs.find? (fun r => r.port == n.val && !r.begun) with
    | some r =>
      if !runDue s r || (r.kind == 1 && activeWaits s r) then s
      else if diagReady s r.kind n.val r.args = false then diagEnd r.op .notReady s
      else diagBegin r s
    | none => s)

end Sys2Proof.Machine
end

