-- ==== Sys2Proof/Machine/Calibrate.lean ====
section
/-!
DEFINITION. On-command calibration (R707-R732): CAL_RUN with its windows, measurements and attempts, the records that host software
reads and puts, and their commits.
-/
namespace Sys2Proof.Machine

/-! ## Records (R727, R730, R731) -/

/-- KIND of a target's record. -/
def recKind (t : Nat) : Nat := if t < 64 then 1 else 2

/-- A record as it is read: header, body and CRC (R727); `set` is 0 for Active. -/
def recordBytes' (s : State) (kind index set : Nat) (r : CalRec) (body : List Byte) (stale : Bool) : List Byte :=
  let fl := if r.body.isEmpty ∧ kind ≠ 3 then 2 else r.flags
  let b := natBE 2 0x4352 ++ [1] ++ natBE 1 kind ++ natBE 1 index ++ natBE 1 set ++ natBE 2 (body.length + 36) ++ natBE 4 r.seq
    ++ natBE 6 r.sec ++ natBE 4 r.ns ++ slice (vBytes s 0) 8 8 ++ [0xB0] ++ natBE 1 (bitsOf fl 1 0 + bit stale * 4) ++ body
  b ++ natBE 4 (crc32c b)

/-- The body of the device record: the codes of the power-up calibration (R728). -/
def deviceBody (s : State) : List Byte :=
  let part := fun b => let l := SMap.get s.cal.codes [] (calBlockCode b); l.take (codeLen b) ++ List.replicate (codeLen b - l.length) 0
  part .bias ++ part .pll ++ part .time ++ part .term ++ part .clkLane ++ List.replicate 4 0

/-- The record of a target. -/
def targetRecord (s : State) (t set : Nat) : List Byte :=
  let c := calTarget s t
  let r := if set = 0 then c.active else c.staged
  recordBytes' s (recKind t) (if t < 64 then t else t - 64) set r (recBody s t r) (rdFld s (calBase t) F.CAL_PORT_STALE == 1)

/-- The checks and results of CAL_RECORD_GET (R730). -/
def calGetPlan (c : Packet) (_ : Option Role) (s : State) : Plan :=
  let kind := pb c 0
  let i := pb c 1
  let set := pb c 2
  let ok := (kind == 1 && hasPort s i) || (kind == 2 && hasLane s i) || (kind == 3 && i == 0)
  let dev := recordBytes' s 3 0 set (if set = 0 then s.cal.device else CalRec.init) (if set = 0 then deviceBody s else List.replicate 128 0) false
  firstOf
    [ bad (plen c ≠ 4 || !ok || decide (2 ≤ set) || pb c 3 != 0) ]
    (Plan.done .ok (if kind = 3 then dev else targetRecord s (if kind = 1 then i else 64 + i) set) id)

/-- CAL_RECORD_GET (R520). -/
def opCalRecordGet : Opcode := ⟨0x51, some .installer, false, false, noArea, calGetPlan⟩

/-- CAL_RECORD_GET: R726-R730. -/
def execCalRecordGet (c : Packet) (s : State) : Host.Outcome State Fault Refusal := .next (runOpcode opCalRecordGet c s)

/-- The target that a record names by KIND and INDEX, where the part has it. -/
def putTarget (s : State) (b : List Byte) : Option Nat :=
  let i := byteAt b 4
  if byteAt b 3 = 1 ∧ hasPort s i = true then some i else if byteAt b 3 = 2 ∧ hasLane s i = true then some (64 + i) else none

/-- The roles of a set keep R708: no reserved role, and working elements that fill every position once. -/
def rolesOk (b : List Byte) (set p : Nat) : Bool :=
  let (_, _, _, want) := setPlace set p
  let l := setElems b set p
  let w := l.filter (fun e => e.role == 0)
  l.all (fun e => e.role != 3) && w.length == want && (List.range want).all (fun i => w.any (fun e => e.pos == i))

/-- The trims of a body lie within R710. -/
def trimsOk (b : List Byte) (t : Nat) : Bool :=
  let ok := fun set l => ((l : List Byte).mapIdx (fun i x => Config.trimOk set i x)).all (· == true)
  if t < 64 then
    (List.range 4).all (fun p => ((setElems b 1 p).all (fun e => ok 1 e.trims)) && ((setElems b 2 p).all (fun e => ok 2 e.trims))
      && ok 3 (slice b (216 * p + 208) 2))
  else (List.range 8).all (fun i => ok 4 (slice b (4 * i) 2))

/-- A record that host software supplies is good (R731). -/
def putOk (s : State) (b : List Byte) : Bool :=
  match putTarget s b with
  | some t =>
    let body := slice b 32 (b.length - 36)
    beAt b 0 2 == 0x4352 && byteAt b 2 == 1 && beAt b 6 2 == b.length && b.length == (if t < 64 then 900 else 68)
      && beAt b (b.length - 4) 4 == crc32c (b.take (b.length - 4)) && slice b 22 8 == slice (vBytes s 0) 8 8 && trimsOk body t
      && (decide (64 ≤ t) || (List.range 4).all (fun p => rolesOk body 1 p && rolesOk body 2 p))
  | none => false

/-- A CAL_RUN holds a target. -/
def calHeld (s : State) (t : Nat) : Bool := s.cal.runs.any (fun r => (if r.lane then 64 + r.index else r.index) == t)

/-- Every element set of a target as a mask of `CalRec.sets`. -/
def allSets (t : Nat) : Nat := if t < 64 then 0xFFF else 1

/-- The checks and effect of CAL_RECORD_PUT (R731). -/
def calPutPlan (c : Packet) (_ : Option Role) (s : State) : Plan :=
  let b := c.params
  let t := putTarget s b
  firstOf
    [ bad (plen c ≠ 68 && plen c ≠ 900), busyIf s (t.any (calHeld s)),
      chk (!putOk s b) (Plan.done .recordBad [] (evG F.CAL_EVENTS_RECORD_BAD)) ]
    (Plan.done .ok [] (fun s => modTarget (t.getD 0) (fun x => { x with staged :=
      ⟨beAt b 8 4, beAt b 12 6, beAt b 18 4, byteAt b 31 % 4, if byteAt b 31 % 2 = 1 then allSets (t.getD 0) else 0, slice b 32 (b.length - 36)⟩ }) s))

/-- CAL_RECORD_PUT (R520). -/
def opCalRecordPut : Opcode := ⟨0x52, some .installer, false, true, noArea, calPutPlan⟩

/-- CAL_RECORD_PUT: R731. -/
def execCalRecordPut (c : Packet) (s : State) : Host.Outcome State Fault Refusal := .next (runOpcode opCalRecordPut c s)

/-! ## CAL_COMMIT (R712, R732) -/

/-- The target of a TARGET and INDEX, where the part has it. -/
def calTargetOf (s : State) (kind i : Nat) : Option Nat :=
  if kind = 1 ∧ hasPort s i = true then some i else if kind = 2 ∧ hasLane s i = true then some (64 + i) else none

/-- The block whose clock and audit state a target's commands meet. -/
def calBlockOf (t : Nat) : Nat := if t < 64 then groupOf t else 12 + (t - 64)

/-- The checks and effect of CAL_COMMIT (R732). -/
def calCommitPlan (c : Packet) (_ : Option Role) (s : State) : Plan :=
  let t := calTargetOf s (pb c 0) (pb c 1)
  let n := t.getD 0
  let sir := decide (n < 64) && inService s n
  let k := hostFrame s (pf c 4 6) (pf c 10 4)
  firstOf
    [ bad (plen c ≠ 14 || t.isNone || !zeros c 2 2 || !nsOk (pf c 10 4)), gated s (calBlockOf n), inAudit s (calBlockOf n),
      busyIf s (calHeld s n || (calTarget s n).commit.isSome) ]
    (Plan.done .ok (natBE 5 (if sir then toLink s n k else 0))
      (modTarget n (fun x => { x with commit := some (if sir then .frame k else .time (pf c 4 6) (pf c 10 4)) })))

/-- CAL_COMMIT (R520). -/
def opCalCommit : Opcode := ⟨0x53, some .installer, false, true, noArea, calCommitPlan⟩

/-- CAL_COMMIT: R732. -/
def execCalCommit (c : Packet) (s : State) : Host.Outcome State Fault Refusal := .next (runOpcode opCalCommit c s)

/-- A pending commit that is due is made, unless a ramp of the record runs; a lane group's waits for training from step 2 (R713,
R732). -/
def commitDueCal (t : Nat) (s : State) : State :=
  match (calTarget s t).commit with
  | some w => if whenDue s w && !ramping s t && (decide (t < 64) || laneStep s (t - 64) == 2) then commitRecord t s else s
  | none => s

/-- CAL_COMMIT_APPLY: R712, R732. -/
def execCalCommitApply (t : CalTgt) (s : State) : Host.Outcome State Fault Refusal := .next (commitDueCal (tgtNo t) s)

/-! ## CAL_RUN (R715, R716) -/

/-- The number of a run's target. -/
def CalRun.tgt (r : CalRun) : Nat := if r.lane then 64 + r.index else r.index

/-- The run that holds a target. -/
def findCal (s : State) (t : Nat) : Option CalRun := s.cal.runs.find? (fun r => r.tgt == t)

/-- Change the run of a target. -/
def modCalRun (t : Nat) (f : CalRun → CalRun) : State → State :=
  modCal (fun c => { c with runs := c.runs.map (fun r => if r.tgt = t then f r else r) })

/-- A port can be calibrated one pair at a time in three-pair operation (R717). -/
def calByPair (s : State) (n : Nat) : Bool := inService s n && (port s n).tr.ver == 2 && allows3 s n && !threePair s n

/-- A port in three-pair operation whose named pairs are the absent one alone (R717). -/
def calInPlace (s : State) (n : Nat) (pairs : List Nat) : Bool :=
  inService s n && (port s n).tr.ver == 2 && threePair s n && pairs.all (· == absentPair s n)

/-- A port that is up must be taken down for a calibration (R717). -/
def calNeedsDrop (s : State) (n : Nat) (pairs : List Nat) : Bool := linkUp s n && !calByPair s n && !calInPlace s n pairs

/-- The steps n of a run (R716). -/
def calSteps (r : CalRun) : Nat := if r.lane then 2 else r.all.length + 1

/-- The run of an accepted CAL_RUN. -/
def newCalRun (c : Packet) (op : Nat) : CalRun :=
  let lane := pb c 0 == 2
  let ps := if lane then [0] else maskPairs (pb c 3)
  { op := op, lane := lane, index := pb c 1, elements := pb c 2, left := ps, all := ps, stageOnly := bitsOf (pb c 4) 0 0 == 1,
    allowDrop := bitsOf (pb c 4) 1 1 == 1, retries := pb c 5, sec := pf c 8 6, ns := pf c 14 4, phase := .waiting, inPlace := false,
    down := false, measured := false, busy := false, fresh := true, listen := false, short := [], outcomes := [] }

/-- The checks and effect of CAL_RUN (R715, R716). -/
def calRunPlan (c : Packet) (role : Option Role) (s : State) : Plan :=
  let t := calTargetOf s (pb c 0) (pb c 1)
  let n := t.getD 0
  let port' := pb c 0 == 1
  let ps := maskPairs (pb c 3)
  let r := newCalRun c 0
  firstOf
    [ bad (plen c ≠ 18 || t.isNone || decide (4 ≤ pb c 4) || decide (2 < pb c 5) || decide (3600 < pf c 6 2) || !nsOk (pf c 14 4)
        || (if port' then decide (pb c 2 < 1 ∨ 7 < pb c 2) || decide (pb c 3 < 1 ∨ 15 < pb c 3) else pb c 2 != 8 || pb c 3 != 0)),
      gated s (calBlockOf n), inAudit s (calBlockOf n),
      busyIf s (calHeld s n || (calTarget s n).commit.isSome
        || (if port' then s.diag.runs.any (fun r => r.port == n) else (lane s (n - 64)).test.isSome)),
      chk (port' && calNeedsDrop s n ps && !r.allowDrop) (Plan.done .notReady [] id) ]
    (Plan.long s 0x50 role (calSteps r) (fun op s =>
      wrFld (calBase n) F.CAL_PORT_RUNNING 1 (modCal (fun x => { x with runs := x.runs ++ [newCalRun c op] }) s)))

/-- CAL_RUN (R520). -/
def opCalRun : Opcode := ⟨0x50, some .installer, false, true, noArea, calRunPlan⟩

/-- CAL_RUN: R715, R716. -/
def execCalRun (c : Packet) (s : State) : Host.Outcome State Fault Refusal := .next (runOpcode opCalRun c s)

/-! ## The end of a pair, an attempt and a run (R723-R725) -/

/-- The element sets that ELEMENTS names, by the set codes of R725. -/
def calSets (elements : Nat) : List Nat := (List.range 4).filterMap (fun i => if bitsOf elements i i = 1 then some (i + 1) else none)

/-- Record the outcomes of a pair: an ITEM entry for each set (R725). -/
def calOutcome (t p : Nat) (codes : List Nat) (s : State) : State :=
  match findCal s t with
  | some r =>
    let s1 := modCalRun t (fun x => { x with outcomes := x.outcomes.filter (fun e => e.1 != p) ++ [(p, codes)] }) s
    forL ((calSets r.elements).zip codes) (fun e s => opItem r.op s.time.s r.index p (e.2 * 16 + e.1) s) s1
  | none => s

/-- One outcome for every set of a run. -/
def sameCode (r : CalRun) (code : Nat) : List Nat := (calSets r.elements).map (fun _ => code)

/-- The target goes back to service: the port negotiates again or resumes Listen, the lane group trains from step 2 (R720, R721,
R723). -/
def calResume (t : Nat) (s : State) : State :=
  match findCal s t with
  | some r =>
    if r.lane then
      if (lane s r.index).calIdle then laneGo r.index 2 (modLane r.index (fun l => { l with calIdle := false }) s) else s
    else if r.down then
      let s1 := modCalRun t (fun x => { x with down := false, listen := false }) s
      if r.listen then
        let tr := { Train.init with listenTx := true, listenLimit := 500 }
        wrP t F.SIR_TRAIN_STATUS_PHASE 7 (modPort t (fun p => { p with st := .listen, tr := tr }) s1)
      else if enabled s1 t then startAn t s1
      else s1
    else s
  | none => s

/-- The completion data of a run (R725). -/
def calData (s : State) (r : CalRun) : List Byte :=
  (r.all.flatMap (fun p =>
    let codes := ((r.outcomes.find? (fun e => e.1 == p)).map (·.2)).getD []
    natBE 1 p ++ codes.flatMap (natBE 1))) ++ natBE 4 (calTarget s r.tgt).active.seq

/-- A run ends with a status: its target is released and resumes. -/
def calEnd (t : Nat) (st : Status) (s : State) : State :=
  match findCal s t with
  | some r =>
    let s1 := calResume t s
    let s2 := modCal (fun c => { c with runs := c.runs.filter (fun x => x.tgt != t) }) s1
    endOpWith (st == .ok || st == .partialDone) r.op st (calData s2 r) (wrFld (calBase t) F.CAL_PORT_RUNNING 0 s2)
  | none => s

/-- Mark a target stale (R724). -/
def calStale (t attempts : Nat) (s : State) : State :=
  let s1 := journalEvent 0 0x38 (tgtCode t) attempts (evG F.CAL_EVENTS_STALE (wrFld (calBase t) F.CAL_PORT_STALE 1 s))
  if t < 64 then setReason t F.DEGRADE_UNCAL true s1 else s1

/-- An attempt ended INPUT_BUSY: FAILS rises, the third makes the target stale, and a further attempt waits where RETRIES leaves one
(R723, R724). -/
def calBusyEnd (t : Nat) (s : State) : State :=
  match findCal s t with
  | some r =>
    let f := min 3 (rdFld s (calBase t) F.CAL_PORT_FAILS + 1)
    let s1 := countDev 0x3D 1 (evG F.CAL_EVENTS_INPUT_BUSY (wrFld (calBase t) F.CAL_PORT_FAILS f s))
    let s2 := whenB r.lane (evL r.index F.HL_EVENTS_INPUT_BUSY) s1
    let s3 := whenB (f == 3 && rdFld s2 (calBase t) F.CAL_PORT_STALE == 0) (calStale t f) s2
    if abortAsked s3 r.op then calEnd t .aborted s3
    else if r.retries = 0 then calEnd t .inputBusy s3
    else
      let back := r.all.length - r.left.length + 1
      modOp r.op (fun o => { o with k := back })
        (modCalRun t (fun x => { x with phase := .retry, retries := x.retries - 1, busy := false, measured := false, inPlace := false }) (calResume t s3))
  | none => s

/-- An attempt has run every pair: FAILS and STALE clear, and the run completes (R724, R725). -/
def calGoodEnd (t : Nat) (s : State) : State :=
  match findCal s t with
  | some r =>
    let s1 := wrFld (calBase t) F.CAL_PORT_STALE 0 (wrFld (calBase t) F.CAL_PORT_FAILS 0 s)
    let s2 := if t < 64 then setReason t F.DEGRADE_UNCAL false s1 else s1
    let allOk := r.all.all (fun p => r.outcomes.any (fun e => e.1 == p && e.2.all (· == 0)))
    calEnd t (if abortAsked s2 r.op then .aborted else if allOk then .ok else .partialDone) s2
  | none => s

/-- The attempt is over: it ends once the ramp of its last commit has run (R712, R720, R721). -/
def calAttemptEnd (t : Nat) (s : State) : State :=
  match findCal s t with
  | some r =>
    if ramping s t then modCalRun t (fun x => { x with phase := .ramp }) (opProgress r.op (calSteps r) (calSteps r) 99 s)
    else if r.busy then calBusyEnd t s
    else calGoodEnd t s
  | none => s

/-- Make the commit of a run's staged results (R712, R718, R720): roles act now, and a pair whose working set is filled again returns its
spares (R329, R708). -/
def calCommitRun (t : Nat) (s : State) : State :=
  match findCal s t with
  | some r =>
    if r.stageOnly || r.fresh then s
    else
      let s1 := modCalRun t (fun x => { x with fresh := true, short := [] }) (commitRecord t s)
      if t < 64 then
        let bits := fun b => BitVec.ofNat 4 ((r.short.filter (fun e => e.2 == b)).map (fun e => 2 ^ e.1)).sum
        let s2 := modPort t (fun p => { p with sparesOut := (p.sparesOut &&& ~~~ bits false) ||| bits true }) s1
        let s3 := whenB (r.short.any (·.2)) (evP t F.LINK_EVENTS_SPARE_OUT) s2
        setReason t F.DEGRADE_SPARES (decide ((port s3 t).sparesOut ≠ 0)) s3
      else s1
  | none => s

/-! ## The window (R717, R718) -/

/-- Step k of a run: the pair in hand. -/
def calStep (t : Nat) (s : State) : State :=
  match findCal s t with
  | some r =>
    let k := r.all.length - r.left.length + 1
    opProgress r.op k (calSteps r) (100 * (k - 1) / calSteps r) s
  | none => s

/-- Ask for three-pair operation without the next pair at superframe k (R718 step 1). -/
def calAsk (n p k : Nat) (s : State) : State :=
  calStep n (sendFallback n k 1 p true (modCalRun n (fun x => { x with phase := .asked k, measured := false }) s))

/-- After a pair: the next one 16 superframes on, or the end of the attempt (R718). -/
def calNext (n : Nat) (s : State) : State :=
  match findCal s n with
  | some r =>
    if r.busy || r.left.isEmpty || abortAsked s r.op then calAttemptEnd n s
    else calAsk n (r.left.headD 0) (s.time.s + 16) s
  | none => s

/-- A run's target becomes quiet: the attempt begins on all named pairs at once (R717, R720, R721). -/
def calQuiet (t : Nat) (down listen : Bool) (s : State) : State :=
  calStep t (modCalRun t (fun x => { x with phase := .quiet, down := down, listen := listen, measured := false }) s)

/-- Take a port off its line for a calibration: one in Listen resumes it, any other goes down by command (R717, R720). -/
def calTakeDown (n : Nat) (s : State) : State :=
  match (port s n).st with
  | .listen => calQuiet n true true (modPort n (fun p => p.stopped .idle) (clearTrain n s))
  | .idle => calQuiet n true false s
  | _ => calQuiet n true false (portDown n 5 s)

/-- The window of a run that waits starts: the method follows the target's state (R717). -/
def calWindow (t : Nat) (s : State) : State :=
  match findCal s t with
  | some r =>
    let come := decide (totalNs r.sec r.ns ≤ nowTotal s)
    let k := hostFrame s r.sec r.ns
    let begin' := fun s => countDev 0x3C 1 s
    if r.phase ≠ .waiting then s
    else if abortAsked s r.op then calEnd t .aborted s
    else if r.lane then
      if !come then s
      else calQuiet t false false (modLane r.index (fun l => { l with calIdle := true })
        (if laneStep s r.index = 0 then begin' s else laneSet r.index 2 (begin' s)))
    else if inShutter s t then wantWake t s
    else if calByPair s t then
      if s.time.s + 65536 < k then s else calAsk t (r.left.headD 0) k (begin' s)
    else if !come then s
    else if calInPlace s t r.left then calStep t (modCalRun t (fun x => { x with phase := .out s.time.s, inPlace := true, measured := false }) (begin' s))
    else if linkUp s t && !r.allowDrop then
      calGoodEnd t (forL r.left (fun p s => calOutcome t p (sameCode r 4) s) (begin' s))
    else calTakeDown t (begin' s)
  | none => s

/-- CAL_WINDOW_START: R717, R718. -/
def execCalWindowStart (t : CalTgt) (s : State) : Host.Outcome State Fault Refusal := .next (calWindow (tgtNo t) s)

/-- CAL_RETRY: RETRY_GAP after an aborted attempt the next one starts with the pairs not yet calibrated (R723). -/
def execCalRetry (t : CalTgt) (s : State) : Host.Outcome State Fault Refusal :=
  .next (match findCal s (tgtNo t) with
    | some r =>
      if r.phase = .retry then calWindow (tgtNo t) (modCalRun (tgtNo t) (fun x => { x with phase := .waiting, sec := 0, ns := 0 }) s) else s
    | none => s)

/-- What a boundary does for the run of a port in three-pair operation (R718, R719): it enters, and names the return nine superframes on; it
returns, commits and goes on; an entry that was abandoned leaves the pair REFUSED. -/
def calBoundary (n : Nat) (s : State) : State :=
  match findCal s n with
  | some r =>
    let p := r.left.headD 0
    match r.phase with
    | .asked _ =>
      if !inService s n then modCalRun n (fun x => { x with phase := .waiting }) s
      else if threePair s n && absentPair s n == p then
        sendFallback n (s.time.s + 9) 2 p true (modCalRun n (fun x => { x with phase := .out s.time.s }) s)
      else if (port s n).fallback.isNone then
        calNext n (modCalRun n (fun x => { x with left := x.left.drop 1 }) (calOutcome n p (sameCode r 4) s))
      else s
    | .out _ =>
      if !inService s n then modCalRun n (fun x => { x with phase := .waiting, inPlace := false }) s
      else if r.inPlace then
        if r.measured then calNext n (calCommitRun n (modCalRun n (fun x => { x with inPlace := false }) s)) else s
      else if !threePair s n then
        let s1 := if r.measured then calCommitRun n s else s
        calNext n (updateRateReason n (modCalRun n (fun x => { x with left := if r.measured then x.left.drop 1 else x.left,
                                                                      busy := x.busy || !r.measured }) s1))
      else if (port s n).fallback.isNone then sendFallback n (s.time.s + 6) 2 p true s
      else s
    | _ => s
  | none => s

/-! ## Measurements (R708, R710, R711, R724, R729) -/

/-- The measurement of element i; a missing one counts as implausible. -/
def measOf (l : List ElemMeas) (i : Nat) : ElemMeas := l.getD i ⟨[], false, false, 0⟩

/-- Trims and roles after a measurement (R708, R710, R711): implausible elements keep what they had, excluded ones stay excluded; working roles
go to the elements with the smallest error, then, where those do not suffice, to others, which says that the set is short. -/
def assignRoles (want : Nat) (old : List ElemSt) (m : List ElemMeas) (banned : Nat → Bool) : List ElemSt × Bool :=
  let st := fun i => old.getD i ⟨2, 0, []⟩
  let idx := List.range old.length
  let rank := fun l => sortBy (fun a b : Nat => decide ((measOf m a).rank ≤ (measOf m b).rank)) l
  let kept := idx.filter (fun i => !banned i && !(measOf m i).plausible && (st i).role == 0)
  let goods := rank (idx.filter (fun i => !banned i && (measOf m i).plausible && (measOf m i).good))
  let poor := rank (idx.filter (fun i => !banned i && (measOf m i).plausible && !(measOf m i).good))
  let work := kept ++ (goods ++ poor).take (want - kept.length)
  let stay := work.filter (fun i => (st i).role == 0)
  let free := (List.range want).filter (fun q => !stay.any (fun i => (st i).pos == q))
  let new := work.filter (fun i => (st i).role != 0)
  let posOf := fun i => if (st i).role = 0 then (st i).pos else free.getD (new.takeWhile (· != i)).length 0
  (idx.map (fun i =>
    let tr := if (measOf m i).plausible && !banned i then (measOf m i).trims else (st i).trims
    if banned i then ⟨2, 0, tr⟩
    else if work.contains i then ⟨0, posOf i, tr⟩
    else if !(measOf m i).plausible then st i
    else if (measOf m i).good then ⟨1, 0, tr⟩
    else ⟨2, 0, tr⟩), decide (kept.length + goods.length < want))

/-- What staging builds up: the body, the outcome codes, the elements found implausible and those excluded, and whether the working set of
the pair is short. -/
structure Staging where
  body : List Byte
  codes : List Nat
  impl : List (Nat × Nat × Nat)
  excl : List (Nat × Nat × Nat)
  short : Option Bool

/-- Stage the results of one element set of pair p. -/
def stageSet (p : Nat) (m : CalMeas) (set : Nat) (a : Staging) : Staging :=
  match set with
  | 1 | 2 =>
    let ms := if set = 1 then m.adc else m.dac
    let old := setElems a.body set p
    let (_, n, _, want) := setPlace set p
    let bad' := (List.range n).filter (fun i => !(measOf ms i).plausible)
    let excl := a.excl ++ (bad'.filter (fun i => a.impl.contains (p, set, i))).map (fun i => (p, set, i))
    let (l, sh) := assignRoles want old ms (fun i => excl.contains (p, set, i))
    { body := putElems a.body set p l, codes := a.codes ++ [bit !bad'.isEmpty],
      impl := a.impl.filter (fun e => !(e.1 == p && e.2.1 == set)) ++ bad'.map (fun i => (p, set, i)), excl := excl,
      short := some (a.short.getD false || sh) }
  | 3 =>
    match m.hybrid with
    | some x => if x.plausible then { a with body := putBytes a.body (216 * p + 208) (x.trims.take 2), codes := a.codes ++ [0] }
      else { a with codes := a.codes ++ [1] }
    | none => { a with codes := a.codes ++ [1] }
  | _ =>
    let body := (List.range 8).foldl (fun b i => if (measOf m.lanes i).plausible then putBytes b (4 * i) ((measOf m.lanes i).trims.take 2) else b) a.body
    { a with body := body, codes := a.codes ++ [bit ((List.range 8).any (fun i => !(measOf m.lanes i).plausible))] }

/-- Stage the results of pair p of a run (R708, R710, R711, R729). -/
def calStageResults (t p : Nat) (m : CalMeas) (s : State) : State :=
  match findCal s t with
  | some r =>
    let c := calTarget s t
    let base := if r.fresh then activeBody s t else recBody s t c.staged
    let sets0 := if r.fresh then c.active.sets else c.staged.sets
    let a := (calSets r.elements).foldl (fun a set => stageSet p m set a) ⟨base, [], c.lastImpl, c.excluded, none⟩
    let good := ((calSets r.elements).zip a.codes).filter (fun e => e.2 == 0)
    let sets := good.foldl (fun x e => x ||| (if t < 64 then 2 ^ (3 * p + e.1 - 1) else 1)) sets0
    let new : CalRec := ⟨max c.active.seq c.staged.seq + 1, nowSec s, nowNs s, bit (sets == allSets t), sets, a.body⟩
    let s1 := modTarget t (fun x => { x with staged := new, lastImpl := a.impl, excluded := a.excl }) s
    let s2 := modCalRun t (fun x => { x with fresh := false, short := x.short.filter (fun e => e.1 != p) ++ (a.short.map (fun b => (p, b))).toList }) s1
    calOutcome t p a.codes (whenB (a.codes.any (· != 0)) (evG F.CAL_EVENTS_IMPLAUSIBLE) s2)
  | none => s

/-- The measurement of the pair in hand: staged, or discarded for a supply warning or a refusal (R719, R724). -/
def calTake (t p : Nat) (m : CalMeas) (s : State) : State :=
  match findCal s t with
  | some r =>
    match m.input with
    | .quiet => calStageResults t p m s
    | .supply => calOutcome t p (sameCode r 3) s
    | .refused => calOutcome t p (sameCode r 4) s
  | none => s

/-- CAL_MEASUREMENT_DONE: the pair in hand has been measured. With the target quiet the last pair brings the commit (R718, R720, R721). -/
def execCalMeasurementDone (tg : CalTgt) (m : CalMeas) (s : State) : Host.Outcome State Fault Refusal :=
  let t := tgtNo tg
  .next (match findCal s t with
    | some r =>
      let p := r.left.headD 0
      match r.phase with
      | .quiet =>
        let s1 := modCalRun t (fun x => { x with left := x.left.drop 1 }) (calTake t p m s)
        if r.left.length ≤ 1 ∨ abortAsked s r.op = true then calAttemptEnd t (calCommitRun t s1) else calStep t s1
      | .out k =>
        if r.measured ∨ (r.inPlace = false ∧ s.time.s < k + 1) then s
        else
          let s1 := modCalRun t (fun x => { x with measured := true }) (calTake t p m s)
          if r.inPlace then modCalRun t (fun x => { x with left := x.left.drop 1 }) s1 else s1
      | _ => s
    | none => s)

/-- CAL_INPUT_BUSY: energy on a pair under calibration aborts the attempt; pairs already measured keep their new values (R722, R723,
R538). -/
def execCalInputBusy (tg : CalTgt) (s : State) : Host.Outcome State Fault Refusal :=
  let t := tgtNo tg
  .next (match findCal s t with
    | some r =>
      let p := r.left.headD 0
      let s1 := modCalRun t (fun x => { x with busy := true }) (calOutcome t p (sameCode r 2) s)
      match r.phase with
      | .quiet => calAttemptEnd t (calCommitRun t s1)
      | .out _ => if r.measured then s else if r.inPlace then calAttemptEnd t (modCalRun t (fun x => { x with inPlace := false }) s1) else s1
      | .asked _ => s1
      | _ => s
    | none => s)

/-- CAL_RAMP_STEP: one of the 256 steps of a ramp (R712); at its end a run that waited for it goes on. -/
def execCalRampStep (tg : CalTgt) (s : State) : Host.Outcome State Fault Refusal :=
  let t := tgtNo tg
  .next (if (calTarget s t).rampLeft = 0 then s
    else
      let s1 := modTarget t (fun c => { c with rampLeft := c.rampLeft - 1 }) s
      if (calTarget s1 t).rampLeft ≠ 0 then s1
      else
        let s2 := wrFld (calBase t) F.CAL_PORT_RAMP 0 (modTarget t (fun c => { c with oldBody := [] }) s1)
        match findCal s2 t with
        | some r => if r.phase = .ramp then calAttemptEnd t s2 else s2
        | none => s2)

/-- OP_ABORT on a run that waits ends it at once; any other stops at the next pair (R725). -/
def calAbort (op : Nat) (s : State) : State :=
  match s.cal.runs.find? (fun r => r.op == op) with
  | some r => if r.phase = .waiting ∨ r.phase = .retry then calEnd r.tgt .aborted s else s
  | none => s

end Sys2Proof.Machine
end

