-- ==== Sys2Proof/Machine/Levels.lean ====
section
/-!
DEFINITION. Performance levels (R661-R674): POWER_LEVEL, the voltage and clock steps of a raise and a lowering, and the AVSBus (R666-R668).
-/
namespace Sys2Proof.Machine

/-! ## Voltages (R661, R664) -/

/-- The core voltage of a level in mV. -/
def levelMv (l : Nat) : Nat := [600, 680, 750, 820].getD l 820

/-- The VDD_CORE target that R664 asks for, and no less than `low`: 0.75 V or the highest level voltage of a port group. -/
def coreNeed (s : State) (low : Nat) : Nat := (allGroups s).foldl (fun a g => max a (levelMv (voltLevel s g))) (max 750 low)

/-- The regulator of group g gives the voltage of a level. -/
def setVolt (g l : Nat) : State → State := modPower (fun p => { p with volt := SMap.set p.volt 0 g (3 - l) })

/-- Set the level of group g in PWR_STATUS, and count the change (R701, R758). -/
def setLevel (g l : Nat) (s : State) : State :=
  countDev 0x3A 1 (wrReg 0x20040 (setBits (rdReg s 0x20040) (2 * g + 1) (2 * g) l) s)

/-! ## The operation -/

/-- Change the POWER_LEVEL in progress. -/
def modLevel (f : LevelOp → LevelOp) : State → State := modPower (fun p => { p with levelOp := p.levelOp.map f })

/-- The groups that rise. -/
def LevelOp.ups (o : LevelOp) : List Nat := (o.groups.filter (fun x => x.2 < o.level)).map (·.1)

/-- The groups that fall. -/
def LevelOp.downs (o : LevelOp) : List Nat := (o.groups.filter (fun x => o.level < x.2)).map (·.1)

/-- The idle DSP PLL of group g. -/
def idlePll (s : State) (g : Nat) : Nat := 1 - dspUse s g

/-- The idle PLL of every group of a list is ready. -/
def idleReady (s : State) (gs : List Nat) : Bool := gs.all (fun g => rdBit s 0 F.CLK_READY_PLL_DSP (2 * g + idlePll s g))

/-- Power down a DSP PLL. -/
def pllOff (g x : Nat) (s : State) : State := wrBit 0 F.CLK_READY_PLL_DSP (2 * g + x) 0 (setDsp g x 0 s)

/-- Power the idle PLL of group g, to lock at the clock of a level (R671, R672). -/
def pllOn (l g : Nat) (s : State) : State := setDsp g (idlePll s g) (l + 1) (wrBit 0 F.CLK_READY_PLL_DSP (2 * g + idlePll s g) 0 s)

/-- Switch group g to its idle PLL, and power down the old one (R674). -/
def levelSwitch (l g : Nat) (s : State) : State :=
  let old := dspUse s g
  setLevel g l (pllOff g old (wrBit 0 F.CLK_SEL_STATUS_DSP_SRC g (1 - old) s))

/-- The ITEM entries of a step: each group with the level (R538). -/
def levelItems (o : LevelOp) (gs : List Nat) (s : State) : State := forL gs (fun g s => opItem o.op 0 g o.level 0 s) s

/-- The operation is over: no level change is in progress, and the idle PLLs of its groups are off. -/
def levelOver (st : Status) (s : State) : State :=
  match s.power.levelOp with
  | some o =>
    let s1 := forL (o.groups.map (·.1)) (fun g s => pllOff g (idlePll s g) s) s
    endOp o.op st [] (wrG F.PWR_STATUS_LEVEL_BUSY 0 (modPower (fun p => { p with levelOp := none }) s1))
  | none => s

/-- The operation completes OK when every group is at the new level (R673). -/
def levelDone (s : State) : State :=
  match s.power.levelOp with
  | some o => if o.started && o.raiseDone && o.lowDone then levelOver .ok s else opProgress o.op 2 2 50 s
  | none => s

/-- The voltage step of a raise: the VDD_CORE target first where R664 asks for more, then the regulators and the ITEM; a VDD_CORE warning
holds it (R671, R698). -/
def raiseVolt (s : State) : State :=
  match s.power.levelOp with
  | some o =>
    if !o.started || o.raised || coreWarn s || s.power.avsPending.isSome then s
    else
      let need := coreNeed s (levelMv o.level)
      if rdG s F.AVS_CTRL_AVS_EN = 1 ∧ rdG s F.AVS_CTRL_TARGET < need then avsWrite need s
      else levelDone (levelItems o o.ups (forL o.ups (fun g => setVolt g o.level) (modLevel (fun o => { o with raised := true }) s)))
  | none => s

/-- The voltage step of a lowering, after its clocks: the VDD_CORE target where R664 allows less, unless a warning holds the write, then
the ITEM (R672, R698). -/
def lowerVolt (s : State) : State :=
  match s.power.levelOp with
  | some o =>
    if !o.switched || o.lowDone || s.power.avsPending.isSome then s
    else
      let need := coreNeed s 0
      if rdG s F.AVS_CTRL_AVS_EN = 1 ∧ need < rdG s F.AVS_CTRL_TARGET then (if coreWarn s then s else avsWrite need s)
      else levelDone (levelItems o o.downs (modLevel (fun o => { o with lowDone := true }) s))
  | none => s

/-- The voltage steps that can be made now. -/
def levelVolts (s : State) : State := lowerVolt (raiseVolt s)

/-- A standard-mode port runs above the ceiling of a level: only 10GBASE-T can, at PL0 (R661). -/
def stdAbove (s : State) (l n : Nat) : Bool :=
  decide (l = 0) && ((port s n).st == .stdUp || (port s n).st == .stdTraining) && (port s n).an.resolved == 6

/-- A Siruigo port runs above the ceiling of a level. -/
def sirAbove (s : State) (l n : Nat) : Bool :=
  let cap := [2, 3, 5, 6].getD l 6
  inService s n && (decide (cap < txRate s n) || decide (cap < rxRate s n))

/-- The start time has come: the idle PLLs lock at the new clock, the standard-mode ports above a lower ceiling retrain, and the voltage of
a raise begins (R671, R672). -/
def levelStart (s : State) : State :=
  match s.power.levelOp with
  | some o =>
    if o.started ∨ nowTotal s < totalNs o.sec o.ns then s
    else
      let busy := o.groups.foldl (fun a x => a + 2 ^ x.1) 0
      let s1 := wrG F.PWR_STATUS_LEVEL_BUSY busy (modLevel (fun o =>
        { o with started := true, raised := o.ups.isEmpty, raiseDone := o.ups.isEmpty, switched := o.downs.isEmpty, lowDone := o.downs.isEmpty }) s)
      let s2 := forL (o.ups ++ o.downs) (pllOn o.level) s1
      let s3 := forL ((allPorts s2).filter (fun n => o.downs.contains (groupOf n) && stdAbove s2 o.level n)) (downRestart · 5) s2
      if o.ups.isEmpty && o.downs.isEmpty then levelOver .ok s3 else levelVolts s3
  | none => s

/-! ## POWER_LEVEL (R669, R670) -/

/-- The groups of a mask. -/
def maskGroups (m : Nat) : List Nat := (List.range 6).filter (fun g => bitsOf m g g == 1)

/-- The checks and effect of POWER_LEVEL (R669-R672). -/
def powerLevelPlan (c : Packet) (role : Option Role) (s : State) : Plan :=
  let gs := maskGroups (pb c 0)
  let l := pb c 1
  let f := pb c 2
  let above := (allPorts s).find? (fun n => gs.contains (groupOf n)
    && ((bitsOf f 0 0 == 0 && sirAbove s l n) || (bitsOf f 1 1 == 0 && stdAbove s l n)))
  let no := match above with | some n => some (Plan.done .refused (natBE 1 n) id) | none => none
  firstOf
    ([ bad (plen c ≠ 14 || gs.isEmpty || decide (64 ≤ pb c 0) || decide (3 < l) || decide (3 < f) || pb c 3 != 0 || !nsOk (pf c 10 4)
        || gs.any (fun g => !hasGroup s g)) ]
      ++ gs.map (gated s) ++ gs.map (inAudit s)
      ++ [ busyIf s (s.power.levelOp.isSome || s.power.sleep.isSome || s.power.wakeStep != 0), no ])
    (Plan.long s 0x70 role 2 (fun id s =>
      let o : LevelOp := ⟨id, gs.map (fun g => (g, levelOf s g)), l, pf c 4 6, pf c 10 4, hostFrame s (pf c 4 6) (pf c 10 4),
        false, false, false, false, false⟩
      levelStart (modPower (fun p => { p with levelOp := some o }) s)))

/-- POWER_LEVEL (0x70, R520). -/
def opPowerLevel : Opcode := ⟨0x70, some .installer, false, true, noArea, powerLevelPlan⟩

/-- POWER_LEVEL: R669-R672. -/
def execPowerLevel (c : Packet) (s : State) : Host.Outcome State Fault Refusal := .next (runOpcode opPowerLevel c s)

/-! ## The switches and the failure (R671-R674) -/

/-- LEVEL_RAISE_SWITCH: with the voltage reached and the new PLLs ready, every group that rises switches (R671, R674). -/
def execLevelRaiseSwitch (s : State) : Host.Outcome State Fault Refusal :=
  .next (match s.power.levelOp with
    | some o =>
      if o.started && o.raised && !o.raiseDone && idleReady s o.ups then
        levelDone (modLevel (fun o => { o with raiseDone := true }) (levelItems o o.ups (forL o.ups (levelSwitch o.level) s)))
      else s
    | none => s)

/-- LEVEL_LOWER_SWITCH: with no port of a falling group above the new ceiling and the PLLs ready, the groups switch, and then the voltage
falls (R672, R674). -/
def execLevelLowerSwitch (s : State) : Host.Outcome State Fault Refusal :=
  .next (match s.power.levelOp with
    | some o =>
      let above := (allPorts s).any (fun n => o.downs.contains (groupOf n) && sirAbove s o.level n)
      if o.started && !o.switched && idleReady s o.downs && !above then
        let s1 := levelItems o o.downs (forL o.downs (levelSwitch o.level) s)
        levelVolts (opProgress o.op 2 2 50 (forL o.downs (fun g => setVolt g o.level) (modLevel (fun o => { o with switched := true }) s1)))
      else s
    | none => s)

/-- A level change fails: its groups stay at, or return to, their old level, and the operation completes INCOMPLETE (R673). -/
def levelFail (s : State) : State :=
  match s.power.levelOp with
  | some o =>
    let back := fun (x : Nat × Nat) (s : State) =>
      let s1 := setVolt x.1 x.2 s
      if levelOf s x.1 = x.2 then s1 else setLevel x.1 x.2 (setDsp x.1 (dspUse s1 x.1) (x.2 + 1) s1)
    levelOver .incomplete (evG F.PWR_EVENTS_LEVEL_FAIL (forL o.groups back s))
  | none => s

/-- LEVEL_FAIL: a PLL is not ready within 2 ms, or a warning has held the raise at its step 1 for 10 ms (R673, R698). -/
def execLevelFail (s : State) : Host.Outcome State Fault Refusal :=
  .next (match s.power.levelOp with
    | some o =>
      if o.started && ((!o.raiseDone && !idleReady s o.ups) || (!o.switched && !idleReady s o.downs) || (!o.raised && coreWarn s)) then levelFail s
      else s
    | none => s)

/-! ## AVSBus (R667) -/

/-- AVS_READBACK: a Voltage read after a write. A response with StatusAlert or a bad CRC is repeated; a value within ±10 mV of the target ends
the write. -/
def execAvsReadback (mv : BitVec 16) (alert : Bool) (s : State) : Host.Outcome State Fault Refusal :=
  .next (match s.power.avsPending with
    | some (t, _) =>
      if alert then evG F.SUPPLY_EVENTS_AVS_ALERT s
      else
        let s1 := wrG F.AVS_READ mv.toNat s
        if mv.toNat ≤ t + 10 ∧ t ≤ mv.toNat + 10 then levelVolts (modPower (fun p => { p with avsPending := none }) s1) else s1
    | none => s)

/-- AVS_FAIL: the value has not arrived within SETTLE; the previous target is written back, and a level change fails (R667, R673). -/
def execAvsFail (s : State) : Host.Outcome State Fault Refusal :=
  .next (match s.power.avsPending with
    | some (_, old) =>
      levelFail (evG F.SUPPLY_EVENTS_AVS_FAIL (wrG F.AVS_CTRL_TARGET old (modPower (fun p => { p with avsPending := none }) s)))
    | none => s)

/-- OP_ABORT of a level change: what its steps have reached stands (R538). -/
def levelAbort (s : State) : State := levelOver .aborted s

end Sys2Proof.Machine
end

