-- ==== Sys2Proof/Machine/ClosingAudit.lean ====
section
/-!
DEFINITION. The Closing Audit (R734-R746): its plan, its start and end, its logic slices and memory steps, and the answers that a
supply warning and a service request give it.
-/
namespace Sys2Proof.Machine

/-! ## The plan (R734) -/

/-- The logic slices of a block. -/
def auditSlices (b : Nat) : List Nat :=
  if b < 6 then (List.range 14).map (· + 14 * b) else if b = 8 then (List.range 8).map (· + 84) else [92 + (b - 12)]

/-- The memory steps of a block under a plan: 1 STANDARD, 2 FULL. -/
def auditSteps (plan b : Nat) : Nat :=
  if plan = 2 then (if b < 6 then 12 else if b = 8 then 96 else 2) else (if b < 6 then 4 else if b = 8 then 32 else 1)

/-- The slices and steps that a plan takes over some blocks. -/
def auditCount (plan : Nat) (bs : List Nat) : Nat := (bs.map (fun b => (auditSlices b).length + auditSteps plan b)).sum

/-- The audit begins: the named port groups go down with cause COMMAND, the named lane groups leave service (R740, R742, R750). -/
def auditBegin (plan : Nat) (bs : List Nat) (s : State) : State :=
  let slices := bs.flatMap auditSlices
  let s1 := modAudit (fun a => { Audit.init with
    state := 1, plan := plan, planned := auditCount plan bs, sec := nowSec s, ns := nowNs s, held := bs,
    blocks := bs.map (fun b => ⟨b, auditSlices b, auditSteps plan b, false⟩),
    results := slices.foldl (fun m i => SMap.set m 0xFF i 4) [], unusable := a.unusable, repairsInForce := a.repairsInForce }) s
  let s2 := auditShow (journalEvent 0 0x30 plan slices.length s1)
  let s3 := portsDown (fun n => bs.contains (groupOf n)) 5 s2
  forL (bs.filter (12 ≤ ·)) (fun b => laneOff (b - 12)) s3

/-! ## AUDIT_CONFIG (R739, R740) -/

/-- The blocks that BLOCKS and LANES name, in the order of R734. -/
def auditNamed (blocks lanes : Nat) : List Nat :=
  (List.range 6).filter (fun g => bitsOf blocks g g == 1) ++ (if bitsOf blocks 6 6 = 1 then [8] else [])
    ++ ((List.range 4).filter (fun g => bitsOf lanes g g == 1)).map (· + 12)

/-- A Survey, a join, a CAL_RUN, a diagnostic or a LANE_TEST holds a block (R740). -/
def auditConflict (s : State) (b : Nat) : Bool :=
  if b < 6 then s.ch.survey.isSome || s.ch.join.any (fun n => groupOf n == b) || s.diag.runs.any (fun r => groupOf r.port == b)
    || s.cal.runs.any (fun r => !r.lane && groupOf r.index == b)
  else if b = 8 then s.ch.survey.isSome || s.ch.join.isSome
  else (lane s (b - 12)).test.isSome || s.cal.runs.any (fun r => r.lane && r.index + 12 == b)

/-- What START refuses as reserved, empty or incomplete (R739, R740). -/
def auditBadNames (s : State) (c : Packet) : Bool :=
  let bs := auditNamed (pb c 2) (pb c 3)
  !(pb c 1 == 1 || pb c 1 == 2) || decide (128 ≤ pb c 2) || decide (16 ≤ pb c 3) || bs.isEmpty
    || !bs.all (fun b => (blockCodes s).contains b) || (bs.contains 8 && !(allGroups s).all (fun g => bs.contains g))

/-- The checks and effect of AUDIT_CONFIG (R739-R741). RELEASE reads no field but ACTION; while the plan still runs it is refused as BUSY,
and without a hold it does nothing. -/
def auditConfigPlan (c : Packet) (_ : Option Role) (s : State) : Plan :=
  let start := pb c 0 == 1
  let bs := auditNamed (pb c 2) (pb c 3)
  let at' := totalNs (pf c 4 6) (pf c 10 4)
  let reply := fun n => natBE 4 (if n = 0 then 0 else (Config.estimate 0x58 s.draws).toNat) ++ natBE 2 n
  if start then
    firstOf
      ([ bad (plen c ≠ 14 || !nsOk (pf c 10 4) || auditBadNames s c) ] ++ bs.map (gated s)
        ++ [ busyIf s (s.audit.due.isSome || s.audit.state == 1 || s.audit.state == 2 || bs.any (auditConflict s)) ])
      (Plan.done .ok (reply (auditCount (pb c 1) bs)) (fun s =>
        if at' ≤ nowTotal s then auditBegin (pb c 1) bs (draw s)
        else modAudit (fun a => { a with due := some ⟨pf c 4 6, pf c 10 4, pb c 1, bs⟩ }) (draw s)))
  else
    firstOf [ bad (plen c ≠ 14 || pb c 0 ≠ 2 || !nsOk (pf c 10 4) || decide (2 < pb c 1) || decide (128 ≤ pb c 2) || decide (16 ≤ pb c 3)),
              busyIf s (s.audit.state == 1) ]
      (Plan.done .ok (reply 0) (fun s => if s.audit.state = 2 then auditOver (forL s.audit.held auditFree s) else s))

/-- FULL is for makers (R740). -/
def auditDenied (c : Packet) (r : Option Role) (_ : State) : Bool := pb c 0 == 1 && pb c 1 == 2 && r != some .maker

/-- AUDIT_CONFIG (0x58, R520). -/
def opAuditConfig : Opcode := ⟨0x58, some .installer, false, true, auditDenied, auditConfigPlan⟩

/-- AUDIT_CONFIG: R739, R740, R741. -/
def execAuditConfig (c : Packet) (s : State) : Host.Outcome State Fault Refusal := .next (runOpcode opAuditConfig c s)

/-- AUDIT_START: the start time of a START has come (R740). While an operation that came in between holds a named block, the start waits. -/
def execAuditStart (s : State) : Host.Outcome State Fault Refusal :=
  .next (match s.audit.due with
    | some d =>
      if totalNs d.sec d.ns ≤ nowTotal s ∧ !d.blocks.any (auditConflict s) then
        auditBegin d.plan d.blocks (modAudit (fun a => { a with due := none }) s)
      else s
    | none => s)

/-! ## AUDIT_RESULT (R742) -/

/-- A memory failure record. -/
def memFailBytes (f : MemFail) : List Byte :=
  natBE 2 f.inst ++ natBE 4 f.addr ++ natBE 2 f.bitNo ++ natBE 1 (if f.repaired then 1 else 2)
    ++ natBE 2 (if f.repaired then f.repairRow else 0) ++ [0]

/-- The reply of AUDIT_RESULT. -/
def auditReply (s : State) : List Byte :=
  let a := s.audit
  natBE 1 a.state ++ natBE 1 a.plan ++ natBE 2 a.planned ++ natBE 2 a.doneCount
    ++ natBE 1 (if a.planned = 0 then 0 else a.doneCount * 100 / a.planned) ++ natBE 1 a.result ++ natBE 6 a.sec ++ natBE 4 a.ns
    ++ natBE 2 a.repairs ++ natBE 2 a.unrepaired ++ natBE 2 a.fails.length
    ++ (List.range 96).map (fun i => BitVec.ofNat 8 (SMap.get a.results 0xFF i)) ++ List.replicate 8 0
    ++ a.fails.flatMap memFailBytes

/-- AUDIT_RESULT (0x59, R520). -/
def opAuditResult : Opcode :=
  ⟨0x59, some .operator, false, false, noArea, fun c _ s => firstOf [bad (plen c ≠ 0)] (Plan.done .ok (auditReply s) id)⟩

/-- AUDIT_RESULT: R742. -/
def execAuditResult (c : Packet) (s : State) : Host.Outcome State Fault Refusal := .next (runOpcode opAuditResult c s)

/-! ## Slices and steps (R736, R737) -/

/-- The judgement of a logic slice: 0 PASS, 1 FAIL, 2 INCOMPLETE (R736). -/
def sliceJudge (b i : Nat) (m : SliceMeas) : Nat :=
  if m.patterns < Config.auditPatterns b i then 2 else if m.signature = Config.auditSignature b i then 0 else 1

/-- The spare rows of an instance that are in use. -/
def sparesUsed (s : State) (inst : Nat) : Nat :=
  ((s.audit.repairsInForce ++ s.audit.found).filter (fun r => r.1 == inst)).length

/-- Keep a failure record where fewer than 256 are held (R742). -/
def addFail (f : MemFail) : State → State :=
  modAudit (fun a => { a with fails := if a.fails.length < 256 then a.fails ++ [f] else a.fails })

/-- One failing address and bit: its row gets a repair row, or is unrepairable (R737, R750). -/
def memFailure (f : Nat × Nat × Nat × Nat) (s : State) : State :=
  let (inst, addr, bitNo, row) := f
  match s.audit.found.find? (fun r => r.1 == inst && r.2.1 == row) with
  | some r => addFail ⟨inst, addr, bitNo, row, true, r.2.2⟩ s
  | none =>
    match Config.spareRow inst (sparesUsed s inst) with
    | some sp =>
      let s1 := modAudit (fun a => { a with found := a.found ++ [(inst, row % 2 ^ 24, sp.toNat)], repairs := min 65535 (a.repairs + 1) }) s
      let s2 := journalEvent (sp.toNat * 2 ^ 24) 0x33 (inst / 256) (inst % 256) (journalEvent (row % 2 ^ 24) 0x32 (inst / 256) (inst % 256) s1)
      addFail ⟨inst, addr, bitNo, row, true, sp.toNat⟩ (evG F.AUDIT_EVENTS_REPAIR s2)
    | none =>
      let s1 := modAudit (fun a => { a with
        unrepaired := min 65535 (a.unrepaired + 1), bad := if a.bad.contains inst then a.bad else inst :: a.bad,
        unusable := if a.unusable.contains inst then a.unusable else inst :: a.unusable }) s
      let s2 := if s.audit.bad.contains inst then s1 else journalEvent 0 0x35 (inst / 256) (inst % 256) s1
      addFail ⟨inst, addr, bitNo, row, false, 0⟩ (evG F.AUDIT_EVENTS_UNREPAIRED s2)

/-- A block has ended: an instance of it that this audit did not find unrepairable serves again (R749), and its memories are empty
(R738). -/
def auditBlockEnd (b : Nat) (s : State) : State :=
  auditWipe b (modAudit (fun a => { a with unusable := a.unusable.filter (fun i => instBlock i != b || a.bad.contains i) })
    (modBlock b (fun x => { x with ended := true }) s))

/-- The slice or step in hand of a block ends: what is left of the block is cut where service was requested, and the audit goes on with the
next (R745). -/
def auditAdvance (x : AuditBlock) (s : State) : State :=
  let s1 := modBlock x.block (fun y => { y with slices := y.slices.drop 1, steps := if x.slices = [] then y.steps - 1 else y.steps })
    (modAudit (fun a => { a with doneCount := a.doneCount + 1, repeating := false }) s)
  let atEnd := decide (x.slices.length + x.steps ≤ 1)
  let asked := s.audit.cutAsked.contains x.block
  let s2 := if atEnd then auditBlockEnd x.block s1 else s1
  auditShow (if asked then (if atEnd then auditFree x.block (modAudit (fun a => { a with cutAsked := a.cutAsked.filter (· != x.block) }) s2)
    else auditCut x.block s2) else s2)

/-- A logic slice ends with a result; it counts as run (R736, R758). -/
def sliceEnd (x : AuditBlock) (i r : Nat) (s : State) : State := auditAdvance x (countDev 0x3E 1 (sliceResult i r s))

/-- SLICE_END: the slice or step in hand ends, is judged, and records repairs (R736, R737). A step's failures are those of memories. -/
def execSliceEnd (m : SliceMeas) (s : State) : Host.Outcome State Fault Refusal :=
  .next (if s.audit.state ≠ 1 ∨ s.audit.paused = true then s
    else match auditNow s with
    | some x =>
      (match x.slices with
        | i :: _ => sliceEnd x i (sliceJudge x.block i m) s
        | [] => auditAdvance x (forL m.fails memFailure s))
    | none => s)

/-- SLICE_TIMEOUT: a slice or step that has not ended within 20 ms is stopped; the slice is INCOMPLETE (R736). -/
def execSliceTimeout (s : State) : Host.Outcome State Fault Refusal :=
  .next (if s.audit.state ≠ 1 ∨ s.audit.paused = true then s
    else match auditNow s with
    | some x => (match x.slices with | i :: _ => sliceEnd x i 2 s | [] => auditAdvance x s)
    | none => s)

/-! ## Service requests and the end (R741, R743-R745) -/

/-- AUDIT_SERVICE_REQUEST: line energy, an MDIO write or an HRX record asks for a block, by its block code (R744, R745). -/
def execAuditServiceRequest (b : Fin 32) (s : State) : Host.Outcome State Fault Refusal :=
  .next (if b.val < 6 ∨ 12 ≤ b.val then auditRequest b.val s else s)

/-- RESULT of an audit whose plan has completed (R743). -/
def auditResultCode (a : Audit) : Nat :=
  let has := fun r => a.results.any (fun e => e.2 == r)
  if has 1 || decide (0 < a.unrepaired) then Status.partialDone.code
  else if has 2 || has 3 || has 4 then Status.incomplete.code
  else Status.ok.code

/-- AUDIT_END: the plan completes; the blocks that no request has freed stay held (R741, R743, R750). -/
def execAuditEnd (s : State) : Host.Outcome State Fault Refusal :=
  .next (if s.audit.state = 1 ∧ (auditNow s).isNone then
      let r := auditResultCode s.audit
      let s1 := modAudit (fun a => { a with state := 2, result := r }) s
      auditOver (evG F.AUDIT_EVENTS_DONE (journalEvent 0 0x34 r (min 255 s.audit.repairs) s1))
    else s)

/-! ## Supply warnings (R746) -/

/-- A VDD_CORE warning stops the slice or step in hand: the audit pauses, or, when it was the repeat, the slice is INCOMPLETE and the audit
goes on. -/
def auditWarn (s : State) : State :=
  if s.audit.state ≠ 1 ∨ s.audit.paused = true then s
  else match auditNow s with
    | some x =>
      if s.audit.repeating then (match x.slices with | i :: _ => sliceEnd x i 2 s | [] => auditAdvance x s)
      else modAudit (fun a => { a with paused := true }) s
    | none => s

/-- The warning ends: the slice or step runs once more from its start. -/
def auditWarnEnd (s : State) : State :=
  if s.audit.paused then modAudit (fun a => { a with paused := false, repeating := true }) s else s

end Sys2Proof.Machine
end

