-- ==== Sys2Proof/Machine/Monitor.lean ====
section
/-!
DEFINITION. Performance monitoring (R752-R769): COUNTER_CONFIG and timed starts, the occupancy counters and the time of the sample tick,
and the Codeword Sampler. With them the temperature sensors (R794) and boundary scan (R790).
-/
namespace Sys2Proof.Machine

/-! ## COUNTER_CONFIG (R764, R765) -/

/-- The units of R752 that the part has. -/
def unitsOf (s : State) : List Nat := (allGroups s) ++ [8] ++ (allLanes s).map (· + 12) ++ [0x10, 0x18]

/-- The counters that a mask names. -/
def pmMask (m : Nat) : List Nat := (List.range 8).filter (fun c => bitsOf m c c == 1)

/-- The window address of counter c of unit u. -/
def pmAddr (u c : Nat) : Nat := 0x40000 + pmBase u c

/-- Set EN of the counters of a mask. -/
def pmEnable (u m x : Nat) (s : State) : State :=
  forL (pmMask m) (fun c s => wrReg (pmAddr u c) (setBits (rdReg s (pmAddr u c)) 31 31 x) s) s

/-- Clear the counters of a mask. -/
def pmClear (u m : Nat) (s : State) : State :=
  forL (pmMask m) (fun c s => wrReg (pmAddr u c + 0x14) 0 (wrReg (pmAddr u c + 0x10) 0 s)) s

/-- Configure, clear and stop the counters of a mask (R764): the words of a COUNTER_CONFIG, with EN 0. -/
def pmConfigure (c : Packet) (s : State) : State :=
  let u := pb c 0
  forL (pmMask (pb c 1)) (fun k s =>
    let w := fun i => BitVec.ofNat 32 (pf c i 4)
    wrReg (pmAddr u k + 12) (w 16) (wrReg (pmAddr u k + 8) (w 12) (wrReg (pmAddr u k + 4) (w 8)
      (wrReg (pmAddr u k) (setBits (w 4) 31 31 0) s)))) (pmClear u (pb c 1) s)

/-- The counters of a mask no longer wait for a start. -/
def pmNoStart (u m : Nat) : State → State :=
  modPerf (fun p =>
    let l := p.starts.map (fun x => if x.unit = u then { x with counters := x.counters &&& (255 ^^^ m) } else x)
    { p with starts := l.filter (fun x => x.counters != 0) })

/-- Carry out a COUNTER_CONFIG. -/
def pmAct (c : Packet) (s : State) : State :=
  let u := pb c 0
  let m := pb c 1
  if pb c 2 = 1 then
    let s1 := pmNoStart u m (pmConfigure c s)
    if totalNs (pf c 20 6) (pf c 26 4) ≤ nowTotal s then pmEnable u m 1 s1
    else modPerf (fun p => { p with starts := p.starts ++ [⟨u, m, pf c 20 6, pf c 26 4⟩] }) s1
  else if pb c 2 = 2 then pmNoStart u m (pmEnable u m 0 s)
  else pmClear u m s

/-- Reserved bits of the CFG and FILTERS words, which R807 wants zero, EN apart. -/
def pmReserved (c : Packet) : Bool := bitsOf (pf c 4 4) 28 24 != 0 || bitsOf (pf c 8 4) 0 0 != 0 || bitsOf (pf c 12 4) 3 0 != 0

/-- The checks and effect of COUNTER_CONFIG (R764, R765). -/
def counterConfigPlan (c : Packet) (_ : Option Role) (s : State) : Plan :=
  let u := pb c 0
  let w := fun i => BitVec.ofNat 32 (pf c i 4)
  firstOf
    ([ bad (plen c ≠ 30 || !(unitsOf s).contains u || pb c 1 == 0 || pb c 2 == 0 || decide (3 < pb c 2) || pb c 3 != 0
        || !nsOk (pf c 26 4) || pmReserved c || pmBad u (w 4) (w 8) (w 12) (w 16)) ]
      ++ (match pmBlock u with | some b => [gated s b] | none => []))
    (Plan.done .ok [] (pmAct c))

/-- COUNTER_CONFIG (0x80, R520). -/
def opCounterConfig : Opcode := ⟨0x80, some .installer, false, true, noArea, counterConfigPlan⟩

/-- COUNTER_CONFIG: R764, R765. -/
def execCounterConfig (c : Packet) (s : State) : Host.Outcome State Fault Refusal := .next (runOpcode opCounterConfig c s)

/-- COUNTER_START: the start time of configured counters has come (R765). -/
def execCounterStart (s : State) : Host.Outcome State Fault Refusal :=
  let due := fun (x : PmStart) => decide (totalNs x.sec x.ns ≤ nowTotal s)
  .next (modPerf (fun p => { p with starts := p.starts.filter (fun x => !due x) })
    (forL (s.perf.starts.filter due) (fun x s => pmEnable x.unit x.counters 1 s) s))

/-! ## The sample tick (R754, R758, R760) -/

/-- The levels of a queue of R757 with the port that carries it. A level in KiB counts whole KiB and any part of one. -/
def pmLevels (s : State) (u code : Nat) : List (Option Nat × Nat) :=
  let kib := fun b => (b + 1023) / 1024
  let mine := fun (p : Nat → Bool) => (allPorts s).filter p
  if u < 6 then
    (mine (fun n => groupOf n == u)).map (fun n => (some n,
      if code = 0x0A then (port s n).esc.held.length else ((port s n).esc.rx.filter (fun x => x.payload.isSome)).length))
  else if u = 8 then [(none, (s.ch.lots.filter (fun e => e.2.st == .staged)).length)]
  else if u = 0x18 then [(none, (runningOps s).length)]
  else if u = 0x10 then [(none, kib (s.ctxs.map (fun e => (e.2.queue.map (fun f => f.bytes.length)).sum)).sum)]
  else if code = 7 then [(none, kib (lane s (u - 12)).elastic)]
  else (mine (fun n => laneOf n + 12 == u)).map (fun n => (some n, kib (hostPort s n).hold))

/-- The queue that a counter selects holds more than its THRESHOLD now, on some port that passes its filters. -/
def pmOver (s : State) (u c : Nat) : Bool :=
  let r := fun i => rdReg s (pmAddr u c + i)
  let code := wordBits (r 0) 23 16
  wordBits (r 0) 31 31 == 1 && wordBits (r 0) 30 29 == 1 && !pmBad u (r 0) (r 4) (r 8) (r 12)
    && (pmLevels s u code).any (fun l => decide (wordBits (r 0) 15 0 < l.2)
        && pmPasses (r 4) (r 8) (r 12) { PmAttr.none with port := l.1, partner := if u < 6 then l.1.map (partnerCodes s) else none })

/-- The occupancy counters see `k` sample ticks (R754). -/
def pmSample (k : Nat) (s : State) : State :=
  if rdG s F.CLK_READY_PLL_LINE = 0 then s
  else forL (unitsOf s) (fun u s =>
    if pmRuns s u then forN 8 (fun c s => if pmOver s u c then addCnt48 (pmAddr u c + 0x10) k s else s) s else s) s

/-- PM_SAMPLE_TICK: `ticks` of 10 ns pass. The clock runs, the occupancy counters sample, and the device counters of elapsed time, of the
stretch and of Doze count microseconds (R455, R754, R758); in Retain nothing counts and the clock stands (R685, R760). -/
def execPmSampleTick (ticks : Nat) (s : State) : Host.Outcome State Fault Refusal :=
  let us := (s.tick + ticks) / 100 - s.tick / 100
  let s1 := runClock ticks { pmSample ticks s with tick := s.tick + ticks }
  let s2 := if rdG s F.SUPPLY_STATUS_STRETCH = 1 then countDev 0x32 us s1 else s1
  let s3 := if rdG s F.PWR_STATUS_STATE = 2 then countDev 0x38 us s2 else s2
  .next (if inRetain s then s else countDev 0x3F us s3)

/-! ## The Codeword Sampler (R766-R769) -/

/-- Carry out a SAMPLER_CONFIG. -/
def samplerAct (c : Packet) (s : State) : State :=
  if pb c 0 = 1 then
    wrG F.SMP_STATUS_FULL 0 (wrG F.SMP_STATUS_RUNNING 1
      (modPerf (fun p => { p with sampler := ⟨pb c 1, pb c 2, bitsOf (pb c 3) 0 0 == 1, pf c 4 6, pf c 10 4, []⟩ }) s))
  else if pb c 0 = 2 then wrG F.SMP_STATUS_RUNNING 0 s
  else wrG F.SMP_NEXT 1 (clearMem (fun a => decide (0x44000000 ≤ a ∧ a < 0x44100000)) s)

/-- The checks and effect of SAMPLER_CONFIG (R766). -/
def samplerConfigPlan (c : Packet) (_ : Option Role) (s : State) : Plan :=
  firstOf
    [ bad (plen c ≠ 14 || pb c 0 == 0 || decide (3 < pb c 0) || decide (3 < pb c 1) || decide (15 < pb c 2) || decide (1 < pb c 3)
        || pf c 4 6 == 0 || decide (2 ^ portCount s ≤ pf c 4 6)),
      gated s 0x11 ]
    (Plan.done .ok [] (samplerAct c))

/-- SAMPLER_CONFIG (0x81, R520). -/
def opSamplerConfig : Opcode := ⟨0x81, some .installer, false, true, noArea, samplerConfigPlan⟩

/-- SAMPLER_CONFIG: R766. -/
def execSamplerConfig (c : Packet) (s : State) : Host.Outcome State Fault Refusal := .next (runOpcode opSamplerConfig c s)

/-- An item qualifies under SELECT and PORTS (R766). -/
def samplerTakes (x : Sampler) (it : SampItem) : Bool :=
  bitsOf x.ports it.port.val it.port.val == 1
    && (match x.select with
        | 0 => true
        | 1 => it.corrSym != 0 || it.rsCorr != 0
        | 2 => it.siruigo && it.retx
        | _ => decide (x.latMin ≤ it.latency.toNat))

/-- The record of an item (R767). -/
def samplerRecord (index : Nat) (it : SampItem) : List Byte :=
  let sir := fun n => if it.siruigo then n else 0
  natBE 4 index ++ natBE 1 it.port.val ++ natBE 1 ((if it.siruigo then 1 else 2) + 128 * bit it.retx) ++ natBE 2 (sir it.seq.toNat)
    ++ natBE 5 (sir it.s.toNat) ++ natBE 2 (if it.siruigo then it.worstTg.toNat else 0xFFFF) ++ natBE 1 (sir (it.worstPair.val * 64))
    ++ natBE 2 it.corrSym.toNat ++ natBE 1 it.rsCorr.toNat ++ natBE 1 (bit it.begins + 2 * bit it.heldGap) ++ natBE 4 it.latency.toNat
    ++ natBE 4 it.sec.toNat ++ natBE 4 (it.ns.toNat + 2 ^ 30 * it.epoch.toNat)

/-- Write one record, then advance SMP_NEXT; with STOP_FULL the sampler stops when 32,768 records are unread (R768). -/
def samplerWrite (it : SampItem) (s : State) : State :=
  let i := rdG s F.SMP_NEXT
  let s1 := wrG F.SMP_NEXT ((i + 1) % 2 ^ 32) (writeMem (0x44000000 + 32 * (i % 32768)) (samplerRecord i it) s)
  let unread := (i + 1 + 2 ^ 32 - rdG s F.SMP_READ) % 2 ^ 32
  let s2 := countDev 0x36 1 s1
  if s.perf.sampler.stopFull && unread == 32768 then wrG F.SMP_STATUS_FULL 1 (wrG F.SMP_STATUS_RUNNING 0 s2) else s2

/-- SAMPLER_RECORD: an item has been delivered or discarded. One in every 2^RATE that qualify on its port is recorded, or counted while
the sampler stands full (R766-R768). -/
def execSamplerRecord (it : SampItem) (s : State) : Host.Outcome State Fault Refusal :=
  let x := s.perf.sampler
  let run := rdG s F.SMP_STATUS_RUNNING == 1
  .next (if (run || rdG s F.SMP_STATUS_FULL == 1) && clkRun s 0x11 && samplerTakes x it then
      let k := SMap.get x.seen 0 it.port.val
      let s1 := modPerf (fun p => { p with sampler := { p.sampler with seen := SMap.set p.sampler.seen 0 it.port.val ((k + 1) % 2 ^ x.rate) } }) s
      if k ≠ 0 then s1 else if run then samplerWrite it s1 else countDev 0x37 1 s1
    else s)

/-! ## Temperature (R794) -/

/-- TEMP_NOW_UPDATE: TEMP_NOW is the highest of the sensors' readings. -/
def execTempNowUpdate (rs : List (BitVec 16)) (s : State) : Host.Outcome State Fault Refusal :=
  .next (match rs with
    | [] => s
    | r :: t => wrG F.TEMP_NOW (t.foldl (fun m x => if m.toInt < x.toInt then x else m) r).toNat s)

/-! ## Boundary scan (R790) -/

/-- BOUNDARY_SCAN_INSTRUCTION: every port goes down with cause COMMAND and every lane group leaves service, while the boundary cells drive the
balls. -/
def execBoundaryScanInstruction (i : ScanInstr) (s : State) : Host.Outcome State Fault Refusal :=
  let s1 := modClk (fun c => { c with safeNow := { c.safeNow with scanBoundary := some i } }) s
  .next (if s.clk.safeNow.scanBoundary.isSome then s1 else forL (allLanes s) laneOff (portsDown (fun _ => true) 5 s1))

/-- BOUNDARY_SCAN_EXIT: the instruction leaves the register; ports and lane groups start again where nothing else holds them. -/
def execBoundaryScanExit (s : State) : Host.Outcome State Fault Refusal :=
  .next (if s.clk.safeNow.scanBoundary.isSome then
      let s1 := modClk (fun c => { c with safeNow := { c.safeNow with scanBoundary := none } }) s
      wakePorts (fun _ => true) (forL (allLanes s) laneAuto s1)
    else s)

end Sys2Proof.Machine
end

