-- ==== Sys2Proof/Machine/Sleep.lean ====
section
/-!
DEFINITION. Doze and Retain (R659, R660, R675-R695): SLEEP and its stop order, the wakes, the pad hold, and transfers in flight.
-/
namespace Sys2Proof.Machine

/-! ## SLEEP (R675-R681) -/

/-- The stop order of a target, first block first (R677). -/
def stopOrder (s : State) (retain : Bool) : List Nat :=
  [0x10, 0x12, 0x11] ++ (if retain then (allLanes s).map (· + 12) else []) ++ [8] ++ allGroups s

/-- An armed context has a launch due within the window of R679: the context. -/
def launchDue (s : State) (retain : Bool) : Option Nat :=
  let w := if retain then 10000000000 else 5000000
  (ctxsWhere s (fun x => x.st == .armed && decide (x.due ≤ nowTotal s + w))).head?

/-- A port of group g that keeps it from Doze: enabled, and up but not in Shutter or LPI, or training (R679). -/
def portActive (s : State) (g : Nat) : Option Nat :=
  (allPorts s).find? (fun n => groupOf n == g && enabled s n
    && ((linkUp s n && !inShutter s n && !(port s n).shut.lpi) || (port s n).st == .training || (port s n).st == .stdTraining))

/-- Why a block refuses to stop: the reason and DETAIL (R679). The group of SELFTEST is a port group or a lane group. -/
def stopRefusal (s : State) (retain : Bool) (b : Nat) : Option (Nat × Nat) :=
  if b = 0x10 then (launchDue s retain).map (fun c => (1, c))
  else if b = 8 then (if s.ch.survey.isSome || s.ch.join.isSome then some (5, 0) else none)
  else if b < 6 then
    match (if retain then none else portActive s b), s.cal.runs.find? (fun r => !r.lane && groupOf r.index == b) with
    | some n, _ => some (2, n)
    | none, some r => some (3, r.index)
    | none, none => if s.audit.held.contains b then some (4, b) else none
  else if 12 ≤ b ∧ b < 16 then
    (if (1 ≤ laneStep s (b - 12) ∧ laneStep s (b - 12) ≤ 4) ∨ (lane s (b - 12)).test.isSome = true then some (6, b - 12)
    else if s.audit.held.contains b then some (4, b - 12) else none)
  else none

/-- A diagnostic that runs or waits ends with the engine (R390, R677). -/
def diagStop (s : State) : State :=
  forL s.diag.runs (fun r s => if r.begun && r.kind == 5 then captureCut r.op s else diagEnd r.op .aborted s) s

/-- A block stops (R677). -/
def stopBlock (retain : Bool) (b : Nat) (s : State) : State :=
  let s1 := if b = 0x12 then diagStop s else if retain && decide (b < 6) then portsDown (fun n => groupOf n == b) 5 s else s
  let s2 := modPower (fun p => { p with sleep := p.sleep.map (fun o => { o with stopped := b :: o.stopped, toAsk := o.toAsk.drop 1 }) }) s1
  if retain then blockStop b s2 else s2

/-- A stopped block restarts: after a stop for Retain the time unit places its grid, a lane group trains from step 2, and the ports
of a group negotiate (R463, R680). -/
def restartBlock (retain : Bool) (b : Nat) (s : State) : State :=
  let s1 := modPower (fun p => { p with sleep := p.sleep.map (fun o => { o with stopped := o.stopped.filter (· != b) }) }) s
  if !retain then s1
  else if 12 ≤ b ∧ b < 16 then laneGo (b - 12) 2 s1
  else if clkRun s1 b then blockStart b s1
  else s1

/-- An entry ends early: the stopped blocks restart in the reverse of the order in which they stopped (R680). -/
def sleepCancel (st : Status) (data : List Byte) (s : State) : State :=
  match s.power.sleep with
  | some o =>
    let s1 := forL o.stopped (restartBlock o.retain) s
    endOp o.op st data (wrG F.PWR_STATUS_WAKE_PENDING 0 (wrG F.PWR_STATUS_STATE 0
      (modPower (fun p => { p with sleep := none, wakeLatch := none }) s1)))
  | none => s

/-- The wake from Retain begins: the source is latched (R690 step 1). -/
def wakeBegin (src bus n : Nat) (during : Bool) (s : State) : State :=
  let s1 := wrG F.WAKE_STATUS_PORT n (wrG F.WAKE_STATUS_BUS bus (wrG F.WAKE_STATUS_DURING_ENTRY (bit during) (wrG F.WAKE_STATUS_SOURCE src s)))
  let s2 := wrG F.PWR_STATUS_STATE 4 (modPower (fun p => { p with wakeStep := 1, wakeLatch := none }) s1)
  if during then evG F.PWR_EVENTS_WAKE_DURING_ENTRY s2 else s2

/-- Entry into Doze completes; a wake latched meanwhile ends it at once (R681, R682). -/
def dozeEnter (o : SleepOp) (s : State) : State :=
  let s1 := endOp o.op .ok [] (wrG F.PWR_STATUS_STATE 2 s)
  match s.power.wakeLatch with
  | some _ =>
    let s2 := wakeDoze (modPower (fun p => { p with wakeLatch := none }) s1)
    evG F.PWR_EVENTS_WAKE_DURING_ENTRY (wrG F.WAKE_STATUS_DURING_ENTRY 1 (wrG F.PWR_STATUS_WAKE_PENDING 0 s2))
  | none => modPower (fun p => { p with sleep := none }) s1

/-- Every clock flag of CLK_READY but IRO_MEASURED reads 0: the PLLs and the IRO have stopped. -/
def clocksOff (s : State) : State :=
  wrG F.CLK_READY_PLL_DSP 0 (wrG F.CLK_READY_PLL_LANE 0 (wrG F.CLK_READY_PLL_CH 0 (wrG F.CLK_READY_PLL_LINE 0
    (wrG F.CLK_READY_PLL_MGMT 0 (wrG F.CLK_READY_REFCLK_VALID 0 (wrG F.CLK_READY_IRO_VALID 0 s))))))

/-- Entry into Retain completes: the pads are latched, VDD_CORE goes to 0.60 V, the operation ends, and the PLLs, the cores and the IRO stop;
the cores will resume on the IRO (R668, R681, R690, R692). -/
def retainEnter (o : SleepOp) (s : State) : State :=
  let s1 := wrG F.PWR_STATUS_PADS_HELD 1 (modClk (fun c => { c with gpioLatch := some (c.gpioLatch.getD (rdReg s 0x100C0)) })
    (modPower (fun p => { p with heldPads := 15 }) s))
  let s2 := countDev 0x39 1 (endOp o.op .ok [] (modPower (fun p => { p with avsPending := none }) (avsWrite 600 s1)))
  let s3 := { wrG F.CLK_SEL_STATUS_MGMT_SRC 0 (clocksOff s2) with stage := .stopped }
  match s.power.wakeLatch with
  | some (src, bus, n) => wakeBegin src bus n true s3
  | none => s3

/-- SLEEP_BLOCK_STOP: the next block of the stop order is asked; it stops, or refuses and the entry ends REFUSED (R677-R681). -/
def execSleepBlockStop (s : State) : Host.Outcome State Fault Refusal :=
  .next (match s.power.sleep with
    | some o =>
      (match o.toAsk with
        | b :: rest =>
          (match stopRefusal s o.retain b with
            | some (r, d) => evG F.PWR_EVENTS_REFUSED (sleepCancel .refused (natBE 1 b ++ natBE 1 r ++ natBE 2 d) s)
            | none =>
              let k := o.stopped.length + 1
              let n := k + rest.length
              let s1 := opItem o.op 0 b 0 0 (stopBlock o.retain b s)
              if rest.isEmpty then (if o.retain then retainEnter o s1 else dozeEnter o s1)
              else opProgress o.op (k + 1) n (k * 100 / n) s1)
        | [] => s)
    | none => s)

/-- The checks and effect of SLEEP (R675, R676). A wake that has not completed counts as an entry that runs. -/
def sleepPlan (c : Packet) (role : Option Role) (s : State) : Plan :=
  let retain := pb c 0 == 2
  let arm := pf c 2 6
  firstOf
    [ bad (plen c ≠ 8 || !(pb c 0 == 1 || retain) || decide (3 < pb c 1) || decide (2 ^ portCount s ≤ arm)),
      busyIf s (s.power.sleep.isSome || s.power.levelOp.isSome || s.power.wakeStep != 0) ]
    (Plan.long s 0x71 role (stopOrder s retain).length (fun id s =>
      let s1 := wrG F.WAKE_ARM_HI (arm / 2 ^ 32) (wrG F.WAKE_ARM_LO (arm % 2 ^ 32) s)
      let s2 := wrG F.WAKE_CTRL_CP_WAKE (bitsOf (pb c 1) 1 1) (wrG F.WAKE_CTRL_MDIO_WAKE (bitsOf (pb c 1) 0 0) s1)
      wrG F.PWR_STATUS_STATE (if retain then 3 else 1)
        (modPower (fun p => { p with sleep := some ⟨id, retain, [], stopOrder s retain⟩, wakeLatch := none }) s2)))

/-- SLEEP (0x71, R520). -/
def opSleep : Opcode := ⟨0x71, some .installer, false, true, noArea, sleepPlan⟩

/-- SLEEP: R675, R676. -/
def execSleep (c : Packet) (s : State) : Host.Outcome State Fault Refusal := .next (runOpcode opSleep c s)

/-! ## Wakes (R682, R684, R686-R691) -/

/-- DOZE_WAKE: one of the events of R684; during the entry it is latched (R682). -/
def execDozeWake (s : State) : Host.Outcome State Fault Refusal := .next (wakeDoze s)

/-- The port that a port address on a bus names, where the device owns it (R593). -/
def mdioPort (s : State) (bus prtad : Nat) : Option Nat :=
  let base := if s.straps.mdioBase then 8 else 0
  if base ≤ prtad ∧ prtad < base + 24 ∧ hasPort s (24 * bus + (prtad - base)) = true then some (24 * bus + (prtad - base)) else none

/-- An enabled wake source: its code, bus and port (R686). -/
def wakeSource (s : State) : WakeSrc → Option (Nat × Nat × Nat)
  | .mdio bus prtad =>
    if rdG s F.WAKE_CTRL_MDIO_WAKE = 1 then (mdioPort s bus.val prtad.val).map (fun n => (1, bus.val + 1, n)) else none
  | .energy n =>
    let arm := rdG s F.WAKE_ARM_LO + 2 ^ 32 * rdG s F.WAKE_ARM_HI
    if hasPort s n.val && bitsOf arm n.val n.val == 1 then some (2, 0, n.val) else none
  | .commandPort => if rdG s F.WAKE_CTRL_CP_WAKE = 1 then some (3, 0, 0) else none

/-- RETAIN_WAKE: in Retain the wake begins; during the entry it is latched. The transaction that wakes the device is ignored (R682, R686,
R688, R690). -/
def execRetainWake (w : WakeSrc) (s : State) : Host.Outcome State Fault Refusal :=
  .next (match wakeSource s w with
    | some (src, bus, n) =>
      if s.stage == .stopped && s.power.wakeStep == 0 then
        let s1 := wakeBegin src bus n false s
        if src = 3 then setDropped s1 else s1
      else if rdG s F.PWR_STATUS_STATE = 3 && s.power.wakeLatch.isNone then
        wrG F.PWR_STATUS_WAKE_PENDING 1 (modPower (fun p => { p with wakeLatch := some (src, bus, n) }) s)
      else s
    | none => s)

/-- The blocks that a test picks are powered again: their clocks start (R690). -/
def powerBlocks (p : Nat → Bool) (s : State) : State :=
  settle s (modPower (fun x => { x with sleep := x.sleep.map (fun o => { o with stopped := o.stopped.filter (fun b => !p b) }) }) s)

/-- WAKE_PLL_RELOCK: with REFCLK valid the PLLs relock at their held settings, VDD_CORE goes to its Run target, and the network clock resumes
from its held value with a new grid; it waits while a rail is outside its range (R690 step 4, R691, R783). -/
def execWakePllRelock (s : State) : Host.Outcome State Fault Refusal :=
  .next (if s.power.wakeStep = 2 ∧ rdG s F.CLK_READY_REFCLK_VALID = 1 ∧ s.power.lowRails = [] then
      let dsp := (List.finRange 6).map (fun g => if dspUse s g.val = 0 then Pll.dspA g else Pll.dspB g)
      let s1 := forL ([Pll.mgmt, .line, .ch, .lane] ++ dsp) pllReady s
      powerBlocks (fun b => b == 16 || b == 17 || b == 18) (modPower (fun p => { p with wakeStep := 3 }) (avsWrite (coreNeed s1 0) s1))
    else s)

/-- WAKE_DOMAINS_POWERED: the Clearing House, the lane groups and the port groups are powered, and the device is in Run (R690 step 5). -/
def execWakeDomainsPowered (s : State) : Host.Outcome State Fault Refusal :=
  .next (if s.power.wakeStep = 3 then
      settle s (wrG F.PWR_STATUS_STATE 0 (modPower (fun p => { p with sleep := none, wakeStep := 0 }) s))
    else s)

/-! ## PAD_RELEASE (R693) -/

/-- The pad sets of a mask take the state that their registers and blocks give them. -/
def padRelease (m : Nat) (s : State) : State :=
  let left := s.power.heldPads &&& (15 ^^^ m)
  let s1 := wrG F.PWR_STATUS_PADS_HELD (bit (decide (left ≠ 0))) (modPower (fun p => { p with heldPads := left }) s)
  let s2 := if bitsOf m 0 0 = 1 ∧ rdG s F.SAFE_STATUS_ACTIVE = 0 then modClk (fun c => { c with gpioLatch := none }) s1 else s1
  let s3 := if bitsOf m 3 3 = 1 ∧ bitsOf s.power.heldPads 3 3 = 1 then forL (allLanes s2) laneAuto s2 else s2
  if bitsOf m 2 2 = 1 ∧ bitsOf s.power.heldPads 2 2 = 1 then wakePorts (fun _ => true) s3 else s3

/-- PAD_RELEASE (0x72, R520). -/
def opPadRelease : Opcode :=
  ⟨0x72, some .installer, false, true, noArea, fun c _ s =>
    firstOf [ bad (plen c ≠ 4 || pb c 0 == 0 || decide (16 ≤ pb c 0) || !zeros c 1 3),
              chk (rdG s F.PWR_STATUS_STATE != 0) (Plan.retryIn .notReady 0) ]
      (Plan.done .ok [] (padRelease (pb c 0)))⟩

/-- PAD_RELEASE: R693. -/
def execPadRelease (c : Packet) (s : State) : Host.Outcome State Fault Refusal := .next (runOpcode opPadRelease c s)

/-! ## Transfers in flight (R694, R695) -/

/-- What the abort of `k` transfers of a type leaves at its target: the context of a launch frame, the port of a capture or of a host-lane
record (R694). -/
def xferLeft (ty k tgt : Nat) (s : State) : State :=
  match ty with
  | 1 => addCnt 0 F.XFER_ABORTS_COEF k s
  | 2 => addCnt 0 F.XFER_ABORTS_LAUNCH k (modCtx (tgt % 16384) (fun x => { x with queue := x.queue.drop k, dropped := x.dropped + k }) s)
  | 3 =>
    let op := (s.diag.runs.find? (fun r => r.kind == 5 && r.begun && r.port == tgt)).map (·.op)
    addCnt 0 F.XFER_ABORTS_CAPTURE k (match op with | some id => captureCut id s | none => s)
  | 4 => addCnt 0 F.XFER_ABORTS_OTHER k s
  | _ => addCnt 0 F.XFER_ABORTS_OTHER k (if tgt < 48 then addCnt (portBase tgt) F.HL_HTX_DROP k s
      else addCnt (portBase (tgt % 48)) F.HL_HRX_DROP k s)

/-- TRANSFER_ABORT: transfers still in flight 64 µs after their block stops are aborted and reported. `tgt` is the context of a launch
frame, the port of a capture or of an HTX record, and 48 more than the port of an HRX record (R694, R695, R758). -/
def execTransferAbort (ty : Fin 6) (count : Byte) (tgt : Nat) (s : State) : Host.Outcome State Fault Refusal :=
  .next (if ty.val = 0 ∨ count = 0 then s
    else evG F.PWR_EVENTS_XFER_ABORT (countDev 0x3B count.toNat (journalEvent 0 0x21 ty.val count.toNat (xferLeft ty.val count.toNat tgt s))))

end Sys2Proof.Machine
end

