-- ==== Sys2Proof/Machine/Survey.lean ====
section
/-!
DEFINITION. The Bundle Survey, joins, lending and the windows of the Clearing House, and its opcodes (06_clearing_house_and_bank.md).
-/
namespace Sys2Proof.Machine

/-! ## BANK_POLICY and BANK_STATUS (R291-R294) -/

/-- Take up a pending policy at a window boundary (R293). -/
def policyDue (s : State) : State :=
  match s.ch.pendPolicy with
  | some (p, f) =>
    let w := bitsOf f 0 0 * 0x8000 + bitsOf f 4 4 * 0x4000 + bitsOf f 3 3 * 0x2000 + bitsOf f 2 2 * 0x1000 + bitsOf f 1 1 * 0x800
    wrReg 0x11000 (BitVec.ofNat 32 w) (modCh (fun c => { c with policy := { p with base := c.policy.base }, pendPolicy := none }) s)
  | none => s

/-- The ports of a 48-bit mask that the part does not have. -/
def maskBeyond (s : State) (m : Nat) : Bool := s.part == .qn4824 && decide (m / 2 ^ 24 ≠ 0)

/-- The checks and effect of BANK_POLICY: BASE at once for the next selection, the rest at the next window (R292, R293). -/
def bankPolicyPlan (c : Packet) (_ : Option Role) (s : State) : Plan :=
  let p : Policy := ⟨pb c 1, pb c 2, pb c 3, pf c 4 2, pf c 6 2, pf c 8 6⟩
  firstOf
    [ bad (plen c ≠ 14 || decide (pb c 0 ≥ 32) || decide (p.base < 8 ∨ 28 < p.base) || decide (p.maxLots < p.base ∨ 64 < p.maxLots)
        || decide (20 < p.hyst) || decide (p.stageLots < 2048 ∨ 32768 < p.stageLots)
        || decide (p.dormantHold < 1 ∨ 3600 < p.dormantHold) || maskBeyond s p.priority),
      gated s 8, inAudit s 8 ]
    (Plan.done .ok (natBE 5 (nextWindow s))
      (modCh (fun ch => { ch with policy := { ch.policy with base := p.base }, pendPolicy := some (p, pb c 0) })))

/-- BANK_POLICY (R291). -/
def opBankPolicy : Opcode := ⟨0x32, some .installer, false, true, noArea, bankPolicyPlan⟩

/-- BANK_POLICY: R292, R293. -/
def execBankPolicy (c : Packet) (s : State) : Host.Outcome State Fault Refusal := .next (runOpcode opBankPolicy c s)

/-- A bit for each port that a test picks. -/
def portBits (s : State) (p : Nat → Bool) : Nat := ((allPorts s).filter p).foldl (fun a n => a + 2 ^ n) 0

/-- The lots that a test picks, counted. -/
def lotsWhere (s : State) (p : Lot → Bool) : Nat := (s.ch.lots.filter (fun e => p e.2)).length

/-- The summary of R294. -/
def bankSummary (s : State) : List Byte :=
  natBE 4 (freeLots s) ++ natBE 4 (lotsWhere s (fun l => l.st == .live)) ++ natBE 4 (lotsWhere s (fun l => l.st == .live && l.lent))
    ++ natBE 4 (lotsWhere s (fun l => l.st == .staged || l.st == .retiring))
    ++ natBE 6 (portBits s (fun n => rdP s n F.CH_PORT_CH_STATE == 3)) ++ natBE 6 (portBits s (fun n => rdP s n F.CH_PORT_FOREIGN == 1))
    ++ natBE 4 s.ch.surveyOp ++ natBE 5 s.ch.lastSurvey ++ natBE 2 (rdG s F.CH_TOP_TONE)

/-- The checks and results of BANK_STATUS (R294). -/
def bankStatusPlan (c : Packet) (_ : Option Role) (s : State) : Plan :=
  firstOf
    [ bad (decide (1 < pb c 0) || plen c ≠ pb c 0 + 1 || (pb c 0 == 1 && decide (4 * portCount s ≤ pb c 1))), gated s 8, inAudit s 8 ]
    (Plan.done .ok (if pb c 0 = 0 then bankSummary s else readMem s (0xC00000 + 0x2000 * pb c 1) 119) id)

/-- BANK_STATUS; a victim report needs an installer session (R291). -/
def opBankStatus : Opcode :=
  ⟨0x31, some .operator, false, false, fun c r _ => pb c 0 == 1 && !atLeast r (some .installer), bankStatusPlan⟩

/-- BANK_STATUS: R294. -/
def execBankStatus (c : Packet) (s : State) : Host.Outcome State Fault Refusal := .next (runOpcode opBankStatus c s)

/-! ## The Survey's position (R270, R278, R295) -/

/-- Change the Survey in progress. -/
def modSurvey (f : SurveyRun → SurveyRun) : State → State := modCh (fun c => { c with survey := c.survey.map f })

/-- The Survey is at step k. -/
def surveyStep (k : Nat) (s : State) : State :=
  match s.ch.survey with
  | some r =>
    let pct := (k - 1) * 100 / max 1 r.n
    wrG F.SURVEY_STATUS_POSITION k (wrG F.SURVEY_STATUS_PROGRESS pct (opProgress r.op k r.n pct (modSurvey (fun r => { r with k := k }) s)))
  | none => s

/-- The Survey ends: its staged lots are freed, and the operation completes (R270, R278, R280). -/
def surveyEnd (st : Status) (s : State) : State :=
  match s.ch.survey with
  | some r =>
    let mine := fun v => (victim s v).survey && (victim s v).commitAt.isNone && (victim s v).joins.isEmpty
    let s1 := dropStaged mine s
    let vs := mapVals Victim.init (fun v x => { x with survey := false, commitAt := if mine v then none else x.commitAt }) s1.ch.victims
    let s2 := modCh (fun c => { c with survey := none, lastSurvey := s.time.s, victims := vs }) s1
    let s3 := wrG F.SURVEY_STATUS_HELD 0 (wrG F.SURVEY_STATUS_ACTIVE 0 s2)
    let ev := if st = .aborted then F.CH_EVENTS_SURVEY_ABORTED else F.CH_EVENTS_SURVEY_DONE
    let pct := if st = .aborted then rdG s F.SURVEY_STATUS_PROGRESS else 100
    endOpWith (st != .aborted) r.op st [] (evG ev (wrG F.SURVEY_STATUS_PROGRESS pct s3))
  | none => s

/-- The victim pairs of a Survey's roster (R270, R274). -/
def surveyRoster (s : State) (scope mask : Nat) : List Nat :=
  ((allPorts s).filter (fun n => !(victimSets s n).isEmpty && (scope != 1 || bitsOf mask n n == 1))).flatMap
    (fun n => (List.range 4).map (· + 4 * n))

/-- Start a Survey: step 1 fixes the roster; without a victim pair it is complete (R270, R275). -/
def surveyBegin (scope mask : Nat) (hold : Option (Nat × Nat)) (n : Nat) (op : Nat) (s : State) : State :=
  let v := surveyRoster s scope mask
  let left := if scope = 2 then [] else v
  let r : SurveyRun := ⟨op, scope, hold, left, [], left.length, 1, n, [], false⟩
  let s1 := wrG F.SURVEY_STATUS_PROGRESS 0 (wrG F.SURVEY_STATUS_POSITION 1 (wrG F.SURVEY_STATUS_ACTIVE 1
    (modCh (fun c => { c with survey := some r, surveyOp := op }) s)))
  if v.isEmpty then surveyEnd .ok s1 else s1

/-- The checks and effect of SURVEY_START (R274, R275, R284). -/
def surveyStartPlan (c : Packet) (role : Option Role) (s : State) : Plan :=
  let scope := pb c 0
  let mask := pf c 1 6
  let b := (surveyRoster s scope mask).length
  let n := (if scope = 2 then 0 else (b + 9) / 10) + 3
  let hold := if pb c 7 = 1 then some (pf c 8 6, pf c 14 4) else none
  firstOf
    [ bad (plen c ≠ 18 || decide (2 < scope) || (scope == 1 && mask == 0) || decide (1 < pb c 7) || maskBeyond s mask || !nsOk (pf c 14 4)),
      gated s 8, inAudit s 8, busyIf s (s.ch.survey.isSome || s.diag.holder.isSome) ]
    (Plan.long s 0x30 role n (surveyBegin scope mask hold n))

/-- SURVEY_START (R291). -/
def opSurveyStart : Opcode := ⟨0x30, some .installer, false, true, noArea, surveyStartPlan⟩

/-- SURVEY_START: R270, R274, R275. -/
def execSurveyStart (c : Packet) (s : State) : Host.Outcome State Fault Refusal := .next (runOpcode opSurveyStart c s)

/-- OP_ABORT on a Survey: commits already named are still made, the other staged lots are freed, and it completes ABORTED
(R280). -/
def surveyAbort (s : State) : State := surveyEnd .aborted s

/-! ## The band check (R272, R273) -/

/-- Every sub-band 36..k lies at 3 dB of excess or less on a port. -/
def bandsGood (k : Nat) (m : BandMeas) : Bool := (m.excess.take (k - 35)).all (fun e => decide (e ≤ 30))

/-- The new CH_TOP_TONE, and whether it is a roll-off; none with fewer than four Siruigo ports (R272). -/
def bandResult (l : List BandMeas) : Option (Nat × Bool) :=
  if l.length < 4 then none
  else
    let high := l.filter (fun m => decide (240 < ((m.excess.drop 24).take 4).foldl (· + ·) 0))
    if 3 * l.length ≤ 4 * high.length then
      let k := ((List.range' 36 28).filter (fun k => l.all (bandsGood k))).getLast?.getD 35
      some (64 * k + 63, true)
    else some (4095, false)

/-- A port's direction carries a loaded tone above a limit. -/
def loadedAbove (tb : Table) (top : Nat) : Bool := tb.any (fun l => (l.drop (top + 1)).any (fun e => e.bits.val != 0))

/-- The band check ends: CH_TOP_TONE, and for ports in service above the new limit the tones above it are to be cleared
by LOADING_NEED as transmitter and by a request of their own as receiver (R273). -/
def bandCheck (ms : List BandMeas) (s : State) : State :=
  match bandResult (ms.filter (fun m => inService s m.port.val)) with
  | some (top, roll) =>
    let s1 := whenB roll (evG F.CH_EVENTS_ROLLOFF) (wrG F.CH_TOP_TONE top s)
    forL ((allPorts s).filter (inService s)) (fun n s =>
      let b : List Band := [⟨BitVec.ofNat 12 (top + 1), 4095⟩]
      let sf := BitVec.ofNat 40 (toLink s n (s.time.s + 8))
      let s1 := if loadedAbove (readTable s n 0) top then sendMsg n 0x13 true (.loadingNeed sf b) s else s
      if loadedAbove (readTable s n 1) top then modPort n (fun p => { p with needs := p.needs ++ [⟨true, 0, s.time.s + 8, b, none, []⟩] }) s1 else s1) s1
  | none => s

/-- BAND_CHECK: step 2 of a Survey ends (R270, R272); while a join holds the store the Survey waits (R283). -/
def execBandCheck (ms : List BandMeas) (s : State) : Host.Outcome State Fault Refusal :=
  .next (match s.ch.survey with
    | some r =>
      if r.k ≤ 2 ∧ s.ch.join = none ∧ clkRun s 8 = true then
        surveyStep (if r.left.isEmpty then r.n else 3) (bandCheck ms s)
      else s
    | none => s)

/-! ## Batches (R270, R276-R278, R282) -/

/-- The lots staged or retiring. -/
def stagedLots (s : State) : Nat := lotsWhere s (fun l => l.st == .staged || l.st == .retiring)

/-- A victim pair of a batch is measured: selected and staged, or skipped and kept when it is absent (R282), or dropped from the
roster when its port has left. -/
def batchVictim (v : Nat) (s : State) : State :=
  if (victimSets s (v / 4)).isEmpty then s
  else if pairAbsent s v then surveyNote v 2 0 s
  else modVictim v (fun x => { x with survey := true, window := windowNow s }) (selectVictim v s)

/-- Measure a batch, as far as the staging limit of BANK_POLICY allows: the victim pairs that are not reached are answered. -/
def runBatch : List Nat → State → List Nat × State
  | [], s => ([], s)
  | v :: t, s => if stagedLots s ≥ s.ch.policy.stageLots then (v :: t, s) else runBatch t (batchVictim v s)

/-- A batch's map window ends (R270). -/
def surveyBatch (cells : List MapCell) (floors : List MapFloor) (r : SurveyRun) (s : State) : State :=
  let s1 := storeMap cells floors s
  if r.left.isEmpty then
    let (rest, s2) := runBatch (r.again.take 10) s1
    surveyStep r.n (modSurvey (fun x => { x with again := rest ++ r.again.drop 10 }) s2)
  else
    let (rest, s2) := runBatch (r.left.take 10) s1
    let left := rest ++ r.left.drop 10
    let s3 := modSurvey (fun x => { x with left := left }) s2
    surveyStep (if left.isEmpty then r.n else min r.n (r.k + 1)) s3

/-- SURVEY_BATCH: R270; it waits while a join holds the store (R283), and at the staging limit (R277). -/
def execSurveyBatch (cells : List MapCell) (floors : List MapFloor) (s : State) : Host.Outcome State Fault Refusal :=
  .next (match s.ch.survey with
    | some r =>
      if 3 ≤ r.k ∧ s.ch.join = none ∧ clkRun s 8 = true ∧ (r.left ≠ [] ∨ r.again ≠ []) ∧ stagedLots s < s.ch.policy.stageLots then
        surveyBatch cells floors r s
      else s
    | none => s)

/-- SURVEY_RELEASE: after the last commits the Survey completes: OK when every victim pair was committed, PARTIAL when any
was kept (R270, R278). -/
def execSurveyRelease (s : State) : Host.Outcome State Fault Refusal :=
  .next (match s.ch.survey with
    | some r =>
      if 3 ≤ r.k ∧ r.left = [] ∧ r.again = [] ∧ s.ch.victims.any (fun e => e.2.survey) = false then
        surveyEnd (if r.outcome.any (fun e => e.2 == 2) then .partialDone else .ok) (surveyStep r.n s)
      else s
    | none => s)

/-! ## Joins (R285-R290) -/

/-- A victim pair waits for the join of port n. -/
def joinVictim (v n : Nat) (s : State) : State :=
  modVictim v (fun x => { x with joins := x.joins.filter (· != n) ++ [n], window := windowNow s, again := false }) s

/-- A victim pair has lots staged or retiring for the disturbers of port n. -/
def stagedFor (s : State) (w n : Nat) : Bool :=
  s.ch.lots.any (fun e => e.2.victim == w && e.2.dist / 4 == n && (e.2.st == .staged || e.2.st == .retiring))

/-- Stage what a join changes in one victim pair: its own pairs whole, the others for its disturber pairs (R285). -/
def joinStage (n v : Nat) (s : State) : State :=
  if v / 4 = n then joinVictim v n (selectVictim v s)
  else
    let s1 := joinInto v n s
    if stagedFor s1 v n then joinVictim v n s1 else s1

/-- The measurement window of the join that holds the store ends; the store passes on (R285, R286). -/
def joinMeasured (cells : List MapCell) (floors : List MapFloor) (n : Nat) (s : State) : State :=
  let s1 := storeMap cells floors s
  let redo := (allVictims s).filter (fun v => (victim s v).again && (victim s v).joins.contains n)
  let vs := if redo.isEmpty then
      ((List.range 4).map (· + 4 * n)).filter (fun v => !pairAbsent s v) ++ (allVictims s).filter (fun v => v / 4 != n && !(victimSets s (v / 4)).isEmpty)
    else redo
  let s2 := forL vs (fun v s => joinStage n v s) s1
  let total := (s2.ch.victims.filter (fun e => e.2.joins.contains n)).length
  joinCheck n (modCh nextJoin (if redo.isEmpty then modTr n (fun t => { t with joinTotal := total }) s2 else s2))

/-- JOIN_MEASURED: R285. -/
def execJoinMeasured (cells : List MapCell) (floors : List MapFloor) (s : State) : Host.Outcome State Fault Refusal :=
  .next (match s.ch.join with
    | some n => if clkRun s 8 then joinMeasured cells floors n s else s
    | none => s)

/-! ## The commit check and commits (R246, R263, R266-R268, R276, R277) -/

/-- The superframe that a victim pair's commit takes (R260, R276, R285). -/
def commitName (s : State) (x : Victim) : Nat :=
  if x.survey then
    match s.ch.survey.bind (·.hold) with
    | some (sec, ns) => max (s.time.s + 8) (sfAt s (totalNs sec ns))
    | none => s.time.s + 8
  else if !x.joins.isEmpty then s.time.s + 8
  else nextWindow s

/-- SHADOW_READY: the staged lots face the commit check: at most 0.5 dB above the live residual, both in 0.1 dB (R267). A
Survey's commit superframe is written to the Journal (R276). -/
def shadowReady (v : Nat) (shadow live : Int) (s : State) : State :=
  let x := victim s v
  if x.staged = false ∨ x.commitAt ≠ none ∨ x.again = true then s
  else if shadow ≤ live + 5 then
    let k := commitName s x
    let s1 := modVictim v (fun y => { y with commitAt := some k }) s
    match s.ch.survey with
    | some r => if x.survey then opStep r.op k s1 else s1
    | none => s1
  else
    let s1 := discardStaged v s
    if x.tries = 0 then measureAgain v s1 else keepVictim v s1

@[inherit_doc shadowReady]
def execShadowReady (v : Fin 192) (shadow live : Int) (s : State) : Host.Outcome State Fault Refusal := .next (shadowReady v.val shadow live s)

/-- SURVEY_COMMIT: a due commit of a Survey or a join, in stage 3 (R276, R285). -/
def execSurveyCommit (v : Fin 192) (s : State) : Host.Outcome State Fault Refusal :=
  .next (if (victim s v.val).survey || !(victim s v.val).joins.isEmpty then commitDue v.val s else s)

/-- LENDING_COMMIT: a due commit of lent lots, in stage 4 (R260). -/
def execLendingCommit (v : Fin 192) (s : State) : Host.Outcome State Fault Refusal :=
  .next (if (victim s v.val).survey || !(victim s v.val).joins.isEmpty then s else commitDue v.val s)

/-- COMMIT_SWEEP: R246. -/
def execCommitSweep (v : Fin 192) (s : State) : Host.Outcome State Fault Refusal := .next (sweepVictim v.val s)

/-- STAGED_EXPIRY: lots still staged 8 windows after their measurement are freed, and the victim pair is measured again (R277). -/
def execStagedExpiry (v : Fin 192) (s : State) : Host.Outcome State Fault Refusal :=
  let x := victim s v.val
  .next (if x.staged && hasStaged s v.val then measureAgain v.val (discardStaged v.val s) else s)

/-- DORMANT_HOLD_EXPIRY: R288; the hold does not count in Retain (R685). -/
def execDormantHoldExpiry (n : Port) (s : State) : Host.Outcome State Fault Refusal :=
  .next (if rdP s n.val F.CH_PORT_CH_STATE = 3 ∧ inRetain s = false then freePort n.val s else s)

/-- FEEDBACK_TIMEOUT: UXT_FAR is marked as not measured, and the precoding set is applied as it stands (R269). -/
def execFeedbackTimeout (v : Fin 192) (s : State) : Host.Outcome State Fault Refusal :=
  .next (if (victimSets s (v.val / 4)).contains 2 then
    writeMem (0xC00000 + 0x2000 * v.val + 2167) (List.replicate 2048 0xFF) (modVictim v.val (fun x => { x with farStopped := true }) s)
    else s)

/-! ## The end of a window (R254-R256, R260, R268, R297) -/

/-- A sum of powers in units of 10^-24 re unity as a byte −u/2 dB: the largest u whose power is not below the sum. -/
def powerCode (p : Nat) : Nat :=
  if p = 0 then 255 else ((List.range 256).filter (fun u => decide (p ≤ gapNum (-50 * ((u : Nat) : Int))))).getLast?.getD 0

/-- OMIT of a victim pair, set and band: the summed coupling power of the measured disturber pairs that hold no lot (R254). -/
def omitByte (s : State) (v set b : Nat) : Nat :=
  let held := (s.ch.lots.filter (fun e => e.2.victim == v && e.2.set == set && e.2.band == b && e.2.st == .live && !e.2.dormant)).map (·.2.dist)
  let us := ((distPairs s (v / 4) set).filter (fun d => !held.contains d)).map (fun d => coupling s v set d b)
  powerCode (((us.filter (· != 255)).map (fun u => gapNum (-50 * ((u : Nat) : Int)))).sum)

/-- LOTS of a victim pair, set and band (R256). -/
def lotsByte (s : State) (v set b : Nat) : Nat :=
  min 255 (lotsWhere s (fun l => l.victim == v && l.set == set && l.band == b && l.st == .live))

/-- FLAGS of a victim report (R256). -/
def reportFlags (s : State) (v : Nat) : Nat :=
  let pre := s.ch.lots.any (fun e => e.2.set == 2 && e.2.victim == v && lotApplied s e.2)
  bit (eligible s (v / 4)) * 128 + bit (rdP s (v / 4) F.CH_PORT_CH_STATE == 3) * 64 + bit (pairAbsent s v) * 32 + bit pre * 16
    + bit (victim s v).foreignOn * 8

/-- Set and band codes in set-major order. -/
def setBands : List (Nat × Nat) := (List.range 3).flatMap (fun s => (List.range 16).map (fun b => (s, b)))

/-- Bytes cut or filled up with 0xFF to a length. -/
def fitFF (n : Nat) (l : List Byte) : List Byte := l.take n ++ List.replicate (n - l.length) 0xFF

/-- The victim report of R256. -/
def reportBytes (s : State) (m : WindowMeas) : List Byte :=
  let v := m.v.val
  let far := if (victim s v).farStopped then List.replicate 2048 0xFF else fitFF 2048 m.far
  natBE 1 v ++ natBE 1 (reportFlags s v) ++ natBE 5 s.time.s
    ++ setBands.map (fun e => BitVec.ofNat 8 (lotsByte s v e.1 e.2)) ++ setBands.map (fun e => BitVec.ofNat 8 (omitByte s v e.1 e.2))
    ++ fitFF 16 m.foreign ++ fitFF 2048 m.near ++ far

/-- The lowest UXT_NEAR code over the tone groups that a pair has loaded (R296). -/
def worstNear (s : State) (v : Nat) (near : List Byte) : Nat :=
  let tb := (readTable s (v / 4) 1).getD (v % 4) []
  ((List.range 2048).filter (fun k => ((tb.getD (2 * k) LoadEntry.none).bits.val != 0)
    || ((tb.getD (2 * k + 1) LoadEntry.none).bits.val != 0))).foldl (fun a k => min a (byteAt near k)) 255

/-- The port has a noise-floor record for a pair (R297, R382). -/
def floorKnown (s : State) (v : Nat) : Bool :=
  (List.range 16).any (fun b => memByte s (portBase (v / 4) + 0x320A + 16 * (v % 4) + b) != 0xFF)

/-- FOREIGN of a victim pair follows what the window showed (R297). -/
def foreignCheck (m : WindowMeas) (s : State) : State :=
  let v := m.v.val
  let on := m.foreignOver && floorKnown s v
  let s1 := modVictim v (fun x => { x with foreignOn := on }) s
  let any := (List.range 4).any (fun p => (victim s1 (4 * (v / 4) + p)).foreignOn)
  whenB on (evG F.CH_EVENTS_FOREIGN) (wrP (v / 4) F.CH_PORT_FOREIGN (bit any) s1)

/-- The precoding check of the first window after a commit: UXT_FAR more than 3 dB higher stops the set, which is derived
again at the next window (R268). -/
def farCheck (v : Nat) (s : State) : State :=
  let x := victim s v
  let s1 := match x.farBefore with
    | some (a, k) =>
      let (b, m) := farSum s v
      let worse := decide (0 < k ∧ 0 < m ∧ b * k + 6 * k * m < a * m)
      modVictim v (fun y => { y with farBefore := none, preStopped := worse }) s
    | none => if x.preStopped then modVictim v (fun y => { y with preStopped := false }) s else s
  wrP (v / 4) F.CH_PORT_PRE_ACTIVE (bit (preActive s1 (v / 4))) s1

/-- The report of one victim pair. -/
def windowReport (m : WindowMeas) (s : State) : State :=
  let v := m.v.val
  let s1 := foreignCheck m s
  let s2 := writeMem (0xC00000 + 0x2000 * v) (reportBytes s1 m) s1
  farCheck v (wrP (v / 4) (worstFld v) (worstNear s2 v m.near) s2)

/-- The reserve of R259: 1,152 lots for each eligible victim pair that holds no live lot. -/
def reserveLots (s : State) : Nat :=
  1152 * (((allVictims s).filter (fun v => eligible s (v / 4) && !s.ch.lots.any (fun e => e.2.victim == v && e.2.st == .live))).length)

/-- A candidate of R260: whether its victim's port has priority, its coupling byte, victim, set, band and disturber. -/
structure Cand where
  low : Bool
  u : Nat
  v : Nat
  set : Nat
  band : Nat
  d : Nat

/-- The candidates of the victim pairs that are not already staged, best first (R260, R261). -/
def candidates (s : State) : List Cand :=
  let vs := (allVictims s).filter (fun v => !(victim s v).staged)
  let l := vs.flatMap (fun v => (victimSets s (v / 4)).flatMap (fun set => (List.range 16).flatMap (fun b =>
    let held := (heldLots s v set b).map (·.2.dist)
    ((ranked s v set b).filter (fun e => !held.contains e.2)).map (fun e =>
      Cand.mk (bitsOf s.ch.policy.priority (v / 4) (v / 4) == 0) e.1 v set b e.2))))
  sortBy (fun x y => (!x.low && y.low) || (x.low == y.low && decide (x.u ≤ y.u))) l

/-- Serve a candidate with a lent lot, as far as the reserve and MAX_LOTS allow; those not served are answered. -/
def lendOne (x : Cand) (a : List Cand × State) : List Cand × State :=
  let s := a.2
  if reserveLots s < freeLots s ∧ (heldLots s x.v x.set x.band).length < s.ch.policy.maxLots then
    let s1 := modVictim x.v (fun y => { y with lending := true, window := windowNow s }) (stageLot x.v x.set x.d x.band true s)
    (a.1, s1)
  else (a.1 ++ [x], s)

/-- Lending at a window boundary (R260, R261): candidates are served in order, then lent lots that a candidate still without a
lot outranks by more than HYST are marked retiring. -/
def lend (s : State) : State :=
  let (left, s1) := forL (candidates s) lendOne ([], s)
  let best := left.foldl (fun a x => min a x.u) 256
  forL (s1.ch.lots.filter (fun e => e.2.st == .live && e.2.lent && !(victim s1 e.2.victim).survey
      && (victim s1 e.2.victim).joins.isEmpty
      && decide (best + s.ch.policy.hyst < coupling s1 e.2.victim e.2.set e.2.dist e.2.band)))
    (fun e s => modVictim e.2.victim (fun y => { y with lending := true }) (retireLot e.1 s)) s1

/-- CH_WINDOW_END: the reports are updated, lending commits that are due are made, the pending policy applies, and lots are
lent while LEND_EN is 1 and no Survey runs (R255, R260, R270, R293). -/
def execChWindowEnd (ms : List WindowMeas) (s : State) : Host.Outcome State Fault Refusal :=
  .next (if clkRun s 8 then
    let s1 := forL (ms.filter (fun m => hasPort s (m.v.val / 4))) windowReport s
    let s2 := policyDue (forL (allVictims s1) (fun v s => if (victim s v).lending then commitDue v s else s) s1)
    if rdG s2 F.CH_CTRL_LEND_EN = 1 ∧ s2.ch.survey = none then lend s2 else s2
  else s)

end Sys2Proof.Machine
end

