-- ==== Sys2Proof/Machine/Resets.lean ====
section
/-!
DEFINITION. The five kinds of reset (R645-R655): what each keeps and clears (R647), the straps (R7, R593, R772), and the start of the boot
ROM after a warm reset (R651).
-/
namespace Sys2Proof.Machine

/-! ## Power-on reset and RESET_N (R647, R648) -/

/-- Sessions end by a reset: the failure guards stay, and the installer and maker sessions are kept for their END entries (R647, R809). -/
def secAfter (s : State) : Sec :=
  let c := (dropSessions s).sec
  { Sec.init with oper := c.oper, inst := c.inst, maker := c.maker, ended := if s.clk.aonLost then [] else c.ended }

/-- The state while a power-on reset (1) or RESET_N (2) is held: what R647 keeps, and all else at its reset value. Supplies, pins and the
TAP keep what is outside the device. -/
def hardReset (kind : Nat) (s : State) : State :=
  let rn := decide (kind = 2)
  let lock := rn && rdG s F.VAULT_STATUS_READ_LOCK == 1
  let s0 := (auditAbort true s)
  let b := State.reset
  let c := { b.clk with aonLost := s.clk.aonLost, safeNow := { b.clk.safeNow with scanBoundary := s.clk.safeNow.scanBoundary } }
  let v := { s.vault with shadow := [], burn := none }
  let x := { secAfter s with scanOpen := rn && s.sec.scanOpen }
  let p := { b.power with lowRails := if rn then s.power.lowRails else [] }
  let t := { b with pending := s.pending, part := s.part, straps := s.straps, strapReq := s.strapReq, journal := s0.journal, ledger := s0.ledger }
  let t1 := { t with nextOp := s.nextOp, sec := x, vault := v, clk := c, power := p, audit := s0.audit, tick := s.tick, draws := s.draws }
  let t2 := wrG F.RESET_STATUS_LAST_KIND kind (wrG F.VAULT_STATUS_FUSE_PRESENT (rdG s F.VAULT_STATUS_FUSE_PRESENT)
    (wrG F.VAULT_STATUS_READ_LOCK (bit lock) t1))
  let t3 := if rn then wrReg 0x2005C (rdReg s 0x2005C) t2 else t2
  wrG F.LEDGER_EVENTS_BACKOFF (bit (x.oper.held || x.inst.held || x.maker.held)) t3

/-- The straps are sampled, and the device starts from step 2 of its start-up: the profile in force comes from the straps (R7, R9, R656,
R772). -/
def hardRelease (kind : Nat) (st : Straps) (s : State) : State :=
  if s.clk.resetHeld && rdG s F.RESET_STATUS_LAST_KIND == kind then
    let req := st.profile.val + 1
    let s1 := modClk (fun c => { c with resetHeld := false }) { s with straps := st, strapReq := req, profileSel := 0, profileNew := false }
    mgmtGo (wrG F.DEV_ID_PROFILE (profileFor req) (wrG F.DEV_ID_PROFILE_REQ req s1))
  else s

/-- POWER_ON_RESET: R645, R647, R655. -/
def execPowerOnReset (s : State) : Host.Outcome State Fault Refusal := .next (hardReset 1 s)

/-- POWER_ON_RESET_RELEASE: R656 step 2, R772, R781. -/
def execPowerOnResetRelease (st : Straps) (s : State) : Host.Outcome State Fault Refusal := .next (hardRelease 1 st s)

/-- RESET_N_ASSERT: R625, R647, R648. -/
def execResetNAssert (s : State) : Host.Outcome State Fault Refusal := .next (hardReset 2 s)

/-- RESET_N_RELEASE: R648, R772. -/
def execResetNRelease (st : Straps) (s : State) : Host.Outcome State Fault Refusal := .next (hardRelease 2 st s)

/-! ## Warm reset (R646, R647, R651) -/

/-- The registers that a warm reset leaves: the status of clocks and supplies, the safe-state causes, the power-up calibration, the Vault's
status, the identity, and the calibration records' status (R627, R647). -/
def warmKeeps (a : Nat) : Bool :=
  [F.CLK_READY_IRO_VALID.reg, F.SAFE_CAUSE_RESET_START.reg, F.CLK_SEL_STATUS_MGMT_SRC.reg, F.IRO_FREQ.reg, F.START_STATUS_BIAS_CAL.reg,
    F.SUPPLY_STATUS_STRETCH.reg, F.VAULT_STATUS_CLOSED.reg, F.DEV_ID_PROFILE.reg].contains a
    || decide (0x30000 ≤ a ∧ a < 0x300D0)

/-- The registers after a warm reset: reset values but for what is kept; the outputs held safe stay so, and a dormant port of the Bank
stays dormant. -/
def warmRegs (s : State) : State :=
  let s1 := clearRegs (fun a => !warmKeeps a) s
  let s2 := wrG F.SAFE_STATUS_WAITING (rdG s F.SAFE_STATUS_WAITING) (wrG F.SAFE_STATUS_PG_HELD (rdG s F.SAFE_STATUS_PG_HELD)
    (wrG F.SAFE_STATUS_LANES_HELD (rdG s F.SAFE_STATUS_LANES_HELD) (wrG F.SAFE_STATUS_ACTIVE (rdG s F.SAFE_STATUS_ACTIVE) s1)))
  let s3 := forL (allPorts s) (fun n t => if rdP s n F.CH_PORT_CH_STATE = 3 then wrP n F.CH_PORT_CH_STATE 3 t else t) s2
  let cal := fun t x => wrFld (calBase t) F.CAL_PORT_FAILS 0 (wrFld (calBase t) F.CAL_PORT_RUNNING 0 (wrFld (calBase t) F.CAL_PORT_RAMP 0 x))
  forL (allPorts s ++ (allLanes s).map (· + 64)) (fun t x => showActive t (cal t x)) s3

/-- The Bank after a warm reset: every live lot stays, dormant; staged lots are freed, retiring ones are live again, and commits named are
cancelled (R279, R647). -/
def warmBank (s : State) : State :=
  let f := fun (_ : Nat) (l : Lot) => match l.st with
    | .staged => Lot.init
    | .free => l
    | _ => { l with st := .live, dormant := true }
  mapLots f (modCh (fun c => { Ch.init with lots := c.lots, dormant := c.dormant, floors := c.floors, held := c.held }) s)

/-- The memory after a warm reset: the noise-floor records and the loading tables of the links that went down are cleared (R647). -/
def warmMem : State → State :=
  clearMem (fun a => decide (0x1000000 ≤ a ∧ a < 0x4000000)
    && decide ((0x3200 ≤ a % 0x100000 ∧ a % 0x100000 < 0x324A) ∨ (0x10000 ≤ a % 0x100000 ∧ a % 0x100000 < 0x20000)))

/-- The blocks after a warm reset: nothing of the management firmware, the links, the clock or the monitors stays. -/
def warmState (s : State) : State :=
  let sec := { secAfter s with scanOpen := s.sec.scanOpen }
  let img := { s.images with fwVersion := 0, activating := none, verified := false, romStart := true }
  let clk := { s.clk with switchWait := none, clkoutNow := 1, resetReq := [] }
  let dsp := fun (m : SMap Nat) (g : Nat) =>
    let b := rdBit s 0 F.CLK_SEL_STATUS_DSP_SRC g
    SMap.set (SMap.set m 4 (2 * g) (if b then 0 else 4)) 0 (2 * g + 1) (if b then 4 else 0)
  let pow := { Power.init with lowRails := s.power.lowRails, dspFreq := (List.range 6).foldl dsp [] }
  let tg := mapVals CalTarget.init (fun _ c => { c with commit := none, rampLeft := 0, oldBody := [] }) s.cal.targets
  let ports := mapVals PortState.init (fun _ p => { PortState.init with sparesOut := p.sparesOut }) s.ports
  let t := { s with latchCp := Latches.init, latch0 := Latches.init, latch1 := Latches.init, mdio := ⟨[], none⟩, teller := [], cp := CmdPort.init }
  let t1 := { t with sec := sec, ops := [], images := img, vault := { s.vault with burn := none }, clk := clk, power := pow, time := Time.init }
  let t2 := { t1 with ctxs := [], tt := [], ports := ports, hostPorts := [], lanes := [], diag := ⟨[], [], none, s.diag.gen⟩ }
  { t2 with cal := { s.cal with targets := tg, runs := [] }, perf := ⟨[], Sampler.init⟩, profileNew := false }

/-- A warm reset with a cause of R646: every port and lane group stops, R647 clears what it clears, and the boot ROM starts; the image in
the active slot is to be verified and started (R651). -/
def warmReset (cause : Nat) (s : State) : State :=
  let s1 := forL (allLanes s) laneOff (portsDown (fun _ => true) 5 (auditAbort true s))
  let s2 := forL (allPorts s1) chDormant s1
  let s3 := warmMem (warmBank (warmRegs (warmState s2)))
  let s4 := wrG F.RESET_STATUS_LAST_CAUSE cause (wrG F.RESET_STATUS_LAST_KIND 3 s3)
  let req := nextProfile s s.profileSel
  let s5 := if s.profileNew then wrG F.DEV_ID_PROFILE (profileFor req) (wrG F.DEV_ID_PROFILE_REQ req s4) else s4
  let s6 := wrG F.LEDGER_EVENTS_BACKOFF (bit (s.sec.oper.held || s.sec.inst.held || s.sec.maker.held)) s5
  let prof := if s.profileNew then some (profileFor req) else none
  safeLate (auditRebuild (applyRepairs (startEntries prof { s6 with stage := .rom })))

/-- WARM_RESET: the warm reset that DEVICE_RESET asked for (R650, R651). -/
def execWarmReset (s : State) : Host.Outcome State Fault Refusal :=
  .next (if coresRun s && s.clk.resetReq.contains (.warm 1) then warmReset 1 s else s)

/-- LOCKSTEP_FAULT: R646. -/
def execLockstepFault (s : State) : Host.Outcome State Fault Refusal :=
  .next (if coresRun s || s.stage == .restarting then warmReset 2 s else s)

/-- WATCHDOG_EXPIRY: the watchdog does not run while the boot ROM runs (R646). -/
def execWatchdogExpiry (s : State) : Host.Outcome State Fault Refusal :=
  .next (if s.stage == .firmware && coresRun s then warmReset 3 s else s)

/-! ## Per-port reset (R647, R649, R653) -/

/-- A reset request is taken. -/
def takeReset (r : ResetReq) : State → State := modClk (fun c => { c with resetReq := c.resetReq.filter (· != r) })

/-- A Journal RESET entry and RESET_STATUS of a per-port or per-block reset (R654, R657). -/
def resetNote (kind arg : Nat) (s : State) : State :=
  journalReset kind arg (wrG F.RESET_STATUS_LAST_CAUSE arg (wrG F.RESET_STATUS_LAST_KIND kind s))

/-- The latches forget the values of a port's registers (R605). -/
def latchForget (n : Nat) (s : State) : State :=
  let mine := fun a => decide (portBase n ≤ a ∧ a < portBase n + 0x100000)
  let f := fun (l : Latches) => (⟨SMap.clear l.rd mine, SMap.clear l.wr mine⟩ : Latches)
  { s with latchCp := f s.latchCp, latch0 := f s.latch0, latch1 := f s.latch1 }

/-- The port's MMD 1, 3, 7 and 30 registers take their reset values, except 1.0.11 and 3.0.11 (R649), and the views of what the reset keeps:
the link state, the pacing mode, the Bank's place and the spare pools (R424, R612, R653). -/
def portRegsReset (n : Nat) (s : State) : State :=
  let b := portBase n
  let keep := fun (f : Fld) t => wrP n f (rdP s n f) t
  let s1 := clearRegs (fun a => decide (b + 0x40000 ≤ a ∧ a < b + 0x80000) && !(a == b + 0x70900)) s
  let s2 := keep F.PCS_LOW_POWER (keep F.PMA_LOW_POWER (keep F.CH_PORT_CH_STATE (keep F.HL_PORT_STATUS_NOTICES s1)))
  keep F.ADC_SPARES (keep F.DAC_SPARES s2)

/-- A per-port reset: down with cause 0x5, out of the Clearing House, the Escrow and the launch queues empty, the registers at their reset
values; its diagnostics' results are discarded; a port still enabled negotiates (R69, R394, R495, R649, R653). -/
def portReset (n : Nat) (s : State) : State :=
  let s1 := diagLeft n (portDown n 5 s)
  let s2 := modDiag (fun d => { d with results := d.results.filter (fun r => byteAt r.header 1 != n) }) s1
  let s3 := forL (ctxsWhere s2 (fun x => x.port == n && !x.queue.isEmpty)) (fun c => modCtx c Ctx.flush) s2
  let s4 := modHost n (fun h => { HostPort.init with noticesInForce := h.noticesInForce }) s3
  let s5 := restoreModes n (latchForget n (portRegsReset n s4))
  resetNote 4 n (wakePort n s5)

/-- PER_PORT_RESET: the per-port reset that DEVICE_RESET asked for; the MDIO reset bits act when they are written (R597, R650, R653). -/
def execPerPortReset (n : Port) (s : State) : Host.Outcome State Fault Refusal :=
  .next (if s.clk.resetReq.contains (.port n.val) then portReset n.val (takeReset (.port n.val) s) else s)

/-! ## Per-block soft reset (R652, R759) -/

/-- W1C and CNT fields of a list, at a base, take their reset values. -/
def flagsClear (base : Nat) (l : List Fld) (s : State) : State :=
  forL (l.filter (fun f => f.ty == .w1c || f.ty == .cnt)) (fun f => wrFld base f f.rst) s

/-- The soft reset of a port group: every port goes down with cause 0x5 and negotiates where enabled. -/
def groupReset (g : Nat) (s : State) : State :=
  forL ((allPorts s).filter (fun n => groupOf n == g)) (fun n s =>
    let s1 := flagsClear (portBase n) portFields s
    if enabled s1 n then downRestart n 5 s1 else if (port s1 n).st = .idle then s1 else portDown n 5 s1) s

/-- The soft reset of the Clearing House: a Survey ends as by a warm reset, and nothing stays staged (R279, R652). -/
def chReset (s : State) : State :=
  let s1 := surveyEnd .aborted s
  let s2 := modCh (fun c => { c with join := none, joinQueue := [], pendPolicy := none, victims := mapVals Victim.init (fun _ x =>
    { Victim.init with sweep := x.sweep, farBefore := x.farBefore, foreignOn := x.foreignOn }) c.victims }) (dropStaged (fun _ => true) s1)
  flagsClear 0 (globalFields.filter (fun f => decide (0x11000 ≤ f.reg ∧ f.reg < 0x11400))) s2

/-- The soft reset of the performance monitors: every counter, its words and the sampler are cleared; the store is kept (R652, R759). -/
def monitorReset (s : State) : State :=
  modPerf (fun _ => ⟨[], Sampler.init⟩) (clearRegs (fun a => decide (0x40000 ≤ a ∧ a < 0x50000)) s)

/-- A per-block soft reset: the state machines, flags and counters of block b (R652). -/
def blockReset (b : Nat) (s : State) : State :=
  let s1 := if b < 6 then groupReset b s
    else if b = 8 then chReset s
    else if 12 ≤ b ∧ b < 16 then laneGo (b - 12) 1 (flagsClear (laneBase (b - 12)) laneFields s)
    else if b = 17 then monitorReset s
    else if b = 18 then diagStop s
    else s
  resetNote 5 b s1

/-- SOFT_RESET: the soft reset that DEVICE_RESET asked for; the bits of the register act when they are written (R650, R652). -/
def execSoftReset (b : Fin 32) (s : State) : Host.Outcome State Fault Refusal :=
  .next (if s.clk.resetReq.contains (.block b.val) then blockReset b.val (takeReset (.block b.val) s) else s)

end Sys2Proof.Machine
end

