-- ==== Sys2Proof/Machine/RegRead.lean ====
section
/-!
DEFINITION. Reading the register window (R589-R592, R605-R613): the memory areas byte by byte, the registers that follow
other state, the latches of the paths, and which block and which role stand before an address.
-/
namespace Sys2Proof.Machine

/-! ## Memory areas (R589, R590) -/

/-- An address range. -/
def inR (a lo hi : Nat) : Bool := decide (lo ≤ a ∧ a ≤ hi)

/-- The port whose window holds an address (R590). -/
def windowPort (a : Nat) : Option Nat := if inR a 0x1000000 0x3FFFFFF then some ((a - 0x1000000) / 0x100000) else none

/-- A byte of an area that READ_BLOCK accepts (R540, R589, R590). -/
def isBlock (a : Nat) : Bool :=
  match windowPort a with
  | some _ =>
    let r := a % 0x100000
    inR r 0x3200 0x3249 || inR r 0x3400 0x3417 || inR r 0x10000 0x1FFFF
  | none =>
    inR a 0x300000 0xB0FFFF || inR a 0xB40000 0xB807FF || inR a 0xC00000 0xD7FFFF || inR a 0xE00000 0xFAFFFF
      || inR a 0x40000000 0x43FFFFFF || inR a 0x44000000 0x440FFFFF

/-- The 24 bytes of an egress record; an empty FIFO shows VALID 0 (R480). -/
def tsBytes : List TsRec → List Byte
  | [] => List.replicate 24 0
  | r :: _ =>
    natBE 6 r.sec ++ natBE 4 (0x80000000 + r.ns) ++ natBE 2 r.frac ++ natBE 2 r.epoch ++ natBE 2 r.tag ++ natBE 1 r.src ++ natBE 1 r.msg
      ++ natBE 5 r.s ++ [0]

/-- The lot in whose entries or exponents an address lies (R248). -/
def bankLot (a : Nat) : Option Nat :=
  if inR a 0x40000000 0x43FFFFFF then some ((a - 0x40000000) / 256)
  else if inR a 0x800000 0x9FFFFF then some ((a - 0x800000) / 8)
  else none

/-- The part has the lot. -/
def hasLot (s : State) (l : Nat) : Bool := decide (l < lotCount s)

/-- The exponent at an address: the device's own while the lot is in use, else what a raw write left (R242, R243, R248). -/
def bankExpAt (s : State) (l a : Nat) : Byte :=
  if (lot s l).st ≠ .free then Config.bankExp s.draws a
  else if memByte s a ≠ 0 then memByte s a
  else Config.bankIdle s.draws a

/-- A byte of an entry: mantissas are never 0x80 from the device, and 0 in a block whose exponent is 0xFF (R241, R243). -/
def bankEntryAt (s : State) (l a : Nat) : Byte :=
  if (lot s l).st ≠ .free then
    let e := 0x800000 + 8 * l + (a - 0x40000000) % 256 / 32
    let m := Config.bankMantissa s.draws a
    if Config.bankExp s.draws e = 0xFF ∨ m = 0x80 then 0 else m
  else if memByte s a ≠ 0 then memByte s a
  else Config.bankIdle s.draws a

/-- A byte of the Vault shadow as a read sees it: the role keys never, reserved offsets and everything under READ_LOCK as 0 (R578, R586). -/
def vaultByte (s : State) (o : Nat) : Byte :=
  let field := inR o 0 0xF || inR o 0x40 0xC3 || inR o 0xE0 0xFF || inR o 0x1C0 0x25F || inR o 0x400 0x5FF
  if rdG s F.VAULT_STATUS_READ_LOCK = 1 || !field then 0 else shadow s o

/-- A byte of a memory area; 0 in the window of a port or at a place that the part does not have (R5, R248, R589, R590). -/
def areaByte (s : State) (a : Nat) : Byte :=
  match windowPort a with
  | some n =>
    if !hasPort s n then 0
    else if inR (a % 0x100000) 0x3400 0x3417 then (tsBytes (hostPort s n).fifo).getD (a % 0x100000 - 0x3400) 0
    else memByte s a
  | none =>
    match bankLot a with
    | some l => if !hasLot s l then 0 else if a < 0x40000000 then bankExpAt s l a else bankEntryAt s l a
    | none =>
      if inR a 0x300000 0x3FFFFF then (ctxBytes (ctx s ((a - 0x300000) / 64))).getD (a % 64) 0
      else if inR a 0xA00000 0xAFFFFF then
        let l := (a - 0xA00000) / 4
        if hasLot s l then (natBE 4 (lotTag (lot s l))).getD (a % 4) 0 else 0
      else if inR a 0xB00000 0xB0FFFF then (journalSlot s ((a - 0xB00000) / 32)).getD (a % 32) 0
      else if inR a 0xB40000 0xB7FFFF then (ledgerSlot s ((a - 0xB40000) / 64)).getD (a % 64) 0
      else if inR a 0xB80000 0xB807FF then vaultByte s (a - 0xB80000)
      else memByte s a

/-- A byte that spec/ leaves open. -/
def freeByte (a : Nat) : Bool := (bankLot a).isSome || a == 0x100C4

/-- A word of a memory area: byte A in bits 31..24 (R592). -/
def areaWord (s : State) (a : Nat) : Word := BitVec.ofNat 32 (beNat ((List.range 4).map (fun i => if isBlock (a + i) then areaByte s (a + i) else 0)))

/-! ## Trims (R714, R751) -/

/-- The calibration target and the place in its Active body of a word of the trim area; `none` for a reserved address. -/
def trimPlace (s : State) (a : Nat) : Option (Nat × Nat) :=
  if inR a 0x32000 0x320FF then
    let g := (a - 0x32000) / 0x40
    if a % 0x40 < 32 && hasLane s g then some (64 + g, a % 0x40) else none
  else if inR a 0x34000 0x3FFFF then
    let v := (a - 0x34000) / 0x100
    if a % 0x100 < 216 && hasPort s (v / 4) then some (v / 4, 216 * (v % 4) + a % 0x100) else none
  else none

/-- A word of the trim area. -/
def trimWord (s : State) (a : Nat) : Word :=
  match trimPlace s a with
  | some (t, o) => BitVec.ofNat 32 (beAt (activeBody s t) o 4)
  | none => 0

/-! ## Registers that follow other state -/

/-- GPIO_IN: the pins that the device drives at their level, the others as the board has them (R692, R794). -/
def gpioIn (s : State) : Nat :=
  let oe := wordBits (gpioNow s) 15 8
  let out := wordBits (gpioNow s) 7 0
  (out &&& oe) + ((Config.gpioPins s.draws).toNat &&& (255 - oe))

/-- SPLIT_MAP as one value (R615). -/
def splitMap (s : State) : Nat :=
  (allPorts s).foldl (fun a n => a + rdP s n F.HL_PORT_STATUS_SPLIT * 2 ^ n) 0

/-- Word i, from 0, of 16 bits of a value. -/
def part16 (v i : Nat) : Nat := v / 2 ^ (16 * i) % 65536

/-- The sessions open in a role. -/
def openCount (s : State) (r : Role) : Nat := (s.sec.sessions.filter (fun x => x.role == r)).length

/-- A word of MMD 31 that follows other state (R295, R466, R502, R587, R618); none for one that holds its own value. -/
def globalLive (s : State) (a : Nat) : Option Nat :=
  let tm := s.time
  match a with
  | 0x10000 => some (partCode s)
  | 0x10008 => some (bit s.straps.testEn * 2 ^ 15 + s.straps.profile.val * 2 + bit s.straps.mdioBase)
  | 0x10020 => some (alertStatus s)
  | 0x10050 => some (part16 (splitMap s) 0)
  | 0x10054 => some (part16 (splitMap s) 1)
  | 0x10058 => some (part16 (splitMap s) 2)
  | 0x100C4 => some (gpioIn s)
  | 0x1100C => some (part16 (freeLots s) 0)
  | 0x11010 => some (part16 (freeLots s) 1)
  | 0x11808 => some (tm.epoch % 65536)
  | 0x1180C => some (part16 (nowNs s) 0)
  | 0x11810 => some (part16 (nowNs s) 1)
  | 0x11814 => some (part16 (nowSec s) 0)
  | 0x11818 => some (part16 (nowSec s) 1)
  | 0x1181C => some (part16 (nowSec s) 2)
  | 0x11820 => some (tm.t / 2 ^ 32 % 65536)
  | 0x11824 => some (tm.epoch % 65536)
  | 0x11828 => some (part16 (unsigned 32 tm.freq) 0)
  | 0x1182C => some (part16 (unsigned 32 tm.freq) 1)
  | 0x11830 => some (part16 tm.s 0)
  | 0x11834 => some (part16 tm.s 1)
  | 0x11838 => some (part16 tm.s 2 % 256)
  | 0x1183C => some (part16 (tm.sTime % 1000000000) 0)
  | 0x11840 => some (part16 (tm.sTime % 1000000000) 1)
  | 0x11844 => some (part16 (tm.sTime / 1000000000) 0)
  | 0x11848 => some (part16 (tm.sTime / 1000000000) 1)
  | 0x1184C => some (part16 (tm.sTime / 1000000000) 2)
  | 0x11C00 => some (part16 s.ledger.head 0)
  | 0x11C04 => some (part16 s.ledger.head 1)
  | 0x11C08 => some (part16 s.ledger.tail 0)
  | 0x11C0C => some (part16 s.ledger.tail 1)
  | 0x11C10 => some (ledgerUsed s.ledger)
  | 0x11C20 => some (openCount s .operator * 256 + openCount s .installer * 16 + openCount s .maker)
  | 0x20010 => some (clkRunWord s)
  | 0xB10000 => some s.journal.next
  | _ => none

/-- The link-status bit of an MMD: 1 while the port is up or degraded and no drop waits to be read (R613). -/
def linkStatus (s : State) (n i : Nat) : Nat := bit (linkUp s n && !(port s n).latchLow.getLsbD i)

/-- The latch-low bit that a word of a port's window holds: 0 for 1.1.2, 1 for 3.1.2, 2 for 7.1.2. -/
def linkBit (r : Nat) : Option Nat := if r = 0x40004 then some 0 else if r = 0x50004 then some 1 else if r = 0x60004 then some 2 else none

/-- Seconds for which a port has been dormant, holding at 0x7FF (R296). -/
def dormantS (s : State) (n : Nat) : Nat :=
  if rdP s n F.CH_PORT_CH_STATE = 3 then min 0x7FF ((s.tick + 1 - SMap.get s.ch.dormant (s.tick + 1) n) / 100000000) else 0

/-- A word of a port's registers, with the fields that follow other state. -/
def portLive (s : State) (n r : Nat) : Word :=
  let w := rdReg s (portBase n + r)
  match linkBit r with
  | some i => setBits w 2 2 (linkStatus s n i)
  | none =>
    if r = 0x70890 then (if (port s n).st = .training then BitVec.ofNat 32 (elapsedMs s n) else w)
    else if r = 0x708C0 then setBits (setBits w 12 12 (bit (preActive s n))) 10 0 (dormantS s n)
    else if r = 0x708C4 then BitVec.ofNat 32 (min 65535 (portLots s n))
    else if 0x708C8 ≤ r ∧ r ≤ 0x708D4 then setBits w 14 14 (bit (pairAbsent s (4 * n + (r - 0x708C8) / 4)))
    else if r = 0x70990 then setBits (setBits w 14 14 (bit (isMaster s n))) 13 12 (refPair s n)
    else w

/-- A word of a lane group's registers: ENABLE is 0 for a group that the part lacks or that is held (R400, R749). -/
def laneLive (s : State) (g : Nat) (a : Nat) : Word :=
  let w := rdReg s a
  if a % 0x80 = 0 ∧ (hasLane s g = false ∨ laneHeld s g = true) then setBits w 15 15 0 else w

/-- The part has the counter unit (R752). -/
def hasUnit (s : State) (u : Nat) : Bool := if u < 6 then hasGroup s u else if 0xC ≤ u ∧ u < 0x10 then hasLane s (u - 0xC) else true

/-- The counter unit of an address of the programmable counters. -/
def unitAt (a : Nat) : Option Nat := if inR a 0x40000 0x418FF then some ((a - 0x40000) / 0x100) else none

/-- The live value of a word of the window; reserved addresses read 0 (R592). -/
def liveWord (s : State) (a : Nat) : Word :=
  match windowPort a with
  | some n =>
    if !hasPort s n then 0
    else if isBlock a then areaWord s a
    else if (fieldsAt a).isEmpty then 0
    else portLive s n (a % 0x100000)
  | none =>
    if isBlock a then areaWord s a
    else match globalLive s a with
      | some v => BitVec.ofNat 32 v
      | none =>
        if inR a 0x32000 0x3FFFF then trimWord s a
        else if (fieldsAt a).isEmpty then 0
        else if inR a 0x11400 0x115FF then laneLive s ((a - 0x11400) / 0x80) a
        else match unitAt a with
          | some u => if hasUnit s u then rdReg s a else 0
          | none => rdReg s a

/-! ## Multi-word values (R605-R607) -/

/-- The words that a read of a low word latches (R295, R452, R457, R502, R503, R587, R618, R762). -/
def latchedBy (a : Nat) : List Nat :=
  match windowPort a with
  | some _ =>
    if a % 0x100000 = 0x70994 then [a + 4] else if a % 0x100000 = 0x7099C then [a + 4, a + 8] else []
  | none =>
    if inR a 0x40000 0x418FF then (if a % 0x20 = 0x10 then [a + 4] else [])
    else if inR a 0x48000 0x481FF then (if a % 8 = 0 then [a + 4] else [])
    else match a with
      | 0x10050 => [0x10054, 0x10058]
      | 0x1100C => [0x11010]
      | 0x11708 => [0x11700, 0x11704]
      | 0x1180C => [0x11810, 0x11814, 0x11818, 0x1181C, 0x11820, 0x11824]
      | 0x11828 => [0x1182C]
      | 0x11830 => [0x11834, 0x11838, 0x1183C, 0x11840, 0x11844, 0x11848, 0x1184C]
      | 0x11C00 => [0x11C04, 0x11C08, 0x11C0C, 0x11C10]
      | 0x20050 => [0x20054]
      | _ => []

/-- A word that only a latch shows: a low word close to it latches it. -/
def isLatched (a : Nat) : Bool :=
  (List.range 8).any (fun i => decide (4 * i ≤ a) && (latchedBy (a - 4 * i)).contains a)
    || (List.range 3).any (fun i => (latchedBy (a + 4 * i)).contains a)

/-- The latches of a path. -/
def latchesOf (s : State) : Path → Latches
  | .cp => s.latchCp | .mdio0 => s.latch0 | .mdio1 => s.latch1

/-- Change the latches of a path. -/
def modLatches (p : Path) (f : Latches → Latches) (s : State) : State :=
  match p with
  | .cp => { s with latchCp := f s.latchCp }
  | .mdio0 => { s with latch0 := f s.latch0 }
  | .mdio1 => { s with latch1 := f s.latch1 }

/-- A read of a low word latches the others, as they are at the start of the read (R605). -/
def latchRead (p : Path) (a : Nat) (s : State) : State :=
  modLatches p (fun l => { l with rd := (latchedBy a).foldl (fun m x => SMap.set m none x (some (liveWord s x))) l.rd }) s

/-- A read of a link-status word re-arms its latch-low bit (R613). -/
def rearm (a : Nat) (s : State) : State :=
  match windowPort a, linkBit (a % 0x100000) with
  | some n, some i =>
    if hasPort s n then modPort n (fun p => { p with latchLow := p.latchLow &&& ~~~ ((1 : BitVec 3) <<< i) }) s else s
  | _, _ => s

/-- What a read of a register word over a path returns. -/
def seenWord (p : Path) (s : State) (a : Nat) : Word :=
  if isLatched a then ((SMap.get (latchesOf s p).rd none a).getD 0) else liveWord s a

/-- What a read of a register word over a path changes: its latches, a latch-low bit that it re-arms, a free value drawn. -/
def afterRead (p : Path) (a : Nat) (s : State) : State :=
  whenB (freeByte a) draw (rearm a (if (latchedBy a).isEmpty then s else latchRead p a s))

/-! ## Blocks and roles that stand before an address -/

/-- The block whose clock gates an address (R608-R610, R752); none where nothing gates it or the part lacks the place. -/
def gateOf (s : State) (a : Nat) : Option Nat :=
  match windowPort a with
  | some n => if hasPort s n then some (groupOf n) else none
  | none =>
    if inR a 0x11000 0x113FF then some 8
    else if inR a 0x11400 0x115FF then (if hasLane s ((a - 0x11400) / 0x80) then some (12 + (a - 0x11400) / 0x80) else none)
    else if inR a 0x11600 0x116FF then (if hasLane s ((a - 0x11600) / 0x40) then some (12 + (a - 0x11600) / 0x40) else none)
    else if inR a 0x11800 0x11BFF then some 16
    else if inR a 0x300000 0x3FFFFF then some 16
    else if inR a 0x400000 0x7FFFFF then some 18
    else if inR a 0x800000 0xAFFFFF || inR a 0xC00000 0xD7FFFF || inR a 0xE00000 0xFAFFFF || inR a 0x40000000 0x43FFFFFF then some 8
    else if inR a 0x44000000 0x440FFFFF then some 17
    else match unitAt a with
      | some u => if hasUnit s u && pmUnits.contains u then pmBlock u else none
      | none => none

/-- The address belongs to a block whose clock does not run. -/
def gatedAt (s : State) (a : Nat) : Bool := match gateOf s a with | some b => !clkRun s b | none => false

/-- The block of the Closing Audit that holds an address: a port group, or over the Command Port a lane group too (R517, R609, R744). -/
def auditAt (s : State) (p : Path) (a : Nat) : Option Nat :=
  match gateOf s a with
  | some b => if s.audit.held.contains b && (decide (b < 6) || (p == .cp && decide (12 ≤ b ∧ b < 16))) then some b else none
  | none => none

/-- The least role that reads an address (R249, R384, R386, R485, R554, R578, R761). -/
def readRole (a : Nat) : Nat :=
  if inR a 0x40000 0x4FFFF || inR a 0x300000 0xAFFFFF || inR a 0xC00000 0xD7FFFF || inR a 0xE00000 0xFAFFFF
      || inR a 0x40000000 0x43FFFFFF || inR a 0x44000000 0x440FFFFF then 2
  else if inR a 0xB80000 0xB807FF then (if a < 0xB80010 then 1 else 2)
  else 1

/-- The least role that writes a word to an address (R249, R554, R585, R714). -/
def writeRole (a : Nat) (v : Word) : Nat :=
  if (bankLot a).isSome || inR a 0x32000 0x3FFFF || (a == 0x11C24 && wordBits v 15 15 == 1) then 3 else 2

end Sys2Proof.Machine
end

