-- ==== Sys2Proof/Machine/RegWrite.lean ====
section
/-!
DEFINITION. Writing the register window (R597-R607, R611): a word under its field types, what its fields start at once, the write
latches, and the reserved codes that a raw write may store.
-/
namespace Sys2Proof.Machine

/-! ## Fields -/

/-- A word after a raw write of `v`, field by field (R15, R599): RW and CNT load, W1C clears, GO and RO keep. -/
def fieldWrite (v : Word) (w : Word) (f : Fld) : Word :=
  match f.ty with
  | .ro | .go => w
  | .rw | .cnt => setBits w f.hi f.lo (wordBits v f.hi f.lo)
  | .w1c => w &&& ~~~ (v &&& maskOf f.hi f.lo)

/-- Store a word under the types of its fields. -/
def storeWord (a : Nat) (v : Word) (s : State) : State := wrReg a ((fieldsAt a).foldl (fieldWrite v) (rdReg s a)) s

/-! ## Ports -/

/-- The port is enabled by command: down, not yet trained, and it negotiates where it may (R352, R597). -/
def portEnable (n : Nat) (s : State) : State := wakePort n (diagLeft n (wrP n F.LINK_STATE_CAUSE 6 s))

/-- The port is disabled by command: down with cause 0x5 (R352, R597). -/
def portDisable (n : Nat) (s : State) : State := diagLeft n (portDown n 5 s)

/-- What a change of the low-power bits does (R597). -/
def enableChange (n : Nat) (was : Bool) (s : State) : State :=
  if was && !enabled s n then portDisable n s
  else if !was && enabled s n then portEnable n s
  else s

/-- 7.0.9 restarts negotiation, with down cause COMMAND (R597). -/
def restartPort (n : Nat) (s : State) : State := if enabled s n && lineFree s n then retrainPort n s else s

/-- TS_POP removes the head of the port's egress FIFO (R479). -/
def tsPop (n : Nat) (s : State) : State :=
  let l := (hostPort s n).fifo.drop 1
  wrP n F.TS_FIFO_TS_LEVEL l.length (modHost n (fun h => { h with fifo := l }) s)

/-- A register of port n holds a reserved code, or its tables break a rule (R72, R117, R120, R190, R228, R359, R453, R503). -/
def portCodeBad (s : State) (n r : Nat) : Bool :=
  if r = 0x70800 then rdP s n F.SIR_AN_CTRL_MS_CFG == 3 || rdP s n F.SIR_AN_CTRL_RATE_MAX == 7
  else if r = 0x70880 then
    decide (rdP s n F.SIR_TRAIN_CTRL_DEADLINE < 20 ∨ 300 < rdP s n F.SIR_TRAIN_CTRL_DEADLINE) || rdP s n F.SIR_TRAIN_CTRL_TRAIN_BACKOFF == 3
  else if r = 0x70908 then rdP s n F.LINK_CTRL_RATE_CAP == 7 || decide (6 ≤ rdP s n F.LINK_CTRL_DEGRADE_HOLD)
  else if r = 0x70940 then rdP s n F.HL_PORT_CTRL_PACE_MODE == 3
  else if r = 0x70980 then rdP s n F.PTP_CTRL_ING_MODE == 3 || rdP s n F.PTP_CTRL_EGR_MODE == 3
  else if inR r 0x3000 0x30FF then !maskOk (breakpoints s n)
  else if inR r 0x3100 0x313F then
    let w := rdReg s (portBase n + r)
    (wordBits w 31 31 == 1 && decide (wordBits w 11 0 < wordBits w 27 16)) || decide (handshakeTones (notches s n) < 24)
  else false

/-- What a write of a word of port n's window does at once. `s0` is the state before the write. -/
def portActs (n r : Nat) (v : Word) (s0 s : State) : State :=
  if r = 0x40000 ∨ r = 0x50000 then
    let s1 := enableChange n (enabled s0 n) s
    if wordBits v 15 15 = 1 then portReset n s1 else s1
  else if r = 0x60000 then
    let off := rdP s0 n F.AN_ENABLE == 1 && rdP s n F.AN_ENABLE == 0 && forcedMode s n == 0
    let s1 := whenB off (fun s => evP n F.AN_EVENTS_CONFIG_ERR (portDown n 5 s)) s
    if wordBits v 9 9 = 1 then restartPort n s1 else s1
  else if r = 0x709B4 then (if wordBits v 10 10 = 1 then tsPop n s else s)
  else
    let s1 := whenB (portCodeBad s n r) (evP n F.AN_EVENTS_CONFIG_ERR) s
    if r = 0x70908 then updateRateReason n s1 else s1

/-! ## Lane groups, counters, trims and the Bank -/

/-- What a write of a word of lane group g does at once (R400, R441, R450, R451). -/
def laneActs (g o : Nat) (s0 s : State) : State :=
  if o = 0 then
    let bad := rdL s g F.HL_CTRL_CTLE_MODE == 3 || decide (5 ≤ rdL s g F.HL_CTRL_TX_SWING) || rdL s g F.HL_CTRL_TX_DEEMPH == 7
    let s1 := whenB bad (evL g F.HL_EVENTS_CONFIG_ERR) s
    let was := rdL s0 g F.HL_CTRL_ENABLE == 1
    let is := rdL s g F.HL_CTRL_ENABLE == 1
    if was && !is then laneOff g s1 else if !was && is then laneAuto g s1 else s1
  else if o = 0x28 then whenB (decide (8 < rdL s g F.HL_FB_CTRL_COUNT)) (evL g F.HL_EVENTS_CONFIG_ERR) s
  else s

/-- A raw write of a counter's configuration may leave it as R756 describes. -/
def pmActs (a : Nat) (s : State) : State :=
  let b := a - a % 0x20
  let x := pmBad ((a - 0x40000) / 0x100) (rdReg s b) (rdReg s (b + 4)) (rdReg s (b + 8)) (rdReg s (b + 12))
  whenB (x && decide (a % 0x20 < 0x10)) (evG F.PM_EVENTS_CONFIG_ERR) s

/-- A maker's write of a trim word: at once, and the SEQ of the Active record counts (R714). Reserved bytes keep 0. -/
def trimWrite (a : Nat) (v : Word) (s : State) : State :=
  match trimPlace s a with
  | some (t, o) =>
    let b := activeBody s t
    let keep := fun i => if t < 64 then (o + i) % 216 < 210 else i < 2
    let new := (natBE 4 v.toNat).mapIdx (fun i x => if keep i then x else 0)
    showActive t (modTarget t (fun c => { c with active := { c.active with seq := c.active.seq + 1, body := putBytes b o new } }) s)
  | none => s

/-- A maker's write of four bytes of entries or exponents (R249). -/
def bankWrite (a : Nat) (v : Word) (s : State) : State :=
  match bankLot a with
  | some l => if hasLot s l then writeMem a (natBE 4 v.toNat) s else s
  | none => s

/-- The SOFT_RESET bits of a word, for the blocks that may be reset so (R657). -/
def softResets (v : Word) (s : State) : State :=
  forL ((blockCodes s).filter (fun b => b != 16 && wordBits v b b == 1)) blockReset s

/-! ## A word of the window -/

/-- A raw write of one whole word: stored under its field types, with what its fields start. Reserved addresses and memory areas take it
without effect, but for the Bank and the trims (R592, R599, R611). -/
def putWord (a : Nat) (v : Word) (s : State) : State :=
  match windowPort a with
  | some n => if !hasPort s n || (fieldsAt a).isEmpty then s else portActs n (a % 0x100000) v s (storeWord a v s)
  | none =>
    if (bankLot a).isSome then bankWrite a v s
    else if inR a 0x32000 0x3FFFF then trimWrite a v s
    else if (fieldsAt a).isEmpty then s
    else if a = 0x2000C then clkEnWrite v s
    else if a = 0x20014 then clkSwitch v s
    else if a = 0x20020 then clkoutChange v s
    else if a = 0x2002C then softResets v s
    else if a = 0x20008 then whenB (wordBits v 0 0 == 1) releaseWrite (storeWord a v s)
    else if inR a 0x11400 0x115FF then
      let g := (a - 0x11400) / 0x80
      let v := if a % 0x80 = 0 && (!hasLane s g || laneHeld s g) then setBits v 15 15 0 else v
      laneActs g (a % 0x80) s (storeWord a v s)
    else match unitAt a with
      | some u => if hasUnit s u then pmActs a (storeWord a v s) else s
      | none => storeWord a v s

/-- The low word that commits a word of a multi-word RW or CNT value; none for a word that takes effect alone (R607, R762). -/
def commitsAt (a : Nat) : Option Nat :=
  if a = 0x11700 ∨ a = 0x11704 then some 0x11708
  else if a = 0x20054 then some 0x20050
  else if inR a 0x40000 0x418FF && a % 0x20 == 0x14 then some (a - 4)
  else if inR a 0x48000 0x481FF && a % 8 == 4 then some (a - 4)
  else none

/-- Commit the words held for a low word on a path (R607). -/
def commitHeld (p : Path) (a : Nat) (s : State) : State :=
  forL (latchedBy a) (fun x s =>
    match SMap.get (latchesOf s p).wr none x with
    | some w => modLatches p (fun l => { l with wr := SMap.erase l.wr x }) (if commitsAt x = some a then putWord x w s else s)
    | none => s) s

/-- A write of one word over a path: held for its low word, or stored with the words held for it (R607). -/
def pathWrite (p : Path) (a : Nat) (v : Word) (s : State) : State :=
  if (commitsAt a).isSome then modLatches p (fun l => { l with wr := SMap.set l.wr none a (some v) }) s
  else putWord a v (commitHeld p a s)

end Sys2Proof.Machine
end

