-- ==== Sys2Proof/Machine/RegAccess.lean ====
section
/-!
DEFINITION. The paths to the registers: READ_REG, WRITE_REG and READ_BLOCK (R540), MDIO frames (R593-R598, R609), and the rows that write
one register bit.
-/
namespace Sys2Proof.Machine

/-- The attributes of an access over a path (R755, R757): a role code, the path and the window address. -/
def accessAttr (p : Path) (role a : Nat) : PmAttr :=
  { PmAttr.none with role := some role, path := some (match p with | .cp => 0 | .mdio0 => 1 | .mdio1 => 2), addr := some a }

/-- An access met a gated block (R609). -/
def gatedNote (p : Path) (a : Nat) (s : State) : State :=
  pmEv 0x18 6 { accessAttr p 0 a with role := none } (countDev 0x2C 1 s)

/-! ## The Command Port -/

/-- The addresses of `n` words from `a`. -/
def wordsFrom (a n : Nat) : List Nat := (List.range n).map (fun i => a + 4 * i)

/-- Read one register word over the Command Port in a role. -/
def cpReadWord (role a : Nat) (s : State) : State := pmEv 0x18 3 (accessAttr .cp role a) (afterRead .cp a s)

/-- Read words in ascending order: what each read returns, and the state after them (R540). -/
def cpReadWords (role : Nat) : List Nat → State → List Byte × State
  | [], s => ([], s)
  | a :: t, s =>
    let v := natBE 4 (seenWord .cp s a).toNat
    let r := cpReadWords role t (cpReadWord role a s)
    (v ++ r.1, r.2)

/-- The first words that check 8 and then check 9 of R517 stop (R608, R609). -/
def accessGates (s : State) (as : List Nat) : List (Option Plan) :=
  [ (as.find? (gatedAt s)).map (fun a => ⟨.gated, [], 0, false, 0, gatedNote .cp a⟩),
    (as.findSome? (auditAt s .cp)).map (fun b => Plan.selftest b s) ]

/-- The role that a command reads with: the boot ROM reads as an operator (R521). -/
def readingRole (role : Option Role) (s : State) : Nat := if s.stage = .rom then max 1 (roleCode role) else roleCode role

/-- The words that READ_REG and WRITE_REG name. -/
def namedWords (c : Packet) : List Nat := wordsFrom (pf c 0 4) (min 64 (pb c 4))

/-- ADDRESS and COUNT are malformed: not aligned, no words, more than 64, or past the end of the window. -/
def wordsBad (c : Packet) : Bool := pf c 0 4 % 4 != 0 || pb c 4 == 0 || decide (64 < pb c 4) || decide (2 ^ 32 < pf c 0 4 + 4 * pb c 4)

/-- The checks and results of READ_REG (R521, R540). -/
def readRegPlan (c : Packet) (role : Option Role) (s : State) : Plan :=
  firstOf (bad (plen c ≠ 5 || wordsBad c) :: accessGates s (namedWords c))
    (Plan.done .ok (cpReadWords (roleCode role) (namedWords c) s).1 (fun s => (cpReadWords (roleCode role) (namedWords c) s).2))

/-- A word of READ_REG lies in an area for a higher role (R554). -/
def readDenied (c : Packet) (role : Option Role) (s : State) : Bool := (namedWords c).any (fun a => decide (readingRole role s < readRole a))

/-- READ_REG (0x10). -/
def opReadReg : Opcode := ⟨0x10, some .operator, true, false, readDenied, readRegPlan⟩

/-- READ_REG: R540. -/
def execReadReg (c : Packet) (s : State) : Host.Outcome State Fault Refusal := .next (runOpcode opReadReg c s)

/-- The words of WRITE_REG with their values. -/
def wordWrites (c : Packet) : List (Nat × Word) :=
  (namedWords c).mapIdx (fun i a => (a, BitVec.ofNat 32 (pf c (8 + 4 * i) 4)))

/-- Write one word over the Command Port in a role; SCAN_EN is asked for (R585). -/
def cpWriteWord (role : Nat) (x : Nat × Word) (s : State) : State :=
  let s1 := pmEv 0x18 4 (accessAttr .cp role x.1) (pathWrite .cp x.1 x.2 s)
  whenB (x.1 == 0x11C24 && wordBits x.2 15 15 == 1) (modSec (fun k => { k with scanRequested := true })) s1

/-- SCAN_EN is written while TEST_EN is low (R585). -/
def scanTooSoon (s : State) (c : Packet) : Bool :=
  !s.straps.testEn && (wordWrites c).any (fun x => x.1 == 0x11C24 && wordBits x.2 15 15 == 1)

/-- The checks and effect of WRITE_REG (R540, R585). -/
def writeRegPlan (c : Packet) (role : Option Role) (s : State) : Plan :=
  firstOf (bad (plen c ≠ 8 + 4 * pb c 4 || !zeros c 5 3 || wordsBad c) :: accessGates s (namedWords c)
      ++ [chk (scanTooSoon s c) (Plan.done .notReady [] id)])
    (Plan.done .ok [] (forL (wordWrites c) (cpWriteWord (roleCode role))))

/-- A word of WRITE_REG needs a higher role (R249, R554, R585). -/
def writeDenied (c : Packet) (role : Option Role) (_ : State) : Bool :=
  (wordWrites c).any (fun x => decide (roleCode role < max (readRole x.1) (writeRole x.1 x.2)))

/-- WRITE_REG (0x11). -/
def opWriteReg : Opcode := ⟨0x11, some .installer, false, true, writeDenied, writeRegPlan⟩

/-- WRITE_REG: R540, R599. -/
def execWriteReg (c : Packet) (s : State) : Host.Outcome State Fault Refusal := .next (runOpcode opWriteReg c s)

/-- The addresses that READ_BLOCK names, word by word. -/
def blockWords (c : Packet) : List Nat := wordsFrom (pf c 0 4) (min 1024 (pf c 4 2 / 4))

/-- The checks and results of READ_BLOCK (R540). -/
def readBlockPlan (c : Packet) (_ : Option Role) (s : State) : Plan :=
  let a := pf c 0 4
  let n := pf c 4 2
  firstOf (bad (plen c ≠ 6 || a % 4 ≠ 0 || n % 4 ≠ 0 || n < 4 || 4096 < n || !(List.range n).all (fun i => isBlock (a + i)))
      :: accessGates s (blockWords c))
    (Plan.done .ok ((List.range n).map (fun i => areaByte s (a + i))) (whenB ((blockWords c).any freeByte) draw))

/-- A word of READ_BLOCK lies in an area for a higher role. -/
def blockDenied (c : Packet) (role : Option Role) (_ : State) : Bool := (blockWords c).any (fun a => decide (roleCode role < readRole a))

/-- READ_BLOCK (0x12). -/
def opReadBlock : Opcode := ⟨0x12, some .operator, false, false, blockDenied, readBlockPlan⟩

/-- READ_BLOCK: R540. -/
def execReadBlock (c : Packet) (s : State) : Host.Outcome State Fault Refusal := .next (runOpcode opReadBlock c s)

/-! ## MDIO -/

/-- The path of a bus. -/
def busPath (bus : Nat) : Path := if bus = 0 then .mdio0 else .mdio1

/-- The port that answers a frame: the logic runs, and the address is the device's own (R4, R593). -/
def frameFor (s : State) (bus prtad : Nat) : Option Nat := if cpAnswers s then mdioPort s bus prtad else none

/-- The place of an address register (R594). -/
def mdioKey (bus prtad devad : Nat) : Nat := 1024 * bus + 32 * prtad + devad

/-- The address register of a bus, port address and DEVAD. -/
def mdioReg (s : State) (bus prtad devad : Nat) : Nat := (SMap.get s.mdio.addr 0 (mdioKey bus prtad devad)).toNat

/-- Set an address register. -/
def setMdioReg (bus prtad devad a : Nat) (s : State) : State :=
  { s with mdio := { s.mdio with addr := SMap.set s.mdio.addr 0 (mdioKey bus prtad devad) (BitVec.ofNat 16 a) } }

/-- What the device drives in a frame. -/
def mdioDrive (v : Option (BitVec 16)) (s : State) : State := { s with mdio := { s.mdio with out := v } }

/-- The window address of an MMD register at port n; none for another DEVAD or above 0x3FFF (R591, R595). -/
def mmdAddr (n devad a : Nat) : Option Nat :=
  if 0x3FFF < a then none
  else match devad with
    | 1 => some (portBase n + 0x40000 + 4 * a)
    | 3 => some (portBase n + 0x50000 + 4 * a)
    | 7 => some (portBase n + 0x60000 + 4 * a)
    | 30 => some (portBase n + 0x70000 + 4 * a)
    | 31 => some (0x10000 + 4 * a)
    | _ => none

/-- Flag an access over MDIO that R609 refuses. -/
def mdioRefused (bus : Nat) (f : Fld) (s : State) : State := addCnt 0 F.ACCESS_ERRS 1 (evG (bitFld f (1 - bus)) s)

/-- The flags of a bus in MGMT_EVENTS, MDIO0 above MDIO1. -/
def violFlags : Fld := ⟨0x10028, 15, 14, .w1c, 0⟩
@[inherit_doc violFlags]
def gatedFlags : Fld := ⟨0x10028, 13, 12, .w1c, 0⟩
@[inherit_doc violFlags]
def selftestFlags : Fld := ⟨0x10028, 11, 10, .w1c, 0⟩

/-- An MDIO access to a gated block or to a port group in the audit: flagged, counted, and nothing is touched; none where it may go on. A
write to a port in the audit is a service request (R609, R744). -/
def mdioStop (bus a : Nat) (write : Bool) (s : State) : Option State :=
  if gatedAt s a then some (mdioRefused bus gatedFlags (gatedNote (busPath bus) a s))
  else match auditAt s (busPath bus) a with
    | some b => some (whenB write (auditRequest b) (mdioRefused bus selftestFlags s))
    | none => none

/-- A write over MDIO to MMD 31 0x0700..0x07FF is ignored and counts as a violation (R598, R603). -/
def mdioViolation (bus n devad a : Nat) (s : State) : State :=
  let s1 := wrG F.VIOL_WHERE_DEVAD devad (wrG F.VIOL_WHERE_PORT n (wrG F.VIOL_WHERE_PATH (bus + 1) (wrG F.VIOL_ADDR a s)))
  let s2 := addCnt 0 F.REG_VIOL 1 (evG (bitFld violFlags (1 - bus)) s1)
  pmEv 0x18 5 { accessAttr (busPath bus) 0 (0x10000 + 4 * a) with role := none } (countDev 0x2B 1 s2)

/-- The register that a read frame of port n returns, and the state after it (R594, R595, R605, R609). -/
def mdioReadReg (bus n devad a : Nat) (s : State) : BitVec 16 × State :=
  match mmdAddr n devad a with
  | none => (0, s)
  | some w =>
    match mdioStop bus w false s with
    | some t => (0, t)
    | none =>
      let p := busPath bus
      ((seenWord p s w).setWidth 16, pmEv 0x18 3 (accessAttr p 0 w) (afterRead p w s))

/-- A read frame. -/
def mdioRead (bus prtad devad : Nat) (s : State) : State :=
  match frameFor s bus prtad with
  | none => mdioDrive none s
  | some n =>
    let r := mdioReadReg bus n devad (mdioReg s bus prtad devad) (countDev 0x2A 1 s)
    mdioDrive (some r.1) r.2

/-- A write frame; it wakes the device from Doze (R684). -/
def mdioWrite (bus prtad devad : Nat) (v : BitVec 16) (s : State) : State :=
  match frameFor s bus prtad with
  | none => mdioDrive none s
  | some n =>
    let a := mdioReg s bus prtad devad
    let s1 := mdioDrive none (wakeDoze (countDev 0x2A 1 s))
    match mmdAddr n devad a with
    | none => s1
    | some w =>
      if devad = 31 ∧ 0x0700 ≤ a ∧ a ≤ 0x07FF then mdioViolation bus n devad a s1
      else match mdioStop bus w true s1 with
        | some t => t
        | none => pmEv 0x18 4 (accessAttr (busPath bus) 0 w) (pathWrite (busPath bus) w (v.setWidth 32) s1)

/-- MDIO_ADDRESS: R593, R594. -/
def execMdioAddress (bus : Fin 2) (prtad devad : Fin 32) (a : BitVec 16) (s : State) : Host.Outcome State Fault Refusal :=
  .next (match frameFor s bus.val prtad.val with
    | none => mdioDrive none s
    | some _ => setMdioReg bus.val prtad.val devad.val a.toNat (mdioDrive none (countDev 0x2A 1 s)))

/-- MDIO_READ: R594, R609. -/
def execMdioRead (bus : Fin 2) (prtad devad : Fin 32) (s : State) : Host.Outcome State Fault Refusal :=
  .next (mdioRead bus.val prtad.val devad.val s)

/-- POST_READ_INCREMENT_ADDRESS: the read, then the address register counts, wrapping at 0xFFFF (R594). -/
def execPostReadIncrementAddress (bus : Fin 2) (prtad devad : Fin 32) (s : State) : Host.Outcome State Fault Refusal :=
  .next (match frameFor s bus.val prtad.val with
    | none => mdioDrive none s
    | some _ => setMdioReg bus.val prtad.val devad.val (mdioReg s bus.val prtad.val devad.val + 1) (mdioRead bus.val prtad.val devad.val s))

/-! ## Accesses without a packet -/

/-- An access that a block or the audit stops touches nothing (R609). -/
def windowStopped (s : State) (a : Nat) : Bool := !cpAnswers s || gatedAt s a || (auditAt s .cp a).isSome

/-- A read of one word of the window, as READ_REG makes it once its checks have passed. -/
def windowRead (a : Nat) (s : State) : State := if windowStopped s a then s else cpReadWord 0 a s

/-- A write of one word of the window, as WRITE_REG makes it once its checks have passed; SCAN_EN needs the command itself (R585). -/
def windowWrite (a : Nat) (v : Word) (s : State) : State :=
  if windowStopped s a then s else pmEv 0x18 4 (accessAttr .cp 0 a) (pathWrite .cp a v s)

/-- A read of a word or of an MMD register. -/
def readAccess (x : Access) (s : State) : State :=
  match x with
  | .window a => windowRead (a.toNat / 4 * 4) s
  | .mdio bus prtad devad => mdioRead bus.val prtad.val devad.val s

/-- A write of a word or of an MMD register. -/
def writeAccess (x : Access) (v : Word) (s : State) : State :=
  match x with
  | .window a => windowWrite (a.toNat / 4 * 4) v s
  | .mdio bus prtad devad => mdioWrite bus.val prtad.val devad.val (v.setWidth 16) s

/-- REGISTER_WRITE: R599, R603. -/
def execRegisterWrite (a : Access) (v : Word) (s : State) : Host.Outcome State Fault Refusal := .next (writeAccess a v s)

/-- LATCHING_READ: R457, R605. -/
def execLatchingRead (a : Access) (s : State) : Host.Outcome State Fault Refusal := .next (readAccess a s)

/-- MULTIWORD_WRITE_COMMIT: R607. -/
def execMultiwordWriteCommit (a : Access) (v : Word) (s : State) : Host.Outcome State Fault Refusal := .next (writeAccess a v s)

/-- LINK_STATUS_READ: R613. -/
def execLinkStatusRead (a : Access) (s : State) : Host.Outcome State Fault Refusal := .next (readAccess a s)

/-- PORT_LOW_POWER: a write of 1.0.11 or 3.0.11 (R597). -/
def execPortLowPower (n : Port) (pcs v : Bool) (s : State) : Host.Outcome State Fault Refusal :=
  let a := portBase n.val + (if pcs then 0x50000 else 0x40000)
  .next (windowWrite a (setBits (rdReg s a) 11 11 (bit v)) s)

/-- RESTART_AUTO_NEGOTIATION: a write of 1 to 7.0.9 (R597). -/
def execRestartAutoNegotiation (n : Port) (s : State) : Host.Outcome State Fault Refusal :=
  let a := portBase n.val + 0x60000
  .next (windowWrite a (setBits (rdReg s a) 9 9 1) s)

/-- TS_POP: R479. -/
def execTsPop (n : Port) (s : State) : Host.Outcome State Fault Refusal :=
  let a := portBase n.val + 0x709B4
  .next (windowWrite a (setBits (rdReg s a) 10 10 1) s)

/-- HL_CTRL_ENABLE_WRITE: R400, R441. -/
def execHlCtrlEnableWrite (g : Lane) (v : Bool) (s : State) : Host.Outcome State Fault Refusal :=
  let a := 0x11400 + laneBase g.val
  .next (windowWrite a (setBits (rdReg s a) 15 15 (bit v)) s)

end Sys2Proof.Machine
end

