-- ==== Sys2Proof/Machine/PortConfig.lean ====
section
/-!
DEFINITION. The opcodes of a port: PORT_CONFIG, PORT_STATE and PORT_RETRAIN (R541-R546), with the application of what they schedule;
OP_ABORT (R532); the Teller's comparison of its records (R614).
-/
namespace Sys2Proof.Machine

/-! ## PORT_CONFIG (R541-R544) -/

/-- The items of a command (R541). -/
def cfgItems (c : Packet) : List CfgItem :=
  (List.range (pb c 3)).map (fun i => ⟨pf c (14 + 12 * i) 4, BitVec.ofNat 32 (pf c (18 + 12 * i) 4), BitVec.ofNat 32 (pf c (22 + 12 * i) 4)⟩)

/-- The advertisements of a port: `SIR_AN_CTRL`, `AN_1000T_CTRL` and those of MMD 7 (R69, R542). -/
def advOffsets : List Nat := [0x70800, 0x70818, 0x60040, 0x60080, 0x600F0, 0x600F8]

/-- An item may name a word: an advertisement, another control of R542, a breakpoint or a notch. -/
def cfgMay (r : Nat) : Bool :=
  advOffsets.contains r || [0x70880, 0x70908, 0x70940, 0x70980, 0x70984, 0x70988, 0x7098C].contains r
    || (r % 4 == 0 && (inR r 0x3000 0x30FF || inR r 0x3100 0x313F))

/-- The RW bits of a word. -/
def rwBits (a : Nat) : Word := (fieldsAt a).foldl (fun m f => if f.ty = .rw then m ||| maskOf f.hi f.lo else m) 0

/-- Apply one item to port n, from the value stored now (R541, R602). -/
def putItem (n : Nat) (i : CfgItem) (s : State) : State :=
  wrReg (portBase n + i.offset) (i.result (rdReg s (portBase n + i.offset))) s

/-- The words that a check of items on port n looks at: those named, and every notch where one is. -/
def cfgWords (l : List CfgItem) : List Nat :=
  l.map (·.offset) ++ (if l.any (fun i => inR i.offset 0x3100 0x313F) then (List.range 16).map (fun k => 0x3100 + 4 * k) else [])

/-- Items that BAD_PARAM refuses (R542). -/
def cfgBad (s : State) (n : Nat) (l : List CfgItem) : Bool :=
  l.any (fun i => !cfgMay i.offset || i.mask &&& ~~~(rwBits (portBase n + i.offset)) != 0)
    || (cfgWords l).any (portCodeBad (forL l (putItem n) s) n)

/-- The tones that a list of notches silences. -/
def silenced (l : List (Nat × Nat)) : List Nat := (List.range' 1 4095).filter (notched l)

/-- A notch added in service is applied as a loading change at an agreed superframe: this end asks its partner to clear the tones of its
transmit direction, and clears those of its receive direction itself (R122, R808). -/
def notchClear (n : Nat) (old : List (Nat × Nat)) (s : State) : State :=
  let new := notches s n
  if !inService s n || (silenced new).all (notched old) then s
  else
    let b : List Band := (new.filter (fun e => !old.contains e)).map
      (fun e => ⟨BitVec.ofNat 12 (max 1 (e.1 - 4)), BitVec.ofNat 12 (min 4095 (e.2 + 4))⟩)
    let sf := BitVec.ofNat 40 (toLink s n (s.time.s + 8))
    let need := fun d => clearBands b (readTable s n d) != readTable s n d
    let s1 := whenB (need 0) (sendMsg n 0x13 true (.loadingNeed sf b)) s
    whenB (need 1) (addNeed n ⟨true, 0, s.time.s + 8, b, none, []⟩) s1

/-- The low-power bits after ACTION 1 or 2 (R541, R597, R649). -/
def cfgAction (n action : Nat) (s : State) : State :=
  if action = 1 then wrP n F.PCS_LOW_POWER 0 (wrP n F.PMA_LOW_POWER 0 s)
  else if action = 2 ∧ rdP s n F.PMA_LOW_POWER = 0 ∧ rdP s n F.PCS_LOW_POWER = 0 then wrP n F.PMA_LOW_POWER 1 s
  else s

/-- Apply one PORT_CONFIG: its items together, then what they change at once, the action and the retraining (R543). -/
def applyCfg (n : Nat) (c : PendCfg) (s : State) : State :=
  let s1 := forL c.items (putItem n) s
  let moved := fun r => rdReg s (portBase n + r) != rdReg s1 (portBase n + r)
  let s2 := whenB (advOffsets.any moved) (restoreModes n) s1
  let s3 := whenB (moved 0x70908) (fun s => rateCheck n (updateRateReason n s)) s2
  let s4 := notchClear n (notches s n) s3
  let was := enabled s4 n
  let s5 := enableChange n was (cfgAction n c.action s4)
  whenB (c.retrain && was && enabled s5 n) (retrainPort n) s5

/-- Apply what is due of a port's pending PORT_CONFIG commands, in order of acceptance (R544). -/
def cfgDue (n : Nat) (s : State) : State :=
  let due := (port s n).pendCfg.filter (fun c => whenDue s c.due)
  forL due (applyCfg n) (modPort n (fun p => { p with pendCfg := p.pendCfg.filter (fun c => !whenDue s c.due) }) s)

/-- The port follows the superframe grid of its link: its scheduled events fall on boundaries (R26, R543). -/
def onFrames (s : State) (n : Nat) : Bool := isSir s n && decide (2 ≤ phase s n) && s.time.running

/-- When a host-scheduled event of port n applies; while the clock does not run, at once. -/
def eventWhen (s : State) (n sec ns : Nat) : When :=
  let t := if s.time.running then max (totalNs sec ns) (nowTotal s) else nowTotal s
  if onFrames s n then .frame (hostFrame s sec ns) else .time (t / 1000000000) (t % 1000000000)

/-- The superframe, 0 for a time compare, and the network time of an event, as PORT_CONFIG reports them. -/
def whenBytes (s : State) (n : Nat) : When → List Byte
  | .frame k => natBE 5 (toLink s n k) ++ natBE 6 (sfStart s k / 1000000000) ++ natBE 4 (sfStart s k % 1000000000)
  | .time sec ns => natBE 5 0 ++ natBE 6 sec ++ natBE 4 ns

/-- The checks and effect of PORT_CONFIG (R541-R544, R749). -/
def portConfigPlan (c : Packet) (_ : Option Role) (s : State) : Plan :=
  let n := pb c 0
  let l := cfgItems c
  let w := eventWhen s n (pf c 4 6) (pf c 10 4)
  firstOf
    [ bad (decide (64 < pb c 3) || plen c != 14 + 12 * pb c 3 || !hasPort s n || decide (2 < pb c 1) || decide (1 < pb c 2)
        || !nsOk (pf c 10 4) || cfgBad s n l),
      gated s (groupOf n), inAudit s (groupOf n), busyIf s (decide (4 ≤ (port s n).pendCfg.length)),
      chk (pb c 1 == 1 && portHeld s n) (Plan.done .refused [] id) ]
    (Plan.done .ok (whenBytes s n w)
      (fun s => cfgDue n (askCaps n (modPort n (fun p => { p with pendCfg := p.pendCfg ++ [⟨pb c 1, pb c 2 == 1, l, w⟩] }) s))))

/-- PORT_CONFIG (0x20, R520). -/
def opPortConfig : Opcode := ⟨0x20, some .installer, false, true, noArea, portConfigPlan⟩

/-- PORT_CONFIG: R541-R544. -/
def execPortConfig (c : Packet) (s : State) : Host.Outcome State Fault Refusal := .next (runOpcode opPortConfig c s)

/-- PORT_CONFIG_APPLY: R543, R544. -/
def execPortConfigApply (n : Port) (s : State) : Host.Outcome State Fault Refusal := .next (cfgDue n.val s)

/-! ## PORT_STATE (R545) -/

/-- FE_VALID: a FE_STATUS has been received, and the superframes since its S. -/
def feValid (s : State) (n : Nat) : Nat :=
  let fe := (port s n).fe
  if fe.isEmpty then 0 else 128 + min 127 (toLink s n s.time.s - beNat (fe.take 5))

/-- The 64 bytes of PORT_STATE. -/
def portStateBytes (s : State) (n : Nat) : List Byte :=
  let p := port s n
  let r := portRecord s n
  let fe := if p.fe.isEmpty then List.replicate 30 0 else p.fe
  let ch := wordBits (rdReg s (portBase n + 0x708C0)) 15 12 * 16 + rdP s n F.HL_PORT_STATUS_SPLIT * 8
  natBE 1 n ++ [r.getD 0 0] ++ natBE 2 (rdReg s (portBase n + 0x70804)).toNat ++ natBE 2 (rdReg s (portBase n + 0x70904)).toNat
    ++ [r.getD 2 0] ++ natBE 2 (rdReg s (portBase n + 0x70884)).toNat ++ natBE 1 ch ++ natBE 5 (if onGrid s n then s.time.s else 0)
    ++ natBE 6 (nowSec s) ++ natBE 4 (nowNs s) ++ fe ++ natBE 1 (feValid s n)
    ++ (List.range 4).flatMap (fun i => marginBytes (if p.st = .service then p.watch.margins.getD i none else none))

/-- The checks and results of PORT_STATE. -/
def portStatePlan (c : Packet) (_ : Option Role) (s : State) : Plan :=
  let n := pb c 0
  firstOf [bad (plen c ≠ 1 || !hasPort s n), gated s (groupOf n), inAudit s (groupOf n)] (Plan.done .ok (portStateBytes s n) id)

/-- PORT_STATE (0x21, R520). -/
def opPortState : Opcode := ⟨0x21, some .operator, false, false, noArea, portStatePlan⟩

/-- PORT_STATE: R545. -/
def execPortState (c : Packet) (s : State) : Host.Outcome State Fault Refusal := .next (runOpcode opPortState c s)

/-! ## PORT_RETRAIN (R546) -/

/-- A PORT_RETRAIN takes effect: an older one that still reported ends INCOMPLETE, withheld modes return (R69), and the port goes down
and negotiates afresh; a port that cannot ends the operation INCOMPLETE. -/
def applyRetrain (n op : Nat) (s : State) : State :=
  let s1 := restoreModes n (endRetrain n .incomplete [] s)
  if enabled s1 n && lineFree s1 n then
    let live := (runningOps s1).any (fun o => o.id == op)
    retrainPort n (modPort n (fun p => { p with retrainOp := if live then some op else none }) s1)
  else endOp op .incomplete [] s1

/-- Make the retrainings of a port that are due, in order of acceptance. -/
def retrainDue (n : Nat) (s : State) : State :=
  let due := (port s n).retrainAt.filter (fun x => whenDue s x.1)
  forL due (fun x => applyRetrain n x.2) (modPort n (fun p => { p with retrainAt := p.retrainAt.filter (fun x => !whenDue s x.1) }) s)

/-- The checks and effect of PORT_RETRAIN. -/
def portRetrainPlan (c : Packet) (role : Option Role) (s : State) : Plan :=
  let n := pb c 0
  let w := eventWhen s n (pf c 4 6) (pf c 10 4)
  firstOf
    [ bad (plen c ≠ 14 || !hasPort s n || !zeros c 1 3 || !nsOk (pf c 10 4)), gated s (groupOf n), inAudit s (groupOf n),
      chk (!enabled s n) (Plan.done .notReady [] id) ]
    (Plan.long s 0x22 role 5 (fun id s => retrainDue n (modPort n (fun p => { p with retrainAt := p.retrainAt ++ [(w, id)] }) s)))

/-- PORT_RETRAIN (0x22, R520). -/
def opPortRetrain : Opcode := ⟨0x22, some .installer, false, true, noArea, portRetrainPlan⟩

/-- PORT_RETRAIN: R546. -/
def execPortRetrain (c : Packet) (s : State) : Host.Outcome State Fault Refusal := .next (runOpcode opPortRetrain c s)

/-! ## OP_ABORT (R532, R533, R538) -/

/-- A PORT_RETRAIN stops reporting (R546). -/
def retrainAbort (op : Nat) (s : State) : State :=
  forL ((allPorts s).filter (fun n => (port s n).retrainOp == some op)) (fun n => modPort n (fun p => { p with retrainOp := none }))
    (endOp op .aborted [] s)

/-- A diagnostic stops (R393). -/
def diagAbort (op : Nat) (s : State) : State :=
  match findRun s op with
  | some r => if r.begun && r.kind == 5 then captureCut op s else diagEnd op .aborted s
  | none => s

/-- A LANE_TRAIN stops reporting; its groups go on (R538). -/
def laneTrainAbort (op : Nat) (s : State) : State :=
  forL (trainGroups s op) (fun g => modLane g (fun l => { l with trainOp := none, trainRes := none })) (endOp op .aborted [] s)

/-- What the request to abort does at once: an operation with a later point to stop at stops there (LANE_TEST at its end, VAULT_PROGRAM
after the current word, a running calibration at the next pair). -/
def abortNow (o : Op) (s : State) : State :=
  if o.opcode = 0x22 then retrainAbort o.id s
  else if o.opcode = 0x30 then surveyAbort s
  else if o.opcode = 0x40 then diagAbort o.id s
  else if o.opcode = 0x50 then calAbort o.id s
  else if o.opcode = 0x70 then levelAbort s
  else if o.opcode = 0x71 then sleepCancel .aborted [] s
  else if o.opcode = 0xC0 then laneTrainAbort o.id s
  else s

/-- The checks and effect of OP_ABORT. -/
def opAbortPlan (c : Packet) (_ : Option Role) (s : State) : Plan :=
  match findOp s (pf c 0 4) with
  | some o =>
    firstOf
      [ bad (plen c ≠ 4), chk (o.st == .done) (Plan.done .ok (natBE 1 ((o.final.map Status.code).getD 0)) id),
        chk (o.opcode == 0xB1) (Plan.done .refused [] id) ]
      (Plan.done .ok [] (fun s => if o.st = .running then abortNow o (modOp o.id (fun x => { x with st := .abortRequested }) s) else s))
  | none => Plan.refuse .badParam 0

/-- An installer names an operation that a maker started. -/
def abortDenied (c : Packet) (role : Option Role) (s : State) : Bool :=
  match findOp s (pf c 0 4) with
  | some o => decide (plen c = 4) && !atLeast role o.role
  | none => false

/-- OP_ABORT (0xA1, R520). -/
def opOpAbort : Opcode := ⟨0xA1, some .installer, false, true, abortDenied, opAbortPlan⟩

/-- OP_ABORT: R532. -/
def execOpAbort (c : Packet) (s : State) : Host.Outcome State Fault Refusal := .next (runOpcode opOpAbort c s)

/-! ## Comparisons of the Teller and of the clock -/

/-- TELLER_RESYNC: every record is compared (R614). -/
def execTellerResync (s : State) : Host.Outcome State Fault Refusal :=
  .next (if s.stage = .firmware then forL (allPorts s) tellerCheck s else s)

/-- TIME_COMPARE: the clock has reached the time of what is scheduled on a port, or of a level change (R468, R671, R712). -/
def execTimeCompare (n : Port) (s : State) : Host.Outcome State Fault Refusal :=
  .next (levelStart (commitDueCal n.val (substDue n.val (retrainDue n.val (cfgDue n.val s)))))

end Sys2Proof.Machine
end

