-- ==== Sys2Proof/Machine/Boundary.lean ====
section
/-!
DEFINITION. The superframe boundary: it records its network time (R466), makes the changes that fall on it in the stages of R29, and
takes the measurements of every receiver (R298).
-/
namespace Sys2Proof.Machine

/-- A superframe begins: its index, the network time at which its boundary leaves the MDI, and the device counter (R88, R466, R758). The
messages of a training channel in the superframe before have gone; those in service go with its blocks. -/
def boundaryTick (s : State) : State :=
  let s1 := modTime (fun t => { t with s := t.s + 1, sTime := t.t / nsUnit, sFrac := t.t % nsUnit / 2 ^ 32 }) s
  countDev 0 1 { s1 with ports := mapVals PortState.init (fun n p => if dtuOpen s n then p else { p with sent := [] }) s1.ports }

/-- What a port does at a boundary before the stages: its DTU streams have advanced (R127), a training phase changes (R182), a master in
HANDSHAKE sends its two bursts (R192), and host-scheduled events apply (R26, R543, R546). -/
def boundaryPort (n : Nat) (s : State) : State :=
  let s1 := phaseDue n (phaseStep n s)
  let s2 := if inPhase s1 n 1 && (port s1 n).tr.master then
    modTr n (fun t => { t with hsOut := hsMessage s1 n false ++ hsMessage s1 n true }) s1 else s1
  retrainDue n (cfgDue n s2)

/-- Stage 1 on one port: pair fallback, spare substitution, the reverting of frozen loops, and the steps of a calibration (R29, R328,
R333, R712, R719). -/
def stage1 (n : Nat) (a : List RateStep × State) : List RateStep × State :=
  let b := fallbackStage n a
  (b.1, driftRevert n (commitDueCal n (calBoundary n (substDue n b.2))))

/-- A victim pair waits for a commit of a Survey or a join, not of lending alone. -/
def commitsEarly (s : State) (v : Nat) : Bool := (victim s v).survey || !(victim s v).joins.isEmpty

/-- Stage 4: lending commits, and the ports that leave the Clearing House (R29, R223, R260, R287). -/
def stage4 (s : State) : State :=
  let s1 := forL ((allVictims s).filter (fun v => !commitsEarly s v)) commitDue s
  forL s1.ch.leaving chDormant s1

/-- Stage 5 on one port: loading changes and the entry into service (R29, R169, R182). -/
def stage5 (n : Nat) (a : List RateStep × State) : List RateStep × State :=
  let b := loadingStage n a
  (b.1, serviceDue n b.2)

/-- After the stages a port takes up the rates that are asked for, answers the need that waits, and enters Shutter (R301, R308, R336,
R808). -/
def boundaryEnd (n : Nat) (s : State) : State := shutterDue n (answerNext n (rateCheck n s))

/-- The Survey leaves its first step (R270). -/
def surveyRoll (s : State) : State :=
  match s.ch.survey with
  | some r => if r.k = 1 then surveyStep 2 s else s
  | none => s

/-- The boundary: every stage is completed on every port before the next one starts on any (R29, R30). Stage 2 has no state: the
coefficients of the port-local cancellers are not given. -/
def boundary (m : List PortMeas) (s : State) : State :=
  let ps := allPorts s
  let s0 := surveyRoll (forL ps boundaryPort (boundaryTick s))
  let (r1, s1) := forL ps stage1 ([], s0)
  let s3 := forL ((allVictims s1).filter (commitsEarly s1)) commitDue s1
  let (r5, s5) := forL ps stage5 (r1, stage4 s3)
  let s6 := forL m takeMeas (rateSteps r5 s5)
  levelStart (forL ps boundaryEnd s6)

/-- SUPERFRAME_BOUNDARY: R29, R30, R466. The grid runs with the time unit. -/
def execSuperframeBoundary (m : List PortMeas) (s : State) : Host.Outcome State Fault Refusal :=
  .next (if s.time.running then boundary m s else s)

end Sys2Proof.Machine
end

