-- ==== Sys2Proof/Machine/Images.lean ====
section
/-!
DEFINITION. Firmware images (R547-R552), and the start of the active image after a warm reset (R651).
-/
namespace Sys2Proof.Machine

/-- Bytes of a slot; a byte that no IMAGE_LOAD has written counts as 0. -/
def slotBytes (m : SMap (Option Byte)) (i n : Nat) : List Byte :=
  (List.range n).map (fun k => (SMap.get m none (i + k)).getD 0)

/-- BODY_LEN of a slot. -/
def bodyLen (m : SMap (Option Byte)) : Nat := beNat (slotBytes m 16 4)

/-- The length of a slot's image. -/
def imageLen (m : SMap (Option Byte)) : Nat := 32 + bodyLen m + 64

/-- A slot holds every byte of its image, with MAGIC and HDR_VER right (R549). -/
def imageWhole (m : SMap (Option Byte)) : Bool :=
  decide (imageLen m ≤ 786432) && (m.filter (fun e => decide (e.1 < imageLen m) && e.2.isSome)).length == imageLen m
    && slotBytes m 0 4 == [0x51, 0x49, 0x4D, 0x47] && slotBytes m 4 2 == [0x00, 0x01]

/-- The signature of a slot's image verifies (R547, R581). -/
def imageSigned (s : State) (m : SMap (Option Byte)) : Bool :=
  imageKeyOk s (sha256 (slotBytes m 0 (32 + bodyLen m))) (slotBytes m (32 + bodyLen m) 64)

/-- PART, MIN_REV and PROFILES name this device and the profile in force (R547, R550). -/
def imageFits (s : State) (m : SMap (Option Byte)) : Bool :=
  beNat (slotBytes m 6 2) == 0x4880 && decide (beNat (slotBytes m 8 1) ≤ 0xB0)
    && bitsOf (beNat (slotBytes m 9 1)) (rdG s F.DEV_ID_PROFILE - 1) (rdG s F.DEV_ID_PROFILE - 1) == 1

/-- Write image bytes into the staging slot; OFFSET 0 discards what was loaded (R548). -/
def imageLoad (o : Nat) (d : List Byte) : State → State :=
  modImages (fun m =>
    let base := if o = 0 then [] else m.staging
    { m with staging := forN d.length (fun i x => SMap.set x none (o + i) (some (d.getD i 0))) base })

/-- An activation or the ROM's own verification runs. -/
def imageBusy (s : State) : Bool := s.images.activating.isSome || s.images.romStart

/-- IMAGE_LOAD (R548). -/
def imageLoadPlan (c : Packet) (_ : Option Role) (s : State) : Plan :=
  let n := plen c - 4
  firstOf
    [ bad (plen c < 8 || n > 4096 || n % 4 ≠ 0 || pf c 0 4 + n > 786432),
      busyIf s (imageBusy s) ]
    (Plan.done .ok [] (imageLoad (pf c 0 4) (c.params.drop 4)))

/-- IMAGE_LOAD (0xB0). -/
def opImageLoad : Opcode := ⟨0xB0, some .installer, true, true, noArea, imageLoadPlan⟩

/-- IMAGE_LOAD: R548. -/
def execImageLoad (c : Packet) (s : State) : Host.Outcome State Fault Refusal := .next (runOpcode opImageLoad c s)

/-- IMAGE_ACTIVATE (R549, R586). -/
def imageActivatePlan (c : Packet) (role : Option Role) (s : State) : Plan :=
  firstOf
    [ bad (plen c ≠ 1 || !zeros c 0 1),
      busyIf s (imageBusy s || (s.stage == .firmware && !(runningOps s).isEmpty)),
      chk (rdG s F.VAULT_STATUS_READ_LOCK == 1) (Plan.retryIn .notReady 0),
      chk (!imageWhole s.images.staging) (Plan.done .recordBad [] id) ]
    (Plan.long s 0xB1 role 2 (fun id => modImages (fun m => { m with activating := some id, verified := false })))

/-- IMAGE_ACTIVATE (0xB1). -/
def opImageActivate : Opcode := ⟨0xB1, some .installer, true, true, noArea, imageActivatePlan⟩

/-- IMAGE_ACTIVATE: R549. -/
def execImageActivate (c : Packet) (s : State) : Host.Outcome State Fault Refusal := .next (runOpcode opImageActivate c s)

/-- An activation fails: the staging slot is discarded (R550). -/
def activationFails (id : Nat) (st : Status) (s : State) : State :=
  endOp id st [] (modImages (fun m => { m with staging := [], activating := none, verified := false }) s)

/-- The verification of step 1 ends (R550); for the image in the active slot, the boot ROM's (R651). -/
def signatureVerified (s : State) : State :=
  if s.images.verified || !coresRun s then s
  else match s.images.activating with
    | some id =>
      if !imageSigned s s.images.staging then activationFails id .recordBad s
      else if !imageFits s s.images.staging then activationFails id .version s
      else opProgress id 2 2 50 (opItem id 0 0 0 0 (modImages (fun m => { m with verified := true }) s))
    | none =>
      if !s.images.romStart then s
      else if imageWhole s.images.active && imageSigned s s.images.active then modImages (fun m => { m with verified := true }) s
      else journalEvent 0 0x12 0 0 (modImages (fun m => { m with romStart := false }) s)

/-- SIGNATURE_VERIFIED: R550, R651. -/
def execSignatureVerified (s : State) : Host.Outcome State Fault Refusal := .next (signatureVerified s)

/-- The cores stop for the restart: the slots are exchanged, sessions and the HELLO version end (R551, R514, R523). -/
def imageStop (s : State) : State :=
  let s1 := if s.images.activating.isSome then modImages (fun m => { m with active := m.staging, staging := m.active }) s else s
  modCp (fun p => { p with current := none, reply := none, replyRead := 0, stored0 := none, helloVersion := none })
    (dropSessions { s1 with stage := .restarting })

/-- The new image runs: its Ledger and Journal entries, and the activation's END (R537, R551, R552, R809). -/
def imageRun (s : State) : State :=
  let fw := beNat (slotBytes s.images.active 12 4)
  let keep := s.images.activating.getD 0
  let s1 := modImages (fun m => { m with fwVersion := fw, activating := none, verified := false, romStart := false })
    { s with stage := .firmware, ops := s.ops.filter (fun o => o.id == keep) }
  let s2 := ledgerEnds 4 (ledgerDevice 1 (fw % 2 ^ 24) s1)
  let s3 := journalEvent 0 1 (fw / 256 % 256) (fw % 256) s2
  cutOpen keep (endOp keep .ok [] s3)

/-- The image starts: first the cores stop for their restart, then the new image runs (R551, R552; assumption 9). -/
def imageStart (s : State) : State :=
  if s.stage = .restarting then imageRun s
  else if s.images.verified && coresRun s then imageStop s
  else s

/-- IMAGE_START: R551, R552. -/
def execImageStart (s : State) : Host.Outcome State Fault Refusal := .next (imageStart s)

end Sys2Proof.Machine
end

