-- ==== Sys2Proof/Machine/Supply.lean ====
section
/-!
DEFINITION. Supply warnings and reset levels (R696-R700).
-/
namespace Sys2Proof.Machine

/-- The number of a rail in the order of SUPPLY_STATUS and SUPPLY_EVENTS (R701). -/
def railNo : Rail → Nat
  | .core => 0 | .aon => 1 | .afe => 2 | .ld => 3 | .lane => 4 | .pll => 5 | .io => 6

/-- The bit of a rail in WARN_NOW or WARN. -/
def railBit (f : Fld) (r : Rail) : Fld := bitFld f (6 - railNo r)

/-- A warning on a rail holds now. -/
def warnNow (s : State) (r : Rail) : Bool := rdG s (railBit F.SUPPLY_STATUS_WARN_NOW r) == 1

/-- The device ignores a rail that it allows to be removed in Retain (R783). -/
def railIgnored (s : State) (r : Rail) : Bool :=
  let armed := rdG s F.WAKE_ARM_LO != 0 || rdG s F.WAKE_ARM_HI != 0
  s.stage == .stopped && (r == .ld || r == .lane || r == .pll || (r == .afe && !armed))

/-- A rail's warning begins: its status, its flag and its Ledger entry (R568, R698, R699). -/
def warnBegin (r : Rail) (s : State) : State :=
  let s1 := wrG (railBit F.SUPPLY_STATUS_WARN_NOW r) 1 (evG (railBit F.SUPPLY_EVENTS_WARN r) s)
  if r = .core then ledgerDevice 2 0 s1 else ledgerDevice 3 (railNo r * 65536) s1

/-- VDD_CORE falls below its warning level: the stretch begins, Vault programming stops, the audit pauses or goes on, commits and lowering
writes are held (R281, R584, R698, R746). -/
def coreWarning (s : State) : State :=
  if warnNow s .core then s
  else auditWarn (burnStop (countDev 0x31 1 (addCnt 0 F.STRETCH_EPISODES 1 (wrG F.SUPPLY_STATUS_STRETCH 1 (warnBegin .core s)))))

/-- VDD_CORE_WARNING: R698. -/
def execVddCoreWarning (s : State) : Host.Outcome State Fault Refusal := .next (if s.clk.resetHeld then s else coreWarning s)

/-- RAIL_WARNING: a rail falls below its warning level (R699). -/
def execRailWarning (r : Rail) (s : State) : Host.Outcome State Fault Refusal :=
  .next (if s.clk.resetHeld || railIgnored s r || warnNow s r then s else if r = .core then coreWarning s else warnBegin r s)

/-- The blocks of a rail resume when its reset-level condition ends (R697). -/
def railResume (r : Rail) (s : State) : State :=
  let s1 := modPower (fun p => { p with lowRails := p.lowRails.filter (· != r) }) s
  match r with
  | .afe | .ld => wakePorts (fun _ => true) s1
  | .lane => forL (allLanes s1) laneAuto s1
  | _ => s1

/-- WARNING_END: a rail has stayed above its warning level for 100 µs. The stretch, and what the warning held, end (R697, R698, R746). -/
def execWarningEnd (r : Rail) (s : State) : Host.Outcome State Fault Refusal :=
  let s1 := wrG (railBit F.SUPPLY_STATUS_WARN_NOW r) 0 s
  let s2 := if s.power.lowRails.contains r then railResume r s1 else s1
  .next (if r = .core ∧ warnNow s .core = true then auditWarnEnd (levelVolts (wrG F.SUPPLY_STATUS_STRETCH 0 s2)) else s2)

/-- VDD_AON falls below its reset level: the Journal, the Ledger, the operation-ID counter and the other contents of always-on SRAM are
lost; the device stands in power-on reset until the rail has risen (R33, R527, R562, R696, R809). -/
def aonLoss (s : State) : State :=
  let t := { s with journal := Journal.init, ledger := Ledger.init, nextOp := 1, sec := Sec.init }
  let t1 := hardReset 1 (modAudit (fun _ => Audit.init) t)
  modClk (fun c => { c with aonLost := true }) { t1 with journal := Journal.init, sec := Sec.init }

/-- VDD_AON_LOSS: R696. -/
def execVddAonLoss (s : State) : Host.Outcome State Fault Refusal := .next (aonLoss s)

/-- Every PLL, to count as unlocked (R696). -/
def allPlls : List Pll :=
  [Pll.mgmt, .line, .ch, .lane] ++ (List.finRange 6).map Pll.dspA ++ (List.finRange 6).map Pll.dspB

/-- RAIL_RESET_LEVEL: VDD_AFE and VDD_LD quiet every MDI, VDD_LANE idles the host lanes, VDD_PLL unlocks every PLL; VDD_CORE and VDD_IO
start a power-on reset, VDD_AON loses the always-on state (R352, R645, R696). -/
def execRailResetLevel (r : Rail) (s : State) : Host.Outcome State Fault Refusal :=
  let s1 := modPower (fun p => { p with lowRails := r :: p.lowRails.filter (· != r) }) s
  .next (if r = .core ∨ r = .io then hardReset 1 s
    else if r = .aon then aonLoss s
    else if railIgnored s r || s.power.lowRails.contains r then s
    else match r with
      | .lane => forL (allLanes s1) laneOff s1
      | .pll => forL allPlls (fun p => pllUnlock p false) s1
      | _ => portsDown (fun _ => true) 7 s1)

end Sys2Proof.Machine
end

