-- ==== Sys2Proof/Machine/Dispatch.lean ====
section
/-!
DEFINITION. The dispatch of the commands to their meanings: one arm for each constructor of Instr.
-/
namespace Sys2Proof.Machine

/-- The effect of a command on everything but the queue. -/
def exec (i : Instr) (s : State) : Host.Outcome State Fault Refusal :=
  match i with
  | .powerOnReset => Sys2Proof.Machine.execPowerOnReset s
  | .powerOnResetRelease st => Sys2Proof.Machine.execPowerOnResetRelease st s
  | .resetNAssert => Sys2Proof.Machine.execResetNAssert s
  | .resetNRelease st => Sys2Proof.Machine.execResetNRelease st s
  | .warmReset => Sys2Proof.Machine.execWarmReset s
  | .lockstepFault => Sys2Proof.Machine.execLockstepFault s
  | .watchdogExpiry => Sys2Proof.Machine.execWatchdogExpiry s
  | .perPortReset n => Sys2Proof.Machine.execPerPortReset n s
  | .softReset b => Sys2Proof.Machine.execSoftReset b s
  | .iroValid => Sys2Proof.Machine.execIroValid s
  | .refclkValid => Sys2Proof.Machine.execRefclkValid s
  | .iroMeasured f => Sys2Proof.Machine.execIroMeasured f s
  | .pllReady p => Sys2Proof.Machine.execPllReady p s
  | .powerupCalibration b ok codes => Sys2Proof.Machine.execPowerupCalibration b ok codes s
  | .refclkLost => Sys2Proof.Machine.execRefclkLost s
  | .refclkRange => Sys2Proof.Machine.execRefclkRange s
  | .iroRange => Sys2Proof.Machine.execIroRange s
  | .pllUnlock p near => Sys2Proof.Machine.execPllUnlock p near s
  | .safeRelease => Sys2Proof.Machine.execSafeRelease s
  | .release => Sys2Proof.Machine.execRelease s
  | .clkSwitchGo v => Sys2Proof.Machine.execClkSwitchGo v s
  | .oldClockDead => Sys2Proof.Machine.execOldClockDead s
  | .clkEnWrite v => Sys2Proof.Machine.execClkEnWrite v s
  | .clkoutChange v => Sys2Proof.Machine.execClkoutChange v s
  | .vddCoreWarning => Sys2Proof.Machine.execVddCoreWarning s
  | .railWarning r => Sys2Proof.Machine.execRailWarning r s
  | .warningEnd r => Sys2Proof.Machine.execWarningEnd r s
  | .railResetLevel r => Sys2Proof.Machine.execRailResetLevel r s
  | .vddAonLoss => Sys2Proof.Machine.execVddAonLoss s
  | .write bytes => Sys2Proof.Machine.execWrite bytes s
  | .read k => Sys2Proof.Machine.execRead k s
  | .poll => Sys2Proof.Machine.execPoll s
  | .transactionIgnored code => Sys2Proof.Machine.execTransactionIgnored code s
  | .hello c => Sys2Proof.Machine.execHello c s
  | .sessionOpen c => Sys2Proof.Machine.execSessionOpen c s
  | .sessionClose c => Sys2Proof.Machine.execSessionClose c s
  | .sessionIdleTimeout h => Sys2Proof.Machine.execSessionIdleTimeout h s
  | .provisionalHandleExpiry => Sys2Proof.Machine.execProvisionalHandleExpiry s
  | .holdoffExpiry r => Sys2Proof.Machine.execHoldoffExpiry r s
  | .readReg c => Sys2Proof.Machine.execReadReg c s
  | .writeReg c => Sys2Proof.Machine.execWriteReg c s
  | .readBlock c => Sys2Proof.Machine.execReadBlock c s
  | .portConfig c => Sys2Proof.Machine.execPortConfig c s
  | .portConfigApply n => Sys2Proof.Machine.execPortConfigApply n s
  | .portState c => Sys2Proof.Machine.execPortState c s
  | .portRetrain c => Sys2Proof.Machine.execPortRetrain c s
  | .portRate c => Sys2Proof.Machine.execPortRate c s
  | .surveyStart c => Sys2Proof.Machine.execSurveyStart c s
  | .bankStatus c => Sys2Proof.Machine.execBankStatus c s
  | .bankPolicy c => Sys2Proof.Machine.execBankPolicy c s
  | .diagStart c => Sys2Proof.Machine.execDiagStart c s
  | .diagResult c => Sys2Proof.Machine.execDiagResult c s
  | .calRun c => Sys2Proof.Machine.execCalRun c s
  | .calRecordGet c => Sys2Proof.Machine.execCalRecordGet c s
  | .calRecordPut c => Sys2Proof.Machine.execCalRecordPut c s
  | .calCommit c => Sys2Proof.Machine.execCalCommit c s
  | .auditConfig c => Sys2Proof.Machine.execAuditConfig c s
  | .auditResult c => Sys2Proof.Machine.execAuditResult c s
  | .timeAdjust c => Sys2Proof.Machine.execTimeAdjust c s
  | .timeAck c => Sys2Proof.Machine.execTimeAck c s
  | .launchCtxSet c => Sys2Proof.Machine.execLaunchCtxSet c s
  | .powerLevel c => Sys2Proof.Machine.execPowerLevel c s
  | .sleep c => Sys2Proof.Machine.execSleep c s
  | .padRelease c => Sys2Proof.Machine.execPadRelease c s
  | .clockSelect c => Sys2Proof.Machine.execClockSelect c s
  | .counterConfig c => Sys2Proof.Machine.execCounterConfig c s
  | .samplerConfig c => Sys2Proof.Machine.execSamplerConfig c s
  | .ledgerRead c => Sys2Proof.Machine.execLedgerRead c s
  | .ledgerDrainAck c => Sys2Proof.Machine.execLedgerDrainAck c s
  | .opQuery c => Sys2Proof.Machine.execOpQuery c s
  | .opAbort c => Sys2Proof.Machine.execOpAbort c s
  | .imageLoad c => Sys2Proof.Machine.execImageLoad c s
  | .imageActivate c => Sys2Proof.Machine.execImageActivate c s
  | .signatureVerified => Sys2Proof.Machine.execSignatureVerified s
  | .imageStart => Sys2Proof.Machine.execImageStart s
  | .laneTrain c => Sys2Proof.Machine.execLaneTrain c s
  | .laneTest c => Sys2Proof.Machine.execLaneTest c s
  | .deviceReset c => Sys2Proof.Machine.execDeviceReset c s
  | .profileSelect c => Sys2Proof.Machine.execProfileSelect c s
  | .vaultProgram c => Sys2Proof.Machine.execVaultProgram c s
  | .vaultWordBurn ok => Sys2Proof.Machine.execVaultWordBurn ok s
  | .scanEn => Sys2Proof.Machine.execScanEn s
  | .boundaryScanInstruction x => Sys2Proof.Machine.execBoundaryScanInstruction x s
  | .boundaryScanExit => Sys2Proof.Machine.execBoundaryScanExit s
  | .tellerResync => Sys2Proof.Machine.execTellerResync s
  | .registerWrite a v => Sys2Proof.Machine.execRegisterWrite a v s
  | .latchingRead a => Sys2Proof.Machine.execLatchingRead a s
  | .multiwordWriteCommit a v => Sys2Proof.Machine.execMultiwordWriteCommit a v s
  | .linkStatusRead a => Sys2Proof.Machine.execLinkStatusRead a s
  | .mdioAddress bus prtad devad a => Sys2Proof.Machine.execMdioAddress bus prtad devad a s
  | .postReadIncrementAddress bus prtad devad => Sys2Proof.Machine.execPostReadIncrementAddress bus prtad devad s
  | .portLowPower n pcs v => Sys2Proof.Machine.execPortLowPower n pcs v s
  | .restartAutoNegotiation n => Sys2Proof.Machine.execRestartAutoNegotiation n s
  | .tsPop n => Sys2Proof.Machine.execTsPop n s
  | .hlCtrlEnableWrite g v => Sys2Proof.Machine.execHlCtrlEnableWrite g v s
  | .anPage n b => Sys2Proof.Machine.execAnPage n b s
  | .flpBurstSend n => Sys2Proof.Machine.execFlpBurstSend n s
  | .anComplete n p => Sys2Proof.Machine.execAnComplete n p s
  | .linkFailInhibitExpiry n => Sys2Proof.Machine.execLinkFailInhibitExpiry n s
  | .noLineEnergy n => Sys2Proof.Machine.execNoLineEnergy n s
  | .pcsLinkDown n lost => Sys2Proof.Machine.execPcsLinkDown n lost s
  | .handshakeDetectorFire n p d => Sys2Proof.Machine.execHandshakeDetectorFire n p d s
  | .handshakeConfirmTimeout n p d => Sys2Proof.Machine.execHandshakeConfirmTimeout n p d s
  | .handshakeBurst n m => Sys2Proof.Machine.execHandshakeBurst n m s
  | .slaveBurst n => Sys2Proof.Machine.execSlaveBurst n s
  | .partnerSilent n => Sys2Proof.Machine.execPartnerSilent n s
  | .firstBurstTimeout n => Sys2Proof.Machine.execFirstBurstTimeout n s
  | .listenWindow n => Sys2Proof.Machine.execListenWindow n s
  | .listenTdr n energy res => Sys2Proof.Machine.execListenTdr n energy res s
  | .phaseLimit n => Sys2Proof.Machine.execPhaseLimit n s
  | .phaseMismatch n => Sys2Proof.Machine.execPhaseMismatch n s
  | .trainingDeadline n => Sys2Proof.Machine.execTrainingDeadline n s
  | .trainingPhaseChange n => Sys2Proof.Machine.execTrainingPhaseChange n s
  | .cancellerConverged n => Sys2Proof.Machine.execCancellerConverged n s
  | .tParams n tag pilot top mask notches => Sys2Proof.Machine.execTParams n tag pilot top mask notches s
  | .tAlign n offset delay aligned => Sys2Proof.Machine.execTAlign n offset delay aligned s
  | .tReady n tag phase => Sys2Proof.Machine.execTReady n tag phase s
  | .tNext n tag phase sf => Sys2Proof.Machine.execTNext n tag phase sf s
  | .tPairs n tag live => Sys2Proof.Machine.execTPairs n tag live s
  | .tLoading n tag r => Sys2Proof.Machine.execTLoading n tag r s
  | .tConfirm n tag => Sys2Proof.Machine.execTConfirm n tag s
  | .tGo n tag sf => Sys2Proof.Machine.execTGo n tag sf s
  | .tAbort n reason => Sys2Proof.Machine.execTAbort n reason s
  | .discoveryMeasured n live => Sys2Proof.Machine.execDiscoveryMeasured n live s
  | .pairCheckRetry n live => Sys2Proof.Machine.execPairCheckRetry n live s
  | .joinRampStep n => Sys2Proof.Machine.execJoinRampStep n s
  | .joinLate n => Sys2Proof.Machine.execJoinLate n s
  | .loadingMeasured n snr => Sys2Proof.Machine.execLoadingMeasured n snr s
  | .loadingRemeasure n snr => Sys2Proof.Machine.execLoadingRemeasure n snr s
  | .serviceEntry n => Sys2Proof.Machine.execServiceEntry n s
  | .superframeBoundary m => Sys2Proof.Machine.execSuperframeBoundary m s
  | .dtuSlot n sym => Sys2Proof.Machine.execDtuSlot n sym s
  | .dtuReceived n sym d => Sys2Proof.Machine.execDtuReceived n sym d s
  | .dtuLost n seq => Sys2Proof.Machine.execDtuLost n seq s
  | .escrowDiscard n seq => Sys2Proof.Machine.execEscrowDiscard n seq s
  | .eocBlock n sym b => Sys2Proof.Machine.execEocBlock n sym b s
  | .msgAck n type tag => Sys2Proof.Machine.execMsgAck n type tag s
  | .messageResend n type tag => Sys2Proof.Machine.execMessageResend n type tag s
  | .version n tag proto vendor part rev fw profile => Sys2Proof.Machine.execVersion n tag proto vendor part rev fw profile s
  | .feStatus n body => Sys2Proof.Machine.execFeStatus n body s
  | .feStatusSend n counts => Sys2Proof.Machine.execFeStatusSend n counts s
  | .loadingRequest n tag r => Sys2Proof.Machine.execLoadingRequest n tag r s
  | .loadingConfirm n tag sf id => Sys2Proof.Machine.execLoadingConfirm n tag sf id s
  | .loadingConfirmRepeat n => Sys2Proof.Machine.execLoadingConfirmRepeat n s
  | .loadingReject n tag which reason => Sys2Proof.Machine.execLoadingReject n tag which reason s
  | .loadingNeed n tag sf bands snr => Sys2Proof.Machine.execLoadingNeed n tag sf bands snr s
  | .rateNotice n tag sf rate snr => Sys2Proof.Machine.execRateNotice n tag sf rate snr s
  | .loadingChangeApply n => Sys2Proof.Machine.execLoadingChangeApply n s
  | .loadingTrial n newOk oldOk => Sys2Proof.Machine.execLoadingTrial n newOk oldOk s
  | .pairFallback n tag sf action pair txId rxId => Sys2Proof.Machine.execPairFallback n tag sf action pair txId rxId s
  | .pairFallbackApply n => Sys2Proof.Machine.execPairFallbackApply n s
  | .shutter n tag sf action reason => Sys2Proof.Machine.execShutter n tag sf action reason s
  | .feedbackSet n tag rate pairs => Sys2Proof.Machine.execFeedbackSet n tag rate pairs s
  | .feedback n sf firstTg count pairs exp err => Sys2Proof.Machine.execFeedback n sf firstTg count pairs exp err s
  | .timeMark n sf sec ns frac epoch delay valid disc stepped arrival => Sys2Proof.Machine.execTimeMark n sf sec ns frac epoch delay valid disc stepped arrival s
  | .timeMarkSend n turn skew => Sys2Proof.Machine.execTimeMarkSend n turn skew s
  | .timeReport n sf turn skew eps => Sys2Proof.Machine.execTimeReport n sf turn skew eps s
  | .ttLost n => Sys2Proof.Machine.execTtLost n s
  | .seamlessSwap n tones => Sys2Proof.Machine.execSeamlessSwap n tones s
  | .stepDown n snr => Sys2Proof.Machine.execStepDown n snr s
  | .stepUp n snr => Sys2Proof.Machine.execStepUp n snr s
  | .standbyTableSend n p snr => Sys2Proof.Machine.execStandbyTableSend n p snr s
  | .fallbackTrigger n => Sys2Proof.Machine.execFallbackTrigger n s
  | .pairBreak n p => Sys2Proof.Machine.execPairBreak n p s
  | .fallbackReturn n => Sys2Proof.Machine.execFallbackReturn n s
  | .elementRetire n p dac idx good => Sys2Proof.Machine.execElementRetire n p dac idx good s
  | .spareSubstitution n => Sys2Proof.Machine.execSpareSubstitution n s
  | .driftFence n loop p tx => Sys2Proof.Machine.execDriftFence n loop p tx s
  | .driftRevert n => Sys2Proof.Machine.execDriftRevert n s
  | .degradeHoldExpiry n => Sys2Proof.Machine.execDegradeHoldExpiry n s
  | .partnerBlockTimeout n => Sys2Proof.Machine.execPartnerBlockTimeout n s
  | .shutterRequestTrigger n => Sys2Proof.Machine.execShutterRequestTrigger n s
  | .shutterEntry n => Sys2Proof.Machine.execShutterEntry n s
  | .refresh n heard => Sys2Proof.Machine.execRefresh n heard s
  | .knock n sym => Sys2Proof.Machine.execKnock n sym s
  | .knockDetectorFire n p d sym => Sys2Proof.Machine.execKnockDetectorFire n p d sym s
  | .knockConfirm n p k sym => Sys2Proof.Machine.execKnockConfirm n p k sym s
  | .falseKnock n p d sym => Sys2Proof.Machine.execFalseKnock n p d sym s
  | .answer n sym => Sys2Proof.Machine.execAnswer n sym s
  | .shutterResume n sym => Sys2Proof.Machine.execShutterResume n sym s
  | .knockRetry n sym => Sys2Proof.Machine.execKnockRetry n sym s
  | .scheduledWake n sym => Sys2Proof.Machine.execScheduledWake n sym s
  | .lpi n enter => Sys2Proof.Machine.execLpi n enter s
  | .chWindowEnd ms => Sys2Proof.Machine.execChWindowEnd ms s
  | .shadowReady v shadow live => Sys2Proof.Machine.execShadowReady v shadow live s
  | .surveyCommit v => Sys2Proof.Machine.execSurveyCommit v s
  | .lendingCommit v => Sys2Proof.Machine.execLendingCommit v s
  | .commitSweep v => Sys2Proof.Machine.execCommitSweep v s
  | .stagedExpiry v => Sys2Proof.Machine.execStagedExpiry v s
  | .dormantHoldExpiry n => Sys2Proof.Machine.execDormantHoldExpiry n s
  | .feedbackTimeout v => Sys2Proof.Machine.execFeedbackTimeout v s
  | .joinMeasured cells floors => Sys2Proof.Machine.execJoinMeasured cells floors s
  | .bandCheck ms => Sys2Proof.Machine.execBandCheck ms s
  | .surveyBatch cells floors => Sys2Proof.Machine.execSurveyBatch cells floors s
  | .surveyRelease => Sys2Proof.Machine.execSurveyRelease s
  | .diagBegin n => Sys2Proof.Machine.execDiagBegin n s
  | .activeAcquisition n discarded echoes => Sys2Proof.Machine.execActiveAcquisition n discarded echoes s
  | .inputBusy n => Sys2Proof.Machine.execInputBusy n s
  | .passiveCopy n echoes => Sys2Proof.Machine.execPassiveCopy n echoes s
  | .noiseFloorWindowEnd n total unexpl => Sys2Proof.Machine.execNoiseFloorWindowEnd n total unexpl s
  | .captureTrigger n cause => Sys2Proof.Machine.execCaptureTrigger n cause s
  | .captureFilled n data => Sys2Proof.Machine.execCaptureFilled n data s
  | .captureTimeout n => Sys2Proof.Machine.execCaptureTimeout n s
  | .calWindowStart t => Sys2Proof.Machine.execCalWindowStart t s
  | .calMeasurementDone t m => Sys2Proof.Machine.execCalMeasurementDone t m s
  | .calInputBusy t => Sys2Proof.Machine.execCalInputBusy t s
  | .calRetry t => Sys2Proof.Machine.execCalRetry t s
  | .calCommitApply t => Sys2Proof.Machine.execCalCommitApply t s
  | .calRampStep t => Sys2Proof.Machine.execCalRampStep t s
  | .auditStart => Sys2Proof.Machine.execAuditStart s
  | .sliceEnd m => Sys2Proof.Machine.execSliceEnd m s
  | .sliceTimeout => Sys2Proof.Machine.execSliceTimeout s
  | .auditServiceRequest b => Sys2Proof.Machine.execAuditServiceRequest b s
  | .auditEnd => Sys2Proof.Machine.execAuditEnd s
  | .levelRaiseSwitch => Sys2Proof.Machine.execLevelRaiseSwitch s
  | .levelLowerSwitch => Sys2Proof.Machine.execLevelLowerSwitch s
  | .levelFail => Sys2Proof.Machine.execLevelFail s
  | .avsReadback mv alert => Sys2Proof.Machine.execAvsReadback mv alert s
  | .avsFail => Sys2Proof.Machine.execAvsFail s
  | .sleepBlockStop => Sys2Proof.Machine.execSleepBlockStop s
  | .transferAbort ty count tgt => Sys2Proof.Machine.execTransferAbort ty count tgt s
  | .dozeWake => Sys2Proof.Machine.execDozeWake s
  | .retainWake w => Sys2Proof.Machine.execRetainWake w s
  | .wakePllRelock => Sys2Proof.Machine.execWakePllRelock s
  | .wakeDomainsPowered => Sys2Proof.Machine.execWakeDomainsPowered s
  | .anchor => Sys2Proof.Machine.execAnchor s
  | .slewEnd => Sys2Proof.Machine.execSlewEnd s
  | .gridRamp ds => Sys2Proof.Machine.execGridRamp ds s
  | .timeCompare n => Sys2Proof.Machine.execTimeCompare n s
  | .launch c sym late => Sys2Proof.Machine.execLaunch c sym late s
  | .htxStripe g => Sys2Proof.Machine.execHtxStripe g s
  | .hrxStripe g x => Sys2Proof.Machine.execHrxStripe g x s
  | .laneLockLost g l => Sys2Proof.Machine.execLaneLockLost g l s
  | .hrxControlStripe g body => Sys2Proof.Machine.execHrxControlStripe g body s
  | .hrxRecord g sb frame cut => Sys2Proof.Machine.execHrxRecord g sb frame cut s
  | .pauseRepeat n => Sys2Proof.Machine.execPauseRepeat n s
  | .lineFrame n frame sec ns eighth => Sys2Proof.Machine.execLineFrame n frame sec ns eighth s
  | .noticeTimeout n => Sys2Proof.Machine.execNoticeTimeout n s
  | .trainFrame g body codes => Sys2Proof.Machine.execTrainFrame g body codes s
  | .hrxClockDetect g => Sys2Proof.Machine.execHrxClockDetect g s
  | .trainFail g => Sys2Proof.Machine.execTrainFail g s
  | .trainRetry g => Sys2Proof.Machine.execTrainRetry g s
  | .prbsSync g l => Sys2Proof.Machine.execPrbsSync g l s
  | .errorInjection g => Sys2Proof.Machine.execErrorInjection g s
  | .laneTestEnd g bits errs => Sys2Proof.Machine.execLaneTestEnd g bits errs s
  | .counterStart => Sys2Proof.Machine.execCounterStart s
  | .samplerRecord it => Sys2Proof.Machine.execSamplerRecord it s
  | .pcsLinkUp n => Sys2Proof.Machine.execPcsLinkUp n s
  | .fastRetrain n => Sys2Proof.Machine.execFastRetrain n s
  | .mdioRead bus prtad devad => Sys2Proof.Machine.execMdioRead bus prtad devad s
  | .vddFuseChange ok => Sys2Proof.Machine.execVddFuseChange ok s
  | .tempNowUpdate rs => Sys2Proof.Machine.execTempNowUpdate rs s
  | .pmSampleTick ticks => Sys2Proof.Machine.execPmSampleTick ticks s

end Sys2Proof.Machine
end

