-- ==== Sys2Proof/Safety.lean ====
section
/-!
DEFINITION. What counts as a safe run (every step answers a next state; memory and the register store keep their canonical form), and
the parts of the state that the claims about what a command leaves unchanged name.
-/
namespace Sys2Proof.Machine

/-- A step answers a next state. -/
def Completes (s : State) : Prop := ∃ t, step s = .next t

/-- The form that every step keeps: the memory areas and the register store are canonical. -/
abbrev Inv (s : State) : Prop := memWf s.mem = true ∧ SMap.wf regReset s.regs = true

/-- Every fuse that is programmed in one Vault is programmed in the other. -/
def fusesKept (v w : Vault) : Prop := ∀ a, SMap.get v.fuses 0 a &&& SMap.get w.fuses 0 a = SMap.get v.fuses 0 a

/-- The parts of the state: its fields but `regs`, and the areas of the register window. -/
inductive Piece where
  /-- State.pending -/
  | pending
  /-- State.part -/
  | part
  /-- State.straps -/
  | straps
  /-- State.strapReq -/
  | strapReq
  /-- State.profileSel -/
  | profileSel
  /-- State.profileNew -/
  | profileNew
  /-- State.stage -/
  | stage
  /-- State.latchCp -/
  | latchCp
  /-- State.latch0 -/
  | latch0
  /-- State.latch1 -/
  | latch1
  /-- State.mdio -/
  | mdio
  /-- State.teller -/
  | teller
  /-- State.cp -/
  | cp
  /-- State.sec -/
  | sec
  /-- State.ledger -/
  | ledger
  /-- State.journal -/
  | journal
  /-- State.nextOp -/
  | nextOp
  /-- State.ops -/
  | ops
  /-- State.images -/
  | images
  /-- State.vault -/
  | vault
  /-- State.clk -/
  | clk
  /-- State.power -/
  | power
  /-- State.time -/
  | time
  /-- State.ctxs -/
  | ctxs
  /-- State.tt -/
  | tt
  /-- State.ports -/
  | ports
  /-- State.hostPorts -/
  | hostPorts
  /-- State.lanes -/
  | lanes
  /-- State.ch -/
  | ch
  /-- State.diag -/
  | diag
  /-- State.cal -/
  | cal
  /-- State.audit -/
  | audit
  /-- State.perf -/
  | perf
  /-- State.mem -/
  | mem
  /-- State.tick -/
  | tick
  /-- State.draws -/
  | draws
  /-- Registers: the words outside the areas below -/
  | rOther
  /-- Registers: identity, Command Port, alerts, supply of the MMD 31 area below 0x0400 -/
  | rIdent
  /-- Registers: the Clearing House (0x0400) -/
  | rCh
  /-- Registers: the lane groups (0x0500) -/
  | rLanes
  /-- Registers: network time (0x0600) -/
  | rTime
  /-- Registers: sessions, Ledger and Vault (0x0700) -/
  | rSec
  /-- Registers: clocks, safe state and resets -/
  | rClocks
  /-- Registers: power and supplies -/
  | rPower
  /-- Registers: calibration and the Closing Audit -/
  | rCal
  /-- Registers: programmable counters -/
  | rPm
  /-- Registers: device counters and the sampler -/
  | rDev
  /-- Registers: the port windows -/
  | rPorts
  deriving DecidableEq, Repr

/-- The number of a piece. -/
def Piece.idx : Piece → Nat
  | .pending => 0
  | .part => 1
  | .straps => 2
  | .strapReq => 3
  | .profileSel => 4
  | .profileNew => 5
  | .stage => 6
  | .latchCp => 7
  | .latch0 => 8
  | .latch1 => 9
  | .mdio => 10
  | .teller => 11
  | .cp => 12
  | .sec => 13
  | .ledger => 14
  | .journal => 15
  | .nextOp => 16
  | .ops => 17
  | .images => 18
  | .vault => 19
  | .clk => 20
  | .power => 21
  | .time => 22
  | .ctxs => 23
  | .tt => 24
  | .ports => 25
  | .hostPorts => 26
  | .lanes => 27
  | .ch => 28
  | .diag => 29
  | .cal => 30
  | .audit => 31
  | .perf => 32
  | .mem => 33
  | .tick => 34
  | .draws => 35
  | .rOther => 36
  | .rIdent => 37
  | .rCh => 38
  | .rLanes => 39
  | .rTime => 40
  | .rSec => 41
  | .rClocks => 42
  | .rPower => 43
  | .rCal => 44
  | .rPm => 45
  | .rDev => 46
  | .rPorts => 47

/-- The area that an address of the register window lies in. -/
def areaOf (a : Nat) : Piece :=
  if 0x1000000 ≤ a then .rPorts
  else if a < 0x10000 then .rOther
  else if a < 0x11000 then .rIdent
  else if a < 0x11400 then .rCh
  else if a < 0x11800 then .rLanes
  else if a < 0x11C00 then .rTime
  else if a < 0x12000 then .rSec
  else if a < 0x20000 then .rOther
  else if a < 0x20040 then .rClocks
  else if a < 0x30000 then .rPower
  else if a < 0x40000 then .rCal
  else if a < 0x48000 then .rPm
  else if a < 0x50000 then .rDev
  else .rOther

/-- A piece is the same in two states; for an area, every word of it. -/
def Piece.same (s t : State) : Piece → Prop
  | .pending => t.pending = s.pending
  | .part => t.part = s.part
  | .straps => t.straps = s.straps
  | .strapReq => t.strapReq = s.strapReq
  | .profileSel => t.profileSel = s.profileSel
  | .profileNew => t.profileNew = s.profileNew
  | .stage => t.stage = s.stage
  | .latchCp => t.latchCp = s.latchCp
  | .latch0 => t.latch0 = s.latch0
  | .latch1 => t.latch1 = s.latch1
  | .mdio => t.mdio = s.mdio
  | .teller => t.teller = s.teller
  | .cp => t.cp = s.cp
  | .sec => t.sec = s.sec
  | .ledger => t.ledger = s.ledger
  | .journal => t.journal = s.journal
  | .nextOp => t.nextOp = s.nextOp
  | .ops => t.ops = s.ops
  | .images => t.images = s.images
  | .vault => t.vault = s.vault
  | .clk => t.clk = s.clk
  | .power => t.power = s.power
  | .time => t.time = s.time
  | .ctxs => t.ctxs = s.ctxs
  | .tt => t.tt = s.tt
  | .ports => t.ports = s.ports
  | .hostPorts => t.hostPorts = s.hostPorts
  | .lanes => t.lanes = s.lanes
  | .ch => t.ch = s.ch
  | .diag => t.diag = s.diag
  | .cal => t.cal = s.cal
  | .audit => t.audit = s.audit
  | .perf => t.perf = s.perf
  | .mem => t.mem = s.mem
  | .tick => t.tick = s.tick
  | .draws => t.draws = s.draws
  | p => ∀ a, areaOf a = p → rdReg t a = rdReg s a

/-- Every part. -/
def Piece.all : List Piece :=
  [.pending, .part, .straps, .strapReq, .profileSel, .profileNew, .stage, .latchCp, .latch0, .latch1, .mdio, .teller, .cp, .sec, .ledger, .journal,
   .nextOp, .ops, .images, .vault, .clk, .power, .time, .ctxs, .tt, .ports, .hostPorts, .lanes, .ch, .diag, .cal, .audit, .perf, .mem, .tick, .draws,
   .rOther, .rIdent, .rCh, .rLanes, .rTime, .rSec, .rClocks, .rPower, .rCal, .rPm, .rDev, .rPorts]

/-- Every part but some. -/
def allBut (l : List Piece) : List Piece := Piece.all.filter (fun p => !l.contains p)

/-- The parts that a packet of the Command Port can change before its opcode has an effect of its own: the Command Port and its session
(R520, R526), the Ledger and its events (R566), a wake from DOZE by the access (R719), and the device counters. -/
def tellerPieces : List Piece := [.teller, .cp, .sec, .ledger, .power, .draws, .rIdent, .rSec, .rPower, .rPm, .rDev]

/-- The parts that a command can change. What the list does not name, the command leaves as it was. -/
def changes : Instr → List Piece
  | .powerOnReset | .resetNAssert =>
    allBut [.pending, .part, .straps, .strapReq, .ledger]
  | .powerOnResetRelease _ | .resetNRelease _ =>
    [.straps, .strapReq, .profileSel, .profileNew, .stage, .sec, .ledger, .journal, .vault, .clk, .audit, .draws, .rIdent, .rSec, .rClocks, .rPm, .rDev]
  | .warmReset | .lockstepFault | .watchdogExpiry =>
    allBut [.pending, .part, .straps, .strapReq, .profileSel, .nextOp, .tick]
  | .perPortReset _ =>
    [.latchCp, .latch0, .latch1, .journal, .ops, .clk, .ctxs, .tt, .ports, .hostPorts, .ch, .diag, .draws, .rOther, .rIdent, .rCh, .rLanes, .rTime, .rSec,
      .rClocks, .rPower, .rCal, .rPm, .rDev, .rPorts]
  | .softReset _ =>
    [.journal, .ops, .clk, .tt, .ports, .hostPorts, .lanes, .ch, .diag, .perf, .mem, .draws, .rOther, .rIdent, .rCh, .rLanes, .rTime, .rSec, .rClocks,
      .rPower, .rCal, .rPm, .rDev, .rPorts]
  | .iroValid =>
    [.stage, .sec, .ledger, .journal, .vault, .clk, .power, .audit, .draws, .rSec, .rClocks, .rPower, .rPm, .rDev]
  | .refclkValid =>
    [.stage, .sec, .ledger, .journal, .vault, .clk, .audit, .draws, .rSec, .rClocks, .rPm, .rDev]
  | .iroMeasured _ =>
    [.rClocks]
  | .pllReady _ =>
    [.stage, .sec, .ledger, .journal, .ops, .vault, .clk, .time, .ports, .lanes, .audit, .draws, .rOther, .rIdent, .rCh, .rLanes, .rTime, .rSec, .rClocks,
      .rPower, .rCal, .rPm, .rDev, .rPorts]
  | .powerupCalibration _ _ _ =>
    [.journal, .clk, .cal, .rOther, .rIdent, .rCh, .rLanes, .rTime, .rSec, .rClocks, .rPower, .rCal, .rPm, .rDev, .rPorts]
  | .refclkLost | .refclkRange | .pllUnlock _ _ =>
    allBut [.pending, .part, .straps, .strapReq, .profileSel, .profileNew, .latchCp, .latch0, .latch1, .mdio, .teller, .cp, .nextOp, .images, .power,
      .ctxs, .diag, .cal, .perf, .mem, .tick]
  | .iroRange =>
    [.stage, .sec, .ledger, .journal, .ops, .vault, .clk, .time, .tt, .ports, .hostPorts, .lanes, .ch, .audit, .draws, .rLanes, .rTime, .rSec, .rClocks,
      .rCal, .rPm, .rDev, .rPorts]
  | .safeRelease | .release =>
    [.journal, .ops, .clk, .time, .ports, .lanes, .ch, .draws, .rLanes, .rTime, .rClocks, .rDev, .rPorts]
  | .clkSwitchGo _ | .oldClockDead =>
    [.stage, .sec, .ledger, .journal, .ops, .vault, .clk, .time, .ports, .lanes, .audit, .draws, .rLanes, .rTime, .rSec, .rClocks, .rPm, .rDev, .rPorts]
  | .clkEnWrite _ =>
    [.journal, .ops, .time, .tt, .ports, .hostPorts, .lanes, .ch, .draws, .rLanes, .rTime, .rClocks, .rDev, .rPorts]
  | .clkoutChange _ =>
    [.clk, .rClocks]
  | .vddCoreWarning | .railWarning _ =>
    [.ledger, .journal, .ops, .vault, .ports, .lanes, .ch, .audit, .mem, .draws, .rLanes, .rSec, .rPower, .rCal, .rPm, .rDev, .rPorts]
  | .warningEnd _ =>
    [.journal, .ops, .power, .ports, .lanes, .audit, .draws, .rLanes, .rClocks, .rPower, .rDev, .rPorts]
  | .railResetLevel _ | .vddAonLoss =>
    allBut [.pending, .part, .straps, .strapReq]
  | .write _ =>
    [.cp, .sec, .rIdent, .rDev]
  | .read _ | .poll | .transactionIgnored _ =>
    [.cp]
  | .hello _ | .sessionOpen _ | .sessionClose _ | .diagResult _ | .calRecordGet _ | .auditResult _ | .ledgerRead _ | .ledgerDrainAck _ =>
    tellerPieces
  | .sessionIdleTimeout _ =>
    [.sec, .ledger, .rSec, .rPm, .rDev]
  | .provisionalHandleExpiry | .holdoffExpiry _ =>
    [.sec]
  | .readReg _ =>
    tellerPieces ++ [.latchCp, .latch0, .latch1, .journal, .ops, .ports, .lanes, .ch, .audit, .rLanes, .rCal, .rPorts]
  | .writeReg _ =>
    allBut [.pending, .part, .straps, .strapReq, .profileSel, .profileNew, .mdio, .nextOp, .images, .tick]
  | .readBlock _ | .portState _ | .portRate _ | .bankStatus _ | .bankPolicy _ =>
    tellerPieces ++ [.journal, .ops, .ports, .lanes, .ch, .audit, .rLanes, .rCal, .rPorts]
  | .portConfig _ =>
    tellerPieces ++ [.journal, .ops, .tt, .ports, .hostPorts, .lanes, .ch, .diag, .audit, .rLanes, .rCal, .rPorts]
  | .portConfigApply _ =>
    [.journal, .ops, .tt, .ports, .hostPorts, .ch, .diag, .draws, .rLanes, .rDev, .rPorts]
  | .portRetrain _ =>
    tellerPieces ++ [.journal, .nextOp, .ops, .tt, .ports, .hostPorts, .lanes, .ch, .audit, .rLanes, .rCal, .rPorts]
  | .surveyStart _ =>
    tellerPieces ++ [.journal, .nextOp, .ops, .ports, .lanes, .ch, .audit, .rOther, .rCh, .rLanes, .rTime, .rClocks, .rCal, .rPorts]
  | .diagStart _ =>
    tellerPieces ++ [.journal, .nextOp, .ops, .ports, .lanes, .ch, .diag, .audit, .rLanes, .rCal, .rPorts]
  | .calRun _ =>
    tellerPieces ++ [.journal, .nextOp, .ops, .ports, .lanes, .ch, .cal, .audit, .rLanes, .rCal, .rPorts]
  | .calRecordPut _ =>
    tellerPieces ++ [.cal, .rCal]
  | .calCommit _ =>
    tellerPieces ++ [.journal, .ops, .ports, .lanes, .ch, .cal, .audit, .rLanes, .rCal, .rPorts]
  | .auditConfig _ =>
    tellerPieces ++ [.journal, .ops, .tt, .ports, .hostPorts, .lanes, .ch, .audit, .rLanes, .rCal, .rPorts]
  | .timeAdjust _ =>
    tellerPieces ++ [.time, .ctxs, .ports, .hostPorts, .rTime, .rPorts]
  | .timeAck _ =>
    tellerPieces ++ [.ctxs, .rTime]
  | .launchCtxSet _ =>
    tellerPieces ++ [.ctxs]
  | .powerLevel _ =>
    tellerPieces ++ [.journal, .nextOp, .ops, .tt, .ports, .hostPorts, .lanes, .ch, .audit, .rLanes, .rClocks, .rCal, .rPorts]
  | .sleep _ =>
    tellerPieces ++ [.journal, .nextOp, .ops]
  | .padRelease _ =>
    tellerPieces ++ [.journal, .ops, .clk, .ports, .lanes, .rLanes, .rPorts]
  | .clockSelect _ =>
    tellerPieces ++ [.stage, .journal, .ops, .vault, .clk, .time, .ports, .lanes, .audit, .rLanes, .rTime, .rClocks, .rPorts]
  | .counterConfig _ =>
    tellerPieces ++ [.perf]
  | .samplerConfig _ =>
    tellerPieces ++ [.perf, .mem]
  | .opQuery _ =>
    tellerPieces ++ [.ops]
  | .opAbort _ =>
    allBut [.pending, .part, .straps, .strapReq, .profileSel, .profileNew, .stage, .latchCp, .latch0, .latch1, .mdio, .nextOp, .images, .vault, .clk,
      .ctxs, .tt, .hostPorts, .audit, .perf, .tick]
  | .imageLoad _ =>
    tellerPieces ++ [.images]
  | .imageActivate _ =>
    tellerPieces ++ [.journal, .nextOp, .ops, .images]
  | .signatureVerified =>
    [.journal, .ops, .images, .rDev]
  | .imageStart =>
    [.stage, .cp, .sec, .ledger, .journal, .ops, .images, .rSec, .rPm, .rDev]
  | .laneTrain _ | .laneTest _ =>
    tellerPieces ++ [.journal, .nextOp, .ops, .ports, .lanes, .ch, .audit, .rLanes, .rCal, .rPorts]
  | .deviceReset _ =>
    tellerPieces ++ [.clk]
  | .profileSelect _ =>
    tellerPieces ++ [.profileSel, .profileNew]
  | .vaultProgram _ =>
    tellerPieces ++ [.journal, .nextOp, .ops, .vault]
  | .vaultWordBurn _ =>
    [.journal, .ops, .vault, .draws, .rSec, .rDev]
  | .scanEn =>
    [.sec, .ledger, .journal, .ops, .vault, .clk, .time, .tt, .ports, .hostPorts, .lanes, .ch, .audit, .draws, .rLanes, .rTime, .rSec, .rClocks, .rCal,
      .rPm, .rDev, .rPorts]
  | .boundaryScanInstruction _ =>
    [.journal, .ops, .clk, .tt, .ports, .hostPorts, .lanes, .ch, .rLanes, .rDev, .rPorts]
  | .boundaryScanExit =>
    [.journal, .ops, .clk, .ports, .lanes, .draws, .rLanes, .rDev, .rPorts]
  | .tellerResync =>
    [.teller, .draws, .rIdent]
  | .registerWrite _ _ | .multiwordWriteCommit _ _ =>
    allBut [.pending, .part, .straps, .strapReq, .profileSel, .profileNew, .teller, .cp, .nextOp, .images, .tick]
  | .latchingRead _ | .linkStatusRead _ | .postReadIncrementAddress _ _ _ | .mdioRead _ _ _ =>
    [.latchCp, .latch0, .latch1, .mdio, .journal, .ops, .ports, .lanes, .ch, .audit, .draws, .rOther, .rIdent, .rCh, .rLanes, .rTime, .rSec, .rClocks,
      .rPower, .rCal, .rPm, .rDev, .rPorts]
  | .mdioAddress _ _ _ _ =>
    [.mdio, .rDev]
  | .portLowPower _ _ _ | .restartAutoNegotiation _ | .tsPop _ | .hlCtrlEnableWrite _ _ =>
    allBut [.pending, .part, .straps, .strapReq, .profileSel, .profileNew, .mdio, .teller, .cp, .nextOp, .images, .power, .tick]
  | .anPage _ _ =>
    [.journal, .ops, .power, .tt, .ports, .hostPorts, .ch, .diag, .draws, .rLanes, .rPower, .rDev, .rPorts]
  | .flpBurstSend _ | .listenWindow _ | .cancellerConverged _ | .tAlign _ _ _ _ | .tReady _ _ _ | .tConfirm _ _ | .loadingMeasured _ _ | .loadingRemeasure _ _ |
  .seamlessSwap _ _ | .stepUp _ _ | .standbyTableSend _ _ _ =>
    [.ports, .draws]
  | .anComplete _ _ | .joinRampStep _ =>
    [.journal, .ops, .ports, .draws, .rDev, .rPorts]
  | .linkFailInhibitExpiry _ | .noLineEnergy _ | .listenTdr _ _ _ | .tPairs _ _ _ | .tLoading _ _ _ | .discoveryMeasured _ _ | .pairCheckRetry _ _ | .loadingReject _ _ _ _
  | .loadingNeed _ _ _ _ _ | .rateNotice _ _ _ _ _ =>
    [.ports, .draws, .rPorts]
  | .pcsLinkDown _ _ | .pairBreak _ _ | .partnerBlockTimeout _ | .refresh _ _ | .knockRetry _ _ =>
    [.tt, .ports, .hostPorts, .ch, .draws, .rLanes, .rDev, .rPorts]
  | .handshakeDetectorFire _ _ _ | .slaveBurst _ | .tParams _ _ _ _ _ _ | .tNext _ _ _ _ | .tGo _ _ _ | .escrowDiscard _ _ | .msgAck _ _ _ | .loadingConfirm _ _ _ _ |
  .loadingConfirmRepeat _ | .feedbackSet _ _ _ _ | .shutterRequestTrigger _ | .knock _ _ | .knockDetectorFire _ _ _ _ | .knockConfirm _ _ _ _ | .answer _ _ |
  .scheduledWake _ _ =>
    [.ports]
  | .handshakeConfirmTimeout _ _ _ | .messageResend _ _ _ | .shutter _ _ _ _ _ | .driftFence _ _ _ _ | .lpi _ _ =>
    [.ports, .rPorts]
  | .handshakeBurst _ _ | .partnerSilent _ | .version _ _ _ _ _ _ _ _ =>
    [.journal, .ops, .tt, .ports, .hostPorts, .ch, .draws, .rLanes, .rDev, .rPorts]
  | .firstBurstTimeout _ =>
    [.journal, .ops, .ports, .ch, .rDev, .rPorts]
  | .phaseLimit _ | .phaseMismatch _ | .tAbort _ _ =>
    [.journal, .ops, .tt, .ports, .hostPorts, .ch, .rLanes, .rDev, .rPorts]
  | .trainingDeadline _ =>
    [.journal, .ops, .ports, .ch, .draws, .rDev, .rPorts]
  | .trainingPhaseChange _ =>
    [.journal, .ops, .time, .ports, .ch, .diag, .draws, .rCh, .rTime, .rDev, .rPorts]
  | .joinLate _ | .timeMark _ _ _ _ _ _ _ _ _ _ _ | .noticeTimeout _ =>
    [.rPorts]
  | .serviceEntry _ =>
    [.journal, .ops, .ports, .mem, .rLanes, .rDev, .rPorts]
  | .superframeBoundary _ =>
    [.journal, .ops, .power, .time, .tt, .ports, .hostPorts, .lanes, .ch, .diag, .cal, .mem, .draws, .rCh, .rLanes, .rTime, .rClocks, .rPower, .rCal,
      .rPm, .rDev, .rPorts]
  | .dtuSlot _ _ =>
    [.ctxs, .ports, .hostPorts, .lanes, .rPm, .rDev, .rPorts]
  | .dtuReceived _ _ _ | .dtuLost _ _ =>
    [.ports, .lanes, .rPm, .rDev, .rPorts]
  | .eocBlock _ _ _ | .feStatus _ _ | .driftRevert _ | .degradeHoldExpiry _ | .shutterEntry _ | .falseKnock _ _ _ _ | .shutterResume _ _ | .fastRetrain _ =>
    [.ports, .rDev, .rPorts]
  | .feStatusSend _ _ =>
    [.ports, .rPm, .rDev]
  | .loadingRequest _ _ _ | .pairFallback _ _ _ _ _ _ _ | .fallbackTrigger _ | .fallbackReturn _ =>
    [.ports, .hostPorts, .rDev, .rPorts]
  | .loadingChangeApply _ | .loadingTrial _ _ _ =>
    [.ports, .hostPorts, .mem, .draws, .rDev, .rPorts]
  | .pairFallbackApply _ =>
    [.ports, .hostPorts, .mem, .rDev, .rPorts]
  | .feedback _ _ _ _ _ _ _ | .commitSweep _ =>
    [.ch]
  | .timeMarkSend _ _ _ =>
    [.tt, .ports, .rPorts]
  | .timeReport _ _ _ _ _ | .ttLost _ =>
    [.tt, .rPorts]
  | .stepDown _ _ =>
    [.ports, .hostPorts, .draws, .rDev, .rPorts]
  | .elementRetire _ _ _ _ _ =>
    [.ports, .draws, .rDev, .rPorts]
  | .spareSubstitution _ =>
    [.journal, .ports, .cal, .rCal, .rPm, .rDev, .rPorts]
  | .chWindowEnd _ =>
    [.journal, .ops, .ports, .ch, .mem, .draws, .rCh, .rPm, .rDev, .rPorts]
  | .shadowReady _ _ _ =>
    [.journal, .ops, .ports, .ch, .diag, .rCh, .rDev, .rPorts]
  | .surveyCommit _ | .lendingCommit _ =>
    [.journal, .ops, .ports, .ch, .rCh, .rPm, .rDev, .rPorts]
  | .stagedExpiry _ =>
    [.journal, .ops, .ch, .diag, .rCh, .rDev]
  | .dormantHoldExpiry _ =>
    [.ch, .rPorts]
  | .feedbackTimeout _ =>
    [.ch, .mem]
  | .joinMeasured _ _ =>
    [.journal, .ops, .ports, .ch, .diag, .mem, .draws, .rCh, .rPm, .rDev, .rPorts]
  | .bandCheck _ =>
    [.journal, .ops, .ports, .ch, .rCh, .rDev]
  | .surveyBatch _ _ =>
    [.journal, .ops, .ch, .diag, .mem, .draws, .rCh, .rPm, .rDev]
  | .surveyRelease =>
    [.journal, .ops, .ch, .rOther, .rIdent, .rCh, .rLanes, .rTime, .rSec, .rClocks, .rPower, .rCal, .rPm, .rDev, .rPorts]
  | .diagBegin _ | .captureTrigger _ _ | .captureFilled _ _ | .captureTimeout _ =>
    [.journal, .ops, .diag, .mem, .rDev]
  | .activeAcquisition _ _ _ =>
    [.journal, .ops, .diag, .draws, .rDev, .rPorts]
  | .inputBusy _ =>
    [.journal, .ops, .ports, .diag, .draws, .rDev, .rPorts]
  | .passiveCopy _ _ =>
    [.journal, .ops, .diag, .rDev]
  | .noiseFloorWindowEnd _ _ _ =>
    [.journal, .ops, .diag, .mem, .draws, .rDev]
  | .calWindowStart _ | .calRetry _ =>
    [.journal, .ops, .tt, .ports, .hostPorts, .lanes, .ch, .cal, .draws, .rLanes, .rCal, .rDev, .rPorts]
  | .calMeasurementDone _ _ | .calInputBusy _ | .calRampStep _ =>
    [.journal, .ops, .ports, .lanes, .cal, .draws, .rLanes, .rCal, .rDev, .rPorts]
  | .calCommitApply _ =>
    [.cal, .rCal, .rPorts]
  | .auditStart =>
    [.journal, .ops, .tt, .ports, .hostPorts, .lanes, .ch, .audit, .rLanes, .rCal, .rDev, .rPorts]
  | .sliceEnd _ | .sliceTimeout =>
    [.journal, .ops, .ports, .lanes, .ch, .audit, .mem, .draws, .rLanes, .rCal, .rDev, .rPorts]
  | .auditServiceRequest _ =>
    [.journal, .ops, .ports, .lanes, .ch, .audit, .draws, .rLanes, .rCal, .rDev, .rPorts]
  | .auditEnd =>
    [.journal, .audit, .rCal, .rDev]
  | .levelRaiseSwitch | .levelLowerSwitch | .levelFail | .avsReadback _ _ | .avsFail =>
    [.journal, .ops, .power, .rClocks, .rPower, .rDev]
  | .sleepBlockStop =>
    [.stage, .journal, .ops, .clk, .power, .time, .tt, .ports, .hostPorts, .lanes, .ch, .diag, .mem, .draws, .rLanes, .rTime, .rClocks, .rPower, .rDev,
      .rPorts]
  | .transferAbort _ _ _ =>
    [.journal, .ops, .ctxs, .diag, .mem, .rPower, .rDev, .rPorts]
  | .dozeWake =>
    [.power, .rPower, .rDev]
  | .retainWake _ =>
    [.cp, .power, .rPower]
  | .wakePllRelock =>
    [.stage, .sec, .ledger, .journal, .ops, .vault, .clk, .power, .time, .ports, .lanes, .audit, .draws, .rOther, .rIdent, .rCh, .rLanes, .rTime, .rSec,
      .rClocks, .rPower, .rCal, .rPm, .rDev, .rPorts]
  | .wakeDomainsPowered =>
    [.journal, .ops, .power, .time, .ports, .lanes, .draws, .rLanes, .rTime, .rPower, .rDev, .rPorts]
  | .anchor | .slewEnd | .gridRamp _ =>
    [.time, .rTime]
  | .timeCompare _ =>
    [.journal, .ops, .power, .tt, .ports, .hostPorts, .ch, .diag, .cal, .draws, .rLanes, .rClocks, .rPower, .rCal, .rPm, .rDev, .rPorts]
  | .launch _ _ _ =>
    [.ctxs, .ports, .hostPorts, .rTime, .rPm, .rDev, .rPorts]
  | .htxStripe _ =>
    [.lanes, .rPm]
  | .hrxStripe _ _ =>
    [.lanes, .rLanes, .rPm, .rDev]
  | .laneLockLost _ _ | .trainRetry _ | .laneTestEnd _ _ _ =>
    [.journal, .ops, .lanes, .rLanes, .rDev, .rPorts]
  | .hrxControlStripe _ _ =>
    [.hostPorts, .lanes, .rLanes, .rPorts]
  | .hrxRecord _ _ _ _ =>
    [.journal, .ops, .ctxs, .ports, .hostPorts, .lanes, .ch, .audit, .draws, .rLanes, .rTime, .rCal, .rPm, .rDev, .rPorts]
  | .pauseRepeat _ =>
    [.lanes, .rDev, .rPorts]
  | .lineFrame _ _ _ _ _ =>
    [.lanes, .rPm, .rDev, .rPorts]
  | .trainFrame _ _ _ =>
    [.journal, .ops, .hostPorts, .lanes, .rLanes, .rDev, .rPorts]
  | .hrxClockDetect _ | .trainFail _ =>
    [.journal, .ops, .lanes, .rLanes, .rDev]
  | .prbsSync _ _ =>
    [.journal, .ops, .lanes, .rDev]
  | .errorInjection _ =>
    [.lanes]
  | .counterStart =>
    [.perf, .rPm]
  | .samplerRecord _ =>
    [.perf, .mem, .rDev]
  | .pcsLinkUp _ =>
    [.journal, .ops, .ports, .rLanes, .rDev, .rPorts]
  | .vddFuseChange _ =>
    [.vault, .rSec]
  | .tempNowUpdate _ =>
    [.rIdent]
  | .pmSampleTick _ =>
    [.time, .tick, .rTime, .rPm, .rDev]

end Sys2Proof.Machine
end

