-- ==== Sys2Proof/Certificates/Slice0/Obligations.lean ====
section
/-!
DEFINITION. The statements for the provers. `Sys2Proof.Claims` holds the few words that they share.
-/
namespace Sys2Proof.Claims
open Sys2Proof.Machine

/-- Two states differ at most in the register words of a list. -/
def OnlyWords (l : List Nat) (s t : State) : Prop := { t with regs := s.regs } = s ∧ ∀ a, a ∉ l → rdReg t a = rdReg s a

/-- What power-on reset (1) and RESET_N (2) leave (R647): the first lines are kept, the rest is cleared, and every register but those that
name the reset, READ_LOCK, the hold-off flag and the fuses programmed has its reset value. -/
def HardResetLeaves (kind : Nat) (s t : State) : Prop :=
  (t.straps = s.straps ∧ t.ledger = s.ledger ∧ t.nextOp = s.nextOp ∧ t.vault.fuses = s.vault.fuses
    ∧ t.sec.oper = s.sec.oper ∧ t.sec.inst = s.sec.inst ∧ t.sec.maker = s.sec.maker)
  ∧ (t.stage = .held ∧ t.clk.resetHeld = true ∧ t.vault.shadow = [] ∧ t.images = Images.init ∧ t.sec.sessions = []
    ∧ t.cp = CmdPort.init ∧ t.ops = [] ∧ t.cal = Cal.init ∧ t.ch = Ch.init ∧ t.time = Time.init ∧ t.ports = [] ∧ t.lanes = []
    ∧ t.ctxs = [] ∧ t.diag.results = [] ∧ t.mem = [])
  ∧ (∀ a, a ≠ 0x20028 → a ≠ 0x11C28 → a ≠ 0x11C14 → a ≠ 0x2005C → rdReg t a = regReset a)
  ∧ rdG t F.RESET_STATUS_LAST_KIND = kind
  ∧ rdG t F.VAULT_STATUS_READ_LOCK = if kind = 2 then rdG s F.VAULT_STATUS_READ_LOCK else 0

/-- What a warm reset with a cause leaves (R647, R651): kept, then cleared; every port is down, and the boot ROM runs, to start the image
of the active slot. -/
def WarmResetLeaves (cause : Nat) (s t : State) : Prop :=
  (t.straps = s.straps ∧ t.nextOp = s.nextOp ∧ t.vault.fuses = s.vault.fuses ∧ t.images.active = s.images.active
    ∧ t.images.staging = s.images.staging ∧ t.sec.oper = s.sec.oper ∧ t.sec.inst = s.sec.inst ∧ t.sec.maker = s.sec.maker)
  ∧ (t.stage = .rom ∧ t.images.romStart = true ∧ t.sec.sessions = [] ∧ t.cp = CmdPort.init ∧ t.ops = [] ∧ t.time = Time.init
    ∧ t.lanes = [] ∧ t.ctxs = [] ∧ t.diag.results = [] ∧ ∀ n, (port t n).st = .idle)
  ∧ rdG t F.RESET_STATUS_LAST_KIND = 3 ∧ rdG t F.RESET_STATUS_LAST_CAUSE = cause ∧ rdG t F.CLK_EN = 0

/-- The last Journal entry is a RESET entry with these DETAIL bytes (R534, R654). -/
def EndsWithResetEntry (kind arg : Nat) (t : State) : Prop :=
  ∃ (j : Journal) (sec ns : Nat), t.journal = journalPut ⟨0, 0, 0, 7, 0, 0, 0, 0, sec, ns, 0, kind, arg, 0⟩ j

/-- A field lies in one word. -/
abbrev fits (f : Fld) : Prop := f.lo ≤ f.hi ∧ f.hi < 32

/-- A block's clock runs, and the block is not in the Closing Audit (the checks 8 and 9 of R517). -/
def Up (s : State) (b : Nat) : Prop := clkRun s b = true ∧ b ∉ s.audit.held

/-- A command is in hand and passes the checks of R517 that come before its opcode's own: the version of HELLO (R523), the boot ROM's
commands (R520), an open session of the least role, no change by an operator (R519) or without a key (R560), no area of a higher role
(R554), a header without reserved bits (R807); and for a change the Ledger is not full (R575). -/
def Ready (o : Opcode) (c : Packet) (s : State) : Prop :=
  s.cp.current = some c ∧ c.opcode.toNat = o.code ∧ (o.code = 1 ∨ s.cp.helloVersion = some c.proto.toNat)
  ∧ (s.stage = .rom → o.rom = true) ∧ unknownSession s c = false
  ∧ atLeast (roleOf s c) (if s.stage = .rom then none else o.least) = true
  ∧ (o.change = true → roleOf s c ≠ some .operator ∧ ledgerFull s = false ∧ (keylessMaker s c = true → o.code = 0x11 ∨ o.code = 0xF0))
  ∧ o.denied c (roleOf s c) s = false ∧ headerOk c = true

/-- The outcome of a command that is ready and executes with a status, results and an effect: what precedes the effect, the effect, then
the reply (R507, R510, R517). -/
def Executes (o : Opcode) (c : Packet) (s : State) (st : Status) (results : List Byte) (effect : State → State) (i : Instr) : Prop :=
  exec i s = .next (complete c st 0 results (effect (beforeEffect o c (Plan.done st results effect) s)))

/-- The outcome of a command that is ready and starts a long operation of n steps (R526): ACCEPTED with the operation ID, the estimated
duration and n. The estimate is a free value. -/
def Starts (o : Opcode) (c : Packet) (s : State) (n : Nat) (effect : Nat → State → State) (i : Instr) : Prop :=
  ∃ est : Nat,
    let results := natBE 4 s.nextOp ++ natBE 4 est ++ natBE 1 n
    let p : Plan := ⟨.accepted, results, 0, true, s.nextOp, fun s' => effect s.nextOp (startOp o.code (roleOf s c) n (draw s'))⟩
    exec i s = .next (complete c .accepted 0 results (p.effect (beforeEffect o c p s)))

/-- A reliable message that comes with a TAG while a port listens for its TYPE is acknowledged, and its first copy alone has an effect
(R158); while the port does not listen it has none. -/
def TakenOnce (listens : Bool) (n type tag : Nat) (s : State) (i : Instr) (act : State → State) : Prop :=
  (listens = false → exec i s = .next s)
  ∧ (listens = true → firstCopy s n type tag = false → exec i s = .next (sendAck n type tag s))
  ∧ (listens = true → firstCopy s n type tag = true → exec i s = .next (act (noteTag n type tag (sendAck n type tag s))))

/-- The reliable messages (R162, R203) with their port, TYPE and TAG, and whether the port takes them in a state: those of the training channel
from ECHO to LOADING, the others in service, and those of Siruigo 2 on a link of version 2 alone (R159). A PAIR_FALLBACK of
ACTION 0x01 for a pair without both standby tables is left out: the port does not acknowledge it (R318). -/
def reliableOf (s : State) : Instr → Option (Nat × Nat × Nat × Bool)
  | .tParams n tag _ _ _ _ => some (n.val, 0x50, tag.toNat, channelOpen s n.val)
  | .tReady n tag _ => some (n.val, 0x52, tag.toNat, channelOpen s n.val)
  | .tNext n tag _ _ => some (n.val, 0x53, tag.toNat, channelOpen s n.val)
  | .tPairs n tag _ => some (n.val, 0x54, tag.toNat, channelOpen s n.val)
  | .tLoading n tag _ => some (n.val, 0x55, tag.toNat, channelOpen s n.val)
  | .tConfirm n tag => some (n.val, 0x56, tag.toNat, channelOpen s n.val)
  | .tGo n tag _ => some (n.val, 0x57, tag.toNat, channelOpen s n.val)
  | .version n tag _ _ _ _ _ _ => some (n.val, 2, tag.toNat, inService s n.val)
  | .loadingRequest n tag _ => some (n.val, 0x10, tag.toNat, inService s n.val)
  | .loadingConfirm n tag _ _ => some (n.val, 0x11, tag.toNat, inService s n.val)
  | .loadingReject n tag _ _ => some (n.val, 0x12, tag.toNat, inService s n.val)
  | .loadingNeed n tag _ _ _ => some (n.val, 0x13, tag.toNat, inService s n.val)
  | .rateNotice n tag _ _ _ => some (n.val, 0x14, tag.toNat, inService s n.val)
  | .pairFallback n tag _ action pair _ _ =>
    if action = 1 ∧ ((SMap.get (port s n.val).peerStandby none pair.val).isSome && (SMap.get (port s n.val).ownStandby none pair.val).isSome) = false
    then none else some (n.val, 0x20, tag.toNat, inService s n.val && (port s n.val).tr.ver == 2)
  | .shutter n tag _ _ _ => some (n.val, 0x21, tag.toNat, inService s n.val && (port s n.val).tr.ver == 2)
  | .feedbackSet n tag _ _ => some (n.val, 0x30, tag.toNat, inService s n.val && (port s n.val).tr.ver == 2)
  | _ => none

end Sys2Proof.Claims

section
open Sys2Proof Sys2Proof.Machine Sys2Proof.Claims

/-- A step runs the command at the front of the queue on the state with the queue's rest. That it idles on an empty queue is the model's
choice (assumption 8). -/
def Obligations.StepRunsTheFrontCommand : Prop :=
  (∀ (c : Instr) (rest : List Instr) (s : State), s.pending = c :: rest → step s = exec c { s with pending := rest })
  ∧ (∀ s : State, s.pending = [] → step s = .next s)

/-- The invariant holds after reset. -/
def Obligations.ResetHoldsTheInvariant : Prop := Inv State.reset

/-- From every state with the invariant, a step answers a next state with the invariant; no command changes the part or the queue behind
it. -/
def Obligations.EveryStepKeepsTheInvariant : Prop :=
  ∀ s : State, Inv s → ∃ t, step s = .next t ∧ Inv t ∧ t.part = s.part ∧ t.pending = s.pending.tail

/-- No command clears a fuse (R17: a Vault field accepts one fuse programming in the life of the part). -/
def Obligations.NoCommandClearsAFuse : Prop :=
  ∀ (c : Instr) (s : State), ∃ t, exec c s = .next t
    ∧ ∀ a, SMap.get s.vault.fuses 0 a &&& SMap.get t.vault.fuses 0 a = SMap.get s.vault.fuses 0 a

/-- The frame of every command: what `changes` does not name is unchanged; for an area of the register window, every word of it. -/
def Obligations.EveryCommandHasItsFrame : Prop :=
  ∀ (c : Instr) (s t : State) (p : Piece), exec c s = .next t → p ∉ changes c → p.same s t

/-- POWER_ON_RESET and RESET_N_ASSERT (R647). -/
def Obligations.HardResetKeepsAndClears : Prop :=
  ∀ s : State,
    (∃ t, exec .powerOnReset s = .next t ∧ HardResetLeaves 1 s t ∧ rdReg t 0x2005C = regReset 0x2005C)
    ∧ (∃ t, exec .resetNAssert s = .next t ∧ HardResetLeaves 2 s t ∧ rdReg t 0x2005C = rdReg s 0x2005C)

/-- POWER_ON_RESET_RELEASE and RESET_N_RELEASE: the straps are sampled (R7, R593, R772) and start-up goes on from step 2 of R656. -/
def Obligations.ResetReleaseSamplesTheStraps : Prop :=
  ∀ (st : Straps) (s : State),
    let u := wrG F.DEV_ID_PROFILE 1 (wrG F.DEV_ID_PROFILE_REQ (st.profile.val + 1)
      { s with straps := st, strapReq := st.profile.val + 1, profileSel := 0, profileNew := false, clk := { s.clk with resetHeld := false } })
    (s.clk.resetHeld = true → rdG s F.RESET_STATUS_LAST_KIND = 1 →
      exec (.powerOnResetRelease st) s = .next (mgmtGo u) ∧ (mgmtGo u).straps = st)
    ∧ (s.clk.resetHeld = true → rdG s F.RESET_STATUS_LAST_KIND = 2 →
      exec (.resetNRelease st) s = .next (mgmtGo u) ∧ (mgmtGo u).straps = st)
    ∧ (s.clk.resetHeld = false → exec (.powerOnResetRelease st) s = .next s ∧ exec (.resetNRelease st) s = .next s)

/-- WARM_RESET, LOCKSTEP_FAULT and WATCHDOG_EXPIRY (R646, R647, R651). -/
def Obligations.WarmResetKeepsAndClears : Prop :=
  ∀ s : State,
    (coresRun s = true → s.clk.resetReq.contains (.warm 1) = true → ∃ t, exec .warmReset s = .next t ∧ WarmResetLeaves 1 s t)
    ∧ (coresRun s = true ∨ s.stage = .restarting → ∃ t, exec .lockstepFault s = .next t ∧ WarmResetLeaves 2 s t)
    ∧ (coresRun s = true → s.stage = .firmware → ∃ t, exec .watchdogExpiry s = .next t ∧ WarmResetLeaves 3 s t)
    ∧ (s.stage = .rom → exec .watchdogExpiry s = .next s)

/-- PER_PORT_RESET and SOFT_RESET (R649, R652, R653), and their Journal entries (R654). -/
def Obligations.PortAndBlockResetsAreRecorded : Prop :=
  ∀ s : State,
    (∀ n : Port, s.clk.resetReq.contains (.port n.val) = true → ∃ t, exec (.perPortReset n) s = .next t ∧ t.clk.resetReq = s.clk.resetReq.filter (· != .port n.val)
      ∧ t = portReset n.val (takeReset (.port n.val) s) ∧ rdG t F.RESET_STATUS_LAST_KIND = 4
      ∧ rdG t F.RESET_STATUS_LAST_CAUSE = n.val ∧ EndsWithResetEntry 4 n.val t)
    ∧ (∀ b : Fin 32, s.clk.resetReq.contains (.block b.val) = true → ∃ t, exec (.softReset b) s = .next t ∧ t.clk.resetReq = s.clk.resetReq.filter (· != .block b.val)
      ∧ t = blockReset b.val (takeReset (.block b.val) s) ∧ rdG t F.RESET_STATUS_LAST_KIND = 5
      ∧ rdG t F.RESET_STATUS_LAST_CAUSE = b.val ∧ EndsWithResetEntry 5 b.val t)
    ∧ (∀ n : Port, s.clk.resetReq.contains (.port n.val) = false → exec (.perPortReset n) s = .next s)
    ∧ (∀ b : Fin 32, s.clk.resetReq.contains (.block b.val) = false → exec (.softReset b) s = .next s)

/-- IRO_VALID, REFCLK_VALID, IRO_MEASURED, PLL_READY and POWERUP_CALIBRATION (R621, R622, R632, R639, R704, R705). -/
def Obligations.ClockSourcesComeReady : Prop :=
  ∀ s : State,
    (s.clk.resetHeld = false → s.stage ≠ .stopped → s.power.wakeStep ≠ 1 →
      exec .iroValid s = .next (mgmtGo (wrG F.CLK_READY_IRO_VALID 1 s))
      ∧ rdG (mgmtGo (wrG F.CLK_READY_IRO_VALID 1 s)) F.CLK_READY_IRO_VALID = 1)
    ∧ (s.clk.resetHeld = false → s.stage ≠ .stopped →
      let u := wrG F.CLK_READY_REFCLK_VALID 1 { s with clk := { s.clk with safeNow := { s.clk.safeNow with refclk := false } } }
      exec .refclkValid s = .next (mgmtGo u) ∧ rdG (mgmtGo u) F.CLK_READY_REFCLK_VALID = 1)
    ∧ (∀ f, rdG s F.CLK_READY_IRO_VALID = 1 → rdG s F.CLK_READY_REFCLK_VALID = 1 →
      ∃ t, exec (.iroMeasured f) s = .next t ∧ rdG t F.IRO_FREQ = f.toNat ∧ rdG t F.CLK_READY_IRO_MEASURED = 1
        ∧ OnlyWords [F.IRO_FREQ.reg, F.CLK_READY_IRO_MEASURED.reg] s t)
    ∧ (∀ p, pllMay p s = true → exec (.pllReady p) s = .next (mgmtGo (settle s (wrFld 0 (pllFld p) 1 s))))
    ∧ (∀ b codes, calTurn s b = true → s.cal.finished.length < 4 →
      exec (.powerupCalibration b true codes) s = .next (wrFld 0 (calBlockFld b) 1
        { s with cal := { s.cal with finished := b :: s.cal.finished, codes := SMap.set s.cal.codes [] (calBlockCode b) codes } }))
    ∧ (∀ b codes, calTurn s b = true → s.cal.firstBad.contains b = false →
      exec (.powerupCalibration b false codes) s = .next { s with cal := { s.cal with firstBad := b :: s.cal.firstBad } })

/-- REFCLK_LOST, REFCLK_RANGE, IRO_RANGE and PLL_UNLOCK (R623 to R626, R630). -/
def Obligations.ClockFailuresMakeOutputsSafe : Prop :=
  ∀ s : State,
    (s.clk.resetHeld = false → s.stage ≠ .stopped → rdG s F.CLK_READY_REFCLK_VALID = 1 →
      let u := fun f => wrG F.CLK_READY_REFCLK_VALID 0 (evG f { s with clk := { s.clk with safeNow := { s.clk.safeNow with refclk := true } } })
      exec .refclkLost s = .next (mgmtGo (safeEnter failAll (u F.SAFE_CAUSE_REFCLK_LOST)))
      ∧ exec .refclkRange s = .next (mgmtGo (safeEnter failAll (u F.SAFE_CAUSE_REFCLK_RANGE))))
    ∧ (rdG s F.CLK_READY_IRO_VALID = 1 → rdG s F.CLK_READY_REFCLK_VALID = 1 →
      exec .iroRange s = .next (mgmtGo (wrG F.CLK_READY_IRO_VALID 0 (evG F.SAFE_CAUSE_IRO_RANGE s))))
    ∧ (rdG s F.CLK_READY_IRO_VALID = 1 → rdG s F.CLK_READY_REFCLK_VALID ≠ 1 →
      exec .iroRange s = .next (mgmtGo (safeEnter failAll (wrG F.CLK_READY_IRO_VALID 0 (evG F.SAFE_CAUSE_IRO_RANGE s)))))
    ∧ (∀ p near f, rdFld s 0 (pllFld p) ≠ 0 → unlockFld s p = some f → (near = false ∨ s.clk.safeNow.refclk = false) →
      exec (.pllUnlock p near) s = .next (mgmtGo (safeEnter (fun x => unlockHold p
        (settle s x)) (countDev 0x34 1 (evG f (wrFld 0 (pllFld p) 0 s))))))
    ∧ (∀ p f, rdFld s 0 (pllFld p) ≠ 0 → unlockFld s p = some f → s.clk.safeNow.refclk = true →
      exec (.pllUnlock p true) s = .next (mgmtGo (safeEnter (fun x => unlockHold p
        (settle s x)) (countDev 0x34 1 (wrFld 0 (pllFld p) 0 s)))))
    ∧ (∀ p near, rdFld s 0 (pllFld p) = 0 → exec (.pllUnlock p near) s = .next s)

/-- SAFE_RELEASE and RELEASE (R628, R629). -/
def Obligations.SafeStateIsReleased : Prop :=
  ∀ s : State,
    let u := { s with clk := { s.clk with gpioLatch := if s.power.heldPads % 2 = 1 then s.clk.gpioLatch else none } }
    (safeHeldAny s = true → safeClear s = true → rdG s F.SAFE_CTRL_AUTO_RELEASE = 1 → exec .safeRelease s = .next (safeDrop u))
    ∧ (safeHeldAny s = true → safeClear s = true → rdG s F.SAFE_CTRL_AUTO_RELEASE ≠ 1 →
        ∃ t, exec .safeRelease s = .next t ∧ rdG t F.SAFE_STATUS_WAITING = 1 ∧ OnlyWords [F.SAFE_STATUS_WAITING.reg] s t)
    ∧ (safeHeldAny s = true → safeClear s = true → exec .release s = .next (safeDrop u))
    ∧ (safeClear s = false → exec .safeRelease s = .next s ∧ exec .release s = .next s)
    ∧ (safeHeldAny s = false → exec .safeRelease s = .next s ∧ exec .release s = .next s)

/-- CLK_SWITCH_GO, OLD_CLOCK_DEAD, CLK_EN_WRITE and CLKOUT_CHANGE (R633 to R644, R657). -/
def Obligations.ClockSwitchesFollowTheRules : Prop :=
  (∀ (v : Word) (s : State),
    let d := wordBits v 23 16
    let src := wordBits v 7 0
    let u := wrG F.CLK_SWITCH_SOURCE src (wrG F.CLK_SWITCH_DOMAIN d s)
    (wordBits v 31 31 = 0 → exec (.clkSwitchGo v) s = .next u)
    ∧ (wordBits v 31 31 ≠ 0 → switchNamed s d src = false → exec (.clkSwitchGo v) s = .next (evG F.CLK_EVENTS_CONFIG_ERR u))
    ∧ (wordBits v 31 31 ≠ 0 → switchNamed s d src = true → (sourceReady s d src = false ∨ interlock s d src = true) →
        exec (.clkSwitchGo v) s = .next (evG F.CLK_EVENTS_SW_REFUSED u))
    ∧ (wordBits v 31 31 ≠ 0 → switchNamed s d src = true → sourceReady s d src = true → interlock s d src = false →
        sourceReady s d (switchNow s d) = true → exec (.clkSwitchGo v) s = .next (switchTo d src u))
    ∧ (wordBits v 31 31 ≠ 0 → switchNamed s d src = true → sourceReady s d src = true → interlock s d src = false →
        sourceReady s d (switchNow s d) = false →
        exec (.clkSwitchGo v) s = .next { u with clk := { u.clk with switchWait := some (d, src) } }))
  ∧ (∀ (d src : Nat) (s : State), s.clk.switchWait = some (d, src) →
      exec .oldClockDead s = .next (switchTo d src { s with clk := { s.clk with switchWait := none } }))
  ∧ (∀ s : State, s.clk.switchWait = none → exec .oldClockDead s = .next s)
  ∧ (∀ (v : Word) (s : State),
      let u := wrG F.CLK_EN ((blockCodes s).foldl (fun a b => a + wordBits v b b * 2 ^ b) 0) s
      let w := settle s (portsDown (fun n => clkRun s (groupOf n) && !clkRun u (groupOf n)) 5 u)
      exec (.clkEnWrite v) s = .next (if clkRun s 16 && !clkRun u 16 then sirDown w else w))
  ∧ (∀ (v : Word) (s : State),
      let u := wrG F.CLKOUT_CTRL_DIV (wordBits v 11 0) (wrG F.CLKOUT_CTRL_SRC (wordBits v 27 24)
        (wrG F.CLKOUT_CTRL_EN (wordBits v 31 31) s))
      let w := { u with clk := { u.clk with clkoutNow := rdReg u 0x20020 } }
      exec (.clkoutChange v) s = .next (if clkoutBad w w.clk.clkoutNow then evG F.CLK_EVENTS_CLKOUT_ERR w else w))

/-- VDD_CORE_WARNING, RAIL_WARNING, WARNING_END, RAIL_RESET_LEVEL and VDD_AON_LOSS (R696 to R700). -/
def Obligations.SupplyWarningsAndResetLevels : Prop :=
  (∀ s : State, s.clk.resetHeld = false → warnNow s .core = false →
      exec .vddCoreWarning s =
        .next (auditWarn (burnStop (countDev 0x31 1 (addCnt 0 F.STRETCH_EPISODES 1 (wrG F.SUPPLY_STATUS_STRETCH 1 (warnBegin .core s))))))
      ∧ exec (.railWarning .core) s = exec .vddCoreWarning s)
  ∧ (∀ (r : Rail) (s : State), r ≠ .core → s.clk.resetHeld = false → railIgnored s r = false → warnNow s r = false →
      exec (.railWarning r) s = .next (ledgerDevice 3 (railNo r * 65536)
        (wrG (railBit F.SUPPLY_STATUS_WARN_NOW r) 1 (evG (railBit F.SUPPLY_EVENTS_WARN r) s))))
  ∧ (∀ (r : Rail) (s : State), (s.clk.resetHeld = true ∨ railIgnored s r = true ∨ warnNow s r = true) → exec (.railWarning r) s = .next s)
  ∧ (∀ (r : Rail) (s : State),
      let u := wrG (railBit F.SUPPLY_STATUS_WARN_NOW r) 0 s
      let w := if s.power.lowRails.contains r then railResume r u else u
      (warnNow s .core = true → r = .core →
        exec (.warningEnd r) s = .next (auditWarnEnd (levelVolts (wrG F.SUPPLY_STATUS_STRETCH 0 w))))
      ∧ (r ≠ .core → exec (.warningEnd r) s = .next w)
      ∧ rdG u (railBit F.SUPPLY_STATUS_WARN_NOW r) = 0)
  ∧ (∀ s : State, exec (.railResetLevel .core) s = exec .powerOnReset s ∧ exec (.railResetLevel .io) s = exec .powerOnReset s
      ∧ exec (.railResetLevel .aon) s = exec .vddAonLoss s)
  ∧ (∀ s : State, ∃ t, exec .vddAonLoss s = .next t ∧ t.journal = Journal.init ∧ t.ledger = Ledger.init ∧ t.nextOp = 1 ∧ t.sec = Sec.init
      ∧ t.stage = .held ∧ t.clk.resetHeld = true ∧ t.clk.aonLost = true ∧ t.straps = s.straps ∧ t.vault.fuses = s.vault.fuses)
  ∧ (∀ (r : Rail) (s : State), railIgnored s r = false → r ∉ s.power.lowRails →
      let u := { s with power := { s.power with lowRails := r :: s.power.lowRails.filter (· != r) } }
      (r = .lane → exec (.railResetLevel r) s = .next (forL (allLanes u) laneOff u))
      ∧ (r = .pll → exec (.railResetLevel r) s = .next (forL allPlls (fun p => pllUnlock p false) u))
      ∧ ((r = .afe ∨ r = .ld) → exec (.railResetLevel r) s = .next (portsDown (fun _ => true) 7 u)))

/-- WRITE, READ, POLL and any other transaction code (R504 to R507, R511, R512, R688). -/
def Obligations.CommandPortTransactions : Prop :=
  (∀ (b : List Byte) (s : State), cpAnswers s = true → coresRun s = true →
      let u := modCp (fun p => { p with out := [], reply := none, replyRead := 0 }) s
      (∀ c, s.cp.current = none → parsePacket b = some c → crcOk c = true → plen c ≤ 4352 →
        ((∀ x, storedFor s c.session = some x → x.seq ≠ c.seq) → c.opcode.toNat ∈ assignedOpcodes →
          exec (.write b) s = .next (modCp (fun p => { p with current := some c }) u))
        ∧ ((∀ x, storedFor s c.session = some x → x.seq ≠ c.seq) → c.opcode.toNat ∉ assignedOpcodes →
          exec (.write b) s = .next (complete c .badParam 0 [] u))
        ∧ (∀ x, storedFor s c.session = some x → x.seq = c.seq → x.crc = retryFreeCrc c →
          exec (.write b) s = .next (addCnt 0 F.CP_RETRIES 1 (modCp (fun p => { p with reply := some x.reply, current := none }) u)))
        ∧ (∀ x, storedFor s c.session = some x → x.seq = c.seq → x.crc ≠ retryFreeCrc c →
          exec (.write b) s = .next (modCp (fun p => { p with reply := some (replyBytes c .badParam 0 []), current := none }) u)))
      ∧ (s.cp.current = none → (∀ c, parsePacket b = some c → crcOk c = false ∨ 4352 < plen c) →
        exec (.write b) s = .next (addCnt 0 F.CP_DROPPED 1 (countDev 0x29 1 (modCp (fun p => { p with dropped := true }) u))))
      ∧ (s.cp.current ≠ none → exec (.write b) s = .next (countDev 0x29 1 (modCp (fun p => { p with dropped := true }) u))))
  ∧ (∀ (b : List Byte) (s : State), s.stage = .stopped →
      exec (.write b) s = .next (modCp (fun p => { p with out := [], dropped := true }) s))
  ∧ (∀ (k : Nat) (s : State), cpAnswers s = true →
      ∃ t, exec (.read k) s = .next t ∧ t.cp.out = (statusByte s :: (s.cp.reply.getD [])).take k ∧ t.cp.reply = s.cp.reply
        ∧ (0 < k → t.cp.dropped = false) ∧ (k = 0 → t.cp.dropped = s.cp.dropped) ∧ t = { s with cp := t.cp })
  ∧ (∀ s : State, cpAnswers s = true →
      exec .poll s = .next (modCp (fun p => { p with out := [statusByte s], dropped := false }) s))
  ∧ (∀ (k : Nat) (s : State), cpAnswers s = false →
      exec (.read k) s = .next (modCp (fun p => { p with out := [] }) s) ∧ exec .poll s = .next (modCp (fun p => { p with out := [] }) s))
  ∧ (∀ (code : Byte) (s : State), code ≠ 0xC1 → code ≠ 0xC2 → code ≠ 0xC3 → cpAnswers s = true →
      exec (.transactionIgnored code) s = .next (modCp (fun p => { p with out := [], dropped := true }) s))

/-- Completing a command (R507, R510, R512), and the checks 4 to 6 (R517, R519, R523). -/
def Obligations.EveryCommandIsAnsweredInTheSameWay : Prop :=
  (∀ (c : Packet) (st : Status) (retry : Nat) (results : List Byte) (s : State),
    let t := complete c st retry results s
    let x : Stored := ⟨c.seq, retryFreeCrc c, replyBytes c st retry results⟩
    t.cp.reply = some (replyBytes c st retry results) ∧ t.cp.replyRead = 0 ∧ t.cp.current = none
    ∧ (c.session = 0 → storedFor t 0 = some x ∧ t.sec = s.sec)
    ∧ (c.session ≠ 0 → findSession s c.session ≠ none → storedFor t c.session = some x)
    ∧ (c.session ≠ 0 → findSession s c.session = none → t.sec = s.sec)
    ∧ t.cp.stored0 = (if c.session = 0 then some x else s.cp.stored0)
    ∧ t = { s with cp := t.cp, sec := t.sec })
  ∧ (∀ (o : Opcode) (c : Packet) (s : State), s.cp.current = some c → c.opcode.toNat = o.code →
      let t := fun st => complete c st 0 [] (pmEv 0x18 2 (commandAttr (roleOf s c) c)
        (modSession c.session (fun x => { x with aliveTick := s.tick }) s))
      (o.code ≠ 1 → s.cp.helloVersion ≠ some c.proto.toNat → runOpcode o c s = t .version)
      ∧ ((o.code = 1 ∨ s.cp.helloVersion = some c.proto.toNat) → s.stage = .rom → o.rom = false → runOpcode o c s = t .notReady)
      ∧ ((o.code = 1 ∨ s.cp.helloVersion = some c.proto.toNat) → (s.stage = .rom → o.rom = true) →
          (unknownSession s c = true ∨ atLeast (roleOf s c) (if s.stage = .rom then none else o.least) = false
            ∨ (o.change = true ∧ roleOf s c = some .operator) ∨ o.denied c (roleOf s c) s = true) → runOpcode o c s = t .denied))
  ∧ (∀ (o : Opcode) (c : Packet) (s : State), s.cp.current = some c → c.opcode.toNat ≠ o.code → runOpcode o c s = s)

/-- HELLO, SESSION_OPEN, SESSION_CLOSE, PROFILE_SELECT and the timers of sessions (R522 to R525, R553 to R563). -/
def Obligations.SessionCommandsTakeEffect : Prop :=
  (∀ (c : Packet) (s : State), Ready opHello c s → plen c = 4 → zeros c 1 3 = true →
      (pb c 0 % 2 = 1 → Executes opHello c s .ok (helloBytes s 1) helloDone (.hello c))
      ∧ (pb c 0 % 2 = 0 → Executes opHello c s .version (helloBytes s 0) id (.hello c)))
  ∧ (∀ (c : Packet) (r : Role) (s : State), Ready opSessionOpen c s → c.session = 0 → roleOfCode (pb c 1) = some r → pb c 2 ≤ 1 → pb c 3 = 0 →
      sessionFull s r = false → (rdG s F.VAULT_STATUS_READ_LOCK = 1 → r = .operator) →
      let h := drawHandle s
      (pb c 0 = 1 → plen c = 20 → (guardOf s r).held = false → keylessOpen s r (pb c 2) = false →
        Executes opSessionOpen c s .ok (natBE 4 h.toNat ++ natBE 16 (Config.nonce s.draws).toNat ++ vSerial s)
          (fun s' => modSec (fun k => { k with prov := some ⟨h, r, pb c 2, slice c.params 4 16, natBE 16 (Config.nonce s.draws).toNat⟩ }) (draw s'))
          (.sessionOpen c))
      ∧ (∀ p k, pb c 0 = 2 → plen c = 40 → s.sec.prov = some p → roleKey s r (pb c 2) = some k →
          let g := BitVec.ofNat 32 (pf c 4 4)
          let m := authM s r (pb c 2) g p.devNonce p.hostNonce
          (p.handle = g → p.role = r → p.slot = pb c 2 → slice c.params 8 32 = hmac k (labelQns1 ++ m) →
            Executes opSessionOpen c s .ok (natBE 4 g.toNat ++ hmac k (labelQnd1 ++ m) ++ natBE 2 (idleLimit s))
              (fun s' => openSession c ⟨g, r, pb c 2, hmac k (labelQnk1 ++ m), false, none, s'.tick⟩ s') (.sessionOpen c))
          ∧ ((p.handle ≠ g ∨ p.role ≠ r ∨ p.slot ≠ pb c 2 ∨ slice c.params 8 32 ≠ hmac k (labelQns1 ++ m)) →
            Executes opSessionOpen c s .denied [] (authFail c r) (.sessionOpen c))))
  ∧ (∀ (c : Packet) (s : State), Ready opSessionClose c s → plen c = 0 →
      Executes opSessionClose c s .ok [] (endSession c.session 1) (.sessionClose c))
  ∧ (∀ (c : Packet) (s : State), Ready opProfileSelect c s → plen c = 4 → zeros c 1 3 = true → pb c 0 ≤ 4 →
      Executes opProfileSelect c s .ok (natBE 1 (if pb c 0 = 0 then s.strapReq else pb c 0) ++ [1])
        (fun s' => { s' with profileSel := pb c 0, profileNew := true }) (.profileSelect c))
  ∧ (∀ (h : BitVec 32) (x : Session) (s : State), findSession s h = some x → idleLimit s ≠ 0 → s.stage ≠ .stopped →
      (x.aliveTick + idleLimit s * 100000000 ≤ s.tick → exec (.sessionIdleTimeout h) s = .next (endSession h 2 s))
      ∧ (s.tick < x.aliveTick + idleLimit s * 100000000 → exec (.sessionIdleTimeout h) s = .next s))
  ∧ (∀ s : State, exec .provisionalHandleExpiry s = .next { s with sec := { s.sec with prov := none } })
  ∧ (∀ (r : Role) (s : State), ∃ t, exec (.holdoffExpiry r) s = .next t ∧ (guardOf t r).held = false ∧ (guardOf t r).fails = (guardOf s r).fails
      ∧ (∀ q, q ≠ r → guardOf t q = guardOf s q) ∧ t.sec.sessions = s.sec.sessions ∧ t = { s with sec := t.sec })

/-- LEDGER_READ, LEDGER_DRAIN_ACK, OP_QUERY and DEVICE_RESET (R530, R573, R574, R650). -/
def Obligations.LedgerAndOperationCommandsTakeEffect : Prop :=
  (∀ (c : Packet) (s : State), Ready opLedgerRead c s → plen c = 8 → zeros c 5 3 = true → 1 ≤ pb c 4 → pb c 4 ≤ 64 →
      ledgerIn s.ledger (pf c 0 4) = true →
      let k := min (pb c 4) (indexRun (pf c 0 4) s.ledger.head)
      Executes opLedgerRead c s .ok (natBE 4 s.ledger.head ++ natBE 4 s.ledger.tail ++ natBE 1 k ++ [0, 0, 0]
        ++ (indexFrom k (pf c 0 4)).flatMap (fun j => ledgerSlot s (j % 4096))) id (.ledgerRead c))
  ∧ (∀ (c : Packet) (e : LedgerEntry) (s : State), Ready opLedgerDrainAck c s → plen c = 8 → ledgerIn s.ledger (pf c 0 4) = true →
      SMap.get s.ledger.slots none (pf c 0 4 % 4096) = some e →
      (pf c 4 4 = e.check.toNat →
        Executes opLedgerDrainAck c s .ok [] (ledgerDrain c (roleOf s c) (pf c 0 4)) (.ledgerDrainAck c))
      ∧ (pf c 4 4 ≠ e.check.toNat → Executes opLedgerDrainAck c s .recordBad [] id (.ledgerDrainAck c)))
  ∧ (∀ (c : Packet) (s : State), Ready opOpQuery c s → plen c = 4 →
      (∀ o, pf c 0 4 ≠ 0xFFFFFFFF → findOp s (pf c 0 4) = some o →
        (o.st = .done → Executes opOpQuery c s .ok (opRecord s o) (modOp o.id (fun o => { o with collected := true })) (.opQuery c))
        ∧ (o.st ≠ .done → Executes opOpQuery c s .ok (opRecord s o) draw (.opQuery c)))
      ∧ (pf c 0 4 = 0xFFFFFFFF → completionPending s = false →
        Executes opOpQuery c s .ok (List.replicate 24 0) (fun s => s) (.opQuery c)))
  ∧ (∀ (c : Packet) (q : ResetReq) (s : State), Ready opDeviceReset c s → plen c = 4 → zeros c 2 2 = true →
      resetNamed s (pb c 0) (pb c 1) = some q →
      ∃ t, exec (.deviceReset c) s = .next t ∧ t.cp.reply = some (replyBytes c .ok 0 [])
        ∧ t.clk = { s.clk with resetReq := s.clk.resetReq ++ [q] })

/-- The layout of the registers is a layout (R590, R592). -/
def Obligations.FieldsOfAWordShareNoBit : Prop :=
  ∀ a : Nat, (∀ f ∈ fieldsAt a, fits f) ∧ (fieldsAt a).Pairwise (fun f g => g.hi < f.lo ∨ f.hi < g.lo)

/-- Storing a word under the types of its fields (R15, R599). -/
def Obligations.AWordTakesAWriteUnderItsFieldTypes : Prop :=
  ∀ (a : Nat) (v : Word) (s : State),
    let t := storeWord a v s
    (∀ f ∈ fieldsAt a,
      ((f.ty = .rw ∨ f.ty = .cnt) → wordBits (rdReg t a) f.hi f.lo = wordBits v f.hi f.lo)
      ∧ ((f.ty = .ro ∨ f.ty = .go) → wordBits (rdReg t a) f.hi f.lo = wordBits (rdReg s a) f.hi f.lo)
      ∧ (f.ty = .w1c → ∀ i, f.lo ≤ i → i ≤ f.hi → (rdReg t a).getLsbD i = ((rdReg s a).getLsbD i && !v.getLsbD i)))
    ∧ (∀ i, (∀ f ∈ fieldsAt a, i < f.lo ∨ f.hi < i) → (rdReg t a).getLsbD i = (rdReg s a).getLsbD i)
    ∧ OnlyWords [a] s t

/-- READ_REG, WRITE_REG, READ_BLOCK, REGISTER_WRITE, MULTIWORD_WRITE_COMMIT, LATCHING_READ and LINK_STATUS_READ over the Command Port
(R540, R599, R605, R607, R609, R613). -/
def Obligations.RegisterCommandsReadAndWrite : Prop :=
  (∀ (c : Packet) (s : State), Ready opReadReg c s → plen c = 5 → wordsBad c = false →
      ((∀ a ∈ namedWords c, gatedAt s a = false ∧ auditAt s .cp a = none) →
        Executes opReadReg c s .ok (cpReadWords (roleCode (roleOf s c)) (namedWords c) s).1
          (fun s' => (cpReadWords (roleCode (roleOf s c)) (namedWords c) s').2) (.readReg c))
      ∧ (∀ a, (namedWords c).find? (gatedAt s) = some a →
        exec (.readReg c) s = .next (carryOut opReadReg c ⟨.gated, [], 0, false, 0, gatedNote .cp a⟩ s)))
  ∧ (∀ (c : Packet) (s : State), Ready opWriteReg c s → plen c = 8 + 4 * pb c 4 → zeros c 5 3 = true → wordsBad c = false →
      (∀ a ∈ namedWords c, gatedAt s a = false ∧ auditAt s .cp a = none) →
      (scanTooSoon s c = false → Executes opWriteReg c s .ok [] (forL (wordWrites c) (cpWriteWord (roleCode (roleOf s c)))) (.writeReg c))
      ∧ (scanTooSoon s c = true → Executes opWriteReg c s .notReady [] id (.writeReg c)))
  ∧ (∀ (c : Packet) (s : State), Ready opReadBlock c s → plen c = 6 → pf c 0 4 % 4 = 0 → pf c 4 2 % 4 = 0 → 4 ≤ pf c 4 2 → pf c 4 2 ≤ 4096 →
      (∀ i, i < pf c 4 2 → isBlock (pf c 0 4 + i) = true) →
      (∀ a ∈ blockWords c, gatedAt s a = false ∧ auditAt s .cp a = none) →
      Executes opReadBlock c s .ok ((List.range (pf c 4 2)).map (fun i => areaByte s (pf c 0 4 + i)))
        (whenB ((blockWords c).any freeByte) draw) (.readBlock c))
  ∧ (∀ (x : BitVec 32) (v : Word) (s : State),
      let a := x.toNat / 4 * 4
      (windowStopped s a = false →
        exec (.registerWrite (.window x) v) s = .next (pmEv 0x18 4 (accessAttr .cp 0 a) (pathWrite .cp a v s))
        ∧ exec (.multiwordWriteCommit (.window x) v) s = .next (pmEv 0x18 4 (accessAttr .cp 0 a) (pathWrite .cp a v s))
        ∧ exec (.latchingRead (.window x)) s = .next (pmEv 0x18 3 (accessAttr .cp 0 a) (afterRead .cp a s))
        ∧ exec (.linkStatusRead (.window x)) s = .next (pmEv 0x18 3 (accessAttr .cp 0 a) (afterRead .cp a s)))
      ∧ (windowStopped s a = true →
        exec (.registerWrite (.window x) v) s = .next s ∧ exec (.multiwordWriteCommit (.window x) v) s = .next s
        ∧ exec (.latchingRead (.window x)) s = .next s ∧ exec (.linkStatusRead (.window x)) s = .next s))

/-- MDIO_ADDRESS, MDIO_READ, POST_READ_INCREMENT_ADDRESS and a register access over MDIO (R593 to R598, R603, R609). -/
def Obligations.MdioFramesDoWhatClause45Says : Prop :=
  ∀ (bus : Fin 2) (prtad devad : Fin 32) (s : State),
    let key := mdioKey bus.val prtad.val devad.val
    let reg := mdioReg s bus.val prtad.val devad.val
    let out := fun (v : Option (BitVec 16)) (u : State) => { u with mdio := { u.mdio with out := v } }
    (frameFor s bus.val prtad.val = none → ∀ (a v : BitVec 16), exec (.mdioAddress bus prtad devad a) s = .next (out none s)
      ∧ exec (.mdioRead bus prtad devad) s = .next (out none s) ∧ exec (.postReadIncrementAddress bus prtad devad) s = .next (out none s)
      ∧ exec (.registerWrite (.mdio bus prtad devad) (v.setWidth 32)) s = .next (out none s))
    ∧ (∀ n, frameFor s bus.val prtad.val = some n →
      (∀ a : BitVec 16, ∃ t, exec (.mdioAddress bus prtad devad a) s = .next t ∧ t.mdio.out = none
        ∧ mdioReg t bus.val prtad.val devad.val = a.toNat
        ∧ ∀ k, k ≠ key → SMap.get t.mdio.addr 0 k = SMap.get s.mdio.addr 0 k)
      ∧ (∃ t u, exec (.mdioRead bus prtad devad) s = .next t ∧ exec (.postReadIncrementAddress bus prtad devad) s = .next u
        ∧ u = { t with mdio := { t.mdio with addr := u.mdio.addr } } ∧ mdioReg u bus.val prtad.val devad.val = (reg + 1) % 65536
        ∧ t.mdio.addr = s.mdio.addr)
      ∧ (let s1 := countDev 0x2A 1 s
        (mmdAddr n devad.val reg = none → exec (.mdioRead bus prtad devad) s = .next (out (some 0) s1))
        ∧ (∀ w, mmdAddr n devad.val reg = some w →
          (gatedAt s1 w = true → exec (.mdioRead bus prtad devad) s =
            .next (out (some 0) (mdioRefused bus.val gatedFlags (gatedNote (busPath bus.val) w s1))))
          ∧ (∀ b, gatedAt s1 w = false → auditAt s1 (busPath bus.val) w = some b →
            exec (.mdioRead bus prtad devad) s = .next (out (some 0) (mdioRefused bus.val selftestFlags s1)))
          ∧ (gatedAt s1 w = false → auditAt s1 (busPath bus.val) w = none →
            exec (.mdioRead bus prtad devad) s = .next (out (some ((seenWord (busPath bus.val) s1 w).setWidth 16))
              (pmEv 0x18 3 (accessAttr (busPath bus.val) 0 w) (afterRead (busPath bus.val) w s1)))
            ∧ exec (.latchingRead (.mdio bus prtad devad)) s = exec (.mdioRead bus prtad devad) s
            ∧ exec (.linkStatusRead (.mdio bus prtad devad)) s = exec (.mdioRead bus prtad devad) s)))
      ∧ (let s2 := out none (wakeDoze (countDev 0x2A 1 s))
        ∀ w v, mmdAddr n devad.val reg = some w → ¬ (devad.val = 31 ∧ 0x0700 ≤ reg ∧ reg ≤ 0x07FF) →
          gatedAt s2 w = false → auditAt s2 (busPath bus.val) w = none →
          exec (.registerWrite (.mdio bus prtad devad) v) s =
            .next (pmEv 0x18 4 (accessAttr (busPath bus.val) 0 w) (pathWrite (busPath bus.val) w ((v.setWidth 16).setWidth 32) s2)))
      ∧ (∀ v, devad.val = 31 → 0x0700 ≤ reg → reg ≤ 0x07FF →
        exec (.registerWrite (.mdio bus prtad devad) v) s =
          .next (mdioViolation bus.val n 31 reg (out none (wakeDoze (countDev 0x2A 1 s))))))

/-- What a read leaves (R605, R613). -/
def Obligations.ReadsLatchOtherWordsAndReArmLinkStatus : Prop :=
  ∀ (p : Path) (a : Nat) (s : State),
    let t := afterRead p a s
    (∀ x ∈ latchedBy a, SMap.get (latchesOf t p).rd none x = some (liveWord s x))
    ∧ (∀ x, x ∉ latchedBy a → SMap.get (latchesOf t p).rd none x = SMap.get (latchesOf s p).rd none x)
    ∧ (latchesOf t p).wr = (latchesOf s p).wr
    ∧ (∀ q, q ≠ p → latchesOf t q = latchesOf s q)
    ∧ (∀ n i, windowPort a = some n → hasPort s n = true → linkBit (a % 0x100000) = some i →
        (port t n).latchLow = (port s n).latchLow &&& ~~~ ((1 : BitVec 3) <<< i)
        ∧ (∀ m, m ≠ n → port t m = port s m)
        ∧ linkStatus t n i = bit (linkUp t n))
    ∧ (∀ b, rdReg t b = rdReg s b) ∧ t.mem = s.mem

/-- PORT_LOW_POWER, RESTART_AUTO_NEGOTIATION, TS_POP and HL_CTRL_ENABLE_WRITE (R400, R441, R479, R597). -/
def Obligations.SingleBitWritesActAtOnce : Prop :=
  (∀ (n : Port) (s : State), hasPort s n.val = true →
      (∀ pcs v : Bool,
        let a := portBase n.val + (if pcs then 0x50000 else 0x40000)
        let w := setBits (rdReg s a) 11 11 (bit v)
        windowStopped s a = false → wordBits (rdReg s a) 15 15 = 0 →
        exec (.portLowPower n pcs v) s = .next (pmEv 0x18 4 (accessAttr .cp 0 a) (enableChange n.val (enabled s n.val) (storeWord a w s)))
        ∧ wordBits (rdReg (storeWord a w s) a) 11 11 = bit v)
      ∧ (let a := portBase n.val + 0x60000
        let u := storeWord a (setBits (rdReg s a) 9 9 1) s
        windowStopped s a = false →
        exec (.restartAutoNegotiation n) s =
          .next (pmEv 0x18 4 (accessAttr .cp 0 a) (if enabled u n.val && lineFree u n.val then retrainPort n.val u else u)))
      ∧ (let a := portBase n.val + 0x709B4
        windowStopped s a = false →
        ∃ t, exec (.tsPop n) s = .next t ∧ (hostPort t n.val).fifo = (hostPort s n.val).fifo.drop 1
          ∧ (∀ m, m ≠ n.val → hostPort t m = hostPort s m) ∧ t.ports = s.ports ∧ t.lanes = s.lanes))
  ∧ (∀ (g : Lane) (v : Bool) (s : State), hasLane s g.val = true → laneHeld s g.val = false →
      rdL s g.val F.HL_CTRL_CTLE_MODE ≠ 3 → rdL s g.val F.HL_CTRL_TX_SWING < 5 → rdL s g.val F.HL_CTRL_TX_DEEMPH ≠ 7 →
      let a := 0x11400 + laneBase g.val
      let u := storeWord a (setBits (rdReg s a) 15 15 (bit v)) s
      windowStopped s a = false →
      rdL u g.val F.HL_CTRL_ENABLE = bit v
      ∧ exec (.hlCtrlEnableWrite g v) s = .next (pmEv 0x18 4 (accessAttr .cp 0 a)
          (if rdL s g.val F.HL_CTRL_ENABLE = bit v then u else if v then laneAuto g.val u else laneOff g.val u)))

/-- PORT_CONFIG, PORT_STATE, PORT_RETRAIN, PORT_RATE, OP_ABORT, PORT_CONFIG_APPLY, TIME_COMPARE and TELLER_RESYNC (R306, R532, R541 to R546,
R614). -/
def Obligations.PortCommandsTakeEffect : Prop :=
  (∀ (c : Packet) (s : State), Ready opPortConfig c s → plen c = 14 + 12 * pb c 3 → pb c 3 ≤ 64 → hasPort s (pb c 0) = true → pb c 1 ≤ 2 →
      pb c 2 ≤ 1 → nsOk (pf c 10 4) = true → cfgBad s (pb c 0) (cfgItems c) = false → Up s (groupOf (pb c 0)) →
      (port s (pb c 0)).pendCfg.length < 4 → (pb c 1 = 1 → portHeld s (pb c 0) = false) →
      let w := eventWhen s (pb c 0) (pf c 4 6) (pf c 10 4)
      Executes opPortConfig c s .ok (whenBytes s (pb c 0) w) (fun s' => cfgDue (pb c 0) (askCaps (pb c 0)
        (modPort (pb c 0) (fun p => { p with pendCfg := p.pendCfg ++ [⟨pb c 1, pb c 2 == 1, cfgItems c, w⟩] }) s'))) (.portConfig c))
  ∧ (∀ (c : Packet) (s : State), Ready opPortState c s → plen c = 1 → hasPort s (pb c 0) = true → Up s (groupOf (pb c 0)) →
      Executes opPortState c s .ok (portStateBytes s (pb c 0)) id (.portState c))
  ∧ (∀ (c : Packet) (s : State), Ready opPortRetrain c s → plen c = 14 → hasPort s (pb c 0) = true → zeros c 1 3 = true →
      nsOk (pf c 10 4) = true → Up s (groupOf (pb c 0)) → enabled s (pb c 0) = true → (runningOps s).length < 16 →
      Starts opPortRetrain c s 5 (fun id s' => retrainDue (pb c 0) (modPort (pb c 0)
        (fun p => { p with retrainAt := p.retrainAt ++ [(eventWhen s (pb c 0) (pf c 4 6) (pf c 10 4), id)] }) s')) (.portRetrain c))
  ∧ (∀ (c : Packet) (s : State), Ready opPortRate c s → plen c = 14 → hasPort s (pb c 0) = true → pb c 1 ≤ 6 → pb c 2 ≤ 7 → pb c 3 ≤ 1 →
      nsOk (pf c 10 4) = true → Up s (groupOf (pb c 0)) → inService s (pb c 0) = false →
      Executes opPortRate c s .ok (natBE 5 0 ++ natBE 1 (txRate s (pb c 0)) ++ natBE 1 (rxRate s (pb c 0)))
        (storeRate (pb c 0) (pb c 1) (pb c 2) (pb c 3 == 1)) (.portRate c))
  ∧ (∀ (c : Packet) (s : State), Ready opPortRate c s → plen c = 14 → hasPort s (pb c 0) = true → pb c 1 ≤ 6 → pb c 2 ≤ 7 → pb c 3 ≤ 1 →
      nsOk (pf c 10 4) = true → Up s (groupOf (pb c 0)) → inService s (pb c 0) = true →
      let k := hostFrame s (pf c 4 6) (pf c 10 4)
      Executes opPortRate c s .ok (natBE 5 (toLink s (pb c 0) k) ++ natBE 1 (min (txRate s (pb c 0)) (pb c 1)) ++ natBE 1 (min (rxRate s (pb c 0)) (pb c 1)))
        (fun s' => let r := askRates (pb c 0) ⟨k, pb c 1, pb c 2, pb c 3 == 1, false, false⟩ s'
          modPort (pb c 0) (fun p => { p with pendRate := p.pendRate ++ [r.1] }) r.2) (.portRate c))
  ∧ (∀ (c : Packet) (o : Op) (s : State), Ready opOpAbort c s → plen c = 4 → findOp s (pf c 0 4) = some o →
      (o.st = .running → o.opcode ≠ 0xB1 → Executes opOpAbort c s .ok [] (fun s' =>
        abortNow o (modOp o.id (fun x => { x with st := .abortRequested }) s')) (.opAbort c))
      ∧ (o.st = .done → Executes opOpAbort c s .ok (natBE 1 ((o.final.map Status.code).getD 0)) id (.opAbort c)))
  ∧ (∀ (n : Port) (s : State),
      let due := (port s n.val).pendCfg.filter (fun c => whenDue s c.due)
      let u := modPort n.val (fun p => { p with pendCfg := p.pendCfg.filter (fun c => !whenDue s c.due) }) s
      exec (.portConfigApply n) s = .next (forL due (applyCfg n.val) u)
      ∧ (due = [] → exec (.portConfigApply n) s = .next u ∧ (∀ m, port u m = port s m)))
  ∧ (∀ (n : Port) (s : State), exec (.timeCompare n) s =
      .next (levelStart (commitDueCal n.val (substDue n.val (retrainDue n.val (cfgDue n.val s))))))
  ∧ (∀ s : State, (s.stage = .firmware → exec .tellerResync s = .next (forL (allPorts s) tellerCheck s))
      ∧ (s.stage ≠ .firmware → exec .tellerResync s = .next s))

/-- SURVEY_START, BANK_STATUS, BANK_POLICY, DIAG_START, DIAG_RESULT, CAL_RUN, CAL_RECORD_GET, CAL_RECORD_PUT and CAL_COMMIT (R274, R275, R292
to R294, R361 to R366, R392, R715, R716, R730 to R732). -/
def Obligations.BankDiagnosticAndCalibrationCommandsTakeEffect : Prop :=
  (∀ (c : Packet) (s : State), Ready opBankPolicy c s → plen c = 14 → pb c 0 < 32 → 8 ≤ pb c 1 → pb c 1 ≤ 28 → pb c 1 ≤ pb c 2 → pb c 2 ≤ 64 →
      pb c 3 ≤ 20 → 2048 ≤ pf c 4 2 → pf c 4 2 ≤ 32768 → 1 ≤ pf c 6 2 → pf c 6 2 ≤ 3600 → maskBeyond s (pf c 8 6) = false → Up s 8 →
      Executes opBankPolicy c s .ok (natBE 5 (nextWindow s)) (modCh (fun ch =>
        { ch with policy := { ch.policy with base := pb c 1 }, pendPolicy := some (⟨pb c 1, pb c 2, pb c 3, pf c 4 2, pf c 6 2, pf c 8 6⟩, pb c 0) }))
        (.bankPolicy c))
  ∧ (∀ (c : Packet) (s : State), Ready opBankStatus c s → Up s 8 →
      (pb c 0 = 0 → plen c = 1 → Executes opBankStatus c s .ok (bankSummary s) id (.bankStatus c))
      ∧ (pb c 0 = 1 → plen c = 2 → pb c 1 < 4 * portCount s →
        Executes opBankStatus c s .ok (readMem s (0xC00000 + 0x2000 * pb c 1) 119) id (.bankStatus c)))
  ∧ (∀ (c : Packet) (s : State), Ready opSurveyStart c s → plen c = 18 → pb c 0 ≤ 2 → (pb c 0 = 1 → pf c 1 6 ≠ 0) → pb c 7 ≤ 1 →
      maskBeyond s (pf c 1 6) = false → nsOk (pf c 14 4) = true → Up s 8 → s.ch.survey = none → s.diag.holder = none → (runningOps s).length < 16 →
      let n := (if pb c 0 = 2 then 0 else ((surveyRoster s (pb c 0) (pf c 1 6)).length + 9) / 10) + 3
      Starts opSurveyStart c s n (surveyBegin (pb c 0) (pf c 1 6) (if pb c 7 = 1 then some (pf c 8 6, pf c 14 4) else none) n) (.surveyStart c))
  ∧ (∀ (c : Packet) (s : State), Ready opDiagStart c s → plen c = 22 → 1 ≤ pb c 0 → pb c 0 ≤ 5 → hasPort s (pb c 1) = true → pb c 2 ≤ 15 →
      (pb c 0 ≠ 4 → pb c 2 ≠ 0) → pb c 3 = 0 → nsOk (pf c 10 4) = true → argsBad (pb c 0) (slice c.params 14 8) = false →
      Up s (groupOf (pb c 1)) → clkRun s 18 = true → (∀ r ∈ s.diag.runs, r.port ≠ pb c 1) → (usesStore (pb c 0) = true → storeHeld s = false) →
      diagReady s (pb c 0) (pb c 1) (slice c.params 14 8) = true → (runningOps s).length < 16 →
      Starts opDiagStart c s (diagSteps (pb c 0) (pb c 2)) (fun op => modDiag (fun d =>
        { d with runs := d.runs ++ [newRun c op], holder := if usesStore (pb c 0) then some op else d.holder })) (.diagStart c))
  ∧ (∀ (c : Packet) (r : DiagRes) (s : State), Ready opDiagResult c s → plen c = 4 → s.diag.results.find? (fun r => r.op == pf c 0 4) = some r →
      Executes opDiagResult c s .ok (r.header ++ r.data) id (.diagResult c))
  ∧ (∀ (c : Packet) (s : State), Ready opCalRecordGet c s → plen c = 4 → pb c 2 < 2 → pb c 3 = 0 →
      (pb c 0 = 1 → hasPort s (pb c 1) = true → Executes opCalRecordGet c s .ok (targetRecord s (pb c 1) (pb c 2)) id (.calRecordGet c))
      ∧ (pb c 0 = 2 → hasLane s (pb c 1) = true → Executes opCalRecordGet c s .ok (targetRecord s (64 + pb c 1) (pb c 2)) id (.calRecordGet c))
      ∧ (pb c 0 = 3 → pb c 1 = 0 → pb c 2 = 0 →
        Executes opCalRecordGet c s .ok (recordBytes' s 3 0 0 s.cal.device (deviceBody s) false) id (.calRecordGet c)))
  ∧ (∀ (c : Packet) (t : Nat) (s : State), Ready opCalRecordPut c s → (plen c = 68 ∨ plen c = 900) → putTarget s c.params = some t →
      calHeld s t = false →
      (putOk s c.params = false → Executes opCalRecordPut c s .recordBad [] (evG F.CAL_EVENTS_RECORD_BAD) (.calRecordPut c))
      ∧ (putOk s c.params = true → Executes opCalRecordPut c s .ok [] (modTarget t (fun x => { x with staged :=
          ⟨beAt c.params 8 4, beAt c.params 12 6, beAt c.params 18 4, byteAt c.params 31 % 4,
            if byteAt c.params 31 % 2 = 1 then allSets t else 0, slice c.params 32 (c.params.length - 36)⟩ })) (.calRecordPut c)))
  ∧ (∀ (c : Packet) (t : Nat) (s : State), Ready opCalCommit c s → plen c = 14 → calTargetOf s (pb c 0) (pb c 1) = some t → zeros c 2 2 = true →
      nsOk (pf c 10 4) = true → Up s (calBlockOf t) → calHeld s t = false → (calTarget s t).commit = none →
      (t < 64 → inService s t = true → Executes opCalCommit c s .ok (natBE 5 (toLink s t (hostFrame s (pf c 4 6) (pf c 10 4))))
        (modTarget t (fun x => { x with commit := some (.frame (hostFrame s (pf c 4 6) (pf c 10 4))) })) (.calCommit c))
      ∧ ((64 ≤ t ∨ inService s t = false) → Executes opCalCommit c s .ok (natBE 5 0)
        (modTarget t (fun x => { x with commit := some (.time (pf c 4 6) (pf c 10 4)) })) (.calCommit c)))
  ∧ (∀ (c : Packet) (t : Nat) (s : State), Ready opCalRun c s → plen c = 18 → calTargetOf s (pb c 0) (pb c 1) = some t → pb c 4 < 4 → pb c 5 ≤ 2 →
      pf c 6 2 ≤ 3600 → nsOk (pf c 14 4) = true → Up s (calBlockOf t) → calHeld s t = false → (calTarget s t).commit = none →
      (runningOps s).length < 16 →
      (pb c 0 = 1 → 1 ≤ pb c 2 → pb c 2 ≤ 7 → 1 ≤ pb c 3 → pb c 3 ≤ 15 → (∀ r ∈ s.diag.runs, r.port ≠ t) →
        (calNeedsDrop s t (maskPairs (pb c 3)) = true → bitsOf (pb c 4) 1 1 = 1) →
        Starts opCalRun c s (calSteps (newCalRun c 0)) (fun op s' => wrFld (calBase t) F.CAL_PORT_RUNNING 1
          (modCal (fun x => { x with runs := x.runs ++ [newCalRun c op] }) s')) (.calRun c))
      ∧ (pb c 0 = 2 → pb c 2 = 8 → pb c 3 = 0 → (lane s (t - 64)).test = none →
        Starts opCalRun c s 2 (fun op s' => wrFld (calBase t) F.CAL_PORT_RUNNING 1
          (modCal (fun x => { x with runs := x.runs ++ [newCalRun c op] }) s')) (.calRun c)))

/-- AUDIT_CONFIG, AUDIT_RESULT, TIME_ADJUST, TIME_ACK, LAUNCH_CTX_SET, POWER_LEVEL, SLEEP, PAD_RELEASE and CLOCK_SELECT (R458 to R465, R473,
R486, R487, R635, R669 to R676, R693, R739 to R742). -/
def Obligations.AuditTimeAndPowerCommandsTakeEffect : Prop :=
  (∀ (c : Packet) (s : State), Ready opAuditConfig c s → pb c 0 = 1 → plen c = 14 → nsOk (pf c 10 4) = true → auditBadNames s c = false →
      (∀ b ∈ auditNamed (pb c 2) (pb c 3), clkRun s b = true ∧ auditConflict s b = false) →
      s.audit.due = none → s.audit.state ≠ 1 → s.audit.state ≠ 2 →
      let bs := auditNamed (pb c 2) (pb c 3)
      ∃ est : Nat, Executes opAuditConfig c s .ok (natBE 4 est ++ natBE 2 (auditCount (pb c 1) bs)) (fun s' =>
        if totalNs (pf c 4 6) (pf c 10 4) ≤ nowTotal s' then auditBegin (pb c 1) bs (draw s')
        else modAudit (fun a => { a with due := some ⟨pf c 4 6, pf c 10 4, pb c 1, bs⟩ }) (draw s')) (.auditConfig c))
  ∧ (∀ (c : Packet) (s : State), Ready opAuditConfig c s → pb c 0 = 2 → plen c = 14 → nsOk (pf c 10 4) = true → pb c 1 ≤ 2 → pb c 2 < 128 →
      pb c 3 < 16 → s.audit.state ≠ 1 →
      Executes opAuditConfig c s .ok (natBE 4 0 ++ natBE 2 0)
        (fun s' => if s'.audit.state = 2 then auditOver (forL s'.audit.held auditFree s') else s') (.auditConfig c))
  ∧ (∀ (c : Packet) (s : State), Ready opAuditResult c s → plen c = 0 → Executes opAuditResult c s .ok (auditReply s) id (.auditResult c))
  ∧ (∀ (c : Packet) (s : State), Ready opTimeAdjust c s → adjBad c s = false → clkRun s 16 = true → (pb c 0 = 5 → anyPort s onGrid = false) →
      Executes opTimeAdjust c s .ok (adjReply c s) (adjApply c) (.timeAdjust c))
  ∧ (∀ (c : Packet) (s : State), Ready opTimeAck c s → plen c = 2 → clkRun s 16 = true →
      (rdG s F.TIME_STATUS_HOLD = 1 → pf c 0 2 = s.time.epoch % 65536 → Executes opTimeAck c s .ok [] endHold (.timeAck c))
      ∧ (rdG s F.TIME_STATUS_HOLD ≠ 1 → Executes opTimeAck c s .ok [] (fun s' => s') (.timeAck c)))
  ∧ (∀ (c : Packet) (s : State), Ready opLaunchCtxSet c s → plen c = 24 → pf c 0 2 ≤ 16383 → 1 ≤ pb c 2 → pb c 2 ≤ 3 → pb c 4 < 32 →
      nsOk (pf c 12 4) = true → (pb c 2 = 1 → ctxBad c s = false) → clkRun s 16 = true →
      Executes opLaunchCtxSet c s .ok ((ctxBytes (ctxAfter c s)).take 1 ++ natBE 6 (ctxAfter c s).sec ++ natBE 4 (ctxAfter c s).ns)
        (fun s' => modCtx (pf c 0 2) (fun _ => ctxAfter c s') s') (.launchCtxSet c))
  ∧ (∀ (c : Packet) (s : State), Ready opPowerLevel c s → plen c = 14 → maskGroups (pb c 0) ≠ [] → pb c 0 < 64 → pb c 1 ≤ 3 → pb c 2 ≤ 3 →
      pb c 3 = 0 → nsOk (pf c 10 4) = true → (∀ g ∈ maskGroups (pb c 0), hasGroup s g = true ∧ Up s g) →
      s.power.levelOp = none → s.power.sleep = none → s.power.wakeStep = 0 → (runningOps s).length < 16 →
      (∀ n ∈ allPorts s, groupOf n ∈ maskGroups (pb c 0) → (sirAbove s (pb c 1) n = true → bitsOf (pb c 2) 0 0 = 1)
        ∧ (stdAbove s (pb c 1) n = true → bitsOf (pb c 2) 1 1 = 1)) →
      let o := fun (id : Nat) (u : State) => (⟨id, (maskGroups (pb c 0)).map (fun g => (g, levelOf u g)), pb c 1, pf c 4 6, pf c 10 4,
        hostFrame u (pf c 4 6) (pf c 10 4), false, false, false, false, false⟩ : LevelOp)
      Starts opPowerLevel c s 2 (fun id s' => levelStart (modPower (fun p => { p with levelOp := some (o id s') }) s')) (.powerLevel c))
  ∧ (∀ (c : Packet) (s : State), Ready opSleep c s → plen c = 8 → 1 ≤ pb c 0 → pb c 0 ≤ 2 → pb c 1 ≤ 3 → pf c 2 6 < 2 ^ portCount s →
      s.power.sleep = none → s.power.levelOp = none → s.power.wakeStep = 0 → (runningOps s).length < 16 →
      let retain := pb c 0 == 2
      Starts opSleep c s (stopOrder s retain).length (fun id s' => wrG F.PWR_STATUS_STATE (if retain then 3 else 1)
        (modPower (fun p => { p with sleep := some ⟨id, retain, [], stopOrder s' retain⟩, wakeLatch := none })
          (wrG F.WAKE_CTRL_CP_WAKE (bitsOf (pb c 1) 1 1) (wrG F.WAKE_CTRL_MDIO_WAKE (bitsOf (pb c 1) 0 0)
            (wrG F.WAKE_ARM_HI (pf c 2 6 / 2 ^ 32) (wrG F.WAKE_ARM_LO (pf c 2 6 % 2 ^ 32) s')))))) (.sleep c))
  ∧ (∀ (c : Packet) (s : State), Ready opPadRelease c s → plen c = 4 → 1 ≤ pb c 0 → pb c 0 < 16 → zeros c 1 3 = true →
      (rdG s F.PWR_STATUS_STATE = 0 → Executes opPadRelease c s .ok [] (padRelease (pb c 0)) (.padRelease c))
      ∧ (rdG s F.PWR_STATUS_STATE ≠ 0 → Executes opPadRelease c s .notReady [] id (.padRelease c)))
  ∧ (∀ (c : Packet) (s : State), Ready opClockSelect c s → plen c = 8 → zeros c 5 3 = true →
      (pb c 0 ≠ 0x30 → switchNamed s (pb c 0) (pb c 1) = true → switchOther s (pb c 0) (pb c 1) = false →
        (sourceReady s (pb c 0) (pb c 1) = true → interlock s (pb c 0) (pb c 1) = false →
          Executes opClockSelect c s .ok (natBE 1 (pb c 1) ++ natBE 1 (bit (!sourceReady s (pb c 0) (switchNow s (pb c 0)))))
            (switchTo (pb c 0) (pb c 1)) (.clockSelect c))
        ∧ ((sourceReady s (pb c 0) (pb c 1) = false ∨ interlock s (pb c 0) (pb c 1) = true) →
          Executes opClockSelect c s .notReady [] id (.clockSelect c)))
      ∧ (pb c 0 = 0x30 → clkoutKhz s (pb c 1) ≠ none → 1 ≤ pf c 2 2 → pf c 2 2 ≤ 4096 → pb c 4 ≤ 1 →
        Executes opClockSelect c s .ok (natBE 1 (pb c 1) ++ [0])
          (clkoutChange (BitVec.ofNat 32 (pb c 4 * 2 ^ 31 + pb c 1 * 2 ^ 24 + pf c 2 2 % 4096))) (.clockSelect c)))

/-- COUNTER_CONFIG, SAMPLER_CONFIG, IMAGE_LOAD, IMAGE_ACTIVATE, LANE_TRAIN, LANE_TEST and VAULT_PROGRAM (R446 to R449, R548, R549, R579 to
R584, R764, R766). -/
def Obligations.MonitorImageLaneAndVaultCommandsTakeEffect : Prop :=
  (∀ (c : Packet) (s : State), Ready opCounterConfig c s → plen c = 30 → pb c 0 ∈ unitsOf s → pb c 1 ≠ 0 → 1 ≤ pb c 2 → pb c 2 ≤ 3 → pb c 3 = 0 →
      nsOk (pf c 26 4) = true → pmReserved c = false →
      pmBad (pb c 0) (BitVec.ofNat 32 (pf c 4 4)) (BitVec.ofNat 32 (pf c 8 4)) (BitVec.ofNat 32 (pf c 12 4)) (BitVec.ofNat 32 (pf c 16 4)) = false →
      (pb c 0 ≠ 0x18 → clkRun s (pb c 0) = true) → Executes opCounterConfig c s .ok [] (pmAct c) (.counterConfig c))
  ∧ (∀ (c : Packet) (s : State), Ready opSamplerConfig c s → plen c = 14 → 1 ≤ pb c 0 → pb c 0 ≤ 3 → pb c 1 ≤ 3 → pb c 2 ≤ 15 → pb c 3 ≤ 1 →
      pf c 4 6 ≠ 0 → pf c 4 6 < 2 ^ portCount s → clkRun s 0x11 = true → Executes opSamplerConfig c s .ok [] (samplerAct c) (.samplerConfig c))
  ∧ (∀ (c : Packet) (s : State), Ready opImageLoad c s → 8 ≤ plen c → plen c ≤ 4100 → plen c % 4 = 0 → pf c 0 4 + plen c ≤ 786436 →
      imageBusy s = false → Executes opImageLoad c s .ok [] (imageLoad (pf c 0 4) (c.params.drop 4)) (.imageLoad c))
  ∧ (∀ (c : Packet) (s : State), Ready opImageActivate c s → plen c = 1 → zeros c 0 1 = true → imageBusy s = false → runningOps s = [] →
      rdG s F.VAULT_STATUS_READ_LOCK ≠ 1 →
      (imageWhole s.images.staging = false → Executes opImageActivate c s .recordBad [] id (.imageActivate c))
      ∧ (imageWhole s.images.staging = true → Starts opImageActivate c s 2
          (fun id => modImages (fun m => { m with activating := some id, verified := false })) (.imageActivate c)))
  ∧ (∀ (c : Packet) (s : State), Ready opLaneTrain c s → plen c = 2 → pb c 0 < 16 → maskLanes (pb c 0) ≠ [] → pb c 1 < 3 →
      (∀ g ∈ maskLanes (pb c 0), hasLane s g = true ∧ Up s (12 + g) ∧ laneBusy s g = false ∧ laneHeld s g = false) →
      (runningOps s).length < 16 →
      Starts opLaneTrain c s 5 (fun id s' => laneProgress id (forL (maskLanes (pb c 0)) (fun g s => laneGo g 1 s) (forL (maskLanes (pb c 0)) (fun g => modLane g
        (fun l => { l with trainOp := some id, trainRes := none, tableOnly := pb c 1 == 1, adaptOnly := pb c 1 == 2, nextEntry := 0 })) s')))
        (.laneTrain c))
  ∧ (∀ (c : Packet) (s : State), Ready opLaneTest c s → plen c = 15 → hasLane s (pb c 0) = true → pb c 1 ≠ 0 → pb c 2 < 4 →
      pb c 3 ∈ [0, 7, 0xF, 0x17, 0x1F] → pb c 4 ≤ 2 → (pb c 3 = 0 → pb c 4 ≠ 0 ∧ pb c 2 < 2) → 1 ≤ pf c 5 2 → pf c 5 2 ≤ 1024 → 1 ≤ pf c 11 4 →
      pf c 11 4 ≤ 3600000 → Up s (12 + pb c 0) → laneBusy s (pb c 0) = false → (runningOps s).length < 16 →
      Starts opLaneTest c s 3 (fun id s' => opProgress id (if decide (2 ≤ pb c 2) = true then 1 else 2) 3 0 (modLane (pb c 0)
        (fun l => { l with test := some ⟨id, pb c 1, pb c 2, pb c 3, pb c 4, pf c 5 2, pf c 7 4, pf c 11 4, 0, 0⟩ })
        (if pb c 3 = 0 then s' else laneSet (pb c 0) 6 s'))) (.laneTest c))
  ∧ (∀ (c : Packet) (v : VField) (s : State), Ready opVaultProgram c s → vField (pb c 0) = some v → pf c 4 2 = v.len → pb c 0 ≠ 2 →
      plen c = 24 + v.len → zeros c 1 3 = true → zeros c 6 2 = true → (v.bit ≠ none → slice c.params 24 v.len = [1]) →
      let d := slice c.params 24 v.len
      let auth := (hmac (sessionKey s c) (natBE 2 c.seq.toNat ++ slice c.params 0 8 ++ d)).take 16
      (slice c.params 8 16 ≠ auth →
        exec (.vaultProgram c) s = .next (carryOut opVaultProgram c (Plan.refuse .denied 0) s))
      ∧ (slice c.params 8 16 = auth → s.vault.burn = none → vSpent s (pb c 0) = true →
        exec (.vaultProgram c) s = .next (carryOut opVaultProgram c (Plan.refuse .locked 0) s))
      ∧ (slice c.params 8 16 = auth → s.vault.burn = none → vSpent s (pb c 0) = false → missesBurned s v d = false →
          (∀ k, revokeNeeds (pb c 0) = some k → vProgrammed s k = true) →
          (rdG s F.VAULT_STATUS_FUSE_PRESENT = 0 ∨ coreWarn s = true →
            exec (.vaultProgram c) s = .next (carryOut opVaultProgram c (Plan.retryIn .notReady 1) s))
          ∧ (rdG s F.VAULT_STATUS_FUSE_PRESENT ≠ 0 → coreWarn s = false → (runningOps s).length < 16 →
            Starts opVaultProgram c s 3 (fun id s' => opProgress id 2 3 33
              (modVault (fun x => { x with burn := some ⟨id, pb c 0, v.offset, burnData v d, 0, false, none⟩ }) s')) (.vaultProgram c))))

/-- SIGNATURE_VERIFIED, IMAGE_START, VAULT_WORD_BURN, VDD_FUSE, SCAN_EN and boundary scan (R550 to R552, R583 to R586, R651, R790). -/
def Obligations.ImagesVaultAndScanEvents : Prop :=
  (∀ s : State, s.images.verified = false → coresRun s = true →
      (∀ id, s.images.activating = some id →
        (imageSigned s s.images.staging = false → exec .signatureVerified s = .next (activationFails id .recordBad s))
        ∧ (imageSigned s s.images.staging = true → imageFits s s.images.staging = false →
          exec .signatureVerified s = .next (activationFails id .version s))
        ∧ (imageSigned s s.images.staging = true → imageFits s s.images.staging = true → exec .signatureVerified s =
          .next (opProgress id 2 2 50 (opItem id 0 0 0 0 { s with images := { s.images with verified := true } }))))
      ∧ (s.images.activating = none → s.images.romStart = true →
        (imageWhole s.images.active = true → imageSigned s s.images.active = true →
          exec .signatureVerified s = .next { s with images := { s.images with verified := true } })
        ∧ (imageWhole s.images.active = false ∨ imageSigned s s.images.active = false →
          exec .signatureVerified s = .next (journalEvent 0 0x12 0 0 { s with images := { s.images with romStart := false } }))))
  ∧ (∀ s : State, s.stage ≠ .restarting → s.images.verified = true → coresRun s = true →
      ∃ t, exec .imageStart s = .next t ∧ t.stage = .restarting ∧ t.sec.sessions = [] ∧ t.cp.helloVersion = none ∧ t.cp.current = none
        ∧ t.images = if s.images.activating.isSome then { s.images with active := s.images.staging, staging := s.images.active } else s.images)
  ∧ (∀ s : State, s.stage = .restarting → ∃ t, exec .imageStart s = .next t ∧ t.stage = .firmware ∧ t.images.active = s.images.active
      ∧ t.images.fwVersion = beNat (slotBytes s.images.active 12 4) ∧ t.images.activating = none ∧ t.images.romStart = false)
  ∧ (∀ (b : Burn) (s : State), s.vault.burn = some b → b.spentStep = false →
      let o := b.offset + 4 * b.word
      let d := slice b.data (4 * b.word) 4
      (∃ part, exec (.vaultWordBurn false) s = .next (burnEnd b .incomplete (draw (burnBytes o part s))))
      ∧ (∀ st, abortAsked (burnBytes o d s) b.op = false → b.stop = some st → exec (.vaultWordBurn true) s = .next (burnEnd b st (burnBytes o d s)))
      ∧ (abortAsked (burnBytes o d s) b.op = true → exec (.vaultWordBurn true) s = .next (burnEnd b .aborted (burnBytes o d s)))
      ∧ (abortAsked (burnBytes o d s) b.op = false → b.stop = none → b.data.length ≤ 4 * (b.word + 1) → exec (.vaultWordBurn true) s =
          .next (opProgress b.op 3 3 90 (modVault (fun v => { v with burn := some { b with spentStep := true } }) (burnBytes o d s))))
      ∧ (abortAsked (burnBytes o d s) b.op = false → b.stop = none → 4 * (b.word + 1) < b.data.length → exec (.vaultWordBurn true) s =
          .next (opProgress b.op 2 3 (33 + 50 * (b.word + 1) * 4 / b.data.length)
            (modVault (fun v => { v with burn := some { b with word := b.word + 1 } }) (burnBytes o d s)))))
  ∧ (∀ (o : Nat) (d : List Byte) (s : State), (∀ i, i < d.length → fuse (burnBytes o d s) (o + i) = fuse s (o + i) ||| d.getD i 0)
      ∧ (∀ x, x < o ∨ o + d.length ≤ x → fuse (burnBytes o d s) x = fuse s x))
  ∧ (∀ s : State, (∃ t, exec (.vddFuseChange true) s = .next t ∧ rdG t F.VAULT_STATUS_FUSE_PRESENT = 1 ∧ OnlyWords [F.VAULT_STATUS_FUSE_PRESENT.reg] s t)
      ∧ (∃ t, exec (.vddFuseChange false) s = .next t ∧ rdG t F.VAULT_STATUS_FUSE_PRESENT = 0
          ∧ t.vault.burn = s.vault.burn.map (fun b => { b with stop := some .incomplete }) ∧ t.vault.fuses = s.vault.fuses))
  ∧ (∀ s : State, (s.sec.scanRequested = true → ∃ t, exec .scanEn s = .next t ∧ rdG t F.VAULT_STATUS_READ_LOCK = 1 ∧ t.vault.shadow = []
        ∧ t = wrG F.VAULT_STATUS_READ_LOCK 1 (modVault (fun v => { v with shadow := [] }) (endSessions 6 (safeEnter
          (fun s => holdAll (portsDown (fun _ => true) 5 s)) { s with sec := { s.sec with scanRequested := false, scanOpen := true } }))))
      ∧ (s.sec.scanRequested = false → exec .scanEn s = .next s))
  ∧ (∀ (i : ScanInstr) (s : State),
      let u := fun x => modClk (fun c => { c with safeNow := { c.safeNow with scanBoundary := x } }) s
      (s.clk.safeNow.scanBoundary = none → exec (.boundaryScanInstruction i) s = .next (forL (allLanes s) laneOff (portsDown (fun _ => true) 5 (u (some i))))
        ∧ exec .boundaryScanExit s = .next s)
      ∧ (∀ j, s.clk.safeNow.scanBoundary = some j → exec (.boundaryScanInstruction i) s = .next (u (some i))
        ∧ exec .boundaryScanExit s = .next (wakePorts (fun _ => true) (forL (allLanes s) laneAuto (u none)))))

/-- R61 on the preferences, the partner's MULTIPORT and the seeds. -/
def Obligations.MastershipIsResolvedAsR61Says : Prop :=
  (∀ (own peer : Nat) (multi : Bool) (seed peerSeed : Nat), own ≤ 2 → peer ≤ 2 →
    let r := mastership own peer multi seed peerSeed
    let fault := (own = 1 ∧ peer = 1) ∨ (own = 2 ∧ peer = 2)
    let auto := own = 0 ∧ peer = 0
    (fault → r = .fault)
    ∧ (¬ fault → (own = 1 ∨ peer = 2) → r = .master)
    ∧ (¬ fault → ¬ (own = 1 ∨ peer = 2) → (own = 2 ∨ peer = 1) → r = .slave)
    ∧ (auto → multi = false → r = .master)
    ∧ (auto → multi = true → peerSeed < seed → r = .master)
    ∧ (auto → multi = true → seed < peerSeed → r = .slave)
    ∧ (auto → multi = true → seed = peerSeed → r = .tie))
  ∧ (∀ own peer seed peerSeed : Nat, own ≤ 2 → peer ≤ 2 →
    (mastership own peer true seed peerSeed = .master ↔ mastership peer own true peerSeed seed = .slave)
    ∧ (mastership own peer true seed peerSeed = .fault ↔ mastership peer own true peerSeed seed = .fault)
    ∧ (mastership own peer true seed peerSeed = .tie ↔ mastership peer own true peerSeed seed = .tie))

/-- AN_PAGE, FLP_BURST_SEND, AN_COMPLETE, LINK_FAIL_INHIBIT_EXPIRY, NO_LINE_ENERGY, PCS_LINK_UP, PCS_LINK_DOWN and FAST_RETRAIN. -/
def Obligations.NegotiationEventsDoWhatTheSpecSays : Prop :=
  ∀ (n : Port) (s : State),
    (∀ b : Burst, lineFree s n.val = true →
      ((port s n.val).st = .negotiating → ∀ src, ghostSource s n.val b.ghostOf = some src →
        exec (.anPage n b) s = .next (ghostPage n.val b.pair.val src s))
      ∧ ((port s n.val).st = .negotiating → ghostSource s n.val b.ghostOf = none → exec (.anPage n b) s = .next (goodPage n.val b.pair.val b
          (if b.strongerDb && (SMap.get (port s n.val).an.inProgress none b.pair.val).isSome
           then ghostSrc n.val 1 b.pair.val 0 (addCnt (portBase n.val) F.AN_GHOST_ABANDON 1 s) else s)))
      ∧ ((port s n.val).st = .listen → ghostSource s n.val b.ghostOf = none →
        exec (.anPage n b) s = .next (takePage n.val b (leaveListen n.val (diagBusy n.val (wakeDoze s)))))
      ∧ ((port s n.val).st = .service → ghostSource s n.val b.ghostOf = none → (port s n.val).serviceS + 16 ≤ s.time.s →
        exec (.anPage n b) s = .next (downRestart n.val 2 s))
      ∧ ((port s n.val).st = .stdUp → exec (.anPage n b) s = .next s))
    ∧ ((port s n.val).st = .negotiating → ∃ v, exec (.flpBurstSend n) s =
        .next (draw (modPort n.val (fun p => { p with an := { p.an with flpInterval := v } }) s)))
    ∧ (∀ p : PartnerAdv, (port s n.val).st = .negotiating → lineFree s n.val = true →
      let a := (port s n.val).an
      (p.sir = none → exec (.anComplete n p) s = .next (resolveStd n.val p s))
      ∧ (∀ b : Ability, p.sir = some b →
        let ver := commonVersion (wordBits a.ctrl 12 11) b.versions
        let m := mastership (pref (wordBits a.ctrl 14 13)) (pref b.msPref.val) b.multiport a.seed.toNat b.seed.toNat
        let u := modPort n.val (fun q => { q with an := { q.an with ties := 0, msFault := none } }) s
        (ver = 0 → exec (.anComplete n p) s = .next (resolveStd n.val p (evP n.val F.AN_EVENTS_VERSION_NONE s)))
        ∧ (ver ≠ 0 → (a.offer = false ∨ p.parallel = true) → exec (.anComplete n p) s = .next (resolveStd n.val p s))
        ∧ (ver ≠ 0 → a.offer = true → p.parallel = false → a.msFault ≠ some (a.ctrl, b.msPref.val) →
          (m = .master → exec (.anComplete n p) s = .next (beginTraining n.val ver true b (showResult n.val 7 true ver true p u)))
          ∧ (m = .slave → exec (.anComplete n p) s = .next (beginTraining n.val ver false b (showResult n.val 7 true ver false p u)))
          ∧ ((m = .fault ∨ m = .tie ∧ 7 ≤ a.ties) → exec (.anComplete n p) s = .next (msFault n.val a.ctrl b.msPref.val p s))
          ∧ (m = .tie → a.ties < 7 → exec (.anComplete n p) s =
              .next (startAn n.val (modPort n.val (fun q => { q with an := { q.an with ties := q.an.ties + 1 } }) s))))
        ∧ (ver ≠ 0 → a.offer = true → p.parallel = false → a.msFault = some (a.ctrl, b.msPref.val) →
          exec (.anComplete n p) s = .next (msFault n.val a.ctrl b.msPref.val p s))))
    ∧ (∀ p : PartnerAdv, (port s n.val).st ≠ .negotiating → exec (.anComplete n p) s = .next s)
    ∧ ((port s n.val).st = .inhibit → exec (.linkFailInhibitExpiry n) s = .next (startAn n.val s))
    ∧ ((port s n.val).st = .stdTraining → rdP s n.val F.AN_ENABLE = 1 → exec (.linkFailInhibitExpiry n) s = .next (startAn n.val (countFail n.val s)))
    ∧ (linkUp s n.val = false → hasPort s n.val = true →
      ((port s n.val).st = .selfLoop → exec (.noLineEnergy n) s = .next (startAn n.val (restoreModes n.val s)))
      ∧ ((port s n.val).st ≠ .selfLoop → exec (.noLineEnergy n) s = .next (restoreModes n.val s)))
    ∧ (linkUp s n.val = true → exec (.noLineEnergy n) s = .next s)
    ∧ ((port s n.val).st = .stdTraining → lineFree s n.val = true → ∃ a', exec (.pcsLinkUp n) s =
        .next (retrainDone n.val (setReason n.val F.DEGRADE_DOWNSHIFT (port s n.val).an.downshifted
          (portUp n.val (modPort n.val (fun p => { p with st := .stdUp, an := a' }) s))))
        ∧ ((port s n.val).an.resolved = 6 → a' = { (port s n.val).an with fail10 := 0 }))
    ∧ (∀ lost : Bool, ((port s n.val).st = .stdUp → exec (.pcsLinkDown n lost) s = .next (downRestart n.val (if lost then 1 else 2) s))
        ∧ ((port s n.val).st ≠ .stdUp → exec (.pcsLinkDown n lost) s = .next s))
    ∧ ((port s n.val).st = .stdUp → exec (.fastRetrain n) s =
        .next (setReason n.val F.DEGRADE_FAST_RETRAIN false (setReason n.val F.DEGRADE_FAST_RETRAIN true s)))

/-- HANDSHAKE_DETECTOR_FIRE, HANDSHAKE_CONFIRM_TIMEOUT, HANDSHAKE_BURST, SLAVE_BURST, PARTNER_SILENT, FIRST_BURST_TIMEOUT, LISTEN_WINDOW,
LISTEN_TDR, PHASE_LIMIT, PHASE_MISMATCH and TRAINING_DEADLINE. -/
def Obligations.HandshakeAndListenEventsDoWhatTheSpecSays : Prop :=
  ∀ (n : Port) (s : State),
    (∀ (p : Pair) (d : Fin 2), lineFree s n.val = true → isSir s n.val = true → exec (.handshakeDetectorFire n p d) s =
        .next (modTr n.val (fun t => { t with firing := SMap.set t.firing 0 (2 * p.val + d.val) 1 }) s))
    ∧ (∀ (p : Pair) (d : Fin 2),
      (SMap.get (port s n.val).tr.firing 0 (2 * p.val + d.val) = 1 → exec (.handshakeConfirmTimeout n p d) s =
        .next (addCnt (portBase n.val) F.SIR_TRAIN_FALSE_HS 1 (modTr n.val (fun t => { t with firing := SMap.set t.firing 0 (2 * p.val + d.val) 0 }) s)))
      ∧ (SMap.get (port s n.val).tr.firing 0 (2 * p.val + d.val) ≠ 1 → exec (.handshakeConfirmTimeout n p d) s = .next s))
    ∧ (∀ m : HsMsg,
      let s0 := modTr n.val (fun t => { t with firing := [] }) s
      let good := m.crcOk = true ∧ m.ver.val = (port s n.val).tr.ver ∧ m.role.val = (if (port s n.val).tr.master then 2 else 1)
        ∧ m.seed = (port s n.val).an.peerSeed ∧ m.peerSeed = (port s n.val).an.seed
      (isSir s n.val = false → exec (.handshakeBurst n m) s = .next s)
      ∧ (isSir s n.val = true →
        (∀ src, ghostSource s n.val m.ghostOf = some src → exec (.handshakeBurst n m) s =
          .next (ghostSrc n.val 0 0 src (addCnt (portBase n.val) F.AN_GHOST_SELF 1 s0)))
        ∧ (ghostSource s n.val m.ghostOf = none →
          let s1 := if m.stronger then ghostSrc n.val 1 0 0 (addCnt (portBase n.val) F.AN_GHOST_ABANDON 1 s0) else s0
          (¬ good → exec (.handshakeBurst n m) s = .next (addCnt (portBase n.val) F.SIR_TRAIN_FALSE_HS 1 s1))
          ∧ (good → inPhase s n.val 1 = true →
            ((port s1 n.val).tr.master = true → (port s1 n.val).tr.sEcho = none → ∃ k, (k = s1.time.s + 8 ∨ k = s1.time.s + 9) ∧
              exec (.handshakeBurst n m) s = .next (draw (modTr n.val (fun t =>
                { t with confirmed := true, heard := true, peerHeard := m.heard, sEcho := some k }) s1)))
            ∧ ((port s1 n.val).tr.master = true → (port s1 n.val).tr.sEcho ≠ none → exec (.handshakeBurst n m) s = .next s1)
            ∧ ((port s1 n.val).tr.master = false → 
              let echo := if m.heard ∧ m.echoIn.val ≠ 0 then some (s1.time.s + m.echoIn.val) else (port s1 n.val).tr.sEcho
              let off : Int := (m.sField.toNat : Int) - s1.time.s
              exec (.handshakeBurst n m) s = .next (modTr n.val (fun t =>
                { t with confirmed := true, heard := t.heard || m.heard, peerHeard := t.peerHeard || m.heard, sOff := off, sEcho := echo }) s1)))
          ∧ (good → inPhase s n.val 1 = false → (channelOpen s n.val || earlyService s n.val) = true →
              exec (.handshakeBurst n m) s = .next (restartHandshake n.val s1))
          ∧ (good → inPhase s n.val 1 = false → (channelOpen s n.val || earlyService s n.val) = false →
              exec (.handshakeBurst n m) s = .next (downRestart n.val 2 s1)))))
    ∧ (inPhase s n.val 1 = true → (port s n.val).tr.master = false → (port s n.val).tr.confirmed = true → exec (.slaveBurst n) s =
        .next (modTr n.val (fun t => { t with hsOut := hsMessage s n.val false }) s))
    ∧ ((port s n.val).st = .training → exec (.partnerSilent n) s = .next (toListen n.val s)
        ∧ exec (.trainingDeadline n) s = .next (attemptFails n.val s)
        ∧ (phase s n.val ≠ 4 → exec (.phaseLimit n) s = .next (restartHandshake n.val (sendMsg n.val 0x5F false (.tAbort 1) s))))
    ∧ ((port s n.val).st ≠ .training → exec (.trainingDeadline n) s = .next s ∧ exec (.phaseLimit n) s = .next s
        ∧ (inService s n.val = true → inShutter s n.val = false → exec (.partnerSilent n) s = .next (downRestart n.val 1 s)))
    ∧ (inPhase s n.val 1 = true → (port s n.val).tr.confirmed = false → exec (.firstBurstTimeout n) s = .next (toListen n.val s))
    ∧ ((channelOpen s n.val || earlyService s n.val) = true → exec (.phaseMismatch n) s = .next (restartHandshake n.val s))
    ∧ ((port s n.val).st = .listen → 250 ≤ (port s n.val).tr.listenLimit → (port s n.val).tr.listenTx = true →
        ∃ w, 250 ≤ w ∧ w ≤ (port s n.val).tr.listenLimit ∧ exec (.listenWindow n) s = .next (draw (modTr n.val (fun t =>
          { t with listenTx := false, listenWindow := w, listenLimit := min (2 * t.listenLimit) (listenMax s n.val) }) s)))
    ∧ ((port s n.val).st = .listen → (port s n.val).tr.listenTx = false → exec (.listenWindow n) s =
        .next (modTr n.val (fun t => { t with listenTx := true }) s))
    ∧ (∀ res : List (Option (BitVec 11)), (port s n.val).st = .listen → rdP s n.val F.SIR_TRAIN_CTRL_AUTO_DIAG = 1 →
        (port s n.val).tr.listenTx = false → (port s n.val).tr.tdrDone = false → 250 ≤ (port s n.val).tr.listenWindow →
        exec (.listenTdr n true res) s = .next (leaveListen n.val s)
        ∧ exec (.listenTdr n false res) s = .next (whenB (res.any (·.isSome)) (evP n.val F.TRAIN_EVENTS_OPEN_FOUND)
            (forN 4 (fun p s => wrReg (portBase n.val + 0x70894 + 4 * p) (listenWord (res.getD p none)) s)
              (modTr n.val (fun t => { t with tdrDone := true }) s))))

/-- T_PARAMS, T_ALIGN, T_READY, T_NEXT, T_PAIRS, T_LOADING, T_CONFIRM, T_GO and T_ABORT. -/
def Obligations.TrainingMessagesAreAnsweredAndFollowed : Prop :=
  ∀ (n : Port) (tag : Byte) (s : State),
    let seen := fun type => TakenOnce (channelOpen s n.val) n.val type tag.toNat s
    (∀ (pilot top : BitVec 16) (mask : List Brk) (nots : List Band),
        let good := (1 ≤ mask.length ∧ mask.length ≤ 64 ∧ nots.length ≤ 16) ∧ risingTones 0 mask = true ∧ ∀ b ∈ nots, b.lo.toNat ≤ b.hi.toNat
        (good → seen 0x50 (.tParams n tag pilot top mask nots) (modTr n.val (fun t =>
          { t with gotParams := true, pilot := if t.master then t.pilot else pilot.toNat, peerTop := top.toNat, peerMask := mask, peerNotches := nots })))
        ∧ (¬ good → seen 0x50 (.tParams n tag pilot top mask nots) (sendMsg n.val 0x5F false (.tAbort 3))))
    ∧ (∀ phase : Byte, seen 0x52 (.tReady n tag phase) (fun u => maybeNext n.val (modTr n.val (fun t => { t with peerReady := phase.toNat }) u)))
    ∧ (∀ (ph : Byte) (sf : BitVec 40), seen 0x53 (.tNext n tag ph sf) (fun u =>
        if (port u n.val).tr.master = false ∧ ph.toNat = phase u n.val + 1 ∧ ph.toNat ≤ 5 ∧ u.time.s < toGrid u n.val sf.toNat then
          modTr n.val (fun t => { t with next := some (ph.toNat, toGrid u n.val sf.toNat) }) u else u))
    ∧ (∀ live : BitVec 4, seen 0x54 (.tPairs n tag live) (fun u =>
        let v := modTr n.val (fun t => { t with peerLive := some live }) u
        if inPhase u n.val 3 then decidePairs n.val v else v))
    ∧ (∀ r : LoadReq, seen 0x55 (.tLoading n tag r) (fun u =>
        if inPhase u n.val 5 = false then u
        else if fullOk u n.val r (port u n.val).tr.ceiling = true ∧ r.threePair = (trainAbsent u n.val).isSome then
          maybeGo n.val (sendMsg n.val 0x56 true (.tConfirm 0 0) (modTr n.val (fun t => { t with txTable := some r, sentConfirm := true }) u))
        else restartLoading n.val (sendMsg n.val 0x5F false (.tAbort 2) u)))
    ∧ seen 0x56 (.tConfirm n tag) (fun u => if inPhase u n.val 5 && (port u n.val).tr.rxTable.isSome then
        maybeGo n.val (modTr n.val (fun t => { t with gotConfirm := true }) u) else u)
    ∧ (∀ sf : BitVec 40, seen 0x57 (.tGo n tag sf) (fun u =>
        if inPhase u n.val 5 ∧ (port u n.val).tr.master = false ∧ u.time.s < toGrid u n.val sf.toNat then
          modTr n.val (fun t => { t with s0 := some (toGrid u n.val sf.toNat) }) u else u))
    ∧ (∀ (offset delay : BitVec 32) (al : Bool),
        (channelOpen s n.val = true → (port s n.val).tr.master = false → exec (.tAlign n offset delay al) s = .next (echoReady n.val (modTr n.val (fun t =>
          { t with offset := t.offset - offset.toInt, delay := delay.toNat, aligned := t.aligned || al }) s)))
        ∧ ((channelOpen s n.val = false ∨ (port s n.val).tr.master = true) → exec (.tAlign n offset delay al) s = .next s))
    ∧ (inPhase s n.val 5 = true → exec (.tAbort n 2) s = .next (restartLoading n.val s))
    ∧ (∀ r : Byte, (r ≠ 2 ∨ inPhase s n.val 5 = false) →
        ((channelOpen s n.val || earlyService s n.val) = true → exec (.tAbort n r) s = .next (restartHandshake n.val s))
        ∧ ((channelOpen s n.val || earlyService s n.val) = false → exec (.tAbort n r) s = .next s))

/-- TRAINING_PHASE_CHANGE, CANCELLER_CONVERGED, DISCOVERY_MEASURED, PAIR_CHECK_RETRY, JOIN_RAMP_STEP, JOIN_LATE, LOADING_MEASURED,
LOADING_REMEASURE and SERVICE_ENTRY. -/
def Obligations.TrainingPhasesAdvanceAsTheSpecSays : Prop :=
  ∀ (n : Port) (s : State),
    let t := (port s n.val).tr
    (∀ k, inPhase s n.val 1 = true → t.sEcho = some k →
        (k ≤ s.time.s → (t.master = true ∨ t.peerHeard = true) → exec (.trainingPhaseChange n) s = .next (enterEcho n.val s))
        ∧ (s.time.s < k → exec (.trainingPhaseChange n) s = .next s))
    ∧ (∀ ph k, inPhase s n.val 1 = false → channelOpen s n.val = true → t.next = some (ph, k) →
        (k ≤ s.time.s → exec (.trainingPhaseChange n) s = .next (enterPhase n.val ph s))
        ∧ (s.time.s < k → exec (.trainingPhaseChange n) s = .next s))
    ∧ (inPhase s n.val 2 = true → exec (.cancellerConverged n) s = .next (echoReady n.val (modTr n.val (fun t => { t with converged := true }) s)))
    ∧ (∀ live : BitVec 4, inPhase s n.val 3 = true →
        exec (.discoveryMeasured n live) s = .next (reportPairs n.val live s)
        ∧ (t.pairsDecided = false → exec (.pairCheckRetry n live) s = .next (reportPairs n.val live s))
        ∧ (t.pairsDecided = true → exec (.pairCheckRetry n live) s = .next s))
    ∧ (inPhase s n.val 4 = true → (t.joinDone = true ∨ rdP s n.val F.SIR_TRAIN_STATUS_JOIN_LATE = 1) →
        let left := t.rampLeft - 3
        let pct := 80 + 5 * (backoffDb s n.val - left) / backoffDb s n.val
        let u := retrainStep n.val 4 pct (wrP n.val F.SIR_TRAIN_STATUS_PROGRESS pct (modTr n.val (fun t => { t with rampLeft := left, rampOn := true }) s))
        (t.rampLeft ≤ 3 → exec (.joinRampStep n) s = .next (ready n.val 4 u)) ∧ (3 < t.rampLeft → exec (.joinRampStep n) s = .next u))
    ∧ (inPhase s n.val 4 = true → t.joinDone = false → rdP s n.val F.SIR_TRAIN_STATUS_JOIN_LATE = 0 → exec (.joinRampStep n) s = .next s)
    ∧ (inPhase s n.val 4 = true → t.joinDone = false → exec (.joinLate n) s =
        .next (evP n.val F.TRAIN_EVENTS_JOIN_LATE (wrP n.val F.SIR_TRAIN_STATUS_JOIN_LATE 1 s)))
    ∧ (∀ snr : List SnrRun, inPhase s n.val 5 = true →
        exec (.loadingMeasured n snr) s = .next (sendLoading n.val snr s)
        ∧ (t.rxTable = none → exec (.loadingRemeasure n snr) s = .next (sendLoading n.val snr s))
        ∧ (t.rxTable ≠ none → exec (.loadingRemeasure n snr) s = .next s))
    ∧ (∀ k, inPhase s n.val 5 = true → t.s0 = some k → s.time.s < k → exec (.serviceEntry n) s = .next s)
    ∧ (∀ k rx tx, inPhase s n.val 5 = true → t.s0 = some k → k ≤ s.time.s → t.rxTable = some rx → t.txTable = some tx →
        ∃ u, exec (.serviceEntry n) s = .next u ∧ (port u n.val).st = .service ∧ (port u n.val).serviceS = s.time.s
          ∧ (port u n.val).txLoad = ⟨0, tx.q.toNat, tx.n.toNat, tx.k.toNat⟩ ∧ (port u n.val).rxLoad = ⟨0, rx.q.toNat, rx.n.toNat, rx.k.toNat⟩
          ∧ (port u n.val).txRate0 = tx.rate.val ∧ (port u n.val).rxRate0 = rx.rate.val ∧ (port u n.val).an.failedSir = 0)

/-- DTU_SLOT, DTU_RECEIVED, DTU_LOST, ESCROW_DISCARD and EOC_BLOCK (R127 to R155). -/
def Obligations.EscrowSendsReceivesLosesAndDiscards : Prop :=
  ∀ (n : Port) (s : State),
    let e := (port s n.val).esc
    (∀ sym : Fin 256, dtuOpen s n.val = false ∨ sym.val = 0 → exec (.dtuSlot n sym) s = .next s)
    ∧ (∀ sym : Fin 256, dtuOpen s n.val = true → 1 ≤ sym.val →
      (∀ d, dueDtu e = some d → exec (.dtuSlot n sym) s = .next (sendRetx n.val sym.val d (sendBlock n.val sym.val s))
        ∧ (port (sendRetx n.val sym.val d (sendBlock n.val sym.val s)) n.val).esc.dtuOut = dtuBytes d.seq 0 true d.framePtr d.payload)
      ∧ (dueDtu e = none → (e.txBytes ≠ [] ∨ ready8 s n.val ≠ []) → mayNew s n.val = true → (port s n.val).shut.accepted = none →
          exec (.dtuSlot n sym) s = .next (sendNew n.val sym.val (sendBlock n.val sym.val s)))
      ∧ (dueDtu e = none → ((e.txBytes = [] ∧ ready8 s n.val = []) ∨ mayNew s n.val = false ∨ (port s n.val).shut.accepted ≠ none) →
          exec (.dtuSlot n sym) s = .next (modEsc n.val (fun x => { x with dtuOut := dtuBytes e.nextSeq 1 false 0x3FF (List.replicate 504 0) })
            (sendBlock n.val sym.val s))))
    ∧ (∀ (sym : Fin 256) (d : RxDtu),
      (dtuOpen s n.val = false ∨ dtuGood d = false → exec (.dtuReceived n sym d) s = .next s)
      ∧ (dtuOpen s n.val = true → dtuGood d = true → byteAt d.bytes 2 / 64 ≠ 0 →
          exec (.dtuReceived n sym d) s = .next (modEsc n.val (noteMissing (beAt d.bytes 0 2)) s))
      ∧ (dtuOpen s n.val = true → dtuGood d = true → byteAt d.bytes 2 / 64 = 0 →
          let seq := beAt d.bytes 0 2
          let u := modPort n.val (fun p => { p with idleSince := symNow s sym.val }) (thaw n.val false (pmPort n.val 2 1 (countDev 2 1 s)))
          ((seqAfter e.rxBase seq = true ∨ (∃ x ∈ e.rx, x.seq = seq ∧ x.payload.isSome) ∨ 384 ≤ seqDist seq e.rxBase) →
            exec (.dtuReceived n sym d) s = .next u)
          ∧ (seqAfter e.rxBase seq = false → (∀ x ∈ e.rx, x.seq = seq → x.payload = none) → seqDist seq e.rxBase < 384 →
            let e1 := noteMissing ((seq + 1) % 65536) e
            let slot : RxSlot := ⟨seq, some (slice d.bytes 4 504), beAt d.bytes 2 2 % 1024, now8 s, s.time.epoch % 65536, bitsOf (beAt d.bytes 2 2) 13 13 == 1⟩
            let rx := e1.rx.map (fun x => if x.seq = seq then slot else x)
            let last := if seqAfter seq e1.rxLast then seq else e1.rxLast
            exec (.dtuReceived n sym d) s = .next (deliverHeld n.val rx (modEsc n.val (fun _ => { e1 with rx := rx, rxLast := last }) u)))))
    ∧ (∀ seq : BitVec 16,
      (dtuOpen s n.val = true → (∃ x ∈ e.rx, x.seq = seq.toNat ∧ x.payload = none) → exec (.dtuLost n seq) s =
        .next (modPort n.val (fun p => { p with lossAt := s.tick + 1 }) (setReason n.val F.DEGRADE_LOSS true
          (passLost n.val seq.toNat e.rx (pmPort n.val 4 1 (countDev 4 1 (addCnt (portBase n.val) F.ESC_DTU_LOST 1 s)))))))
      ∧ (dtuOpen s n.val = false ∨ (∀ x ∈ e.rx, x.seq = seq.toNat → x.payload ≠ none) → exec (.dtuLost n seq) s = .next s)
      ∧ (∃ t, exec (.escrowDiscard n seq) s = .next t ∧ (∀ d, d ∈ (port t n.val).esc.held ↔ d ∈ e.held ∧ d.seq ≠ seq.toNat)
          ∧ t = modPort n.val (fun p => { p with esc := { p.esc with held := (port t n.val).esc.held } }) s))
    ∧ (∀ (sym : Fin 256) (b : List Byte),
      (dtuOpen s n.val = false → exec (.eocBlock n sym b) s = .next s)
      ∧ (dtuOpen s n.val = true → (b.length ≠ 128 ∨ crc16 (b.take 126) ≠ beAt b 126 2) →
          exec (.eocBlock n sym b) s = .next (countDev 7 1 (addCnt (portBase n.val) F.ESC_EOC_BAD 1 s)))
      ∧ (dtuOpen s n.val = true → b.length = 128 → crc16 (b.take 126) = beAt b 126 2 →
          exec (.eocBlock n sym b) s = .next (takePtr n.val sym.val (beAt b 0 2) (modEsc n.val (takeAck (symNow s sym.val) b) s))))

/-- R144: `b` is a block, its ACK_BASE in bytes 2..3, GAP_LEN in 4..5, RX_LAST in 6..7 and ACK_MAP in 8..15 (R153). -/
def Obligations.AnAcknowledgementIsReadAsR144Says : Prop :=
  ∀ (b : List Byte) (seq : Nat), seq < 65536 →
    let base := beAt b 2 2
    let gap := beAt b 4 2
    let last := beAt b 6 2
    let one := fun i => bitsOf (beAt b 8 8) i i = 1
    (seqAfter base seq = true → ackedBy b seq = true)
    ∧ (∀ k, k < gap → seq = (base + k) % 65536 → missingBy b seq = true)
    ∧ (∀ i, i < 64 → seq = (base + gap + i) % 65536 →
        (one i → ackedBy b seq = true) ∧ (¬ one i → seqAfter seq last = false → missingBy b seq = true))
    ∧ (seqAfter base seq = false → (∀ k, k < gap → seq ≠ (base + k) % 65536) →
        (∀ i, i < 64 → seq = (base + gap + i) % 65536 → ¬ one i ∧ seqAfter seq last = true) → ackedBy b seq = false ∧ missingBy b seq = false)
    ∧ (gap ≤ 32767 → seqAfter base seq = false ∨ ∀ k, k < gap → seq ≠ (base + k) % 65536)

/-- R158. -/
def Obligations.EveryCopyIsAcknowledgedAndTheFirstAloneActs : Prop :=
  (∀ (s : State) (i : Instr) (n type tag : Nat), reliableOf s i = some (n, type, tag, true) → ∃ act : State → State,
    let old := SMap.get (port s n).rxTags [] type
    let acked := modPort n (fun p => { p with
      txTag := SMap.set p.txTag 0 1 ((SMap.get p.txTag 0 1 + 1) % 256)
      sent := p.sent ++ [(1, SMap.get p.txTag 0 1, .ack (BitVec.ofNat 8 type) (BitVec.ofNat 8 tag))] }) s
    (tag ∈ old → exec i s = .next acked) ∧ (tag ∉ old → exec i s = .next (act (noteTag n type tag acked))))
  ∧ (∀ (s : State) (n type tag : Nat),
    SMap.get (port (noteTag n type tag s) n).rxTags [] type = (tag :: SMap.get (port s n).rxTags [] type).take 16
    ∧ ∀ type', type' ≠ type → SMap.get (port (noteTag n type tag s) n).rxTags [] type' = SMap.get (port s n).rxTags [] type')

/-- VERSION, LOADING_REQUEST, LOADING_CONFIRM, LOADING_REJECT, LOADING_NEED, RATE_NOTICE, FE_STATUS, FE_STATUS_SEND, MSG_ACK, MESSAGE_RESEND
and LOADING_CONFIRM_REPEAT. -/
def Obligations.MessagesInServiceHaveTheirEffects : Prop :=
  ∀ (n : Port) (tag : Byte) (s : State),
    let seen := fun type => TakenOnce (inService s n.val) n.val type tag.toNat s
    (∀ proto vendor part rev fw profile, seen 2 (.version n tag proto vendor part rev fw profile) (fun u =>
        let v := modPort n.val (fun p => { p with peerVendor := vendor.toNat }) u
        if proto.toNat = (port u n.val).tr.ver then v
        else if earlyService u n.val then restartHandshake n.val (evP n.val F.ESC_EVENTS_VERSION_MISMATCH v)
        else downRestart n.val 2 (evP n.val F.ESC_EVENTS_VERSION_MISMATCH v)))
    ∧ (∀ r, seen 0x10 (.loadingRequest n tag r) (takeRequest n.val tag.toNat r))
    ∧ (∀ sf id, seen 0x11 (.loadingConfirm n tag sf id) (modPort n.val (fun p => { p with
        rxChange := p.rxChange.map (fun c => if c.req.s = sf ∧ c.req.loadId = id then { c with confirmed := true } else c) })))
    ∧ (∀ which reason, seen 0x12 (.loadingReject n tag which reason) (fun u =>
        let v := evP n.val F.ESC_EVENTS_LOAD_REJECT u
        let noNeed := modPort n.val (fun p => { p with needSent := none }) v
        match (port u n.val).rxChange with
        | some c => if c.tag = which.toNat ∧ c.confirmed = false then answerNext n.val (modPort n.val (fun p => { p with rxChange := none }) v) else noNeed
        | none => noNeed))
    ∧ (∀ sf bands snr, seen 0x13 (.loadingNeed n tag sf bands snr) (fun u =>
        match leadReason u (toGrid u n.val sf.toNat) with
        | some r => sendReject n.val tag.toNat r u
        | none => if 1 ≤ bands.length ∧ bands.length ≤ 16 then addNeed n.val ⟨false, tag.toNat, toGrid u n.val sf.toNat, bands, none, snr⟩ u else u))
    ∧ (∀ sf rate snr, seen 0x14 (.rateNotice n tag sf rate snr) (fun u =>
        match leadReason u (toGrid u n.val sf.toNat) with
        | some r => sendReject n.val tag.toNat r u
        | none => addNeed n.val ⟨false, tag.toNat, toGrid u n.val sf.toNat, [], some rate.val, snr⟩ u))
    ∧ (∀ body : List Byte, inService s n.val = true → body.length = 30 → exec (.feStatus n body) s =
        .next (setReason n.val F.DEGRADE_PARTNER (byteAt body 5 / 64 == 1) (modPort n.val (fun p =>
          { p with fe := body, watch := { p.watch with feMargins := (List.range 4).map (fun k => marginOf (beAt body (6 + 2 * k) 2)) } }) s)))
    ∧ (∀ counts : List (BitVec 32), inService s n.val = true → inShutter s n.val = false →
        let c := (counts.getD 0 0).toNat
        let u := (counts.getD 1 0).toNat
        exec (.feStatusSend n counts) s = .next (sendMsg n.val 3 false (.feStatus (feBody s n.val counts))
          (pmPort n.val 6 u (pmPort n.val 5 c (countDev 6 u (countDev 5 c s))))))
    ∧ (∀ type : Byte, isSir s n.val = true → exec (.msgAck n type tag) s = .next (msgAck n.val type.toNat tag.toNat s)
        ∧ ((∀ m ∈ (port s n.val).outbox, ¬ (m.type = type.toNat ∧ m.tag = tag.toNat)) → exec (.msgAck n type tag) s = .next s))
    ∧ (∀ (type : Byte) (m : OutMsg), (port s n.val).outbox.find? (fun m => m.type == type.toNat && m.tag == tag.toNat) = some m → type ≠ 0x11 →
        (m.sends < 32 → exec (.messageResend n type tag) s = .next (modPort n.val (fun p => { p with
          sent := p.sent ++ [(m.type, m.tag, m.body)]
          outbox := p.outbox.map (fun x => if x.type = m.type ∧ x.tag = m.tag then { x with sends := x.sends + 1 } else x) }) s))
        ∧ (32 ≤ m.sends → exec (.messageResend n type tag) s = .next (abandon n.val m s)))
    ∧ (let old := fun (m : OutMsg) => match m.body with
        | .loadingConfirm k _ => decide (toGrid s n.val k.toNat ≤ s.time.s + 1)
        | _ => false
      let again := (port s n.val).outbox.filter (fun m => m.type == 0x11 && !old m)
      let out := ((port s n.val).outbox.filter (fun m => !old m)).map (fun m => if m.type = 0x11 then { m with sends := m.sends + 1 } else m)
      exec (.loadingConfirmRepeat n) s = .next (modPort n.val (fun p =>
        { p with sent := p.sent ++ again.map (fun m => (m.type, m.tag, m.body)), outbox := out }) s))

/-- SUPERFRAME_BOUNDARY (R29, R30, R466). -/
def Obligations.ASuperframeBoundaryAppliesItsStagesInOrder : Prop :=
  ∀ (m : List PortMeas) (s : State),
    (s.time.running = false → exec (.superframeBoundary m) s = .next s)
    ∧ (s.time.running = true → ∀ s0 s1 s3 s5 : State, ∀ r1 r5 : List RateStep,
        s0 = surveyRoll (forL (allPorts s) boundaryPort (boundaryTick s)) →
        forL (allPorts s) stage1 ([], s0) = (r1, s1) →
        s3 = forL ((allVictims s1).filter (commitsEarly s1)) commitDue s1 →
        forL (allPorts s) stage5 (r1, stage4 s3) = (r5, s5) →
        exec (.superframeBoundary m) s = .next (levelStart (forL (allPorts s) boundaryEnd (forL m takeMeas (rateSteps r5 s5)))))
    ∧ (boundaryTick s).time.s = s.time.s + 1 ∧ (boundaryTick s).time.sTime = nowTotal s ∧ (boundaryTick s).time.t = s.time.t

/-- LOADING_CHANGE_APPLY, LOADING_TRIAL, SEAMLESS_SWAP, STEP_DOWN and STEP_UP (R169, R176, R299 to R305, R318). -/
def Obligations.LoadingChangesAndRateStepsTakeEffect : Prop :=
  ∀ (n : Port) (s : State),
    (inService s n.val = false → exec (.loadingChangeApply n) s = .next (answerNext n.val s))
    ∧ (inService s n.val = true → (port s n.val).txChange = [] →
      ((port s n.val).rxChange = none → exec (.loadingChangeApply n) s = .next (answerNext n.val s))
      ∧ (∀ c, (port s n.val).rxChange = some c →
        (s.time.s < c.s → exec (.loadingChangeApply n) s = .next (answerNext n.val s))
        ∧ (c.s ≤ s.time.s → c.confirmed = true →
            let a := applyChange n.val 1 c (modPort n.val (fun p => { p with rxChange := none }) s)
            exec (.loadingChangeApply n) s = .next (answerNext n.val (rateSteps a.1 a.2)))
        ∧ (c.s ≤ s.time.s → c.confirmed = false → exec (.loadingChangeApply n) s = .next (answerNext n.val
            (startTrial n.val c (evP n.val F.ESC_EVENTS_LOAD_DOUBT (addCnt (portBase n.val) F.ESC_LOAD_DOUBT 1 s)))))))
    ∧ (inService s n.val = true → exec (.loadingChangeApply n) s = .next (
        let a := txDue n.val (port s n.val).txChange ([], s)
        let b := rxDue n.val a.2
        answerNext n.val (rateSteps (a.1 ++ b.1) b.2)))
    ∧ (∀ (a b : Bool), (port s n.val).trial = none → exec (.loadingTrial n a b) s = .next s)
    ∧ (∀ c, (port s n.val).trial = some c →
        let s0 := modPort n.val (fun p => { p with trial := none }) s
        let u := setReason n.val F.DEGRADE_DEFECT (port s0 n.val).esc.rxDefect s0
        (∀ old : Bool, c.fall = true → exec (.loadingTrial n true old) s = .next u)
        ∧ (∀ old : Bool, c.fall = false → exec (.loadingTrial n true old) s =
            .next (answerNext n.val (rateSteps (applyChange n.val 1 c u).1 (applyChange n.val 1 c u).2)))
        ∧ (c.fall = false → exec (.loadingTrial n false true) s = .next (answerNext n.val u))
        ∧ (∀ x, c.fall = true → (port s n.val).savedRx = some x → exec (.loadingTrial n false true) s =
            .next (sendFallback n.val (s.time.s + 4) 1 (absentPair s n.val) false (setRate ⟨n.val, false, x.rate⟩
              (restoreDir n.val 1 x.loading.loadId x u))))
        ∧ exec (.loadingTrial n false false) s = .next s)
    ∧ (∀ tones : List ToneMargin,
        let w := (port s n.val).watch
        let old := readTable s n.val 1
        let new := swapTable s.draws tones old
        (mayAsk s n.val = true → (∀ l, w.lastSwap = some l → l + 8 ≤ s.time.s + 6) → 16 ≤ w.swapRun →
          (new ≠ old → exec (.seamlessSwap n tones) s = .next (requestSwap n.val (s.time.s + 6) new (draw s)))
          ∧ (new = old → exec (.seamlessSwap n tones) s = .next s))
        ∧ ((mayAsk s n.val = false ∨ w.swapRun < 16) → exec (.seamlessSwap n tones) s = .next s))
    ∧ (∀ snr : List SnrRun, mayAsk s n.val = true → stepDownDue s n.val = true →
        (∀ u, tryFallback n.val s = some u → exec (.stepDown n snr) s = .next u)
        ∧ (tryFallback n.val s = none → exec (.stepDown n snr) s =
            .next (requestRate n.val (s.time.s + 6) (rxRate s n.val) (toneOk s n.val) (snrTones snr) s)))
    ∧ (∀ snr : List SnrRun, (mayAsk s n.val = false ∨ stepDownDue s n.val = false) → exec (.stepDown n snr) s = .next s)
    ∧ (∀ (snr : List SnrRun) x bs q nn kk r, mayAsk s n.val = true → rdP s n.val F.LINK_CTRL_AUTO_UP = 1 → (port s n.val).watch.support = some x →
        computeAt s.draws (toneOk s n.val) (absentOf s n.val) (rateCap s n.val) (snrTones snr) (targetMargin + 100) = some (bs, q, nn, kk, r) →
        (rxRate s n.val < min r x → exec (.stepUp n snr) s =
          .next (requestFull n.val (s.time.s + 6) (min r x) q nn kk (bitsTable (s.draws + 2) bs) (draw (draw (draw s)))))
        ∧ (min r x ≤ rxRate s n.val → exec (.stepUp n snr) s = .next s))

/-- STANDBY_TABLE_SEND, FALLBACK_TRIGGER, PAIR_FALLBACK, PAIR_FALLBACK_APPLY, PAIR_BREAK and FALLBACK_RETURN. -/
def Obligations.PairFallbackIsAgreedEnteredAndLeft : Prop :=
  ∀ (n : Port) (s : State),
    (∀ (p : Pair) (snr : List SnrRun), allows3 s n.val = true → dtuOpen s n.val = true → threePair s n.val = false →
      let x := computeAt s.draws (toneOk s n.val) (some p.val) (rateCap s n.val) (snrTones snr) targetMargin
      (∀ bs q nn kk r, x = some (bs, q, nn, kk, r) →
        let req := fullReq 0 0 r true q nn kk (bitsTable (s.draws + 2) bs)
        exec (.standbyTableSend n p snr) s = .next (sendMsg n.val 0x10 true (.loadingRequest req)
          (modPort n.val (fun x => { x with ownStandby := SMap.set x.ownStandby none p.val (some (req, false)) }) (draw (draw (draw s))))))
      ∧ (x = none → exec (.standbyTableSend n p snr) s =
          .next (modPort n.val (fun x => { x with ownStandby := SMap.set x.ownStandby none p.val none }) s)))
    ∧ (rdP s n.val F.LINK_CTRL_FALLBACK_EN = 1 → allows3 s n.val = true → threePair s n.val = false → dtuOpen s n.val = true →
        (port s n.val).fallback = none →
        (∀ p, bestPair (fallbackPairs s n.val) = some p → exec (.fallbackTrigger n) s = .next (sendFallback n.val (s.time.s + 6) 1 p false s))
        ∧ (bestPair (fallbackPairs s n.val) = none → exec (.fallbackTrigger n) s = .next s))
    ∧ (∀ (tag : Byte) (sf : BitVec 40) (pair : Pair) (t r : Fin 16),
      let both := (SMap.get (port s n.val).peerStandby none pair.val).isSome = true ∧ (SMap.get (port s n.val).ownStandby none pair.val).isSome = true
      let up := inService s n.val && (port s n.val).tr.ver == 2
      let f := fun (enter : Bool) => Fallback.mk (toGrid s n.val sf.toNat) enter pair.val r.val t.val false false false
      (¬ both → exec (.pairFallback n tag sf 1 pair t r) s = .next s)
      ∧ (both → TakenOnce up n.val 0x20 tag.toNat s (.pairFallback n tag sf 1 pair t r) (fun u => if allows3 u n.val then takeFallback n.val (f true) u else u))
      ∧ TakenOnce up n.val 0x20 tag.toNat s (.pairFallback n tag sf 2 pair t r) (fun u => if threePair u n.val then takeFallback n.val (f false) u else u))
    ∧ (∀ f, inService s n.val = true → (port s n.val).fallback = some f →
        (s.time.s < f.s → exec (.pairFallbackApply n) s = .next s)
        ∧ (f.s ≤ s.time.s →
          let u := voidChanges n.val f.s (modPort n.val (fun p => { p with fallback := none }) s)
          let a := if f.enter then enterThree n.val f u else leaveThree n.val f u
          exec (.pairFallbackApply n) s = .next (rateSteps a.1 (wrP n.val F.CH_PORT_PRE_ACTIVE (bit (preActive a.2 n.val)) a.2))))
    ∧ ((port s n.val).fallback = none → exec (.pairFallbackApply n) s = .next s)
    ∧ (∀ p : Pair, inService s n.val = true → pairLow s n.val p.val = true →
        (inShutter s n.val = true → exec (.pairBreak n p) s = .next (wantWake n.val s))
        ∧ (inShutter s n.val = false →
          (threePair s n.val = true → absentPair s n.val = p.val → exec (.pairBreak n p) s = .next s)
          ∧ (threePair s n.val = true → absentPair s n.val ≠ p.val → exec (.pairBreak n p) s = .next (downRestart n.val 3 s))
          ∧ (threePair s n.val = false → (allows3 s n.val = false ∨ holdsBoth s n.val p.val = false) → exec (.pairBreak n p) s = .next (downRestart n.val 3 s))
          ∧ (threePair s n.val = false → allows3 s n.val = true → holdsBoth s n.val p.val = true → ∃ e f,
              f.s = e ∧ f.enter = true ∧ f.pair = p.val ∧ f.fast = true ∧ (0 ≤ (port s n.val).tr.sOff → toLink s n.val e % 4 = 0 ∧ s.time.s + 3 ≤ e ∧ e ≤ s.time.s + 6)
              ∧ ∃ u, exec (.pairBreak n p) s = .next u
                ∧ port u n.val = port (voidChanges n.val e (modPort n.val (fun y => { y with fallback := some f }) s)) n.val)))
    ∧ (∀ x y : Int, dtuOpen s n.val = true → threePair s n.val = true → (port s n.val).tr.master = true → (port s n.val).fallback = none →
        (port s n.val).savedTx ≠ none → (port s n.val).watch.margins.getD (absentPair s n.val) none = some x →
        (port s n.val).watch.feMargins.getD (absentPair s n.val) none = some y →
        (10 ≤ x → 10 ≤ y → exec (.fallbackReturn n) s = .next (sendFallback n.val (s.time.s + 6) 2 (absentPair s n.val) false s))
        ∧ ((x < 10 ∨ y < 10) → exec (.fallbackReturn n) s = .next s))

/-- ELEMENT_RETIRE, SPARE_SUBSTITUTION, DRIFT_FENCE, DRIFT_REVERT, DEGRADE_HOLD_EXPIRY and PARTNER_BLOCK_TIMEOUT. -/
def Obligations.SparesDriftAndTheStateRuleTimers : Prop :=
  ∀ (n : Port) (s : State),
    (∀ (p : Pair) (dac : Bool) (idx : Fin 68) (good : List (Fin 68)), linkUp s n.val = true →
      (∀ x ∈ (port s n.val).subst, x.retire ≠ ⟨p.val, dac, idx.val⟩) → elemRole s n.val ⟨p.val, dac, idx.val⟩ = 0 →
      let left := sparesLeft s n.val p.val dac - ((port s n.val).subst.filter (fun x => x.retire.pair == p.val && x.retire.dac == dac)).length
      let ok := good.filter (fun i => elemRole s n.val ⟨p.val, dac, i.val⟩ == 1)
      let ns := nowTotal s + 1474560
      let due := if inService s n.val then When.frame (s.time.s + 2) else When.time (ns / 1000000000) (ns % 1000000000)
      ((ok = [] ∨ left = 0) → exec (.elementRetire n p dac idx good) s = .next (setReason n.val F.DEGRADE_SPARES true (modPort n.val (fun x =>
          { x with sparesOut := x.sparesOut ||| BitVec.ofNat 4 (2 ^ p.val) }) (evP n.val F.LINK_EVENTS_SPARE_OUT s))))
      ∧ (ok ≠ [] → left ≠ 0 → ∃ sp ∈ ok, exec (.elementRetire n p dac idx good) s =
          .next (draw (modPort n.val (fun x => { x with subst := x.subst ++ [⟨⟨p.val, dac, idx.val⟩, ⟨p.val, dac, sp.val⟩, due⟩] }) s))))
    ∧ (ramping s n.val = true → exec (.spareSubstitution n) s = .next (modPort n.val (fun p => { p with subst := p.subst.filter (fun _ => true) }) s))
    ∧ (∀ x, ramping s n.val = false → (port s n.val).subst.filter (fun x => whenDue s x.due) = [x] → exec (.spareSubstitution n) s =
        .next (journalEvent (match x.due with | .frame _ => s.time.s | .time _ _ => 0) 0x39 (x.retire.pair * 64 + n.val) (bit x.retire.dac * 128 + x.retire.idx)
          (pmEv (groupOf n.val) 0xC { PmAttr.none with port := some n.val } (countDev 0xB 1 (evP n.val F.LINK_EVENTS_SUBST (addCnt (portBase n.val) F.HL_SUBST 1
            (substRoles n.val x (modPort n.val (fun p => { p with subst := p.subst.filter (fun y => !([x] : List Subst).contains y) }) s))))))))
    ∧ (∀ (loop : Fin 5) (p : Pair) (tx : Bool), linkUp s n.val = true →
        (tx = true → (port s n.val).esc.sentSf = false) → (tx = false → (port s n.val).esc.deliveredSf = false) →
        ((∀ f ∈ (port s n.val).frozen, ¬ (f.loop = loop.val ∧ f.pair = p.val ∧ f.tx = tx)) → exec (.driftFence n loop p tx) s =
          .next (evP n.val F.LINK_EVENTS_DRIFT (modPort n.val (fun x => { x with frozen := x.frozen ++ [⟨loop.val, p.val, tx, false⟩] }) s)))
        ∧ ((∃ f ∈ (port s n.val).frozen, f.loop = loop.val ∧ f.pair = p.val ∧ f.tx = tx) → exec (.driftFence n loop p tx) s = .next s))
    ∧ (let k := ((port s n.val).frozen.filter (fun f => !f.reverted)).length
      (k = 0 → exec (.driftRevert n) s = .next s)
      ∧ (k ≠ 0 → exec (.driftRevert n) s = .next (countDev 0xC k (addCnt (portBase n.val) F.HL_DRIFT k (modPort n.val (fun p =>
          { p with frozen := p.frozen.map (fun f => { f with reverted := true }) }) s)))))
    ∧ (let p := port s n.val
      (rdP s n.val F.DEGRADE_LOSS = 1 → (p.heldReasons = 0 ∨ p.lossAt ≤ p.heldReasons) → exec (.degradeHoldExpiry n) s =
        .next (setReason n.val F.DEGRADE_LOSS false (modPort n.val (fun p => { p with lossAt := 0 }) s)))
      ∧ ((rdP s n.val F.DEGRADE_LOSS ≠ 1 ∨ (p.heldReasons ≠ 0 ∧ p.heldReasons < p.lossAt)) → exec (.degradeHoldExpiry n) s =
        .next (updateState n.val (modPort n.val (fun p => { p with heldReasons := 0 }) s))))
    ∧ (dtuOpen s n.val = true → earlyService s n.val = false → exec (.partnerBlockTimeout n) s = .next (downRestart n.val 2 s))
    ∧ ((dtuOpen s n.val = false ∨ earlyService s n.val = true) → exec (.partnerBlockTimeout n) s = .next s)

/-- SHUTTER_REQUEST_TRIGGER, SHUTTER, SHUTTER_ENTRY, REFRESH, KNOCK, KNOCK_DETECTOR_FIRE, KNOCK_CONFIRM, FALSE_KNOCK, ANSWER, SHUTTER_RESUME,
KNOCK_RETRY, SCHEDULED_WAKE, LPI, FEEDBACK_SET and FEEDBACK. -/
def Obligations.ShutterAndTheKnockDoWhatTheSpecSays : Prop :=
  ∀ (n : Port) (s : State),
    let x := (port s n.val).shut
    let up := inService s n.val && (port s n.val).tr.ver == 2
    (dtuOpen s n.val = true → allowsShutter s n.val = true → rdP s n.val F.LINK_CTRL_SHUTTER_EN = 1 → escrowEmpty s n.val = true →
        changeOut s n.val = false → x.asked = none → x.accepted = none → exec (.shutterRequestTrigger n) s =
          .next (sendMsg n.val 0x21 true (.shutter (BitVec.ofNat 40 (toLink s n.val (s.time.s + 6))) 1 0)
            (modShut n.val (fun x => { x with asked := some (s.time.s + 6) }) s)))
    ∧ (∀ (tag reason : Byte) (sf : BitVec 40),
      TakenOnce up n.val 0x21 tag.toNat s (.shutter n tag sf 1 reason) (fun u => shutRequest n.val (toGrid s n.val sf.toNat) u)
      ∧ TakenOnce up n.val 0x21 tag.toNat s (.shutter n tag sf 2 reason) (fun u => if (port u n.val).shut.asked = some (toGrid s n.val sf.toNat)
          then modShut n.val (fun x => { x with asked := none, accepted := some (toGrid s n.val sf.toNat) }) u else u)
      ∧ TakenOnce up n.val 0x21 tag.toNat s (.shutter n tag sf 3 reason)
          (fun u => evP n.val F.LINK_EVENTS_SHUT_REFUSED (modShut n.val (fun x => { x with asked := none }) u))
      ∧ TakenOnce up n.val 0x21 tag.toNat s (.shutter n tag sf 4 reason) (fun u => if inShutter u n.val
          then modShut n.val (fun x => { x with resumeAt := some (256 * toGrid s n.val sf.toNat + 1) }) u
          else modShut n.val (fun x => { x with asked := none, accepted := none }) u))
    ∧ (∀ k, inService s n.val = true → inShutter s n.val = false → x.accepted = some k →
        (k ≤ s.time.s → exec (.shutterEntry n) s = .next (countDev 0xF 1 (wrP n.val F.LINK_STATE_SHUTTER 1
          (modShut n.val (fun _ => { Shut.init with wakeSoon := x.wakeSoon }) s))))
        ∧ (s.time.s < k → exec (.shutterEntry n) s = .next s))
    ∧ (inShutter s n.val = true → toLink s n.val s.time.s % 16 = 0 →
        exec (.refresh n true) s = .next (modShut n.val (fun x => { x with missed := 0 }) s)
        ∧ (x.missed = 0 → exec (.refresh n false) s = .next (modShut n.val (fun x => { x with missed := 1 }) s))
        ∧ (1 ≤ x.missed → exec (.refresh n false) s = .next (downRestart n.val 1 s)))
    ∧ (∀ (sym : Fin 256),
        (x.wakeSoon = true → inShutter s n.val = true → x.knockAt = none → x.confirmedAt = none → x.resumeAt = none →
          exec (.knock n sym) s = .next (modShut n.val (fun x => { x with knockAt := some (symNow s sym.val), knocks := 1, wakeSoon := false }) s))
        ∧ (x.wakeSoon = false → exec (.knock n sym) s = .next s)
        ∧ exec (.scheduledWake n sym) s = .next (knockAt n.val (symNow s sym.val) (wantWake n.val s)))
    ∧ (∀ (p : Pair) (d : Fin 2) (sym : Fin 256), inShutter s n.val = true → exec (.knockDetectorFire n p d sym) s =
        .next (modShut n.val (fun x => { x with firing := SMap.set x.firing 0 (2 * p.val + d.val) (symNow s sym.val + 1) }) s))
    ∧ (∀ (p : Pair) (k sym : Fin 256), inShutter s n.val = true → knockFiring s n.val p.val = true →
        let a := symBack s k.val sym.val
        let u := modShut n.val (fun x => { x with firing := x.firing.filter (fun e => e.1 / 2 != p.val) }) s
        (x.knockAt = none → exec (.knockConfirm n p k sym) s = .next (modShut n.val (fun x => { x with confirmedAt := some a }) u))
        ∧ (∀ b, x.knockAt = some b →
          ((a ≤ b + 2 ∧ b ≤ a + 2) → exec (.knockConfirm n p k sym) s = .next (modShut n.val (fun x => { x with resumeAt := some (max a b + 7), knockAt := none }) u))
          ∧ (¬ (a ≤ b + 2 ∧ b ≤ a + 2) → exec (.knockConfirm n p k sym) s = .next (modShut n.val (fun x => { x with confirmedAt := some a }) u))))
    ∧ (∀ (p : Pair) (d : Fin 2) (sym : Fin 256),
        (SMap.get x.firing 0 (2 * p.val + d.val) = 0 → exec (.falseKnock n p d sym) s = .next s)
        ∧ (SMap.get x.firing 0 (2 * p.val + d.val) ≠ 0 → exec (.falseKnock n p d sym) s = .next (countDev 0xE 1 (addCnt (portBase n.val) F.HL_FALSE_KNOCK 1
            (modShut n.val (fun x => { x with firing := SMap.set x.firing 0 (2 * p.val + d.val) 0 }) s)))))
    ∧ (∀ sym : Fin 256, inShutter s n.val = true →
        let t := symNow s sym.val
        let go := modShut n.val (fun x => { x with resumeAt := some (t + 4), confirmedAt := none, knockAt := none }) s
        (∀ k, x.confirmedAt = some k → (k + 3 ≤ t ∧ t ≤ k + 5 → exec (.answer n sym) s = .next go) ∧ (¬ (k + 3 ≤ t ∧ t ≤ k + 5) → exec (.answer n sym) s = .next s))
        ∧ (∀ k, x.confirmedAt = none → x.knockAt = some k → (k < t ∧ t ≤ k + 6 → exec (.answer n sym) s = .next go) ∧ (¬ (k < t ∧ t ≤ k + 6) → exec (.answer n sym) s = .next s)))
    ∧ (∀ (sym : Fin 256) (j : Nat), inShutter s n.val = true → x.resumeAt = some j →
        (j ≤ symNow s sym.val → ∃ tp rp, exec (.shutterResume n sym) s = .next (countDev 0xD 1 (addCnt (portBase n.val) F.HL_WAKES 1 (wrP n.val F.LINK_STATE_SHUTTER 0
            (modPort n.val (fun p => { p with shut := Shut.init, idleSince := symNow s sym.val, esc := { p.esc with txPhase := tp, rxPhase := rp } }) s))))
          ∧ (1 ≤ sym.val → (tp + (sym.val - 1) * dtuStream (port s n.val).txLoad) % 512 = 0 ∧ (rp + (sym.val - 1) * dtuStream (port s n.val).rxLoad) % 512 = 0))
        ∧ (symNow s sym.val < j → exec (.shutterResume n sym) s = .next s))
    ∧ (∀ (sym : Fin 256) (k : Nat), inShutter s n.val = true → x.knockAt = some k →
        (symNow s sym.val < k + 8 → exec (.knockRetry n sym) s = .next s)
        ∧ (k + 8 ≤ symNow s sym.val → x.knocks < 4 → exec (.knockRetry n sym) s = .next (modShut n.val (fun x => { x with knockAt := some (k + 8), knocks := x.knocks + 1 }) s))
        ∧ (k + 8 ≤ symNow s sym.val → 4 ≤ x.knocks → exec (.knockRetry n sym) s = .next (downRestart n.val 2 (evP n.val F.LINK_EVENTS_KNOCK_FAIL s))))
    ∧ ((port s n.val).st = .stdUp → 2 ≤ (port s n.val).an.resolved →
        (x.lpi = false → exec (.lpi n true) s = .next (wrP n.val F.LINK_STATE_SHUTTER 1 (modShut n.val (fun x => { x with lpi := true }) s)) ∧ exec (.lpi n false) s = .next s)
        ∧ (x.lpi = true → exec (.lpi n false) s = .next (addCnt (portBase n.val) F.HL_WAKES 1 (wrP n.val F.LINK_STATE_SHUTTER 0 (modShut n.val (fun x => { x with lpi := false }) s)))
            ∧ exec (.lpi n true) s = .next s))
    ∧ (∀ (tag rate : Byte) (pairs : BitVec 4), TakenOnce up n.val 0x30 tag.toNat s (.feedbackSet n tag rate pairs) (fun u =>
        if (port u n.val).tr.master = false ∧ (rate = 0 ∨ rate = 32 ∨ rate = 64 ∨ rate = 128) then modPort n.val (fun p => { p with peerFb := some (rate.toNat, pairs) }) u else u))
    ∧ (∀ (sf : BitVec 40) (tg : BitVec 16) (count exp : Byte) (pairs : BitVec 4) (err : List Byte), up = true → (port s n.val).tr.master = true →
        let k := toGrid s n.val sf.toNat
        ((s.time.s ≤ k + 2 ∧ k ≤ s.time.s ∧ 1 ≤ count.toNat ∧ count.toNat ≤ 16) → exec (.feedback n sf tg count pairs exp err) s = .next (forN 4 (fun p s =>
            if pairs.getLsbD p then modVictim (4 * n.val + p) (fun x => { x with farStopped := false }) s else s) s))
        ∧ ((k + 2 < s.time.s ∨ s.time.s < k) → exec (.feedback n sf tg count pairs exp err) s = .next s))

/-- TIME_MARK, TIME_MARK_SEND, TIME_REPORT, TT_LOST, ANCHOR, SLEW_END, GRID_RAMP and LAUNCH. -/
def Obligations.TimeTransferTheGridAndLaunchesFollowTheClock : Prop :=
  (∀ (n : Port) (s : State), ttOn s n.val = true →
    (∀ (sf : BitVec 40) (sec : BitVec 48) (ns : BitVec 30) (frac epoch : BitVec 16) (delay : BitVec 32) (disc : Bool) (arrival : Nat), isMaster s n.val = false →
      let o := unsigned 48 ((arrival : Int) - ((totalNs sec.toNat ns.toNat * 256 + frac.toNat / 256 : Nat) : Int) - (delay.toNat : Int))
      exec (.timeMark n sf sec ns frac epoch delay true disc false arrival) s = .next (wrP n.val F.TT_OFFSET_HI (o / 2 ^ 32)
        (wrP n.val F.TT_OFFSET_MID (o / 65536 % 65536) (wrP n.val F.TT_OFFSET_LO (o % 65536) s)))
      ∧ exec (.timeMark n sf sec ns frac epoch delay true disc true arrival) s = .next s
      ∧ ∀ stepped, exec (.timeMark n sf sec ns frac epoch delay false disc stepped arrival) s = .next s)
    ∧ (∀ (turn : BitVec 32) (skew : List (BitVec 16)),
      let u := wrP n.val F.TT_SKEW_D (skew.getD 2 0).toNat (wrP n.val F.TT_SKEW_C (skew.getD 1 0).toNat (wrP n.val F.TT_SKEW_B (skew.getD 0 0).toNat s))
      let sf := BitVec.ofNat 40 (toLink s n.val s.time.s)
      (isMaster s n.val = false → exec (.timeMarkSend n turn skew) s = .next (sendMsg n.val 0x41 false (.timeReport sf turn (skew.take 3)) u))
      ∧ (isMaster s n.val = true → ∃ stepped : Bool, (stepped = true ↔ ∃ e, (ttPort s n.val).markEpoch = some e ∧ e ≠ s.time.epoch)
        ∧ exec (.timeMarkSend n turn skew) s = .next (sendMsg n.val 0x40 false (.timeMark sf (BitVec.ofNat 48 (s.time.sTime / 1000000000))
          (BitVec.ofNat 30 (s.time.sTime % 1000000000)) (BitVec.ofNat 16 s.time.sFrac) (BitVec.ofNat 16 s.time.epoch)
          (BitVec.ofNat 32 (rdP s n.val F.TT_DELAY_HI * 65536 + rdP s n.val F.TT_DELAY_LO)) (rdP s n.val F.TT_STATUS_VALID == 1)
          (rdG s F.TIME_STATUS_DISCIPLINED == 1) stepped) (modTt n.val (fun x => { x with markEpoch := some s.time.epoch }) u))))
    ∧ (∀ (sf : BitVec 40) (turn : BitVec 32) (skew : List (BitVec 16)) (eps : Int), isMaster s n.val = true →
      let d := (eps - signed 32 turn.toNat) / 2 + signed 16 (rdP s n.val F.TS_ASYM) * 32 + refSkew s n.val
      let u := modTt n.val (fun x => { x with lastReport := s.time.s }) s
      let old := (ttPort s n.val).delays
      let reps := rdP s n.val F.TT_STATUS_REPORTS
      let near := d - meanDelay old ≤ 1024 ∧ meanDelay old - d ≤ 1024
      let valid := rdP s n.val F.TT_STATUS_VALID = 1
      (valid → near → exec (.timeReport n sf turn skew eps) s = .next (showDelay n.val ((d :: old).take 8) (wrP n.val F.TT_STATUS_REPORTS (min 255 (reps + 1)) u)))
      ∧ (valid → ¬ near → exec (.timeReport n sf turn skew eps) s = .next (showDelay n.val [d] (wrP n.val F.TT_STATUS_REPORTS 1 (loseDelay n.val u))))
      ∧ (¬ valid → inBand ((d :: old).take 8) = true → exec (.timeReport n sf turn skew eps) s = .next (showDelay n.val ((d :: old).take 8)
          (wrP n.val F.TT_STATUS_VALID (if 7 ≤ reps then 1 else 0) (wrP n.val F.TT_STATUS_REPORTS (min 255 (reps + 1)) u))))
      ∧ (¬ valid → inBand ((d :: old).take 8) = false → exec (.timeReport n sf turn skew eps) s = .next (showDelay n.val [d] (wrP n.val F.TT_STATUS_REPORTS 1 u)))))
  ∧ (∀ (n : Port) (s : State),
    (rdP s n.val F.TT_STATUS_VALID = 1 → (ttPort s n.val).lastReport + 64 ≤ s.time.s → exec (.ttLost n) s =
      .next (loseDelay n.val (wrP n.val F.TT_STATUS_REPORTS 0 (modTt n.val (fun x => { x with delays := [] }) s))))
    ∧ (s.time.s < (ttPort s n.val).lastReport + 64 → exec (.ttLost n) s = .next s))
  ∧ (∀ s : State,
    (∀ k ns frac, s.time.anchor = some (k, ns, frac) → s.time.running = true →
      (ns * nsUnit + frac * 2 ^ 32 ≤ s.time.t → ∃ t, exec .anchor s = .next t ∧ t.time = { s.time with anchor := none, s := k, sTime := ns, sFrac := frac }
        ∧ rdG t F.TIME_STATUS_ANCHORED = 1 ∧ t.regs = (evG F.TIME_EVENTS_ANCHOR (wrG F.TIME_STATUS_ANCHORED 1 s)).regs)
      ∧ (s.time.t < ns * nsUnit + frac * 2 ^ 32 → exec .anchor s = .next s))
    ∧ (s.time.anchor = none → exec .anchor s = .next s)
    ∧ (∀ x, s.time.slew = some x → s.time.running = true → exec .slewEnd s = .next (endSlew (moveClock x.back x.left s)))
    ∧ (s.time.slew = none → exec .slewEnd s = .next s)
    ∧ (∀ ds : Nat, s.time.running = true → ∃ g : Int, exec (.gridRamp ds) s = .next (updateClamp (modTime (fun t => { t with gridFreq := g }) s))
      ∧ g - s.time.gridFreq ≤ (ds * 131072 / 10 : Nat) ∧ s.time.gridFreq - g ≤ (ds * 131072 / 10 : Nat)
      ∧ (s.time.gridFreq ≤ clampFreq s.time.freq → s.time.gridFreq ≤ g ∧ g ≤ clampFreq s.time.freq)
      ∧ (clampFreq s.time.freq ≤ s.time.gridFreq → clampFreq s.time.freq ≤ g ∧ g ≤ s.time.gridFreq)))
  ∧ (∀ (c : Fin 16384) (sym : Fin 256) (late : Nat) (s : State),
    let x := ctx s c.val
    let next := modCtx c.val (fun x => x.advance (nowTotal s))
    let come := (inService s x.port = true ∧ 1 ≤ sym.val ∧ x.due * 8 ≤ symTime8 s sym.val) ∨ (inService s x.port = false ∧ x.due ≤ nowTotal s)
    (x.st ≠ .armed → exec (.launch c sym late) s = .next s)
    ∧ (x.st = .armed → ¬ come → exec (.launch c sym late) s = .next s)
    ∧ (x.st = .armed → come →
      (x.queue = [] → exec (.launch c sym late) s = .next (next (modCtx c.val (fun x => { x with missed := x.missed + 1 }) s)))
      ∧ (∀ f q, x.queue = f :: q →
        (linkUp s x.port = false → exec (.launch c sym late) s = .next (next (dropHead c.val s)))
        ∧ (linkUp s x.port = true →
          let u := if launchLate s x f then pmEv 0x10 2 (launchAttr x.port f) (countDev 0x25 1 (evG F.TIME_EVENTS_LATE (addCnt 0 F.LAUNCH_LATE 1 s))) else s
          (launchLate s x f = true → x.lateDrop = true → exec (.launch c sym late) s = .next (next (dropHead c.val u)))
          ∧ ((launchLate s x f = false ∨ x.lateDrop = false) → exec (.launch c sym late) s = .next (next (sendLaunched x.port
              { f with at8 := x.due * 8, ctx := some (c.val, x.stamp) } ((x.due + late) * 8)
              (pmEv 0x10 1 (launchAttr x.port f) (countDev 0x24 1 (modCtx c.val (fun x => { x with queue := x.queue.drop 1, launched := x.launched + 1 }) u))))))))))

/-- SHADOW_READY, SURVEY_COMMIT, LENDING_COMMIT, COMMIT_SWEEP, STAGED_EXPIRY, DORMANT_HOLD_EXPIRY and FEEDBACK_TIMEOUT. -/
def Obligations.CommitsFollowTheCheckTheSweepAndTheWarning : Prop :=
  (∀ (v : Fin 192) (s : State),
    let x := victim s v.val
    (∀ shadow live : Int,
      (x.staged = true → x.commitAt = none → x.again = false →
        (shadow ≤ live + 5 → ∃ k t, exec (.shadowReady v shadow live) s = .next t ∧ (victim t v.val).commitAt = some k
          ∧ (x.survey = true → s.time.s + 8 ≤ k ∧ ∀ r sec ns, s.ch.survey = some r → r.hold = some (sec, ns) → sfAt s (totalNs sec ns) ≤ k)
          ∧ (x.survey = false → x.joins ≠ [] → k = s.time.s + 8) ∧ (x.survey = false → x.joins = [] → k = (s.time.s / 512 + 1) * 512)
          ∧ (x.survey = false → t = modVictim v.val (fun y => { y with commitAt := some k }) s)
          ∧ (∀ r, x.survey = true → s.ch.survey = some r → t = opStep r.op k (modVictim v.val (fun y => { y with commitAt := some k }) s)))
        ∧ (live + 5 < shadow → x.tries = 0 → exec (.shadowReady v shadow live) s = .next (measureAgain v.val (discardStaged v.val s)))
        ∧ (live + 5 < shadow → x.tries ≠ 0 → exec (.shadowReady v shadow live) s = .next (keepVictim v.val (discardStaged v.val s))))
      ∧ ((x.staged = false ∨ x.commitAt ≠ none ∨ x.again = true) → exec (.shadowReady v shadow live) s = .next s))
    ∧ (∀ k, x.commitAt = some k → k ≤ s.time.s → x.sweep = false → clkRun s 8 = true →
      let t := if coreHold s = true then evG F.CH_EVENTS_COMMIT_HELD (wrG F.SURVEY_STATUS_HELD 1 s) else commitVictim v.val (wrG F.SURVEY_STATUS_HELD 0 s)
      (x.survey = true ∨ x.joins ≠ [] → exec (.surveyCommit v) s = .next t ∧ exec (.lendingCommit v) s = .next s)
      ∧ (x.survey = false → x.joins = [] → exec (.lendingCommit v) s = .next t ∧ exec (.surveyCommit v) s = .next s))
    ∧ ((x.commitAt = none ∨ x.sweep = true) → exec (.surveyCommit v) s = .next s ∧ exec (.lendingCommit v) s = .next s)
    ∧ (x.sweep = true → ∃ t, exec (.commitSweep v) s = .next (modVictim v.val (fun y => { y with sweep := false }) t)
      ∧ t = mapLots (fun _ l =>
        if l.victim = v.val ∧ l.gen = activeGen s v.val ∧ l.st = .staged then { l with st := .live }
        else if l.victim = v.val ∧ l.gen = activeGen s v.val ∧ l.st = .retiring then Lot.init else l) s)
    ∧ (x.sweep = false → exec (.commitSweep v) s = .next s)
    ∧ (x.staged = true → hasStaged s v.val = true → exec (.stagedExpiry v) s = .next (measureAgain v.val (discardStaged v.val s)))
    ∧ ((x.staged = false ∨ hasStaged s v.val = false) → exec (.stagedExpiry v) s = .next s)
    ∧ (2 ∈ victimSets s (v.val / 4) → exec (.feedbackTimeout v) s = .next (writeMem (0xC00000 + 0x2000 * v.val + 2167) (List.replicate 2048 0xFF)
        (modVictim v.val (fun x => { x with farStopped := true }) s)))
    ∧ (2 ∉ victimSets s (v.val / 4) → exec (.feedbackTimeout v) s = .next s))
  ∧ (∀ (n : Port) (s : State),
    (rdP s n.val F.CH_PORT_CH_STATE = 3 → inRetain s = false → exec (.dormantHoldExpiry n) s = .next (freePort n.val s))
    ∧ (rdP s n.val F.CH_PORT_CH_STATE ≠ 3 → exec (.dormantHoldExpiry n) s = .next s)
    ∧ ∀ e ∈ (freePort n.val s).ch.lots, e.2.dormant = true → e.2.victim / 4 ≠ n.val ∧ e.2.dist / 4 ≠ n.val)

/-- BAND_CHECK, SURVEY_BATCH, SURVEY_RELEASE, JOIN_MEASURED and CH_WINDOW_END. -/
def Obligations.SurveysAndJoinsAdvanceByTheirWindows : Prop :=
  (∀ (ms : List BandMeas) (r : SurveyRun) (s : State), s.ch.survey = some r → r.k ≤ 2 → s.ch.join = none → clkRun s 8 = true →
    let l := ms.filter (fun m => inService s m.port.val)
    let high := l.filter (fun m => decide (240 < ((m.excess.drop 24).take 4).foldl (· + ·) 0))
    let k := if r.left = [] then r.n else 3
    (l.length < 4 → exec (.bandCheck ms) s = .next (surveyStep k s))
    ∧ (4 ≤ l.length → ∃ top, top % 64 = 63 ∧ 2303 ≤ top ∧ top ≤ 4095 ∧ (4 * high.length < 3 * l.length → top = 4095)
      ∧ (3 * l.length ≤ 4 * high.length → ∀ m ∈ l, ∀ j, 36 ≤ j → j ≤ (top - 63) / 64 → ∀ e, m.excess[j - 36]? = some e → e ≤ 30)
      ∧ bandResult l = some (top, decide (3 * l.length ≤ 4 * high.length))
      ∧ exec (.bandCheck ms) s = .next (surveyStep k (bandCheck ms s))))
  ∧ (∀ (ms : List BandMeas) (cells : List MapCell) (floors : List MapFloor) (s : State), clkRun s 8 = false ∨ s.ch.join ≠ none ∨ s.ch.survey = none →
    exec (.bandCheck ms) s = .next s ∧ exec (.surveyBatch cells floors) s = .next s)
  ∧ (∀ (cells : List MapCell) (floors : List MapFloor) (r : SurveyRun) (s : State), s.ch.survey = some r → 3 ≤ r.k → s.ch.join = none → clkRun s 8 = true →
    (stagedLots s < s.ch.policy.stageLots →
      (r.left ≠ [] → ∃ rest t, runBatch (r.left.take 10) (storeMap cells floors s) = (rest, t)
        ∧ (∀ v ∈ rest, v ∈ r.left) ∧ (rest ≠ [] → t.ch.policy.stageLots ≤ stagedLots t)
        ∧ exec (.surveyBatch cells floors) s = .next (surveyStep (if rest ++ r.left.drop 10 = [] then r.n else min r.n (r.k + 1))
          (modSurvey (fun x => { x with left := rest ++ r.left.drop 10 }) t)))
      ∧ (r.left = [] → r.again ≠ [] → ∃ rest t, runBatch (r.again.take 10) (storeMap cells floors s) = (rest, t)
        ∧ (∀ v ∈ rest, v ∈ r.again) ∧ (rest ≠ [] → t.ch.policy.stageLots ≤ stagedLots t)
        ∧ exec (.surveyBatch cells floors) s = .next (surveyStep r.n (modSurvey (fun x => { x with again := rest ++ r.again.drop 10 }) t))))
    ∧ (s.ch.policy.stageLots ≤ stagedLots s → exec (.surveyBatch cells floors) s = .next s)
    ∧ (r.left = [] → r.again = [] → exec (.surveyBatch cells floors) s = .next s))
  ∧ (∀ (r : SurveyRun) (s : State), s.ch.survey = some r → 3 ≤ r.k →
    (r.left = [] → r.again = [] → (∀ e ∈ s.ch.victims, e.2.survey = false) →
      ((∃ e ∈ r.outcome, e.2 = 2) → exec .surveyRelease s = .next (surveyEnd .partialDone (surveyStep r.n s)))
      ∧ ((∀ e ∈ r.outcome, e.2 ≠ 2) → exec .surveyRelease s = .next (surveyEnd .ok (surveyStep r.n s))))
    ∧ ((r.left ≠ [] ∨ r.again ≠ [] ∨ ∃ e ∈ s.ch.victims, e.2.survey = true) → exec .surveyRelease s = .next s))
  ∧ (∀ (cells : List MapCell) (floors : List MapFloor) (s : State),
    (∀ n, s.ch.join = some n → clkRun s 8 = true → exec (.joinMeasured cells floors) s = .next (joinMeasured cells floors n s))
    ∧ (s.ch.join = none ∨ clkRun s 8 = false → exec (.joinMeasured cells floors) s = .next s))
  ∧ (∀ (ms : List WindowMeas) (s : State),
    (clkRun s 8 = true →
      let u := forL (ms.filter (fun m => hasPort s (m.v.val / 4))) windowReport s
      let t := policyDue (forL (allVictims u) (fun v s => if (victim s v).lending then commitDue v s else s) u)
      (rdG t F.CH_CTRL_LEND_EN = 1 → t.ch.survey = none → exec (.chWindowEnd ms) s = .next (lend t))
      ∧ ((rdG t F.CH_CTRL_LEND_EN ≠ 1 ∨ t.ch.survey ≠ none) → exec (.chWindowEnd ms) s = .next t))
    ∧ (clkRun s 8 = false → exec (.chWindowEnd ms) s = .next s))

/-- DIAG_BEGIN, ACTIVE_ACQUISITION, INPUT_BUSY, PASSIVE_COPY, NOISE_FLOOR_WINDOW_END, CAPTURE_TRIGGER, CAPTURE_FILLED and CAPTURE_TIMEOUT. -/
def Obligations.DiagnosticsRunFromTheirStartToTheirRecords : Prop :=
  (∀ (n : Port) (s : State),
    (∀ r, s.diag.runs.find? (fun r => r.port == n.val && !r.begun) = some r →
      (runDue s r = false ∨ (r.kind = 1 ∧ activeWaits s r = true) → exec (.diagBegin n) s = .next s)
      ∧ (runDue s r = true → (r.kind = 1 → activeWaits s r = false) →
        (diagReady s r.kind n.val r.args = false → exec (.diagBegin n) s = .next (diagEnd r.op .notReady s))
        ∧ (diagReady s r.kind n.val r.args = true →
          (r.kind = 1 ∨ r.kind = 2 → exec (.diagBegin n) s = .next (runBegin r s.time.s s))
          ∧ (r.kind = 3 → ∃ k, k % 512 = 0 ∧ s.time.s < k ∧ k ≤ s.time.s + 512
            ∧ exec (.diagBegin n) s = .next (runBegin r k (modRun r.op (fun x => { x with endS := some (k + 512) }) s)))
          ∧ (r.kind = 4 → exec (.diagBegin n) s = .next (diagEnd r.op .ok (diagStep r 1 4 (modRun r.op (fun x => { x with records := [ranking s r.port] })
              (runBegin r s.time.s s)))))
          ∧ (r.kind = 5 → ∀ u, u = diagStep r 1 0 (capHeader r 1 0 (storeWrite (runBegin r s.time.s s))) →
            (byteAt r.args 1 = 0 → exec (.diagBegin n) s = .next (captureTrigger r u)) ∧ (byteAt r.args 1 ≠ 0 → exec (.diagBegin n) s = .next u)))))
    ∧ (s.diag.runs.find? (fun r => r.port == n.val && !r.begun) = none → exec (.diagBegin n) s = .next s))
  ∧ (∀ (n : Port) (r : DiagRun) (s : State), portRun s n.val = some r →
    (∀ (discarded : Nat) (echoes : List Echo) (p : Nat) (l : List Nat), r.kind = 1 → r.pairsLeft = p :: l →
      let nvp := argOr (beAt r.args 0 2) 690
      (diagReady s 1 n.val r.args = false → exec (.activeAcquisition n discarded echoes) s = .next (diagEnd r.op .notReady s))
      ∧ (diagReady s 1 n.val r.args = true →
        (32 < discarded → r.repeats < 3 → exec (.activeAcquisition n discarded echoes) s = .next (modRun r.op (fun x => { x with repeats := x.repeats + 1 }) s))
        ∧ (32 < discarded → 3 ≤ r.repeats → exec (.activeAcquisition n discarded echoes) s = .next (pairDone r (modRun r.op (fun x => { x with partialDone := true })
            (setRecord r.op p (pairRecord 0x40 nvp []) s))))
        ∧ (discarded ≤ 32 → ∃ ev, ev.length ≤ 4 ∧ ev = cableEvents false (argOr (beAt r.args 2 2) 150) (argOr (byteAt r.args 4) 60) s.draws echoes
          ∧ exec (.activeAcquisition n discarded echoes) s = .next (pairDone r (showListenDiag n.val p ev (setRecord r.op p (pairRecord 0x80 nvp ev) (draw (draw s))))))))
    ∧ (∀ echoes : List (List Echo), r.kind = 2 →
      (inService s n.val = false → exec (.passiveCopy n echoes) s = .next (diagEnd r.op .notReady s))
      ∧ (inService s n.val = true →
        let nvp := argOr (beAt r.args 0 2) 690
        exec (.passiveCopy n echoes) s = .next (diagEnd r.op .ok (diagStep r 2 (maskPairs r.pairs).length
          (modRun r.op (fun x => { x with pairsLeft := [], startS := if onGrid s n.val = true then s.time.s else 0 })
            (forL ((maskPairs r.pairs).mapIdx (fun i p => (i, p))) (fun e t => setRecord r.op e.2
              (if (threePair s n.val && absentPair s n.val == e.2) = true then pairRecord 0x20 nvp []
              else pairRecord 0xA0 nvp (cableEvents true 0 (argOr (byteAt r.args 4) 60) s.draws (echoes.getD e.1 []))) t) s))))))
    ∧ (∀ (total unexpl : List (List Byte)), r.kind = 3 → ∀ k, r.endS = some k →
      (s.time.s < k → exec (.noiseFloorWindowEnd n total unexpl) s = .next s)
      ∧ (k ≤ s.time.s → diagReady s 3 n.val r.args = false → exec (.noiseFloorWindowEnd n total unexpl) s = .next (diagEnd r.op .notReady s))
      ∧ (k ≤ s.time.s → diagReady s 3 n.val r.args = true → ∃ t u : State,
        let nots := notches s n.val
        let un := curves nots r.pairs unexpl
        let base := portBase n.val + 0x3200
        t = forL (maskPairs r.pairs) (fun p t => writeMem (base + 10 + 16 * p) ((List.range 16).map (bandMean (un.getD p []))) t)
          (writeMem base (natBE 6 (s.time.sTime / 1000000000) ++ natBE 4 (s.time.sTime % 1000000000)) u)
        ∧ (∃ free : List Byte, free.length = 15 ∧ u = writeMem 0x400009 free (draw (writeMem 0x400040 ((curves nots r.pairs total).flatten ++ un.flatten)
            (capHeader r 0 32768 (storeWrite s)))))
        ∧ exec (.noiseFloorWindowEnd n total unexpl) s = .next (diagEnd r.op .ok (diagStep r 2 (maskPairs r.pairs).length
            (modRun r.op (fun x => { x with records := [(List.range 4).flatMap (fun p => readMem t (base + 10 + 16 * p) 16)] }) t)))))
    ∧ (r.kind = 5 → r.stage = 1 → (∀ cause : Fin 5,
        (byteAt r.args 1 = cause.val → exec (.captureTrigger n cause) s = .next (captureTrigger r s))
        ∧ (byteAt r.args 1 ≠ cause.val → exec (.captureTrigger n cause) s = .next s))
      ∧ exec (.captureTimeout n) s = .next (diagEnd r.op .ok (capHeader r 2 0 s)) ∧ ∀ data, exec (.captureFilled n data) s = .next s)
    ∧ (r.kind = 5 → r.stage = 2 → (∀ cause, exec (.captureTrigger n cause) s = .next s) ∧ exec (.captureTimeout n) s = .next s
      ∧ ∀ data : List Byte, data.length + 64 ≤ 4194304 → exec (.captureFilled n data) s = .next (diagEnd r.op .ok (diagStep r 3 (maskPairs r.pairs).length
          (writeMem 0x400040 data (capHeader r 0 data.length (storeWrite s)))))))
  ∧ (∀ (n : Port) (discarded : Nat) (echoes : List Echo) (two : List (List Echo)) (total unexpl : List (List Byte)) (cause : Fin 5) (data : List Byte) (s : State),
    (∀ r, portRun s n.val = some r → r.kind ≠ 1 → exec (.activeAcquisition n discarded echoes) s = .next s)
    ∧ (∀ r, portRun s n.val = some r → r.kind ≠ 2 → exec (.passiveCopy n two) s = .next s)
    ∧ (∀ r, portRun s n.val = some r → r.kind ≠ 3 → exec (.noiseFloorWindowEnd n total unexpl) s = .next s)
    ∧ (∀ r, portRun s n.val = some r → r.kind ≠ 5 → exec (.captureTrigger n cause) s = .next s ∧ exec (.captureFilled n data) s = .next s
      ∧ exec (.captureTimeout n) s = .next s)
    ∧ (portRun s n.val = none → exec (.activeAcquisition n discarded echoes) s = .next s ∧ exec (.passiveCopy n two) s = .next s
      ∧ exec (.noiseFloorWindowEnd n total unexpl) s = .next s ∧ exec (.captureTrigger n cause) s = .next s ∧ exec (.captureFilled n data) s = .next s
      ∧ exec (.captureTimeout n) s = .next s)
    ∧ ((port (diagBusy n.val s) n.val).st = .listen → exec (.inputBusy n) s = .next (leaveListen n.val (diagBusy n.val s)))
    ∧ ((port (diagBusy n.val s) n.val).st ≠ .listen → exec (.inputBusy n) s = .next (diagBusy n.val s)))

/-- CAL_WINDOW_START, CAL_RETRY, CAL_MEASUREMENT_DONE, CAL_INPUT_BUSY, CAL_COMMIT_APPLY and CAL_RAMP_STEP. -/
def Obligations.CalibrationsWaitMeasureCommitAndRetry : Prop :=
  (∀ (tg : CalTgt) (r : CalRun) (s : State), findCal s (tgtNo tg) = some r →
    let t := tgtNo tg
    let p := r.left.headD 0
    (r.phase = .waiting →
      let u := countDev 0x3C 1 s
      let come := totalNs r.sec r.ns ≤ nowTotal s
      (abortAsked s r.op = true → exec (.calWindowStart tg) s = .next (calEnd t .aborted s))
      ∧ (abortAsked s r.op = false →
        (r.lane = true →
          (¬ come → exec (.calWindowStart tg) s = .next s)
          ∧ (come → exec (.calWindowStart tg) s = .next (calQuiet t false false (modLane r.index (fun l => { l with calIdle := true })
            (if laneStep s r.index = 0 then u else laneSet r.index 2 u)))))
        ∧ (r.lane = false →
          (inShutter s t = true → exec (.calWindowStart tg) s = .next (wantWake t s))
          ∧ (inShutter s t = false → calByPair s t = true →
            let k := hostFrame s r.sec r.ns
            (s.time.s + 65536 < k → exec (.calWindowStart tg) s = .next s)
            ∧ (k ≤ s.time.s + 65536 → exec (.calWindowStart tg) s = .next (calAsk t p k u)))
          ∧ (inShutter s t = false → calByPair s t = false →
            (¬ come → exec (.calWindowStart tg) s = .next s)
            ∧ (come → calInPlace s t r.left = true → exec (.calWindowStart tg) s =
              .next (calStep t (modCalRun t (fun x => { x with phase := .out s.time.s, inPlace := true, measured := false }) u)))
            ∧ (come → calInPlace s t r.left = false →
              (linkUp s t = true → r.allowDrop = false → exec (.calWindowStart tg) s =
                .next (calGoodEnd t (forL r.left (fun p s => calOutcome t p (sameCode r 4) s) u)))
              ∧ ((linkUp s t = false ∨ r.allowDrop = true) → exec (.calWindowStart tg) s = .next (calTakeDown t u)))))))
    ∧ (r.phase ≠ .waiting → exec (.calWindowStart tg) s = .next s)
    ∧ (r.phase = .retry → ∃ u, u = modCalRun t (fun x => { x with phase := .waiting, sec := 0, ns := 0 }) s
      ∧ exec (.calRetry tg) s = exec (.calWindowStart tg) u)
    ∧ (r.phase ≠ .retry → exec (.calRetry tg) s = .next s)
    ∧ (r.phase = .quiet →
      (∀ m : CalMeas, ∃ u, u = modCalRun t (fun x => { x with left := x.left.drop 1 }) (calTake t p m s)
        ∧ (2 ≤ r.left.length → abortAsked s r.op = false → exec (.calMeasurementDone tg m) s = .next (calStep t u))
        ∧ ((r.left.length ≤ 1 ∨ abortAsked s r.op = true) → exec (.calMeasurementDone tg m) s = .next (calAttemptEnd t (calCommitRun t u))))
      ∧ exec (.calInputBusy tg) s = .next (calAttemptEnd t (calCommitRun t (modCalRun t (fun x => { x with busy := true }) (calOutcome t p (sameCode r 2) s)))))
    ∧ (∀ k, r.phase = .out k →
      (∀ m : CalMeas,
        (r.measured = true ∨ (r.inPlace = false ∧ s.time.s ≤ k) → exec (.calMeasurementDone tg m) s = .next s)
        ∧ (r.measured = false → r.inPlace = false → k < s.time.s → exec (.calMeasurementDone tg m) s =
          .next (modCalRun t (fun x => { x with measured := true }) (calTake t p m s)))
        ∧ (r.measured = false → r.inPlace = true → exec (.calMeasurementDone tg m) s =
          .next (modCalRun t (fun x => { x with left := x.left.drop 1 }) (modCalRun t (fun x => { x with measured := true }) (calTake t p m s)))))
      ∧ (r.measured = true → exec (.calInputBusy tg) s = .next s)
      ∧ (r.measured = false → ∃ u, u = modCalRun t (fun x => { x with busy := true }) (calOutcome t p (sameCode r 2) s)
        ∧ (r.inPlace = false → exec (.calInputBusy tg) s = .next u)
        ∧ (r.inPlace = true → exec (.calInputBusy tg) s = .next (calAttemptEnd t (modCalRun t (fun x => { x with inPlace := false }) u)))))
    ∧ (∀ k, r.phase = .asked k → (∀ m, exec (.calMeasurementDone tg m) s = .next s)
      ∧ exec (.calInputBusy tg) s = .next (modCalRun t (fun x => { x with busy := true }) (calOutcome t p (sameCode r 2) s)))
    ∧ ((r.phase = .waiting ∨ r.phase = .ramp ∨ r.phase = .retry) → (∀ m, exec (.calMeasurementDone tg m) s = .next s) ∧ exec (.calInputBusy tg) s = .next s))
  ∧ (∀ (tg : CalTgt) (s : State), findCal s (tgtNo tg) = none → exec (.calWindowStart tg) s = .next s ∧ exec (.calRetry tg) s = .next s
    ∧ exec (.calInputBusy tg) s = .next s ∧ ∀ m, exec (.calMeasurementDone tg m) s = .next s)
  ∧ (∀ (tg : CalTgt) (s : State),
    let t := tgtNo tg
    let c := calTarget s t
    (∀ w, c.commit = some w →
      (whenDue s w = true → ramping s t = false → (64 ≤ t → laneStep s (t - 64) = 2) → exec (.calCommitApply tg) s = .next (commitRecord t s))
      ∧ ((whenDue s w = false ∨ ramping s t = true ∨ (64 ≤ t ∧ laneStep s (t - 64) ≠ 2)) → exec (.calCommitApply tg) s = .next s))
    ∧ (c.commit = none → exec (.calCommitApply tg) s = .next s)
    ∧ (c.rampLeft = 0 → exec (.calRampStep tg) s = .next s)
    ∧ (2 ≤ c.rampLeft → exec (.calRampStep tg) s = .next (modTarget t (fun c => { c with rampLeft := c.rampLeft - 1 }) s))
    ∧ (c.rampLeft = 1 → ∃ u, u = wrFld (calBase t) F.CAL_PORT_RAMP 0 (modTarget t (fun c => { c with oldBody := [] })
        (modTarget t (fun c => { c with rampLeft := c.rampLeft - 1 }) s))
      ∧ (∀ r, findCal s t = some r → r.phase = .ramp → exec (.calRampStep tg) s = .next (calAttemptEnd t u))
      ∧ ((∀ r, findCal s t = some r → r.phase ≠ .ramp) → exec (.calRampStep tg) s = .next u)))

/-- AUDIT_START, SLICE_END, SLICE_TIMEOUT, AUDIT_SERVICE_REQUEST and AUDIT_END. -/
def Obligations.TheClosingAuditRunsSliceBySlice : Prop :=
  (∀ s : State,
    (∀ d, s.audit.due = some d →
      (totalNs d.sec d.ns ≤ nowTotal s → (∀ b ∈ d.blocks, auditConflict s b = false) →
        exec .auditStart s = .next (auditBegin d.plan d.blocks (modAudit (fun a => { a with due := none }) s)))
      ∧ ((nowTotal s < totalNs d.sec d.ns ∨ ∃ b ∈ d.blocks, auditConflict s b = true) → exec .auditStart s = .next s))
    ∧ (s.audit.due = none → exec .auditStart s = .next s))
  ∧ (∀ s : State, s.audit.state = 1 → s.audit.paused = false →
    (∀ (x : AuditBlock) (m : SliceMeas), auditNow s = some x →
      (∀ i l, x.slices = i :: l →
        (m.patterns < Config.auditPatterns x.block i → exec (.sliceEnd m) s = .next (auditAdvance x (countDev 0x3E 1 (sliceResult i 2 s))))
        ∧ (Config.auditPatterns x.block i ≤ m.patterns → m.signature = Config.auditSignature x.block i →
          exec (.sliceEnd m) s = .next (auditAdvance x (countDev 0x3E 1 (sliceResult i 0 s))))
        ∧ (Config.auditPatterns x.block i ≤ m.patterns → m.signature ≠ Config.auditSignature x.block i →
          exec (.sliceEnd m) s = .next (auditAdvance x (countDev 0x3E 1 (sliceResult i 1 s))))
        ∧ exec .sliceTimeout s = .next (auditAdvance x (countDev 0x3E 1 (sliceResult i 2 s))))
      ∧ (x.slices = [] → exec (.sliceEnd m) s = .next (auditAdvance x (forL m.fails memFailure s)) ∧ exec .sliceTimeout s = .next (auditAdvance x s)))
    ∧ (auditNow s = none → (∀ m, exec (.sliceEnd m) s = .next s) ∧ exec .sliceTimeout s = .next s
      ∧ ∃ r, exec .auditEnd s = .next (auditOver (evG F.AUDIT_EVENTS_DONE (journalEvent 0 0x34 r (min 255 s.audit.repairs)
          (modAudit (fun a => { a with state := 2, result := r }) s))))
        ∧ (((∃ e ∈ s.audit.results, e.2 = 1) ∨ 0 < s.audit.unrepaired) → r = Status.partialDone.code)
        ∧ ((∀ e ∈ s.audit.results, e.2 ≠ 1) → s.audit.unrepaired = 0 → (∃ e ∈ s.audit.results, e.2 = 2 ∨ e.2 = 3 ∨ e.2 = 4) → r = Status.incomplete.code)
        ∧ ((∀ e ∈ s.audit.results, e.2 ≠ 1 ∧ e.2 ≠ 2 ∧ e.2 ≠ 3 ∧ e.2 ≠ 4) → s.audit.unrepaired = 0 → r = Status.ok.code)))
  ∧ (∀ s : State, s.audit.state ≠ 1 ∨ s.audit.paused = true → (∀ m, exec (.sliceEnd m) s = .next s) ∧ exec .sliceTimeout s = .next s)
  ∧ (∀ s : State, s.audit.state ≠ 1 ∨ (auditNow s).isSome = true → exec .auditEnd s = .next s)
  ∧ (∀ (b : Fin 32) (s : State),
    (b.val ∈ s.audit.held →
      (b.val < 6 → exec (.auditServiceRequest b) s = .next (auditOver (auditAsk 8 (auditAsk b.val s))))
      ∧ (12 ≤ b.val → exec (.auditServiceRequest b) s = .next (auditOver (auditAsk b.val s)))
      ∧ ∀ x, s.audit.blocks.find? (fun x => x.block == b.val) = some x →
        (x.ended = true → auditAsk b.val s = auditFree b.val s)
        ∧ (x.ended = false → (auditNow s).map (·.block) = some b.val →
          auditAsk b.val s = modAudit (fun a => { a with cutAsked := b.val :: a.cutAsked.filter (· != b.val) }) s)
        ∧ (x.ended = false → (auditNow s).map (·.block) ≠ some b.val → auditAsk b.val s = auditCut b.val s))
    ∧ ((b.val ∉ s.audit.held ∨ (6 ≤ b.val ∧ b.val < 12)) → exec (.auditServiceRequest b) s = .next s))

/-- LEVEL_RAISE_SWITCH, LEVEL_LOWER_SWITCH, LEVEL_FAIL, AVS_READBACK and AVS_FAIL. -/
def Obligations.LevelsFollowTheirClocksAndVoltages : Prop :=
  (∀ (o : LevelOp) (s : State), s.power.levelOp = some o →
    (o.started = true → o.raised = true → o.raiseDone = false → (∀ g ∈ o.ups, rdBit s 0 F.CLK_READY_PLL_DSP (2 * g + idlePll s g) = true) →
      exec .levelRaiseSwitch s = .next (levelDone (modLevel (fun o => { o with raiseDone := true })
        (forL o.ups (fun g s => opItem o.op 0 g o.level 0 s) (forL o.ups (levelSwitch o.level) s)))))
    ∧ ((o.started = false ∨ o.raised = false ∨ o.raiseDone = true ∨ ∃ g ∈ o.ups, rdBit s 0 F.CLK_READY_PLL_DSP (2 * g + idlePll s g) = false) →
      exec .levelRaiseSwitch s = .next s)
    ∧ (o.started = true → o.switched = false → (∀ g ∈ o.downs, rdBit s 0 F.CLK_READY_PLL_DSP (2 * g + idlePll s g) = true) →
      (∀ n ∈ allPorts s, groupOf n ∈ o.downs → sirAbove s o.level n = false) →
      exec .levelLowerSwitch s = .next (levelVolts (opProgress o.op 2 2 50 (forL o.downs (fun g => setVolt g o.level)
        (modLevel (fun o => { o with switched := true }) (forL o.downs (fun g s => opItem o.op 0 g o.level 0 s) (forL o.downs (levelSwitch o.level) s)))))))
    ∧ ((o.started = false ∨ o.switched = true ∨ (∃ g ∈ o.downs, rdBit s 0 F.CLK_READY_PLL_DSP (2 * g + idlePll s g) = false)
        ∨ ∃ n ∈ allPorts s, groupOf n ∈ o.downs ∧ sirAbove s o.level n = true) → exec .levelLowerSwitch s = .next s)
    ∧ (o.started = true → ((o.raiseDone = false ∧ ∃ g ∈ o.ups, rdBit s 0 F.CLK_READY_PLL_DSP (2 * g + idlePll s g) = false)
        ∨ (o.switched = false ∧ ∃ g ∈ o.downs, rdBit s 0 F.CLK_READY_PLL_DSP (2 * g + idlePll s g) = false)
        ∨ (o.raised = false ∧ coreWarn s = true)) →
      exec .levelFail s = .next (levelOver .incomplete (evG F.PWR_EVENTS_LEVEL_FAIL (forL o.groups (fun x s =>
        if levelOf s x.1 = x.2 then setVolt x.1 x.2 s
        else setLevel x.1 x.2 (setDsp x.1 (dspUse (setVolt x.1 x.2 s) x.1) (x.2 + 1) (setVolt x.1 x.2 s))) s))))
    ∧ (o.started = false → exec .levelFail s = .next s))
  ∧ (∀ s : State, s.power.levelOp = none → exec .levelRaiseSwitch s = .next s ∧ exec .levelLowerSwitch s = .next s ∧ exec .levelFail s = .next s)
  ∧ (∀ (mv : BitVec 16) (t old : Nat) (s : State), s.power.avsPending = some (t, old) →
    exec (.avsReadback mv true) s = .next (evG F.SUPPLY_EVENTS_AVS_ALERT s)
    ∧ (mv.toNat ≤ t + 10 → t ≤ mv.toNat + 10 → exec (.avsReadback mv false) s =
      .next (levelVolts (modPower (fun p => { p with avsPending := none }) (wrG F.AVS_READ mv.toNat s))))
    ∧ ((t + 10 < mv.toNat ∨ mv.toNat + 10 < t) → exec (.avsReadback mv false) s = .next (wrG F.AVS_READ mv.toNat s))
    ∧ exec .avsFail s = .next (levelFail (evG F.SUPPLY_EVENTS_AVS_FAIL (wrG F.AVS_CTRL_TARGET old (modPower (fun p => { p with avsPending := none }) s)))))
  ∧ (∀ (mv : BitVec 16) (alert : Bool) (s : State), s.power.avsPending = none → exec (.avsReadback mv alert) s = .next s ∧ exec .avsFail s = .next s)

/-- R679, at SLEEP_BLOCK_STOP. -/
def Obligations.ABlockRefusesToStopForTheReasonsOfTheTable : Prop :=
  ∀ (o : SleepOp) (b : Nat) (rest : List Nat) (s : State), s.power.sleep = some o → o.toAsk = b :: rest →
    let Holds : Nat → Nat → Prop := fun code detail =>
      (code = 1 ∧ b = 0x10 ∧ detail ∈ ctxsWhere s (fun x => x.st == .armed && decide (x.due ≤ nowTotal s + (if o.retain then 10000000000 else 5000000))))
      ∨ (code = 2 ∧ b < 6 ∧ o.retain = false ∧ detail ∈ allPorts s ∧ groupOf detail = b ∧ enabled s detail = true
        ∧ ((linkUp s detail = true ∧ inShutter s detail = false ∧ (port s detail).shut.lpi = false)
          ∨ (port s detail).st = .training ∨ (port s detail).st = .stdTraining))
      ∨ (code = 3 ∧ b < 6 ∧ ∃ r ∈ s.cal.runs, r.lane = false ∧ groupOf r.index = b ∧ detail = r.index)
      ∨ (code = 4 ∧ b ∈ s.audit.held ∧ ((b < 6 ∧ detail = b) ∨ (12 ≤ b ∧ b < 16 ∧ detail = b - 12)))
      ∨ (code = 5 ∧ b = 8 ∧ detail = 0 ∧ (s.ch.survey.isSome = true ∨ s.ch.join.isSome = true))
      ∨ (code = 6 ∧ 12 ≤ b ∧ b < 16 ∧ detail = b - 12
        ∧ ((1 ≤ laneStep s (b - 12) ∧ laneStep s (b - 12) < 5) ∨ (lane s (b - 12)).test.isSome = true))
    ((∃ code detail, Holds code detail) → ∃ code detail, Holds code detail
      ∧ exec .sleepBlockStop s = .next (evG F.PWR_EVENTS_REFUSED (sleepCancel .refused (natBE 1 b ++ natBE 1 code ++ natBE 2 detail) s)))
    ∧ ((∀ code detail, ¬ Holds code detail) →
      let t := opItem o.op 0 b 0 0 (stopBlock o.retain b s)
      let k := o.stopped.length + 1
      (rest ≠ [] → exec .sleepBlockStop s = .next (opProgress o.op (k + 1) (k + rest.length) (k * 100 / (k + rest.length)) t))
      ∧ (rest = [] → o.retain = true → exec .sleepBlockStop s = .next (retainEnter o t))
      ∧ (rest = [] → o.retain = false → exec .sleepBlockStop s = .next (dozeEnter o t)))

/-- DOZE_WAKE, RETAIN_WAKE, WAKE_PLL_RELOCK, WAKE_DOMAINS_POWERED and TRANSFER_ABORT. -/
def Obligations.WakesAndTransfersInFlight : Prop :=
  (∀ s : State,
    (rdG s F.PWR_STATUS_STATE = 2 → exec .dozeWake s = .next (countDev 0x35 1 (evG F.PWR_EVENTS_WAKE (wrG F.WAKE_STATUS_DURING_ENTRY 0
      (wrG F.WAKE_STATUS_SOURCE 4 (wrG F.PWR_STATUS_STATE 0 (modPower (fun p => { p with sleep := none }) s)))))))
    ∧ (rdG s F.PWR_STATUS_STATE = 1 → exec .dozeWake s = .next (wrG F.PWR_STATUS_WAKE_PENDING 1 (modPower (fun p => { p with wakeLatch := some (4, 0, 0) }) s)))
    ∧ (rdG s F.PWR_STATUS_STATE ≠ 1 → rdG s F.PWR_STATUS_STATE ≠ 2 → exec .dozeWake s = .next s))
  ∧ (∀ (w : WakeSrc) (s : State),
    (∀ bus prtad, w = .mdio bus prtad → (rdG s F.WAKE_CTRL_MDIO_WAKE ≠ 1 ∨ mdioPort s bus.val prtad.val = none → wakeSource s w = none)
      ∧ ∀ n, rdG s F.WAKE_CTRL_MDIO_WAKE = 1 → mdioPort s bus.val prtad.val = some n → wakeSource s w = some (1, bus.val + 1, n))
    ∧ (∀ n, w = .energy n → wakeSource s w =
      if hasPort s n.val = true ∧ bitsOf (rdG s F.WAKE_ARM_LO + 2 ^ 32 * rdG s F.WAKE_ARM_HI) n.val n.val = 1 then some (2, 0, n.val) else none)
    ∧ (w = .commandPort → wakeSource s w = if rdG s F.WAKE_CTRL_CP_WAKE = 1 then some (3, 0, 0) else none)
    ∧ (wakeSource s w = none → exec (.retainWake w) s = .next s)
    ∧ (∀ src bus n, wakeSource s w = some (src, bus, n) →
      (s.stage = .stopped → s.power.wakeStep = 0 →
        (src = 3 → exec (.retainWake w) s = .next (setDropped (wakeBegin src bus n false s)))
        ∧ (src ≠ 3 → exec (.retainWake w) s = .next (wakeBegin src bus n false s)))
      ∧ ((s.stage ≠ .stopped ∨ s.power.wakeStep ≠ 0) →
        (rdG s F.PWR_STATUS_STATE = 3 → s.power.wakeLatch = none → exec (.retainWake w) s =
          .next (wrG F.PWR_STATUS_WAKE_PENDING 1 (modPower (fun p => { p with wakeLatch := some (src, bus, n) }) s)))
        ∧ ((rdG s F.PWR_STATUS_STATE ≠ 3 ∨ s.power.wakeLatch ≠ none) → exec (.retainWake w) s = .next s))))
  ∧ (∀ s : State,
    (s.power.wakeStep = 2 → rdG s F.CLK_READY_REFCLK_VALID = 1 → s.power.lowRails = [] →
      ∃ plls t, plls = [Pll.mgmt, .line, .ch, .lane] ++ (List.finRange 6).map (fun g => if dspUse s g.val = 0 then Pll.dspA g else Pll.dspB g)
        ∧ t = forL plls pllReady s
        ∧ exec .wakePllRelock s = .next (powerBlocks (fun b => b == 16 || b == 17 || b == 18)
            (modPower (fun p => { p with wakeStep := 3 }) (avsWrite (coreNeed t 0) t))))
    ∧ ((s.power.wakeStep ≠ 2 ∨ rdG s F.CLK_READY_REFCLK_VALID ≠ 1 ∨ s.power.lowRails ≠ []) → exec .wakePllRelock s = .next s)
    ∧ (s.power.wakeStep = 3 → exec .wakeDomainsPowered s = .next (settle s (wrG F.PWR_STATUS_STATE 0 (modPower (fun p => { p with sleep := none, wakeStep := 0 }) s))))
    ∧ (s.power.wakeStep ≠ 3 → exec .wakeDomainsPowered s = .next s))
  ∧ (∀ (ty : Fin 6) (count : Byte) (tgt : Nat) (s : State),
    (ty.val ≠ 0 → count ≠ 0 → ∃ t, exec (.transferAbort ty count tgt) s = .next (evG F.PWR_EVENTS_XFER_ABORT (countDev 0x3B count.toNat
        (journalEvent 0 0x21 ty.val count.toNat t)))
      ∧ (ty.val = 1 → t = addCnt 0 F.XFER_ABORTS_COEF count.toNat s)
      ∧ (ty.val = 2 → tgt < 16384 → t = addCnt 0 F.XFER_ABORTS_LAUNCH count.toNat
          (modCtx tgt (fun x => { x with queue := x.queue.drop count.toNat, dropped := x.dropped + count.toNat }) s))
      ∧ (ty.val = 3 → ∀ r, s.diag.runs.find? (fun r => r.kind == 5 && r.begun && r.port == tgt) = some r →
          t = addCnt 0 F.XFER_ABORTS_CAPTURE count.toNat (captureCut r.op s))
      ∧ (ty.val = 4 → t = addCnt 0 F.XFER_ABORTS_OTHER count.toNat s)
      ∧ (ty.val = 5 → tgt < 48 → t = addCnt 0 F.XFER_ABORTS_OTHER count.toNat (addCnt (portBase tgt) F.HL_HTX_DROP count.toNat s))
      ∧ (ty.val = 5 → 48 ≤ tgt → tgt < 96 → t = addCnt 0 F.XFER_ABORTS_OTHER count.toNat (addCnt (portBase (tgt - 48)) F.HL_HRX_DROP count.toNat s)))
    ∧ ((ty.val = 0 ∨ count = 0) → exec (.transferAbort ty count tgt) s = .next s))

/-- HTX_STRIPE, HRX_STRIPE, HRX_CONTROL_STRIPE, HRX_RECORD, PAUSE_REPEAT, NOTICE_TIMEOUT and LINE_FRAME. -/
def Obligations.StripesAndRecordsCrossTheHostLanes : Prop :=
  (∀ (g : Lane) (s : State),
    (laneActive s g.val = true →
      ((lane s g.val).stripe % 128 = 0 → exec (.htxStripe g) s = .next (modLane g.val (fun l => { l with htxOut := controlBody s g.val, stripe := (l.stripe + 1) % 512 })
        (pmEv (12 + g.val) 1 PmAttr.none s)))
      ∧ ((lane s g.val).stripe % 128 ≠ 0 → ∃ bytes ptr left k body,
        fillStripe s (992 * (128 - (lane s g.val).stripe % 128)) (lane s g.val).htxQueue (lane s g.val).htxBytes none 0 = (bytes, ptr, left, k)
        ∧ body.length = 992 ∧ body = bytes.take 992 ++ List.replicate (992 - bytes.length) 0
        ∧ exec (.htxStripe g) s = .next (pmEvN (12 + g.val) 3 PmAttr.none k (modLane g.val
          (fun l => { l with htxOut := body, htxQueue := left, htxBytes := bytes.drop 992, stripe := (l.stripe + 1) % 512 }) (pmEv (12 + g.val) 1 PmAttr.none s)))))
    ∧ (laneActive s g.val = false → 2 ≤ laneStep s g.val → laneStep s g.val ≠ 6 → exec (.htxStripe g) s =
      .next (modLane g.val (fun l => { l with htxOut := (List.range 8).flatMap (trainBody s g.val), stripe := (l.stripe + 1) % 512 }) s))
    ∧ (laneActive s g.val = false → laneStep s g.val < 2 ∨ laneStep s g.val = 6 → exec (.htxStripe g) s = .next s))
  ∧ (∀ (g : Lane) (x : RxStripe) (s : State),
    (laneStep s g.val < 2 ∨ laneStep s g.val = 6 → exec (.hrxStripe g x) s = .next s)
    ∧ (2 ≤ laneStep s g.val → laneStep s g.val ≠ 6 →
      (x.good = true → x.hecFail = false → x.stuffErr = false →
        (x.type.val = 0 → (∃ b ∈ x.body, b ≠ 0) → laneActive s g.val = true →
          ((lane s g.val).elastic + 992 ≤ 32768 → exec (.hrxStripe g x) s = .next (modLane g.val (fun l => { l with elastic := l.elastic + 992 }) s))
          ∧ (32768 < (lane s g.val).elastic + 992 → exec (.hrxStripe g x) s = .next (evL g.val F.HL_EVENTS_ELASTIC (stripeDrop g.val s))))
        ∧ ((x.type.val ≠ 0 ∨ (∀ b ∈ x.body, b = 0) ∨ laneActive s g.val = false) → exec (.hrxStripe g x) s = .next s))
      ∧ (x.good = false → x.hecFail = false → x.stuffErr = false → exec (.hrxStripe g x) s = .next (stripeDrop g.val s))
      ∧ ∀ t, t = pmEv (12 + g.val) 5 PmAttr.none (countDev 0x1C 1 (addCnt (laneBase g.val) F.HL_HEC_ERR 1 s)) →
        (x.hecFail = true → x.stuffErr = false → exec (.hrxStripe g x) s = .next (stripeDrop g.val t))
        ∧ (x.hecFail = false → x.stuffErr = true → exec (.hrxStripe g x) s =
          .next (stripeDrop g.val (pmEv (12 + g.val) 6 PmAttr.none (countDev 0x1D 1 (addCnt (laneBase g.val) F.HL_STUFF_ERR 1 s)))))
        ∧ (x.hecFail = true → x.stuffErr = true → exec (.hrxStripe g x) s =
          .next (stripeDrop g.val (pmEv (12 + g.val) 6 PmAttr.none (countDev 0x1D 1 (addCnt (laneBase g.val) F.HL_STUFF_ERR 1 t)))))))
  ∧ (∀ (g : Lane) (body : List Byte) (s : State),
    (laneActive s g.val = false → exec (.hrxControlStripe g body) s = .next s)
    ∧ (laneActive s g.val = true →
      ((body.length ≠ 992 ∨ beAt body 988 4 ≠ crc32c (body.take 988)) → exec (.hrxControlStripe g body) s = .next (evL g.val F.HL_EVENTS_CTRL_BAD s))
      ∧ (body.length = 992 → beAt body 988 4 = crc32c (body.take 988) → ∃ cap, cap = byteAt body 2 % 2 ∧ exec (.hrxControlStripe g body) s =
        .next (forL (lanePorts s g.val) (fun n t => noticeAck n (byteAt body (4 + n % 12)) t)
          (wrL g.val F.HL_STATUS_PEER_NOTICE cap (modLane g.val (fun l => { l with noticeCap := cap == 1 }) s))))))
  ∧ (∀ (g : Lane) (sb : BitVec 64) (frame : List Byte) (cut : Bool) (s : State),
    let w := sb.toNat
    let len := bitsOf w 59 46
    let bad := crc8 (natBE 7 (w / 256)) ≠ w % 256 ∨ (len ≠ 0 ∧ (len < 64 ∨ 10240 < len)) ∨ 12 ≤ bitsOf w 63 60 ∨ cut = true ∨ frame.length ≠ len
    let t := modLane g.val (fun l => { l with elastic := l.elastic - (8 + frame.length) }) s
    (12 + g.val ∈ s.audit.held → exec (.hrxRecord g sb frame cut) s = .next (auditRequest (12 + g.val) s))
    ∧ (12 + g.val ∉ s.audit.held →
      (laneActive s g.val = false → exec (.hrxRecord g sb frame cut) s = .next s)
      ∧ (laneActive s g.val = true →
        (w = 0 → exec (.hrxRecord g sb frame cut) s = .next t)
        ∧ (w ≠ 0 → bad → exec (.hrxRecord g sb frame cut) s = .next (countDev 0x1E 1 (addCnt (laneBase g.val) F.HL_SB_ERR 1 t)))
        ∧ (w ≠ 0 → ¬ bad → len = 0 → exec (.hrxRecord g sb frame cut) s = .next t)
        ∧ (w ≠ 0 → ¬ bad → len ≠ 0 →
          let n := 12 * g.val + bitsOf w 63 60
          let x : Frame := ⟨frame, bitsOf w 30 28, 0, 0, bitsOf w 27 27 == 1, bitsOf w 26 26 == 1, none⟩
          let drop := fcsOk frame = false ∨ linkUp t n = false ∨ (bitsOf w 31 31 ≠ 1 ∧ 40960 < (hostPort t n).hold + frame.length)
          let u := pmEv (12 + laneOf n) 4 { PmAttr.none with port := some n, cls := some x.cls } (countDev 0x1A 1 t)
          (drop → exec (.hrxRecord g sb frame cut) s = .next (addCnt (portBase n) F.HL_HRX_DROP 1 t))
          ∧ (¬ drop → bitsOf w 31 31 = 1 → exec (.hrxRecord g sb frame cut) s = .next (toContext n (bitsOf w 45 32) x u))
          ∧ (¬ drop → bitsOf w 31 31 ≠ 1 → exec (.hrxRecord g sb frame cut) s = .next (lineOut n x u))))))
  ∧ (∀ (n : Port) (s : State),
    ((hostPort s n.val).xoff = true → usesNotices s n.val = false → laneActive s (laneOf n.val) = true → exec (.pauseRepeat n) s = .next (sendPause n.val 0xFFFF s))
    ∧ (((hostPort s n.val).xoff = false ∨ usesNotices s n.val = true ∨ laneActive s (laneOf n.val) = false) → exec (.pauseRepeat n) s = .next s)
    ∧ (rdP s n.val F.HL_PORT_STATUS_NOTICE_PENDING = 1 → (hostPort s n.val).txnS + 8 ≤ s.time.s →
      exec (.noticeTimeout n) s = .next (wrP n.val F.HL_PORT_STATUS_NOTICE_PENDING 0 s))
    ∧ ((rdP s n.val F.HL_PORT_STATUS_NOTICE_PENDING ≠ 1 ∨ s.time.s < (hostPort s n.val).txnS + 8) → exec (.noticeTimeout n) s = .next s)
    ∧ ∀ (frame : List Byte) (sec ns eighth : Nat),
      ((port s n.val).st = .stdUp → linkUp s n.val = true → exec (.lineFrame n frame sec ns eighth) s =
        .next (lineIn n.val frame (totalNs sec ns * 8 + eighth % 8) (s.time.epoch % 65536) false s))
      ∧ (((port s n.val).st ≠ .stdUp ∨ linkUp s n.val = false) → exec (.lineFrame n frame sec ns eighth) s = .next s))

/-- LANE_LOCK_LOST, HRX_CLOCK_DETECT, TRAIN_FAIL, TRAIN_RETRY, TRAIN_FRAME, PRBS_SYNC, ERROR_INJECTION and LANE_TEST_END. -/
def Obligations.LaneGroupsTrainAndAreTested : Prop :=
  (∀ (g : Lane) (l : Fin 8) (s : State),
    (laneActive s g.val = true → ∃ t, t = evL g.val F.HL_EVENTS_LOCK_LOST s
      ∧ (rdL s g.val F.HL_CTRL_AUTO_TRAIN = 1 → exec (.laneLockLost g l) s = .next (laneGo g.val 2 t))
      ∧ (rdL s g.val F.HL_CTRL_AUTO_TRAIN ≠ 1 → exec (.laneLockLost g l) s = .next (laneSet g.val 7 t)))
    ∧ (laneActive s g.val = false → 2 ≤ laneStep s g.val → laneStep s g.val ≤ 4 →
      exec (.laneLockLost g l) s = .next (wrBit (laneBase g.val) F.HL_STATUS_LOCKED l.val 0 (modLane g.val (fun x => { x with agree := 0 }) s)))
    ∧ (laneActive s g.val = false → laneStep s g.val < 2 ∨ 4 < laneStep s g.val → exec (.laneLockLost g l) s = .next s)
    ∧ (laneStep s g.val = 1 → exec (.hrxClockDetect g) s = .next (laneMoved g.val (laneStep2 g.val (modLane g.val (fun l => { l with clockSeen := true }) s))))
    ∧ (laneStep s g.val ≠ 1 → exec (.hrxClockDetect g) s = .next s)
    ∧ (1 ≤ laneStep s g.val → laneStep s g.val ≤ 4 → exec (.trainFail g) s = .next (trainFails g.val s))
    ∧ ((laneStep s g.val = 0 ∨ 4 < laneStep s g.val) → exec (.trainFail g) s = .next s)
    ∧ (laneStep s g.val = 7 → rdL s g.val F.HL_CTRL_AUTO_TRAIN = 1 →
      ((lane s g.val).clockSeen = true → exec (.trainRetry g) s = .next (laneGo g.val 2 s))
      ∧ ((lane s g.val).clockSeen = false → exec (.trainRetry g) s = .next (laneGo g.val 1 s)))
    ∧ ((laneStep s g.val ≠ 7 ∨ rdL s g.val F.HL_CTRL_AUTO_TRAIN ≠ 1) → exec (.trainRetry g) s = .next s))
  ∧ (∀ (g : Lane) (b : List Byte) (codes : Option (List (Fin 16))) (s : State),
    let good := laneFree s g.val = true ∧ b.length = 124 ∧ beAt b 120 4 = crc32c (b.take 120) ∧ byteAt b 0 = 1
    (¬ good → exec (.trainFrame g b codes) s = .next s)
    ∧ (good →
      (laneStep s g.val = 2 →
        (∀ cs, codes = some cs → cs.length = 8 → (ctleMode s g.val ≠ 1 ∨ (lane s g.val).entry.isSome = true) → (lane s g.val).calIdle = false →
          ∃ lo hi, ctleCodes s g.val (cs.map (·.val)) = (lo, hi) ∧ exec (.trainFrame g b codes) s = .next (laneMoved g.val (wrL g.val F.HL_STATUS_STATE 3
            (wrL g.val F.HL_STATUS_LOCKED 0xFF (wrL g.val F.HL_CTLE_HI hi (wrL g.val F.HL_CTLE_LO lo s))))))
        ∧ (codes = none ∨ (ctleMode s g.val = 1 ∧ (lane s g.val).entry = none) ∨ (lane s g.val).calIdle = true → exec (.trainFrame g b codes) s = .next s))
      ∧ (laneStep s g.val = 3 → byteAt b 2 % 2 = 0 → exec (.trainFrame g b codes) s = .next (trainFails g.val (modLane g.val (fun l => { l with versionFail := true }) s)))
      ∧ (laneStep s g.val = 3 → byteAt b 2 % 2 = 1 → ∃ cap run t, cap = byteAt b 4 % 2
        ∧ t = modLane g.val (fun l => { l with agree := run, noticeCap := cap == 1 }) (wrL g.val F.HL_STATUS_PEER_NOTICE cap (wrL g.val F.HL_STATUS_VERSION 1 s))
        ∧ (run = if rdL s g.val F.HL_STATUS_LOCKED = 0xFF ∧ byteAt b 5 = 0xFF ∧ byteAt b 3 = 1
            then (lane s g.val).agree + 1 else 0)
        ∧ (4 ≤ run → exec (.trainFrame g b codes) s = .next (laneMoved g.val (wrL g.val F.HL_STATUS_STATE 4 (modLane g.val (fun l => { l with sentStage := 5 }) t))))
        ∧ (run < 4 → exec (.trainFrame g b codes) s = .next t))
      ∧ (laneStep s g.val = 4 → (byteAt b 1 = 5 → exec (.trainFrame g b codes) s = .next (laneEnter g.val s))
        ∧ (byteAt b 1 ≠ 5 → exec (.trainFrame g b codes) s = .next s))
      ∧ ((laneStep s g.val < 2 ∨ 4 < laneStep s g.val) → exec (.trainFrame g b codes) s = .next s)))
  ∧ (∀ (g : Lane) (t : LaneTest) (s : State), (lane s g.val).test = some t →
    (∀ l : Fin 8,
      (2 ≤ t.dir → bitsOf t.lanes l.val l.val = 1 → bitsOf t.synced l.val l.val = 0 → ∃ y u, y = t.synced + 2 ^ l.val
        ∧ u = modLane g.val (fun x => { x with test := some { t with synced := y } }) s
        ∧ (y = t.lanes → exec (.prbsSync g l) s = .next (opProgress t.op 2 3 33 (opItem t.op 0 g.val y 0 u)))
        ∧ (y ≠ t.lanes → exec (.prbsSync g l) s = .next u))
      ∧ ((t.dir < 2 ∨ bitsOf t.lanes l.val l.val = 0 ∨ bitsOf t.synced l.val l.val = 1) → exec (.prbsSync g l) s = .next s))
    ∧ (t.inject ≠ 0 → (t.period ≠ 0 ∨ t.injected = 0) → exec (.errorInjection g) s =
      .next (modLane g.val (fun x => { x with test := some { t with injected := t.injected + 1 } }) s))
    ∧ ((t.inject = 0 ∨ (t.period = 0 ∧ t.injected ≠ 0)) → exec (.errorInjection g) s = .next s)
    ∧ ∀ bits errs : List Nat, ∃ u, u = modLane g.val (fun x => { x with test := none }) (forL (maskBits t.lanes).zipIdx (fun e s =>
          if 2 ≤ t.dir then wrReg (laneBase g.val + 0x11440 + 4 * (e.1 % 8)) (BitVec.ofNat 32 (min 65535 (errs.getD e.2 0))) s else s) s)
      ∧ ∃ v, (t.pattern = 0 → v = u) ∧ (t.pattern ≠ 0 → rdL s g.val F.HL_CTRL_AUTO_TRAIN = 1 → v = laneGo g.val 2 u)
        ∧ (t.pattern ≠ 0 → rdL s g.val F.HL_CTRL_AUTO_TRAIN ≠ 1 → v = laneSet g.val 0 u)
        ∧ (abortAsked s t.op = true → exec (.laneTestEnd g bits errs) s = .next (endOp t.op .aborted (testData t bits errs) v))
        ∧ (abortAsked s t.op = false → exec (.laneTestEnd g bits errs) s = .next (endOp t.op .ok (testData t bits errs) (opProgress t.op 3 3 99 v))))
  ∧ (∀ (g : Lane) (s : State), (lane s g.val).test = none → (∀ l, exec (.prbsSync g l) s = .next s) ∧ exec (.errorInjection g) s = .next s
    ∧ ∀ bits errs, exec (.laneTestEnd g bits errs) s = .next s)

/-- COUNTER_START, SAMPLER_RECORD, TEMP_NOW_UPDATE and PM_SAMPLE_TICK. -/
def Obligations.MonitorsSampleAndRecord : Prop :=
  (∀ s : State, ∃ come : List PmStart, (∀ x, x ∈ come ↔ x ∈ s.perf.starts ∧ totalNs x.sec x.ns ≤ nowTotal s)
    ∧ exec .counterStart s = .next (modPerf (fun p => { p with starts := p.starts.filter (fun x => !decide (totalNs x.sec x.ns ≤ nowTotal s)) }) (forL come (fun x s => pmEnable x.unit x.counters 1 s) s)))
  ∧ (∀ (it : SampItem) (s : State),
    let x := s.perf.sampler
    let n := it.port.val
    let k := SMap.get x.seen 0 n
    let t := modPerf (fun p => { p with sampler := { p.sampler with seen := SMap.set p.sampler.seen 0 n ((k + 1) % 2 ^ x.rate) } }) s
    let i := rdG t F.SMP_NEXT
    let r := samplerRecord i it
    let u := countDev 0x36 1 (wrG F.SMP_NEXT ((i + 1) % 2 ^ 32) (writeMem (0x44000000 + 32 * (i % 32768)) r t))
    r.length = 32
    ∧ (clkRun s 0x11 = true → samplerTakes x it = true →
      (rdG s F.SMP_STATUS_RUNNING = 1 →
        (k ≠ 0 → exec (.samplerRecord it) s = .next t)
        ∧ (k = 0 → (x.stopFull = true ∧ (i + 1 + 2 ^ 32 - rdG t F.SMP_READ) % 2 ^ 32 = 32768 →
            exec (.samplerRecord it) s = .next (wrG F.SMP_STATUS_FULL 1 (wrG F.SMP_STATUS_RUNNING 0 u)))
          ∧ (¬ (x.stopFull = true ∧ (i + 1 + 2 ^ 32 - rdG t F.SMP_READ) % 2 ^ 32 = 32768) → exec (.samplerRecord it) s = .next u)))
      ∧ (rdG s F.SMP_STATUS_RUNNING ≠ 1 → rdG s F.SMP_STATUS_FULL = 1 →
        (k ≠ 0 → exec (.samplerRecord it) s = .next t) ∧ (k = 0 → exec (.samplerRecord it) s = .next (countDev 0x37 1 t))))
    ∧ (((rdG s F.SMP_STATUS_RUNNING ≠ 1 ∧ rdG s F.SMP_STATUS_FULL ≠ 1) ∨ clkRun s 0x11 = false ∨ samplerTakes x it = false) →
      exec (.samplerRecord it) s = .next s))
  ∧ (∀ s : State, exec (.tempNowUpdate []) s = .next s
    ∧ ∀ rs : List (BitVec 16), rs ≠ [] → ∃ m ∈ rs, (∀ x ∈ rs, x.toInt ≤ m.toInt)
      ∧ exec (.tempNowUpdate rs) s = .next (wrG F.TEMP_NOW m.toNat s) ∧ rdG (wrG F.TEMP_NOW m.toNat s) F.TEMP_NOW = m.toNat)
  ∧ (∀ (ticks : Nat) (s : State), ∃ us u v w : State → State,
    (let d := (s.tick + ticks) / 100 - s.tick / 100
     us = countDev 0x3F d ∧ u = (fun t => runClock ticks { pmSample ticks t with tick := t.tick + ticks })
     ∧ v = (if rdG s F.SUPPLY_STATUS_STRETCH = 1 then countDev 0x32 d else id) ∧ w = (if rdG s F.PWR_STATUS_STATE = 2 then countDev 0x38 d else id))
    ∧ (inRetain s = false → exec (.pmSampleTick ticks) s = .next (us (w (v (u s)))))
    ∧ (inRetain s = true → exec (.pmSampleTick ticks) s = .next s))

end
end

