-- ==== Sys2Proof/Laws/Store.lean ====
section
/-!
SUPPORT. The laws of the sparse stores: what a write and a clear leave readable, and that both keep the canonical form.
-/
namespace Sys2Proof

/-- Every key of a list of entries exceeds a bound. -/
def SMap.above {α : Type} (b : Nat) (m : SMap α) : Prop := ∀ e ∈ m, b < e.1

theorem SMap.wf_cons {α : Type} [DecidableEq α] (d : Nat → α) (k : Nat) (v : α) (m : SMap α) :
    SMap.wf d ((k, v) :: m) = true ↔ v ≠ d k ∧ SMap.above k m ∧ SMap.wf d m = true := by
  induction m generalizing k v with
  | nil => simp [SMap.wf, SMap.above]
  | cons e t ih =>
    obtain ⟨k', v'⟩ := e
    have hc : SMap.wf d ((k, v) :: (k', v') :: t) = true ↔ v ≠ d k ∧ k < k' ∧ SMap.wf d ((k', v') :: t) = true := by
      simp [SMap.wf, and_assoc]
    rw [hc]
    constructor
    · rintro ⟨h1, h2, h3⟩
      refine ⟨h1, ?_, h3⟩
      intro e he
      rcases List.mem_cons.mp he with rfl | he
      · exact h2
      · exact Nat.lt_trans h2 (((ih k' v').mp h3).2.1 e he)
    · rintro ⟨h1, h2, h3⟩
      exact ⟨h1, h2 (k', v') (by simp), h3⟩

@[simp] theorem SMap.get_nil {α : Type} (d : α) (k : Nat) : SMap.get ([] : SMap α) d k = d := rfl

theorem SMap.get_insert_self {α : Type} (m : SMap α) (d : α) (k : Nat) (v : α) (h : ∀ e ∈ m, e.1 ≠ k) :
    SMap.get (SMap.insert m k v) d k = v := by
  induction m with
  | nil => simp [SMap.insert, SMap.get]
  | cons e t ih =>
    obtain ⟨i, w⟩ := e
    have hi : i ≠ k := h (i, w) (by simp)
    simp only [SMap.insert]
    split
    · simp [SMap.get]
    · simp [SMap.get, hi, ih (fun e he => h e (List.mem_cons_of_mem _ he))]

theorem SMap.get_insert_other {α : Type} (m : SMap α) (d : α) (k j : Nat) (v : α) (h : j ≠ k) :
    SMap.get (SMap.insert m k v) d j = SMap.get m d j := by
  induction m with
  | nil => simp [SMap.insert, SMap.get, Ne.symm h]
  | cons e t ih =>
    obtain ⟨i, w⟩ := e
    simp only [SMap.insert]
    split
    · simp [SMap.get, Ne.symm h]
    · simp [SMap.get, ih]

theorem SMap.erase_keys {α : Type} (m : SMap α) (k : Nat) : ∀ e ∈ SMap.erase m k, e.1 ≠ k := by
  induction m with
  | nil => simp [SMap.erase]
  | cons e t ih =>
    obtain ⟨i, w⟩ := e
    simp only [SMap.erase]
    split
    · exact ih
    · intro e he
      rcases List.mem_cons.mp he with rfl | he
      · assumption
      · exact ih e he

theorem SMap.get_absent {α : Type} (m : SMap α) (d : α) (k : Nat) (h : ∀ e ∈ m, e.1 ≠ k) : SMap.get m d k = d := by
  induction m with
  | nil => rfl
  | cons e t ih =>
    obtain ⟨i, w⟩ := e
    have hi : i ≠ k := h (i, w) (by simp)
    simp [SMap.get, hi, ih (fun e he => h e (List.mem_cons_of_mem _ he))]

theorem SMap.get_erase_other {α : Type} (m : SMap α) (d : α) (k j : Nat) (h : j ≠ k) :
    SMap.get (SMap.erase m k) d j = SMap.get m d j := by
  induction m with
  | nil => rfl
  | cons e t ih =>
    obtain ⟨i, w⟩ := e
    simp only [SMap.erase]
    split
    · rename_i hi
      have : i ≠ j := fun hj => h (hj.symm.trans hi)
      simp [SMap.get, this, ih]
    · simp [SMap.get, ih]

/-- A write is read back. -/
@[simp] theorem SMap.get_set_self {α : Type} [DecidableEq α] (m : SMap α) (d : α) (k : Nat) (v : α) :
    SMap.get (SMap.set m d k v) d k = v := by
  unfold SMap.set
  split
  · rename_i h
    rw [h]
    exact SMap.get_absent _ _ _ (SMap.erase_keys m k)
  · exact SMap.get_insert_self _ _ _ _ (SMap.erase_keys m k)

/-- A write leaves every other key as it was. -/
theorem SMap.get_set_other {α : Type} [DecidableEq α] (m : SMap α) (d d' : α) (k j : Nat) (v : α) (h : j ≠ k) :
    SMap.get (SMap.set m d k v) d' j = SMap.get m d' j := by
  unfold SMap.set
  split
  · exact SMap.get_erase_other _ _ _ _ h
  · rw [SMap.get_insert_other _ _ _ _ _ h, SMap.get_erase_other _ _ _ _ h]

theorem SMap.above_erase {α : Type} (m : SMap α) (k b : Nat) (h : SMap.above b m) : SMap.above b (SMap.erase m k) := by
  induction m with
  | nil => exact h
  | cons e t ih =>
    obtain ⟨i, w⟩ := e
    have ht : SMap.above b t := fun e he => h e (List.mem_cons_of_mem _ he)
    simp only [SMap.erase]
    split
    · exact ih ht
    · intro e he
      rcases List.mem_cons.mp he with rfl | he
      · exact h _ (by simp)
      · exact ih ht e he

theorem SMap.wf_erase {α : Type} [DecidableEq α] (d : Nat → α) (m : SMap α) (k : Nat) (h : SMap.wf d m = true) :
    SMap.wf d (SMap.erase m k) = true := by
  induction m with
  | nil => rfl
  | cons e t ih =>
    obtain ⟨i, w⟩ := e
    obtain ⟨h1, h2, h3⟩ := (SMap.wf_cons d i w t).mp h
    simp only [SMap.erase]
    split
    · exact ih h3
    · exact (SMap.wf_cons d i w _).mpr ⟨h1, SMap.above_erase t k i h2, ih h3⟩

theorem SMap.above_insert {α : Type} (m : SMap α) (k b : Nat) (v : α) (h : SMap.above b m) (hk : b < k) :
    SMap.above b (SMap.insert m k v) := by
  induction m with
  | nil => intro e he; simp [SMap.insert] at he; subst he; exact hk
  | cons e t ih =>
    obtain ⟨i, w⟩ := e
    have ht : SMap.above b t := fun e he => h e (List.mem_cons_of_mem _ he)
    simp only [SMap.insert]
    split
    · intro e he
      rcases List.mem_cons.mp he with rfl | he
      · exact hk
      · exact h e he
    · intro e he
      rcases List.mem_cons.mp he with rfl | he
      · exact h _ (by simp)
      · exact ih ht e he

theorem SMap.wf_insert {α : Type} [DecidableEq α] (d : Nat → α) (m : SMap α) (k : Nat) (v : α) (h : SMap.wf d m = true)
    (hk : ∀ e ∈ m, e.1 ≠ k) (hv : v ≠ d k) : SMap.wf d (SMap.insert m k v) = true := by
  induction m with
  | nil => simpa [SMap.insert, SMap.wf] using hv
  | cons e t ih =>
    obtain ⟨i, w⟩ := e
    obtain ⟨h1, h2, h3⟩ := (SMap.wf_cons d i w t).mp h
    have hi : i ≠ k := hk (i, w) (by simp)
    simp only [SMap.insert]
    split
    · rename_i hlt
      refine (SMap.wf_cons d k v _).mpr ⟨hv, ?_, h⟩
      intro e he
      rcases List.mem_cons.mp he with rfl | he
      · exact hlt
      · exact Nat.lt_trans hlt (h2 e he)
    · rename_i hlt
      have hik : i < k := by omega
      exact (SMap.wf_cons d i w _).mpr ⟨h1, SMap.above_insert t k i v h2 hik,
        ih h3 (fun e he => hk e (List.mem_cons_of_mem _ he))⟩

/-- A write keeps the canonical form. -/
theorem SMap.wf_set {α : Type} [DecidableEq α] (d : Nat → α) (m : SMap α) (k : Nat) (v : α) (h : SMap.wf d m = true) :
    SMap.wf d (SMap.set m (d k) k v) = true := by
  unfold SMap.set
  split
  · exact SMap.wf_erase d m k h
  · exact SMap.wf_insert d _ k v (SMap.wf_erase d m k h) (SMap.erase_keys m k) ‹_›

theorem SMap.above_clear {α : Type} (m : SMap α) (p : Nat → Bool) (b : Nat) (h : SMap.above b m) :
    SMap.above b (SMap.clear m p) := by
  induction m with
  | nil => exact h
  | cons e t ih =>
    obtain ⟨i, w⟩ := e
    have ht : SMap.above b t := fun e he => h e (List.mem_cons_of_mem _ he)
    simp only [SMap.clear]
    split
    · exact ih ht
    · intro e he
      rcases List.mem_cons.mp he with rfl | he
      · exact h _ (by simp)
      · exact ih ht e he

/-- A clear keeps the canonical form. -/
theorem SMap.wf_clear {α : Type} [DecidableEq α] (d : Nat → α) (m : SMap α) (p : Nat → Bool) (h : SMap.wf d m = true) :
    SMap.wf d (SMap.clear m p) = true := by
  induction m with
  | nil => rfl
  | cons e t ih =>
    obtain ⟨i, w⟩ := e
    obtain ⟨h1, h2, h3⟩ := (SMap.wf_cons d i w t).mp h
    simp only [SMap.clear]
    split
    · exact ih h3
    · exact (SMap.wf_cons d i w _).mpr ⟨h1, SMap.above_clear t p i h2, ih h3⟩

/-- What a clear leaves: the keys that the test picks read as their default, every other key as before. -/
theorem SMap.get_clear {α : Type} (m : SMap α) (p : Nat → Bool) (d : α) (k : Nat) :
    SMap.get (SMap.clear m p) d k = if p k then d else SMap.get m d k := by
  induction m with
  | nil => simp [SMap.clear]
  | cons e t ih =>
    obtain ⟨i, w⟩ := e
    simp only [SMap.clear]
    by_cases hi : i = k
    · subst hi
      by_cases hp : p i = true
      · simp [hp, ih]
      · simp [hp, SMap.get]
    · by_cases hp : p i = true
      · simp [hp, ih, SMap.get, hi]
      · simp [hp, ih, SMap.get, hi]

end Sys2Proof
end

