-- ==== Sys2Proof/Laws/Keeps.lean ====
section
/-!
SUPPORT. What every operation keeps: the queue, the part, the canonical form of the memory areas and of the register store, and every
programmed fuse of the Vault. `Keeps s t` says it of two states; the lemmas of Touch.lean and after it say, for every operation, that the
operation keeps it, and which parts of the state it can change.
-/
namespace Sys2Proof.Machine

/-- What every operation keeps between two states. -/
structure Keeps (s t : State) : Prop where
  pending : t.pending = s.pending
  part : t.part = s.part
  mem : memWf s.mem = true → memWf t.mem = true
  regs : SMap.wf regReset s.regs = true → SMap.wf regReset t.regs = true
  fuses : fusesKept s.vault t.vault

theorem Keeps.refl (s : State) : Keeps s s := ⟨rfl, rfl, id, id, fun _ => by simp⟩

theorem Keeps.trans {s t u : State} (h : Keeps s t) (k : Keeps t u) : Keeps s u :=
  ⟨k.pending.trans h.pending, k.part.trans h.part, fun w => k.mem (h.mem w), fun w => k.regs (h.regs w), fun a => by
    have h1 := h.fuses a
    have h2 := k.fuses a
    generalize SMap.get s.vault.fuses 0 a = x at *
    generalize SMap.get t.vault.fuses 0 a = y at *
    generalize SMap.get u.vault.fuses 0 a = z at *
    rw [← h1, BitVec.and_assoc, h2]⟩

theorem keepsUpd {s0 s t : State} (h : Keeps s0 s) (h1 : t.pending = s.pending) (h2 : t.part = s.part)
    (h3 : t.mem = s.mem) (h4 : t.regs = s.regs) (h5 : t.vault = s.vault) : Keeps s0 t :=
  ⟨h1.trans h.pending, h2.trans h.part, fun w => h3 ▸ h.mem w, fun w => h4 ▸ h.regs w, h5 ▸ h.fuses⟩

theorem wrReg_keeps {a v s0 s} (h : Keeps s0 s) : Keeps s0 (wrReg a v s) :=
  ⟨h.pending, h.part, h.mem, fun w => SMap.wf_set regReset s.regs a v (h.regs w), h.fuses⟩

theorem clearRegs_keeps {p s0 s} (h : Keeps s0 s) : Keeps s0 (clearRegs p s) :=
  ⟨h.pending, h.part, h.mem, fun w => SMap.wf_clear regReset s.regs p (h.regs w), h.fuses⟩

theorem setMemByte_keeps {a b s0 s} (h : Keeps s0 s) : Keeps s0 (setMemByte a b s) :=
  ⟨h.pending, h.part, fun w => SMap.wf_set memDefault s.mem a b (h.mem w), h.regs, h.fuses⟩

theorem clearMem_keeps {p s0 s} (h : Keeps s0 s) : Keeps s0 (clearMem p s) :=
  ⟨h.pending, h.part, fun w => SMap.wf_clear memDefault s.mem p (h.mem w), h.regs, h.fuses⟩

/-- A change of the Vault that leaves its fuses as they are. -/
theorem modVault_keeps {f : Vault → Vault} {s0 s} (h : Keeps s0 s) (hf : (f s.vault).fuses = s.vault.fuses) :
    Keeps s0 (modVault f s) :=
  ⟨h.pending, h.part, h.mem, h.regs, fun a => by
    have := h.fuses a
    simp only [modVault, hf]
    exact this⟩

end Sys2Proof.Machine
end

