-- ==== Sys2Proof/Laws/State.lean ====
section
/-!
SUPPORT. What each update of the state leaves: one lemma for each field.
-/
namespace Sys2Proof.Machine
variable {s : State}
section wrReg
@[simp] theorem wrReg_pending {a v} : (wrReg a v s).pending = s.pending := rfl
@[simp] theorem wrReg_part {a v} : (wrReg a v s).part = s.part := rfl
@[simp] theorem wrReg_straps {a v} : (wrReg a v s).straps = s.straps := rfl
@[simp] theorem wrReg_strapReq {a v} : (wrReg a v s).strapReq = s.strapReq := rfl
@[simp] theorem wrReg_profileSel {a v} : (wrReg a v s).profileSel = s.profileSel := rfl
@[simp] theorem wrReg_profileNew {a v} : (wrReg a v s).profileNew = s.profileNew := rfl
@[simp] theorem wrReg_stage {a v} : (wrReg a v s).stage = s.stage := rfl
@[simp] theorem wrReg_latchCp {a v} : (wrReg a v s).latchCp = s.latchCp := rfl
@[simp] theorem wrReg_latch0 {a v} : (wrReg a v s).latch0 = s.latch0 := rfl
@[simp] theorem wrReg_latch1 {a v} : (wrReg a v s).latch1 = s.latch1 := rfl
@[simp] theorem wrReg_mdio {a v} : (wrReg a v s).mdio = s.mdio := rfl
@[simp] theorem wrReg_teller {a v} : (wrReg a v s).teller = s.teller := rfl
@[simp] theorem wrReg_cp {a v} : (wrReg a v s).cp = s.cp := rfl
@[simp] theorem wrReg_sec {a v} : (wrReg a v s).sec = s.sec := rfl
@[simp] theorem wrReg_ledger {a v} : (wrReg a v s).ledger = s.ledger := rfl
@[simp] theorem wrReg_journal {a v} : (wrReg a v s).journal = s.journal := rfl
@[simp] theorem wrReg_nextOp {a v} : (wrReg a v s).nextOp = s.nextOp := rfl
@[simp] theorem wrReg_ops {a v} : (wrReg a v s).ops = s.ops := rfl
@[simp] theorem wrReg_images {a v} : (wrReg a v s).images = s.images := rfl
@[simp] theorem wrReg_vault {a v} : (wrReg a v s).vault = s.vault := rfl
@[simp] theorem wrReg_clk {a v} : (wrReg a v s).clk = s.clk := rfl
@[simp] theorem wrReg_power {a v} : (wrReg a v s).power = s.power := rfl
@[simp] theorem wrReg_time {a v} : (wrReg a v s).time = s.time := rfl
@[simp] theorem wrReg_ctxs {a v} : (wrReg a v s).ctxs = s.ctxs := rfl
@[simp] theorem wrReg_tt {a v} : (wrReg a v s).tt = s.tt := rfl
@[simp] theorem wrReg_ports {a v} : (wrReg a v s).ports = s.ports := rfl
@[simp] theorem wrReg_hostPorts {a v} : (wrReg a v s).hostPorts = s.hostPorts := rfl
@[simp] theorem wrReg_lanes {a v} : (wrReg a v s).lanes = s.lanes := rfl
@[simp] theorem wrReg_ch {a v} : (wrReg a v s).ch = s.ch := rfl
@[simp] theorem wrReg_diag {a v} : (wrReg a v s).diag = s.diag := rfl
@[simp] theorem wrReg_cal {a v} : (wrReg a v s).cal = s.cal := rfl
@[simp] theorem wrReg_audit {a v} : (wrReg a v s).audit = s.audit := rfl
@[simp] theorem wrReg_perf {a v} : (wrReg a v s).perf = s.perf := rfl
@[simp] theorem wrReg_mem {a v} : (wrReg a v s).mem = s.mem := rfl
@[simp] theorem wrReg_tick {a v} : (wrReg a v s).tick = s.tick := rfl
@[simp] theorem wrReg_draws {a v} : (wrReg a v s).draws = s.draws := rfl
end wrReg
section clearRegs
@[simp] theorem clearRegs_pending {p} : (clearRegs p s).pending = s.pending := rfl
@[simp] theorem clearRegs_part {p} : (clearRegs p s).part = s.part := rfl
@[simp] theorem clearRegs_straps {p} : (clearRegs p s).straps = s.straps := rfl
@[simp] theorem clearRegs_strapReq {p} : (clearRegs p s).strapReq = s.strapReq := rfl
@[simp] theorem clearRegs_profileSel {p} : (clearRegs p s).profileSel = s.profileSel := rfl
@[simp] theorem clearRegs_profileNew {p} : (clearRegs p s).profileNew = s.profileNew := rfl
@[simp] theorem clearRegs_stage {p} : (clearRegs p s).stage = s.stage := rfl
@[simp] theorem clearRegs_latchCp {p} : (clearRegs p s).latchCp = s.latchCp := rfl
@[simp] theorem clearRegs_latch0 {p} : (clearRegs p s).latch0 = s.latch0 := rfl
@[simp] theorem clearRegs_latch1 {p} : (clearRegs p s).latch1 = s.latch1 := rfl
@[simp] theorem clearRegs_mdio {p} : (clearRegs p s).mdio = s.mdio := rfl
@[simp] theorem clearRegs_teller {p} : (clearRegs p s).teller = s.teller := rfl
@[simp] theorem clearRegs_cp {p} : (clearRegs p s).cp = s.cp := rfl
@[simp] theorem clearRegs_sec {p} : (clearRegs p s).sec = s.sec := rfl
@[simp] theorem clearRegs_ledger {p} : (clearRegs p s).ledger = s.ledger := rfl
@[simp] theorem clearRegs_journal {p} : (clearRegs p s).journal = s.journal := rfl
@[simp] theorem clearRegs_nextOp {p} : (clearRegs p s).nextOp = s.nextOp := rfl
@[simp] theorem clearRegs_ops {p} : (clearRegs p s).ops = s.ops := rfl
@[simp] theorem clearRegs_images {p} : (clearRegs p s).images = s.images := rfl
@[simp] theorem clearRegs_vault {p} : (clearRegs p s).vault = s.vault := rfl
@[simp] theorem clearRegs_clk {p} : (clearRegs p s).clk = s.clk := rfl
@[simp] theorem clearRegs_power {p} : (clearRegs p s).power = s.power := rfl
@[simp] theorem clearRegs_time {p} : (clearRegs p s).time = s.time := rfl
@[simp] theorem clearRegs_ctxs {p} : (clearRegs p s).ctxs = s.ctxs := rfl
@[simp] theorem clearRegs_tt {p} : (clearRegs p s).tt = s.tt := rfl
@[simp] theorem clearRegs_ports {p} : (clearRegs p s).ports = s.ports := rfl
@[simp] theorem clearRegs_hostPorts {p} : (clearRegs p s).hostPorts = s.hostPorts := rfl
@[simp] theorem clearRegs_lanes {p} : (clearRegs p s).lanes = s.lanes := rfl
@[simp] theorem clearRegs_ch {p} : (clearRegs p s).ch = s.ch := rfl
@[simp] theorem clearRegs_diag {p} : (clearRegs p s).diag = s.diag := rfl
@[simp] theorem clearRegs_cal {p} : (clearRegs p s).cal = s.cal := rfl
@[simp] theorem clearRegs_audit {p} : (clearRegs p s).audit = s.audit := rfl
@[simp] theorem clearRegs_perf {p} : (clearRegs p s).perf = s.perf := rfl
@[simp] theorem clearRegs_mem {p} : (clearRegs p s).mem = s.mem := rfl
@[simp] theorem clearRegs_tick {p} : (clearRegs p s).tick = s.tick := rfl
@[simp] theorem clearRegs_draws {p} : (clearRegs p s).draws = s.draws := rfl
end clearRegs
section wrFld
@[simp] theorem wrFld_pending {b f x} : (wrFld b f x s).pending = s.pending := rfl
@[simp] theorem wrFld_part {b f x} : (wrFld b f x s).part = s.part := rfl
@[simp] theorem wrFld_straps {b f x} : (wrFld b f x s).straps = s.straps := rfl
@[simp] theorem wrFld_strapReq {b f x} : (wrFld b f x s).strapReq = s.strapReq := rfl
@[simp] theorem wrFld_profileSel {b f x} : (wrFld b f x s).profileSel = s.profileSel := rfl
@[simp] theorem wrFld_profileNew {b f x} : (wrFld b f x s).profileNew = s.profileNew := rfl
@[simp] theorem wrFld_stage {b f x} : (wrFld b f x s).stage = s.stage := rfl
@[simp] theorem wrFld_latchCp {b f x} : (wrFld b f x s).latchCp = s.latchCp := rfl
@[simp] theorem wrFld_latch0 {b f x} : (wrFld b f x s).latch0 = s.latch0 := rfl
@[simp] theorem wrFld_latch1 {b f x} : (wrFld b f x s).latch1 = s.latch1 := rfl
@[simp] theorem wrFld_mdio {b f x} : (wrFld b f x s).mdio = s.mdio := rfl
@[simp] theorem wrFld_teller {b f x} : (wrFld b f x s).teller = s.teller := rfl
@[simp] theorem wrFld_cp {b f x} : (wrFld b f x s).cp = s.cp := rfl
@[simp] theorem wrFld_sec {b f x} : (wrFld b f x s).sec = s.sec := rfl
@[simp] theorem wrFld_ledger {b f x} : (wrFld b f x s).ledger = s.ledger := rfl
@[simp] theorem wrFld_journal {b f x} : (wrFld b f x s).journal = s.journal := rfl
@[simp] theorem wrFld_nextOp {b f x} : (wrFld b f x s).nextOp = s.nextOp := rfl
@[simp] theorem wrFld_ops {b f x} : (wrFld b f x s).ops = s.ops := rfl
@[simp] theorem wrFld_images {b f x} : (wrFld b f x s).images = s.images := rfl
@[simp] theorem wrFld_vault {b f x} : (wrFld b f x s).vault = s.vault := rfl
@[simp] theorem wrFld_clk {b f x} : (wrFld b f x s).clk = s.clk := rfl
@[simp] theorem wrFld_power {b f x} : (wrFld b f x s).power = s.power := rfl
@[simp] theorem wrFld_time {b f x} : (wrFld b f x s).time = s.time := rfl
@[simp] theorem wrFld_ctxs {b f x} : (wrFld b f x s).ctxs = s.ctxs := rfl
@[simp] theorem wrFld_tt {b f x} : (wrFld b f x s).tt = s.tt := rfl
@[simp] theorem wrFld_ports {b f x} : (wrFld b f x s).ports = s.ports := rfl
@[simp] theorem wrFld_hostPorts {b f x} : (wrFld b f x s).hostPorts = s.hostPorts := rfl
@[simp] theorem wrFld_lanes {b f x} : (wrFld b f x s).lanes = s.lanes := rfl
@[simp] theorem wrFld_ch {b f x} : (wrFld b f x s).ch = s.ch := rfl
@[simp] theorem wrFld_diag {b f x} : (wrFld b f x s).diag = s.diag := rfl
@[simp] theorem wrFld_cal {b f x} : (wrFld b f x s).cal = s.cal := rfl
@[simp] theorem wrFld_audit {b f x} : (wrFld b f x s).audit = s.audit := rfl
@[simp] theorem wrFld_perf {b f x} : (wrFld b f x s).perf = s.perf := rfl
@[simp] theorem wrFld_mem {b f x} : (wrFld b f x s).mem = s.mem := rfl
@[simp] theorem wrFld_tick {b f x} : (wrFld b f x s).tick = s.tick := rfl
@[simp] theorem wrFld_draws {b f x} : (wrFld b f x s).draws = s.draws := rfl
end wrFld
section wrG
@[simp] theorem wrG_pending {f x} : (wrG f x s).pending = s.pending := wrFld_pending (b := 0)
@[simp] theorem wrG_part {f x} : (wrG f x s).part = s.part := wrFld_part (b := 0)
@[simp] theorem wrG_straps {f x} : (wrG f x s).straps = s.straps := wrFld_straps (b := 0)
@[simp] theorem wrG_strapReq {f x} : (wrG f x s).strapReq = s.strapReq := wrFld_strapReq (b := 0)
@[simp] theorem wrG_profileSel {f x} : (wrG f x s).profileSel = s.profileSel := wrFld_profileSel (b := 0)
@[simp] theorem wrG_profileNew {f x} : (wrG f x s).profileNew = s.profileNew := wrFld_profileNew (b := 0)
@[simp] theorem wrG_stage {f x} : (wrG f x s).stage = s.stage := wrFld_stage (b := 0)
@[simp] theorem wrG_latchCp {f x} : (wrG f x s).latchCp = s.latchCp := wrFld_latchCp (b := 0)
@[simp] theorem wrG_latch0 {f x} : (wrG f x s).latch0 = s.latch0 := wrFld_latch0 (b := 0)
@[simp] theorem wrG_latch1 {f x} : (wrG f x s).latch1 = s.latch1 := wrFld_latch1 (b := 0)
@[simp] theorem wrG_mdio {f x} : (wrG f x s).mdio = s.mdio := wrFld_mdio (b := 0)
@[simp] theorem wrG_teller {f x} : (wrG f x s).teller = s.teller := wrFld_teller (b := 0)
@[simp] theorem wrG_cp {f x} : (wrG f x s).cp = s.cp := wrFld_cp (b := 0)
@[simp] theorem wrG_sec {f x} : (wrG f x s).sec = s.sec := wrFld_sec (b := 0)
@[simp] theorem wrG_ledger {f x} : (wrG f x s).ledger = s.ledger := wrFld_ledger (b := 0)
@[simp] theorem wrG_journal {f x} : (wrG f x s).journal = s.journal := wrFld_journal (b := 0)
@[simp] theorem wrG_nextOp {f x} : (wrG f x s).nextOp = s.nextOp := wrFld_nextOp (b := 0)
@[simp] theorem wrG_ops {f x} : (wrG f x s).ops = s.ops := wrFld_ops (b := 0)
@[simp] theorem wrG_images {f x} : (wrG f x s).images = s.images := wrFld_images (b := 0)
@[simp] theorem wrG_vault {f x} : (wrG f x s).vault = s.vault := wrFld_vault (b := 0)
@[simp] theorem wrG_clk {f x} : (wrG f x s).clk = s.clk := wrFld_clk (b := 0)
@[simp] theorem wrG_power {f x} : (wrG f x s).power = s.power := wrFld_power (b := 0)
@[simp] theorem wrG_time {f x} : (wrG f x s).time = s.time := wrFld_time (b := 0)
@[simp] theorem wrG_ctxs {f x} : (wrG f x s).ctxs = s.ctxs := wrFld_ctxs (b := 0)
@[simp] theorem wrG_tt {f x} : (wrG f x s).tt = s.tt := wrFld_tt (b := 0)
@[simp] theorem wrG_ports {f x} : (wrG f x s).ports = s.ports := wrFld_ports (b := 0)
@[simp] theorem wrG_hostPorts {f x} : (wrG f x s).hostPorts = s.hostPorts := wrFld_hostPorts (b := 0)
@[simp] theorem wrG_lanes {f x} : (wrG f x s).lanes = s.lanes := wrFld_lanes (b := 0)
@[simp] theorem wrG_ch {f x} : (wrG f x s).ch = s.ch := wrFld_ch (b := 0)
@[simp] theorem wrG_diag {f x} : (wrG f x s).diag = s.diag := wrFld_diag (b := 0)
@[simp] theorem wrG_cal {f x} : (wrG f x s).cal = s.cal := wrFld_cal (b := 0)
@[simp] theorem wrG_audit {f x} : (wrG f x s).audit = s.audit := wrFld_audit (b := 0)
@[simp] theorem wrG_perf {f x} : (wrG f x s).perf = s.perf := wrFld_perf (b := 0)
@[simp] theorem wrG_mem {f x} : (wrG f x s).mem = s.mem := wrFld_mem (b := 0)
@[simp] theorem wrG_tick {f x} : (wrG f x s).tick = s.tick := wrFld_tick (b := 0)
@[simp] theorem wrG_draws {f x} : (wrG f x s).draws = s.draws := wrFld_draws (b := 0)
end wrG
section wrP
@[simp] theorem wrP_pending {n f x} : (wrP n f x s).pending = s.pending := wrFld_pending (b := portBase n)
@[simp] theorem wrP_part {n f x} : (wrP n f x s).part = s.part := wrFld_part (b := portBase n)
@[simp] theorem wrP_straps {n f x} : (wrP n f x s).straps = s.straps := wrFld_straps (b := portBase n)
@[simp] theorem wrP_strapReq {n f x} : (wrP n f x s).strapReq = s.strapReq := wrFld_strapReq (b := portBase n)
@[simp] theorem wrP_profileSel {n f x} : (wrP n f x s).profileSel = s.profileSel := wrFld_profileSel (b := portBase n)
@[simp] theorem wrP_profileNew {n f x} : (wrP n f x s).profileNew = s.profileNew := wrFld_profileNew (b := portBase n)
@[simp] theorem wrP_stage {n f x} : (wrP n f x s).stage = s.stage := wrFld_stage (b := portBase n)
@[simp] theorem wrP_latchCp {n f x} : (wrP n f x s).latchCp = s.latchCp := wrFld_latchCp (b := portBase n)
@[simp] theorem wrP_latch0 {n f x} : (wrP n f x s).latch0 = s.latch0 := wrFld_latch0 (b := portBase n)
@[simp] theorem wrP_latch1 {n f x} : (wrP n f x s).latch1 = s.latch1 := wrFld_latch1 (b := portBase n)
@[simp] theorem wrP_mdio {n f x} : (wrP n f x s).mdio = s.mdio := wrFld_mdio (b := portBase n)
@[simp] theorem wrP_teller {n f x} : (wrP n f x s).teller = s.teller := wrFld_teller (b := portBase n)
@[simp] theorem wrP_cp {n f x} : (wrP n f x s).cp = s.cp := wrFld_cp (b := portBase n)
@[simp] theorem wrP_sec {n f x} : (wrP n f x s).sec = s.sec := wrFld_sec (b := portBase n)
@[simp] theorem wrP_ledger {n f x} : (wrP n f x s).ledger = s.ledger := wrFld_ledger (b := portBase n)
@[simp] theorem wrP_journal {n f x} : (wrP n f x s).journal = s.journal := wrFld_journal (b := portBase n)
@[simp] theorem wrP_nextOp {n f x} : (wrP n f x s).nextOp = s.nextOp := wrFld_nextOp (b := portBase n)
@[simp] theorem wrP_ops {n f x} : (wrP n f x s).ops = s.ops := wrFld_ops (b := portBase n)
@[simp] theorem wrP_images {n f x} : (wrP n f x s).images = s.images := wrFld_images (b := portBase n)
@[simp] theorem wrP_vault {n f x} : (wrP n f x s).vault = s.vault := wrFld_vault (b := portBase n)
@[simp] theorem wrP_clk {n f x} : (wrP n f x s).clk = s.clk := wrFld_clk (b := portBase n)
@[simp] theorem wrP_power {n f x} : (wrP n f x s).power = s.power := wrFld_power (b := portBase n)
@[simp] theorem wrP_time {n f x} : (wrP n f x s).time = s.time := wrFld_time (b := portBase n)
@[simp] theorem wrP_ctxs {n f x} : (wrP n f x s).ctxs = s.ctxs := wrFld_ctxs (b := portBase n)
@[simp] theorem wrP_tt {n f x} : (wrP n f x s).tt = s.tt := wrFld_tt (b := portBase n)
@[simp] theorem wrP_ports {n f x} : (wrP n f x s).ports = s.ports := wrFld_ports (b := portBase n)
@[simp] theorem wrP_hostPorts {n f x} : (wrP n f x s).hostPorts = s.hostPorts := wrFld_hostPorts (b := portBase n)
@[simp] theorem wrP_lanes {n f x} : (wrP n f x s).lanes = s.lanes := wrFld_lanes (b := portBase n)
@[simp] theorem wrP_ch {n f x} : (wrP n f x s).ch = s.ch := wrFld_ch (b := portBase n)
@[simp] theorem wrP_diag {n f x} : (wrP n f x s).diag = s.diag := wrFld_diag (b := portBase n)
@[simp] theorem wrP_cal {n f x} : (wrP n f x s).cal = s.cal := wrFld_cal (b := portBase n)
@[simp] theorem wrP_audit {n f x} : (wrP n f x s).audit = s.audit := wrFld_audit (b := portBase n)
@[simp] theorem wrP_perf {n f x} : (wrP n f x s).perf = s.perf := wrFld_perf (b := portBase n)
@[simp] theorem wrP_mem {n f x} : (wrP n f x s).mem = s.mem := wrFld_mem (b := portBase n)
@[simp] theorem wrP_tick {n f x} : (wrP n f x s).tick = s.tick := wrFld_tick (b := portBase n)
@[simp] theorem wrP_draws {n f x} : (wrP n f x s).draws = s.draws := wrFld_draws (b := portBase n)
end wrP
section wrL
@[simp] theorem wrL_pending {n f x} : (wrL n f x s).pending = s.pending := wrFld_pending (b := laneBase n)
@[simp] theorem wrL_part {n f x} : (wrL n f x s).part = s.part := wrFld_part (b := laneBase n)
@[simp] theorem wrL_straps {n f x} : (wrL n f x s).straps = s.straps := wrFld_straps (b := laneBase n)
@[simp] theorem wrL_strapReq {n f x} : (wrL n f x s).strapReq = s.strapReq := wrFld_strapReq (b := laneBase n)
@[simp] theorem wrL_profileSel {n f x} : (wrL n f x s).profileSel = s.profileSel := wrFld_profileSel (b := laneBase n)
@[simp] theorem wrL_profileNew {n f x} : (wrL n f x s).profileNew = s.profileNew := wrFld_profileNew (b := laneBase n)
@[simp] theorem wrL_stage {n f x} : (wrL n f x s).stage = s.stage := wrFld_stage (b := laneBase n)
@[simp] theorem wrL_latchCp {n f x} : (wrL n f x s).latchCp = s.latchCp := wrFld_latchCp (b := laneBase n)
@[simp] theorem wrL_latch0 {n f x} : (wrL n f x s).latch0 = s.latch0 := wrFld_latch0 (b := laneBase n)
@[simp] theorem wrL_latch1 {n f x} : (wrL n f x s).latch1 = s.latch1 := wrFld_latch1 (b := laneBase n)
@[simp] theorem wrL_mdio {n f x} : (wrL n f x s).mdio = s.mdio := wrFld_mdio (b := laneBase n)
@[simp] theorem wrL_teller {n f x} : (wrL n f x s).teller = s.teller := wrFld_teller (b := laneBase n)
@[simp] theorem wrL_cp {n f x} : (wrL n f x s).cp = s.cp := wrFld_cp (b := laneBase n)
@[simp] theorem wrL_sec {n f x} : (wrL n f x s).sec = s.sec := wrFld_sec (b := laneBase n)
@[simp] theorem wrL_ledger {n f x} : (wrL n f x s).ledger = s.ledger := wrFld_ledger (b := laneBase n)
@[simp] theorem wrL_journal {n f x} : (wrL n f x s).journal = s.journal := wrFld_journal (b := laneBase n)
@[simp] theorem wrL_nextOp {n f x} : (wrL n f x s).nextOp = s.nextOp := wrFld_nextOp (b := laneBase n)
@[simp] theorem wrL_ops {n f x} : (wrL n f x s).ops = s.ops := wrFld_ops (b := laneBase n)
@[simp] theorem wrL_images {n f x} : (wrL n f x s).images = s.images := wrFld_images (b := laneBase n)
@[simp] theorem wrL_vault {n f x} : (wrL n f x s).vault = s.vault := wrFld_vault (b := laneBase n)
@[simp] theorem wrL_clk {n f x} : (wrL n f x s).clk = s.clk := wrFld_clk (b := laneBase n)
@[simp] theorem wrL_power {n f x} : (wrL n f x s).power = s.power := wrFld_power (b := laneBase n)
@[simp] theorem wrL_time {n f x} : (wrL n f x s).time = s.time := wrFld_time (b := laneBase n)
@[simp] theorem wrL_ctxs {n f x} : (wrL n f x s).ctxs = s.ctxs := wrFld_ctxs (b := laneBase n)
@[simp] theorem wrL_tt {n f x} : (wrL n f x s).tt = s.tt := wrFld_tt (b := laneBase n)
@[simp] theorem wrL_ports {n f x} : (wrL n f x s).ports = s.ports := wrFld_ports (b := laneBase n)
@[simp] theorem wrL_hostPorts {n f x} : (wrL n f x s).hostPorts = s.hostPorts := wrFld_hostPorts (b := laneBase n)
@[simp] theorem wrL_lanes {n f x} : (wrL n f x s).lanes = s.lanes := wrFld_lanes (b := laneBase n)
@[simp] theorem wrL_ch {n f x} : (wrL n f x s).ch = s.ch := wrFld_ch (b := laneBase n)
@[simp] theorem wrL_diag {n f x} : (wrL n f x s).diag = s.diag := wrFld_diag (b := laneBase n)
@[simp] theorem wrL_cal {n f x} : (wrL n f x s).cal = s.cal := wrFld_cal (b := laneBase n)
@[simp] theorem wrL_audit {n f x} : (wrL n f x s).audit = s.audit := wrFld_audit (b := laneBase n)
@[simp] theorem wrL_perf {n f x} : (wrL n f x s).perf = s.perf := wrFld_perf (b := laneBase n)
@[simp] theorem wrL_mem {n f x} : (wrL n f x s).mem = s.mem := wrFld_mem (b := laneBase n)
@[simp] theorem wrL_tick {n f x} : (wrL n f x s).tick = s.tick := wrFld_tick (b := laneBase n)
@[simp] theorem wrL_draws {n f x} : (wrL n f x s).draws = s.draws := wrFld_draws (b := laneBase n)
end wrL
section setMemByte
@[simp] theorem setMemByte_pending {a b} : (setMemByte a b s).pending = s.pending := rfl
@[simp] theorem setMemByte_part {a b} : (setMemByte a b s).part = s.part := rfl
@[simp] theorem setMemByte_straps {a b} : (setMemByte a b s).straps = s.straps := rfl
@[simp] theorem setMemByte_strapReq {a b} : (setMemByte a b s).strapReq = s.strapReq := rfl
@[simp] theorem setMemByte_profileSel {a b} : (setMemByte a b s).profileSel = s.profileSel := rfl
@[simp] theorem setMemByte_profileNew {a b} : (setMemByte a b s).profileNew = s.profileNew := rfl
@[simp] theorem setMemByte_stage {a b} : (setMemByte a b s).stage = s.stage := rfl
@[simp] theorem setMemByte_regs {a b} : (setMemByte a b s).regs = s.regs := rfl
@[simp] theorem setMemByte_latchCp {a b} : (setMemByte a b s).latchCp = s.latchCp := rfl
@[simp] theorem setMemByte_latch0 {a b} : (setMemByte a b s).latch0 = s.latch0 := rfl
@[simp] theorem setMemByte_latch1 {a b} : (setMemByte a b s).latch1 = s.latch1 := rfl
@[simp] theorem setMemByte_mdio {a b} : (setMemByte a b s).mdio = s.mdio := rfl
@[simp] theorem setMemByte_teller {a b} : (setMemByte a b s).teller = s.teller := rfl
@[simp] theorem setMemByte_cp {a b} : (setMemByte a b s).cp = s.cp := rfl
@[simp] theorem setMemByte_sec {a b} : (setMemByte a b s).sec = s.sec := rfl
@[simp] theorem setMemByte_ledger {a b} : (setMemByte a b s).ledger = s.ledger := rfl
@[simp] theorem setMemByte_journal {a b} : (setMemByte a b s).journal = s.journal := rfl
@[simp] theorem setMemByte_nextOp {a b} : (setMemByte a b s).nextOp = s.nextOp := rfl
@[simp] theorem setMemByte_ops {a b} : (setMemByte a b s).ops = s.ops := rfl
@[simp] theorem setMemByte_images {a b} : (setMemByte a b s).images = s.images := rfl
@[simp] theorem setMemByte_vault {a b} : (setMemByte a b s).vault = s.vault := rfl
@[simp] theorem setMemByte_clk {a b} : (setMemByte a b s).clk = s.clk := rfl
@[simp] theorem setMemByte_power {a b} : (setMemByte a b s).power = s.power := rfl
@[simp] theorem setMemByte_time {a b} : (setMemByte a b s).time = s.time := rfl
@[simp] theorem setMemByte_ctxs {a b} : (setMemByte a b s).ctxs = s.ctxs := rfl
@[simp] theorem setMemByte_tt {a b} : (setMemByte a b s).tt = s.tt := rfl
@[simp] theorem setMemByte_ports {a b} : (setMemByte a b s).ports = s.ports := rfl
@[simp] theorem setMemByte_hostPorts {a b} : (setMemByte a b s).hostPorts = s.hostPorts := rfl
@[simp] theorem setMemByte_lanes {a b} : (setMemByte a b s).lanes = s.lanes := rfl
@[simp] theorem setMemByte_ch {a b} : (setMemByte a b s).ch = s.ch := rfl
@[simp] theorem setMemByte_diag {a b} : (setMemByte a b s).diag = s.diag := rfl
@[simp] theorem setMemByte_cal {a b} : (setMemByte a b s).cal = s.cal := rfl
@[simp] theorem setMemByte_audit {a b} : (setMemByte a b s).audit = s.audit := rfl
@[simp] theorem setMemByte_perf {a b} : (setMemByte a b s).perf = s.perf := rfl
@[simp] theorem setMemByte_tick {a b} : (setMemByte a b s).tick = s.tick := rfl
@[simp] theorem setMemByte_draws {a b} : (setMemByte a b s).draws = s.draws := rfl
end setMemByte
section clearMem
@[simp] theorem clearMem_pending {p} : (clearMem p s).pending = s.pending := rfl
@[simp] theorem clearMem_part {p} : (clearMem p s).part = s.part := rfl
@[simp] theorem clearMem_straps {p} : (clearMem p s).straps = s.straps := rfl
@[simp] theorem clearMem_strapReq {p} : (clearMem p s).strapReq = s.strapReq := rfl
@[simp] theorem clearMem_profileSel {p} : (clearMem p s).profileSel = s.profileSel := rfl
@[simp] theorem clearMem_profileNew {p} : (clearMem p s).profileNew = s.profileNew := rfl
@[simp] theorem clearMem_stage {p} : (clearMem p s).stage = s.stage := rfl
@[simp] theorem clearMem_regs {p} : (clearMem p s).regs = s.regs := rfl
@[simp] theorem clearMem_latchCp {p} : (clearMem p s).latchCp = s.latchCp := rfl
@[simp] theorem clearMem_latch0 {p} : (clearMem p s).latch0 = s.latch0 := rfl
@[simp] theorem clearMem_latch1 {p} : (clearMem p s).latch1 = s.latch1 := rfl
@[simp] theorem clearMem_mdio {p} : (clearMem p s).mdio = s.mdio := rfl
@[simp] theorem clearMem_teller {p} : (clearMem p s).teller = s.teller := rfl
@[simp] theorem clearMem_cp {p} : (clearMem p s).cp = s.cp := rfl
@[simp] theorem clearMem_sec {p} : (clearMem p s).sec = s.sec := rfl
@[simp] theorem clearMem_ledger {p} : (clearMem p s).ledger = s.ledger := rfl
@[simp] theorem clearMem_journal {p} : (clearMem p s).journal = s.journal := rfl
@[simp] theorem clearMem_nextOp {p} : (clearMem p s).nextOp = s.nextOp := rfl
@[simp] theorem clearMem_ops {p} : (clearMem p s).ops = s.ops := rfl
@[simp] theorem clearMem_images {p} : (clearMem p s).images = s.images := rfl
@[simp] theorem clearMem_vault {p} : (clearMem p s).vault = s.vault := rfl
@[simp] theorem clearMem_clk {p} : (clearMem p s).clk = s.clk := rfl
@[simp] theorem clearMem_power {p} : (clearMem p s).power = s.power := rfl
@[simp] theorem clearMem_time {p} : (clearMem p s).time = s.time := rfl
@[simp] theorem clearMem_ctxs {p} : (clearMem p s).ctxs = s.ctxs := rfl
@[simp] theorem clearMem_tt {p} : (clearMem p s).tt = s.tt := rfl
@[simp] theorem clearMem_ports {p} : (clearMem p s).ports = s.ports := rfl
@[simp] theorem clearMem_hostPorts {p} : (clearMem p s).hostPorts = s.hostPorts := rfl
@[simp] theorem clearMem_lanes {p} : (clearMem p s).lanes = s.lanes := rfl
@[simp] theorem clearMem_ch {p} : (clearMem p s).ch = s.ch := rfl
@[simp] theorem clearMem_diag {p} : (clearMem p s).diag = s.diag := rfl
@[simp] theorem clearMem_cal {p} : (clearMem p s).cal = s.cal := rfl
@[simp] theorem clearMem_audit {p} : (clearMem p s).audit = s.audit := rfl
@[simp] theorem clearMem_perf {p} : (clearMem p s).perf = s.perf := rfl
@[simp] theorem clearMem_tick {p} : (clearMem p s).tick = s.tick := rfl
@[simp] theorem clearMem_draws {p} : (clearMem p s).draws = s.draws := rfl
end clearMem
section modPort
@[simp] theorem modPort_pending {n f} : (modPort n f s).pending = s.pending := rfl
@[simp] theorem modPort_part {n f} : (modPort n f s).part = s.part := rfl
@[simp] theorem modPort_straps {n f} : (modPort n f s).straps = s.straps := rfl
@[simp] theorem modPort_strapReq {n f} : (modPort n f s).strapReq = s.strapReq := rfl
@[simp] theorem modPort_profileSel {n f} : (modPort n f s).profileSel = s.profileSel := rfl
@[simp] theorem modPort_profileNew {n f} : (modPort n f s).profileNew = s.profileNew := rfl
@[simp] theorem modPort_stage {n f} : (modPort n f s).stage = s.stage := rfl
@[simp] theorem modPort_regs {n f} : (modPort n f s).regs = s.regs := rfl
@[simp] theorem modPort_latchCp {n f} : (modPort n f s).latchCp = s.latchCp := rfl
@[simp] theorem modPort_latch0 {n f} : (modPort n f s).latch0 = s.latch0 := rfl
@[simp] theorem modPort_latch1 {n f} : (modPort n f s).latch1 = s.latch1 := rfl
@[simp] theorem modPort_mdio {n f} : (modPort n f s).mdio = s.mdio := rfl
@[simp] theorem modPort_teller {n f} : (modPort n f s).teller = s.teller := rfl
@[simp] theorem modPort_cp {n f} : (modPort n f s).cp = s.cp := rfl
@[simp] theorem modPort_sec {n f} : (modPort n f s).sec = s.sec := rfl
@[simp] theorem modPort_ledger {n f} : (modPort n f s).ledger = s.ledger := rfl
@[simp] theorem modPort_journal {n f} : (modPort n f s).journal = s.journal := rfl
@[simp] theorem modPort_nextOp {n f} : (modPort n f s).nextOp = s.nextOp := rfl
@[simp] theorem modPort_ops {n f} : (modPort n f s).ops = s.ops := rfl
@[simp] theorem modPort_images {n f} : (modPort n f s).images = s.images := rfl
@[simp] theorem modPort_vault {n f} : (modPort n f s).vault = s.vault := rfl
@[simp] theorem modPort_clk {n f} : (modPort n f s).clk = s.clk := rfl
@[simp] theorem modPort_power {n f} : (modPort n f s).power = s.power := rfl
@[simp] theorem modPort_time {n f} : (modPort n f s).time = s.time := rfl
@[simp] theorem modPort_ctxs {n f} : (modPort n f s).ctxs = s.ctxs := rfl
@[simp] theorem modPort_tt {n f} : (modPort n f s).tt = s.tt := rfl
@[simp] theorem modPort_hostPorts {n f} : (modPort n f s).hostPorts = s.hostPorts := rfl
@[simp] theorem modPort_lanes {n f} : (modPort n f s).lanes = s.lanes := rfl
@[simp] theorem modPort_ch {n f} : (modPort n f s).ch = s.ch := rfl
@[simp] theorem modPort_diag {n f} : (modPort n f s).diag = s.diag := rfl
@[simp] theorem modPort_cal {n f} : (modPort n f s).cal = s.cal := rfl
@[simp] theorem modPort_audit {n f} : (modPort n f s).audit = s.audit := rfl
@[simp] theorem modPort_perf {n f} : (modPort n f s).perf = s.perf := rfl
@[simp] theorem modPort_mem {n f} : (modPort n f s).mem = s.mem := rfl
@[simp] theorem modPort_tick {n f} : (modPort n f s).tick = s.tick := rfl
@[simp] theorem modPort_draws {n f} : (modPort n f s).draws = s.draws := rfl
end modPort
section modHost
@[simp] theorem modHost_pending {n f} : (modHost n f s).pending = s.pending := rfl
@[simp] theorem modHost_part {n f} : (modHost n f s).part = s.part := rfl
@[simp] theorem modHost_straps {n f} : (modHost n f s).straps = s.straps := rfl
@[simp] theorem modHost_strapReq {n f} : (modHost n f s).strapReq = s.strapReq := rfl
@[simp] theorem modHost_profileSel {n f} : (modHost n f s).profileSel = s.profileSel := rfl
@[simp] theorem modHost_profileNew {n f} : (modHost n f s).profileNew = s.profileNew := rfl
@[simp] theorem modHost_stage {n f} : (modHost n f s).stage = s.stage := rfl
@[simp] theorem modHost_regs {n f} : (modHost n f s).regs = s.regs := rfl
@[simp] theorem modHost_latchCp {n f} : (modHost n f s).latchCp = s.latchCp := rfl
@[simp] theorem modHost_latch0 {n f} : (modHost n f s).latch0 = s.latch0 := rfl
@[simp] theorem modHost_latch1 {n f} : (modHost n f s).latch1 = s.latch1 := rfl
@[simp] theorem modHost_mdio {n f} : (modHost n f s).mdio = s.mdio := rfl
@[simp] theorem modHost_teller {n f} : (modHost n f s).teller = s.teller := rfl
@[simp] theorem modHost_cp {n f} : (modHost n f s).cp = s.cp := rfl
@[simp] theorem modHost_sec {n f} : (modHost n f s).sec = s.sec := rfl
@[simp] theorem modHost_ledger {n f} : (modHost n f s).ledger = s.ledger := rfl
@[simp] theorem modHost_journal {n f} : (modHost n f s).journal = s.journal := rfl
@[simp] theorem modHost_nextOp {n f} : (modHost n f s).nextOp = s.nextOp := rfl
@[simp] theorem modHost_ops {n f} : (modHost n f s).ops = s.ops := rfl
@[simp] theorem modHost_images {n f} : (modHost n f s).images = s.images := rfl
@[simp] theorem modHost_vault {n f} : (modHost n f s).vault = s.vault := rfl
@[simp] theorem modHost_clk {n f} : (modHost n f s).clk = s.clk := rfl
@[simp] theorem modHost_power {n f} : (modHost n f s).power = s.power := rfl
@[simp] theorem modHost_time {n f} : (modHost n f s).time = s.time := rfl
@[simp] theorem modHost_ctxs {n f} : (modHost n f s).ctxs = s.ctxs := rfl
@[simp] theorem modHost_tt {n f} : (modHost n f s).tt = s.tt := rfl
@[simp] theorem modHost_ports {n f} : (modHost n f s).ports = s.ports := rfl
@[simp] theorem modHost_lanes {n f} : (modHost n f s).lanes = s.lanes := rfl
@[simp] theorem modHost_ch {n f} : (modHost n f s).ch = s.ch := rfl
@[simp] theorem modHost_diag {n f} : (modHost n f s).diag = s.diag := rfl
@[simp] theorem modHost_cal {n f} : (modHost n f s).cal = s.cal := rfl
@[simp] theorem modHost_audit {n f} : (modHost n f s).audit = s.audit := rfl
@[simp] theorem modHost_perf {n f} : (modHost n f s).perf = s.perf := rfl
@[simp] theorem modHost_mem {n f} : (modHost n f s).mem = s.mem := rfl
@[simp] theorem modHost_tick {n f} : (modHost n f s).tick = s.tick := rfl
@[simp] theorem modHost_draws {n f} : (modHost n f s).draws = s.draws := rfl
end modHost
section modLane
@[simp] theorem modLane_pending {n f} : (modLane n f s).pending = s.pending := rfl
@[simp] theorem modLane_part {n f} : (modLane n f s).part = s.part := rfl
@[simp] theorem modLane_straps {n f} : (modLane n f s).straps = s.straps := rfl
@[simp] theorem modLane_strapReq {n f} : (modLane n f s).strapReq = s.strapReq := rfl
@[simp] theorem modLane_profileSel {n f} : (modLane n f s).profileSel = s.profileSel := rfl
@[simp] theorem modLane_profileNew {n f} : (modLane n f s).profileNew = s.profileNew := rfl
@[simp] theorem modLane_stage {n f} : (modLane n f s).stage = s.stage := rfl
@[simp] theorem modLane_regs {n f} : (modLane n f s).regs = s.regs := rfl
@[simp] theorem modLane_latchCp {n f} : (modLane n f s).latchCp = s.latchCp := rfl
@[simp] theorem modLane_latch0 {n f} : (modLane n f s).latch0 = s.latch0 := rfl
@[simp] theorem modLane_latch1 {n f} : (modLane n f s).latch1 = s.latch1 := rfl
@[simp] theorem modLane_mdio {n f} : (modLane n f s).mdio = s.mdio := rfl
@[simp] theorem modLane_teller {n f} : (modLane n f s).teller = s.teller := rfl
@[simp] theorem modLane_cp {n f} : (modLane n f s).cp = s.cp := rfl
@[simp] theorem modLane_sec {n f} : (modLane n f s).sec = s.sec := rfl
@[simp] theorem modLane_ledger {n f} : (modLane n f s).ledger = s.ledger := rfl
@[simp] theorem modLane_journal {n f} : (modLane n f s).journal = s.journal := rfl
@[simp] theorem modLane_nextOp {n f} : (modLane n f s).nextOp = s.nextOp := rfl
@[simp] theorem modLane_ops {n f} : (modLane n f s).ops = s.ops := rfl
@[simp] theorem modLane_images {n f} : (modLane n f s).images = s.images := rfl
@[simp] theorem modLane_vault {n f} : (modLane n f s).vault = s.vault := rfl
@[simp] theorem modLane_clk {n f} : (modLane n f s).clk = s.clk := rfl
@[simp] theorem modLane_power {n f} : (modLane n f s).power = s.power := rfl
@[simp] theorem modLane_time {n f} : (modLane n f s).time = s.time := rfl
@[simp] theorem modLane_ctxs {n f} : (modLane n f s).ctxs = s.ctxs := rfl
@[simp] theorem modLane_tt {n f} : (modLane n f s).tt = s.tt := rfl
@[simp] theorem modLane_ports {n f} : (modLane n f s).ports = s.ports := rfl
@[simp] theorem modLane_hostPorts {n f} : (modLane n f s).hostPorts = s.hostPorts := rfl
@[simp] theorem modLane_ch {n f} : (modLane n f s).ch = s.ch := rfl
@[simp] theorem modLane_diag {n f} : (modLane n f s).diag = s.diag := rfl
@[simp] theorem modLane_cal {n f} : (modLane n f s).cal = s.cal := rfl
@[simp] theorem modLane_audit {n f} : (modLane n f s).audit = s.audit := rfl
@[simp] theorem modLane_perf {n f} : (modLane n f s).perf = s.perf := rfl
@[simp] theorem modLane_mem {n f} : (modLane n f s).mem = s.mem := rfl
@[simp] theorem modLane_tick {n f} : (modLane n f s).tick = s.tick := rfl
@[simp] theorem modLane_draws {n f} : (modLane n f s).draws = s.draws := rfl
end modLane
section modCtx
@[simp] theorem modCtx_pending {n f} : (modCtx n f s).pending = s.pending := rfl
@[simp] theorem modCtx_part {n f} : (modCtx n f s).part = s.part := rfl
@[simp] theorem modCtx_straps {n f} : (modCtx n f s).straps = s.straps := rfl
@[simp] theorem modCtx_strapReq {n f} : (modCtx n f s).strapReq = s.strapReq := rfl
@[simp] theorem modCtx_profileSel {n f} : (modCtx n f s).profileSel = s.profileSel := rfl
@[simp] theorem modCtx_profileNew {n f} : (modCtx n f s).profileNew = s.profileNew := rfl
@[simp] theorem modCtx_stage {n f} : (modCtx n f s).stage = s.stage := rfl
@[simp] theorem modCtx_regs {n f} : (modCtx n f s).regs = s.regs := rfl
@[simp] theorem modCtx_latchCp {n f} : (modCtx n f s).latchCp = s.latchCp := rfl
@[simp] theorem modCtx_latch0 {n f} : (modCtx n f s).latch0 = s.latch0 := rfl
@[simp] theorem modCtx_latch1 {n f} : (modCtx n f s).latch1 = s.latch1 := rfl
@[simp] theorem modCtx_mdio {n f} : (modCtx n f s).mdio = s.mdio := rfl
@[simp] theorem modCtx_teller {n f} : (modCtx n f s).teller = s.teller := rfl
@[simp] theorem modCtx_cp {n f} : (modCtx n f s).cp = s.cp := rfl
@[simp] theorem modCtx_sec {n f} : (modCtx n f s).sec = s.sec := rfl
@[simp] theorem modCtx_ledger {n f} : (modCtx n f s).ledger = s.ledger := rfl
@[simp] theorem modCtx_journal {n f} : (modCtx n f s).journal = s.journal := rfl
@[simp] theorem modCtx_nextOp {n f} : (modCtx n f s).nextOp = s.nextOp := rfl
@[simp] theorem modCtx_ops {n f} : (modCtx n f s).ops = s.ops := rfl
@[simp] theorem modCtx_images {n f} : (modCtx n f s).images = s.images := rfl
@[simp] theorem modCtx_vault {n f} : (modCtx n f s).vault = s.vault := rfl
@[simp] theorem modCtx_clk {n f} : (modCtx n f s).clk = s.clk := rfl
@[simp] theorem modCtx_power {n f} : (modCtx n f s).power = s.power := rfl
@[simp] theorem modCtx_time {n f} : (modCtx n f s).time = s.time := rfl
@[simp] theorem modCtx_tt {n f} : (modCtx n f s).tt = s.tt := rfl
@[simp] theorem modCtx_ports {n f} : (modCtx n f s).ports = s.ports := rfl
@[simp] theorem modCtx_hostPorts {n f} : (modCtx n f s).hostPorts = s.hostPorts := rfl
@[simp] theorem modCtx_lanes {n f} : (modCtx n f s).lanes = s.lanes := rfl
@[simp] theorem modCtx_ch {n f} : (modCtx n f s).ch = s.ch := rfl
@[simp] theorem modCtx_diag {n f} : (modCtx n f s).diag = s.diag := rfl
@[simp] theorem modCtx_cal {n f} : (modCtx n f s).cal = s.cal := rfl
@[simp] theorem modCtx_audit {n f} : (modCtx n f s).audit = s.audit := rfl
@[simp] theorem modCtx_perf {n f} : (modCtx n f s).perf = s.perf := rfl
@[simp] theorem modCtx_mem {n f} : (modCtx n f s).mem = s.mem := rfl
@[simp] theorem modCtx_tick {n f} : (modCtx n f s).tick = s.tick := rfl
@[simp] theorem modCtx_draws {n f} : (modCtx n f s).draws = s.draws := rfl
end modCtx
section modTt
@[simp] theorem modTt_pending {n f} : (modTt n f s).pending = s.pending := rfl
@[simp] theorem modTt_part {n f} : (modTt n f s).part = s.part := rfl
@[simp] theorem modTt_straps {n f} : (modTt n f s).straps = s.straps := rfl
@[simp] theorem modTt_strapReq {n f} : (modTt n f s).strapReq = s.strapReq := rfl
@[simp] theorem modTt_profileSel {n f} : (modTt n f s).profileSel = s.profileSel := rfl
@[simp] theorem modTt_profileNew {n f} : (modTt n f s).profileNew = s.profileNew := rfl
@[simp] theorem modTt_stage {n f} : (modTt n f s).stage = s.stage := rfl
@[simp] theorem modTt_regs {n f} : (modTt n f s).regs = s.regs := rfl
@[simp] theorem modTt_latchCp {n f} : (modTt n f s).latchCp = s.latchCp := rfl
@[simp] theorem modTt_latch0 {n f} : (modTt n f s).latch0 = s.latch0 := rfl
@[simp] theorem modTt_latch1 {n f} : (modTt n f s).latch1 = s.latch1 := rfl
@[simp] theorem modTt_mdio {n f} : (modTt n f s).mdio = s.mdio := rfl
@[simp] theorem modTt_teller {n f} : (modTt n f s).teller = s.teller := rfl
@[simp] theorem modTt_cp {n f} : (modTt n f s).cp = s.cp := rfl
@[simp] theorem modTt_sec {n f} : (modTt n f s).sec = s.sec := rfl
@[simp] theorem modTt_ledger {n f} : (modTt n f s).ledger = s.ledger := rfl
@[simp] theorem modTt_journal {n f} : (modTt n f s).journal = s.journal := rfl
@[simp] theorem modTt_nextOp {n f} : (modTt n f s).nextOp = s.nextOp := rfl
@[simp] theorem modTt_ops {n f} : (modTt n f s).ops = s.ops := rfl
@[simp] theorem modTt_images {n f} : (modTt n f s).images = s.images := rfl
@[simp] theorem modTt_vault {n f} : (modTt n f s).vault = s.vault := rfl
@[simp] theorem modTt_clk {n f} : (modTt n f s).clk = s.clk := rfl
@[simp] theorem modTt_power {n f} : (modTt n f s).power = s.power := rfl
@[simp] theorem modTt_time {n f} : (modTt n f s).time = s.time := rfl
@[simp] theorem modTt_ctxs {n f} : (modTt n f s).ctxs = s.ctxs := rfl
@[simp] theorem modTt_ports {n f} : (modTt n f s).ports = s.ports := rfl
@[simp] theorem modTt_hostPorts {n f} : (modTt n f s).hostPorts = s.hostPorts := rfl
@[simp] theorem modTt_lanes {n f} : (modTt n f s).lanes = s.lanes := rfl
@[simp] theorem modTt_ch {n f} : (modTt n f s).ch = s.ch := rfl
@[simp] theorem modTt_diag {n f} : (modTt n f s).diag = s.diag := rfl
@[simp] theorem modTt_cal {n f} : (modTt n f s).cal = s.cal := rfl
@[simp] theorem modTt_audit {n f} : (modTt n f s).audit = s.audit := rfl
@[simp] theorem modTt_perf {n f} : (modTt n f s).perf = s.perf := rfl
@[simp] theorem modTt_mem {n f} : (modTt n f s).mem = s.mem := rfl
@[simp] theorem modTt_tick {n f} : (modTt n f s).tick = s.tick := rfl
@[simp] theorem modTt_draws {n f} : (modTt n f s).draws = s.draws := rfl
end modTt
section modCal
@[simp] theorem modCal_pending {f} : (modCal f s).pending = s.pending := rfl
@[simp] theorem modCal_part {f} : (modCal f s).part = s.part := rfl
@[simp] theorem modCal_straps {f} : (modCal f s).straps = s.straps := rfl
@[simp] theorem modCal_strapReq {f} : (modCal f s).strapReq = s.strapReq := rfl
@[simp] theorem modCal_profileSel {f} : (modCal f s).profileSel = s.profileSel := rfl
@[simp] theorem modCal_profileNew {f} : (modCal f s).profileNew = s.profileNew := rfl
@[simp] theorem modCal_stage {f} : (modCal f s).stage = s.stage := rfl
@[simp] theorem modCal_regs {f} : (modCal f s).regs = s.regs := rfl
@[simp] theorem modCal_latchCp {f} : (modCal f s).latchCp = s.latchCp := rfl
@[simp] theorem modCal_latch0 {f} : (modCal f s).latch0 = s.latch0 := rfl
@[simp] theorem modCal_latch1 {f} : (modCal f s).latch1 = s.latch1 := rfl
@[simp] theorem modCal_mdio {f} : (modCal f s).mdio = s.mdio := rfl
@[simp] theorem modCal_teller {f} : (modCal f s).teller = s.teller := rfl
@[simp] theorem modCal_cp {f} : (modCal f s).cp = s.cp := rfl
@[simp] theorem modCal_sec {f} : (modCal f s).sec = s.sec := rfl
@[simp] theorem modCal_ledger {f} : (modCal f s).ledger = s.ledger := rfl
@[simp] theorem modCal_journal {f} : (modCal f s).journal = s.journal := rfl
@[simp] theorem modCal_nextOp {f} : (modCal f s).nextOp = s.nextOp := rfl
@[simp] theorem modCal_ops {f} : (modCal f s).ops = s.ops := rfl
@[simp] theorem modCal_images {f} : (modCal f s).images = s.images := rfl
@[simp] theorem modCal_vault {f} : (modCal f s).vault = s.vault := rfl
@[simp] theorem modCal_clk {f} : (modCal f s).clk = s.clk := rfl
@[simp] theorem modCal_power {f} : (modCal f s).power = s.power := rfl
@[simp] theorem modCal_time {f} : (modCal f s).time = s.time := rfl
@[simp] theorem modCal_ctxs {f} : (modCal f s).ctxs = s.ctxs := rfl
@[simp] theorem modCal_tt {f} : (modCal f s).tt = s.tt := rfl
@[simp] theorem modCal_ports {f} : (modCal f s).ports = s.ports := rfl
@[simp] theorem modCal_hostPorts {f} : (modCal f s).hostPorts = s.hostPorts := rfl
@[simp] theorem modCal_lanes {f} : (modCal f s).lanes = s.lanes := rfl
@[simp] theorem modCal_ch {f} : (modCal f s).ch = s.ch := rfl
@[simp] theorem modCal_diag {f} : (modCal f s).diag = s.diag := rfl
@[simp] theorem modCal_audit {f} : (modCal f s).audit = s.audit := rfl
@[simp] theorem modCal_perf {f} : (modCal f s).perf = s.perf := rfl
@[simp] theorem modCal_mem {f} : (modCal f s).mem = s.mem := rfl
@[simp] theorem modCal_tick {f} : (modCal f s).tick = s.tick := rfl
@[simp] theorem modCal_draws {f} : (modCal f s).draws = s.draws := rfl
end modCal
section modCh
@[simp] theorem modCh_pending {f} : (modCh f s).pending = s.pending := rfl
@[simp] theorem modCh_part {f} : (modCh f s).part = s.part := rfl
@[simp] theorem modCh_straps {f} : (modCh f s).straps = s.straps := rfl
@[simp] theorem modCh_strapReq {f} : (modCh f s).strapReq = s.strapReq := rfl
@[simp] theorem modCh_profileSel {f} : (modCh f s).profileSel = s.profileSel := rfl
@[simp] theorem modCh_profileNew {f} : (modCh f s).profileNew = s.profileNew := rfl
@[simp] theorem modCh_stage {f} : (modCh f s).stage = s.stage := rfl
@[simp] theorem modCh_regs {f} : (modCh f s).regs = s.regs := rfl
@[simp] theorem modCh_latchCp {f} : (modCh f s).latchCp = s.latchCp := rfl
@[simp] theorem modCh_latch0 {f} : (modCh f s).latch0 = s.latch0 := rfl
@[simp] theorem modCh_latch1 {f} : (modCh f s).latch1 = s.latch1 := rfl
@[simp] theorem modCh_mdio {f} : (modCh f s).mdio = s.mdio := rfl
@[simp] theorem modCh_teller {f} : (modCh f s).teller = s.teller := rfl
@[simp] theorem modCh_cp {f} : (modCh f s).cp = s.cp := rfl
@[simp] theorem modCh_sec {f} : (modCh f s).sec = s.sec := rfl
@[simp] theorem modCh_ledger {f} : (modCh f s).ledger = s.ledger := rfl
@[simp] theorem modCh_journal {f} : (modCh f s).journal = s.journal := rfl
@[simp] theorem modCh_nextOp {f} : (modCh f s).nextOp = s.nextOp := rfl
@[simp] theorem modCh_ops {f} : (modCh f s).ops = s.ops := rfl
@[simp] theorem modCh_images {f} : (modCh f s).images = s.images := rfl
@[simp] theorem modCh_vault {f} : (modCh f s).vault = s.vault := rfl
@[simp] theorem modCh_clk {f} : (modCh f s).clk = s.clk := rfl
@[simp] theorem modCh_power {f} : (modCh f s).power = s.power := rfl
@[simp] theorem modCh_time {f} : (modCh f s).time = s.time := rfl
@[simp] theorem modCh_ctxs {f} : (modCh f s).ctxs = s.ctxs := rfl
@[simp] theorem modCh_tt {f} : (modCh f s).tt = s.tt := rfl
@[simp] theorem modCh_ports {f} : (modCh f s).ports = s.ports := rfl
@[simp] theorem modCh_hostPorts {f} : (modCh f s).hostPorts = s.hostPorts := rfl
@[simp] theorem modCh_lanes {f} : (modCh f s).lanes = s.lanes := rfl
@[simp] theorem modCh_diag {f} : (modCh f s).diag = s.diag := rfl
@[simp] theorem modCh_cal {f} : (modCh f s).cal = s.cal := rfl
@[simp] theorem modCh_audit {f} : (modCh f s).audit = s.audit := rfl
@[simp] theorem modCh_perf {f} : (modCh f s).perf = s.perf := rfl
@[simp] theorem modCh_mem {f} : (modCh f s).mem = s.mem := rfl
@[simp] theorem modCh_tick {f} : (modCh f s).tick = s.tick := rfl
@[simp] theorem modCh_draws {f} : (modCh f s).draws = s.draws := rfl
end modCh
section modCp
@[simp] theorem modCp_pending {f} : (modCp f s).pending = s.pending := rfl
@[simp] theorem modCp_part {f} : (modCp f s).part = s.part := rfl
@[simp] theorem modCp_straps {f} : (modCp f s).straps = s.straps := rfl
@[simp] theorem modCp_strapReq {f} : (modCp f s).strapReq = s.strapReq := rfl
@[simp] theorem modCp_profileSel {f} : (modCp f s).profileSel = s.profileSel := rfl
@[simp] theorem modCp_profileNew {f} : (modCp f s).profileNew = s.profileNew := rfl
@[simp] theorem modCp_stage {f} : (modCp f s).stage = s.stage := rfl
@[simp] theorem modCp_regs {f} : (modCp f s).regs = s.regs := rfl
@[simp] theorem modCp_latchCp {f} : (modCp f s).latchCp = s.latchCp := rfl
@[simp] theorem modCp_latch0 {f} : (modCp f s).latch0 = s.latch0 := rfl
@[simp] theorem modCp_latch1 {f} : (modCp f s).latch1 = s.latch1 := rfl
@[simp] theorem modCp_mdio {f} : (modCp f s).mdio = s.mdio := rfl
@[simp] theorem modCp_teller {f} : (modCp f s).teller = s.teller := rfl
@[simp] theorem modCp_sec {f} : (modCp f s).sec = s.sec := rfl
@[simp] theorem modCp_ledger {f} : (modCp f s).ledger = s.ledger := rfl
@[simp] theorem modCp_journal {f} : (modCp f s).journal = s.journal := rfl
@[simp] theorem modCp_nextOp {f} : (modCp f s).nextOp = s.nextOp := rfl
@[simp] theorem modCp_ops {f} : (modCp f s).ops = s.ops := rfl
@[simp] theorem modCp_images {f} : (modCp f s).images = s.images := rfl
@[simp] theorem modCp_vault {f} : (modCp f s).vault = s.vault := rfl
@[simp] theorem modCp_clk {f} : (modCp f s).clk = s.clk := rfl
@[simp] theorem modCp_power {f} : (modCp f s).power = s.power := rfl
@[simp] theorem modCp_time {f} : (modCp f s).time = s.time := rfl
@[simp] theorem modCp_ctxs {f} : (modCp f s).ctxs = s.ctxs := rfl
@[simp] theorem modCp_tt {f} : (modCp f s).tt = s.tt := rfl
@[simp] theorem modCp_ports {f} : (modCp f s).ports = s.ports := rfl
@[simp] theorem modCp_hostPorts {f} : (modCp f s).hostPorts = s.hostPorts := rfl
@[simp] theorem modCp_lanes {f} : (modCp f s).lanes = s.lanes := rfl
@[simp] theorem modCp_ch {f} : (modCp f s).ch = s.ch := rfl
@[simp] theorem modCp_diag {f} : (modCp f s).diag = s.diag := rfl
@[simp] theorem modCp_cal {f} : (modCp f s).cal = s.cal := rfl
@[simp] theorem modCp_audit {f} : (modCp f s).audit = s.audit := rfl
@[simp] theorem modCp_perf {f} : (modCp f s).perf = s.perf := rfl
@[simp] theorem modCp_mem {f} : (modCp f s).mem = s.mem := rfl
@[simp] theorem modCp_tick {f} : (modCp f s).tick = s.tick := rfl
@[simp] theorem modCp_draws {f} : (modCp f s).draws = s.draws := rfl
end modCp
section modSec
@[simp] theorem modSec_pending {f} : (modSec f s).pending = s.pending := rfl
@[simp] theorem modSec_part {f} : (modSec f s).part = s.part := rfl
@[simp] theorem modSec_straps {f} : (modSec f s).straps = s.straps := rfl
@[simp] theorem modSec_strapReq {f} : (modSec f s).strapReq = s.strapReq := rfl
@[simp] theorem modSec_profileSel {f} : (modSec f s).profileSel = s.profileSel := rfl
@[simp] theorem modSec_profileNew {f} : (modSec f s).profileNew = s.profileNew := rfl
@[simp] theorem modSec_stage {f} : (modSec f s).stage = s.stage := rfl
@[simp] theorem modSec_regs {f} : (modSec f s).regs = s.regs := rfl
@[simp] theorem modSec_latchCp {f} : (modSec f s).latchCp = s.latchCp := rfl
@[simp] theorem modSec_latch0 {f} : (modSec f s).latch0 = s.latch0 := rfl
@[simp] theorem modSec_latch1 {f} : (modSec f s).latch1 = s.latch1 := rfl
@[simp] theorem modSec_mdio {f} : (modSec f s).mdio = s.mdio := rfl
@[simp] theorem modSec_teller {f} : (modSec f s).teller = s.teller := rfl
@[simp] theorem modSec_cp {f} : (modSec f s).cp = s.cp := rfl
@[simp] theorem modSec_ledger {f} : (modSec f s).ledger = s.ledger := rfl
@[simp] theorem modSec_journal {f} : (modSec f s).journal = s.journal := rfl
@[simp] theorem modSec_nextOp {f} : (modSec f s).nextOp = s.nextOp := rfl
@[simp] theorem modSec_ops {f} : (modSec f s).ops = s.ops := rfl
@[simp] theorem modSec_images {f} : (modSec f s).images = s.images := rfl
@[simp] theorem modSec_vault {f} : (modSec f s).vault = s.vault := rfl
@[simp] theorem modSec_clk {f} : (modSec f s).clk = s.clk := rfl
@[simp] theorem modSec_power {f} : (modSec f s).power = s.power := rfl
@[simp] theorem modSec_time {f} : (modSec f s).time = s.time := rfl
@[simp] theorem modSec_ctxs {f} : (modSec f s).ctxs = s.ctxs := rfl
@[simp] theorem modSec_tt {f} : (modSec f s).tt = s.tt := rfl
@[simp] theorem modSec_ports {f} : (modSec f s).ports = s.ports := rfl
@[simp] theorem modSec_hostPorts {f} : (modSec f s).hostPorts = s.hostPorts := rfl
@[simp] theorem modSec_lanes {f} : (modSec f s).lanes = s.lanes := rfl
@[simp] theorem modSec_ch {f} : (modSec f s).ch = s.ch := rfl
@[simp] theorem modSec_diag {f} : (modSec f s).diag = s.diag := rfl
@[simp] theorem modSec_cal {f} : (modSec f s).cal = s.cal := rfl
@[simp] theorem modSec_audit {f} : (modSec f s).audit = s.audit := rfl
@[simp] theorem modSec_perf {f} : (modSec f s).perf = s.perf := rfl
@[simp] theorem modSec_mem {f} : (modSec f s).mem = s.mem := rfl
@[simp] theorem modSec_tick {f} : (modSec f s).tick = s.tick := rfl
@[simp] theorem modSec_draws {f} : (modSec f s).draws = s.draws := rfl
end modSec
section modClk
@[simp] theorem modClk_pending {f} : (modClk f s).pending = s.pending := rfl
@[simp] theorem modClk_part {f} : (modClk f s).part = s.part := rfl
@[simp] theorem modClk_straps {f} : (modClk f s).straps = s.straps := rfl
@[simp] theorem modClk_strapReq {f} : (modClk f s).strapReq = s.strapReq := rfl
@[simp] theorem modClk_profileSel {f} : (modClk f s).profileSel = s.profileSel := rfl
@[simp] theorem modClk_profileNew {f} : (modClk f s).profileNew = s.profileNew := rfl
@[simp] theorem modClk_stage {f} : (modClk f s).stage = s.stage := rfl
@[simp] theorem modClk_regs {f} : (modClk f s).regs = s.regs := rfl
@[simp] theorem modClk_latchCp {f} : (modClk f s).latchCp = s.latchCp := rfl
@[simp] theorem modClk_latch0 {f} : (modClk f s).latch0 = s.latch0 := rfl
@[simp] theorem modClk_latch1 {f} : (modClk f s).latch1 = s.latch1 := rfl
@[simp] theorem modClk_mdio {f} : (modClk f s).mdio = s.mdio := rfl
@[simp] theorem modClk_teller {f} : (modClk f s).teller = s.teller := rfl
@[simp] theorem modClk_cp {f} : (modClk f s).cp = s.cp := rfl
@[simp] theorem modClk_sec {f} : (modClk f s).sec = s.sec := rfl
@[simp] theorem modClk_ledger {f} : (modClk f s).ledger = s.ledger := rfl
@[simp] theorem modClk_journal {f} : (modClk f s).journal = s.journal := rfl
@[simp] theorem modClk_nextOp {f} : (modClk f s).nextOp = s.nextOp := rfl
@[simp] theorem modClk_ops {f} : (modClk f s).ops = s.ops := rfl
@[simp] theorem modClk_images {f} : (modClk f s).images = s.images := rfl
@[simp] theorem modClk_vault {f} : (modClk f s).vault = s.vault := rfl
@[simp] theorem modClk_power {f} : (modClk f s).power = s.power := rfl
@[simp] theorem modClk_time {f} : (modClk f s).time = s.time := rfl
@[simp] theorem modClk_ctxs {f} : (modClk f s).ctxs = s.ctxs := rfl
@[simp] theorem modClk_tt {f} : (modClk f s).tt = s.tt := rfl
@[simp] theorem modClk_ports {f} : (modClk f s).ports = s.ports := rfl
@[simp] theorem modClk_hostPorts {f} : (modClk f s).hostPorts = s.hostPorts := rfl
@[simp] theorem modClk_lanes {f} : (modClk f s).lanes = s.lanes := rfl
@[simp] theorem modClk_ch {f} : (modClk f s).ch = s.ch := rfl
@[simp] theorem modClk_diag {f} : (modClk f s).diag = s.diag := rfl
@[simp] theorem modClk_cal {f} : (modClk f s).cal = s.cal := rfl
@[simp] theorem modClk_audit {f} : (modClk f s).audit = s.audit := rfl
@[simp] theorem modClk_perf {f} : (modClk f s).perf = s.perf := rfl
@[simp] theorem modClk_mem {f} : (modClk f s).mem = s.mem := rfl
@[simp] theorem modClk_tick {f} : (modClk f s).tick = s.tick := rfl
@[simp] theorem modClk_draws {f} : (modClk f s).draws = s.draws := rfl
end modClk
section modPower
@[simp] theorem modPower_pending {f} : (modPower f s).pending = s.pending := rfl
@[simp] theorem modPower_part {f} : (modPower f s).part = s.part := rfl
@[simp] theorem modPower_straps {f} : (modPower f s).straps = s.straps := rfl
@[simp] theorem modPower_strapReq {f} : (modPower f s).strapReq = s.strapReq := rfl
@[simp] theorem modPower_profileSel {f} : (modPower f s).profileSel = s.profileSel := rfl
@[simp] theorem modPower_profileNew {f} : (modPower f s).profileNew = s.profileNew := rfl
@[simp] theorem modPower_stage {f} : (modPower f s).stage = s.stage := rfl
@[simp] theorem modPower_regs {f} : (modPower f s).regs = s.regs := rfl
@[simp] theorem modPower_latchCp {f} : (modPower f s).latchCp = s.latchCp := rfl
@[simp] theorem modPower_latch0 {f} : (modPower f s).latch0 = s.latch0 := rfl
@[simp] theorem modPower_latch1 {f} : (modPower f s).latch1 = s.latch1 := rfl
@[simp] theorem modPower_mdio {f} : (modPower f s).mdio = s.mdio := rfl
@[simp] theorem modPower_teller {f} : (modPower f s).teller = s.teller := rfl
@[simp] theorem modPower_cp {f} : (modPower f s).cp = s.cp := rfl
@[simp] theorem modPower_sec {f} : (modPower f s).sec = s.sec := rfl
@[simp] theorem modPower_ledger {f} : (modPower f s).ledger = s.ledger := rfl
@[simp] theorem modPower_journal {f} : (modPower f s).journal = s.journal := rfl
@[simp] theorem modPower_nextOp {f} : (modPower f s).nextOp = s.nextOp := rfl
@[simp] theorem modPower_ops {f} : (modPower f s).ops = s.ops := rfl
@[simp] theorem modPower_images {f} : (modPower f s).images = s.images := rfl
@[simp] theorem modPower_vault {f} : (modPower f s).vault = s.vault := rfl
@[simp] theorem modPower_clk {f} : (modPower f s).clk = s.clk := rfl
@[simp] theorem modPower_time {f} : (modPower f s).time = s.time := rfl
@[simp] theorem modPower_ctxs {f} : (modPower f s).ctxs = s.ctxs := rfl
@[simp] theorem modPower_tt {f} : (modPower f s).tt = s.tt := rfl
@[simp] theorem modPower_ports {f} : (modPower f s).ports = s.ports := rfl
@[simp] theorem modPower_hostPorts {f} : (modPower f s).hostPorts = s.hostPorts := rfl
@[simp] theorem modPower_lanes {f} : (modPower f s).lanes = s.lanes := rfl
@[simp] theorem modPower_ch {f} : (modPower f s).ch = s.ch := rfl
@[simp] theorem modPower_diag {f} : (modPower f s).diag = s.diag := rfl
@[simp] theorem modPower_cal {f} : (modPower f s).cal = s.cal := rfl
@[simp] theorem modPower_audit {f} : (modPower f s).audit = s.audit := rfl
@[simp] theorem modPower_perf {f} : (modPower f s).perf = s.perf := rfl
@[simp] theorem modPower_mem {f} : (modPower f s).mem = s.mem := rfl
@[simp] theorem modPower_tick {f} : (modPower f s).tick = s.tick := rfl
@[simp] theorem modPower_draws {f} : (modPower f s).draws = s.draws := rfl
end modPower
section modTime
@[simp] theorem modTime_pending {f} : (modTime f s).pending = s.pending := rfl
@[simp] theorem modTime_part {f} : (modTime f s).part = s.part := rfl
@[simp] theorem modTime_straps {f} : (modTime f s).straps = s.straps := rfl
@[simp] theorem modTime_strapReq {f} : (modTime f s).strapReq = s.strapReq := rfl
@[simp] theorem modTime_profileSel {f} : (modTime f s).profileSel = s.profileSel := rfl
@[simp] theorem modTime_profileNew {f} : (modTime f s).profileNew = s.profileNew := rfl
@[simp] theorem modTime_stage {f} : (modTime f s).stage = s.stage := rfl
@[simp] theorem modTime_regs {f} : (modTime f s).regs = s.regs := rfl
@[simp] theorem modTime_latchCp {f} : (modTime f s).latchCp = s.latchCp := rfl
@[simp] theorem modTime_latch0 {f} : (modTime f s).latch0 = s.latch0 := rfl
@[simp] theorem modTime_latch1 {f} : (modTime f s).latch1 = s.latch1 := rfl
@[simp] theorem modTime_mdio {f} : (modTime f s).mdio = s.mdio := rfl
@[simp] theorem modTime_teller {f} : (modTime f s).teller = s.teller := rfl
@[simp] theorem modTime_cp {f} : (modTime f s).cp = s.cp := rfl
@[simp] theorem modTime_sec {f} : (modTime f s).sec = s.sec := rfl
@[simp] theorem modTime_ledger {f} : (modTime f s).ledger = s.ledger := rfl
@[simp] theorem modTime_journal {f} : (modTime f s).journal = s.journal := rfl
@[simp] theorem modTime_nextOp {f} : (modTime f s).nextOp = s.nextOp := rfl
@[simp] theorem modTime_ops {f} : (modTime f s).ops = s.ops := rfl
@[simp] theorem modTime_images {f} : (modTime f s).images = s.images := rfl
@[simp] theorem modTime_vault {f} : (modTime f s).vault = s.vault := rfl
@[simp] theorem modTime_clk {f} : (modTime f s).clk = s.clk := rfl
@[simp] theorem modTime_power {f} : (modTime f s).power = s.power := rfl
@[simp] theorem modTime_ctxs {f} : (modTime f s).ctxs = s.ctxs := rfl
@[simp] theorem modTime_tt {f} : (modTime f s).tt = s.tt := rfl
@[simp] theorem modTime_ports {f} : (modTime f s).ports = s.ports := rfl
@[simp] theorem modTime_hostPorts {f} : (modTime f s).hostPorts = s.hostPorts := rfl
@[simp] theorem modTime_lanes {f} : (modTime f s).lanes = s.lanes := rfl
@[simp] theorem modTime_ch {f} : (modTime f s).ch = s.ch := rfl
@[simp] theorem modTime_diag {f} : (modTime f s).diag = s.diag := rfl
@[simp] theorem modTime_cal {f} : (modTime f s).cal = s.cal := rfl
@[simp] theorem modTime_audit {f} : (modTime f s).audit = s.audit := rfl
@[simp] theorem modTime_perf {f} : (modTime f s).perf = s.perf := rfl
@[simp] theorem modTime_mem {f} : (modTime f s).mem = s.mem := rfl
@[simp] theorem modTime_tick {f} : (modTime f s).tick = s.tick := rfl
@[simp] theorem modTime_draws {f} : (modTime f s).draws = s.draws := rfl
end modTime
section modDiag
@[simp] theorem modDiag_pending {f} : (modDiag f s).pending = s.pending := rfl
@[simp] theorem modDiag_part {f} : (modDiag f s).part = s.part := rfl
@[simp] theorem modDiag_straps {f} : (modDiag f s).straps = s.straps := rfl
@[simp] theorem modDiag_strapReq {f} : (modDiag f s).strapReq = s.strapReq := rfl
@[simp] theorem modDiag_profileSel {f} : (modDiag f s).profileSel = s.profileSel := rfl
@[simp] theorem modDiag_profileNew {f} : (modDiag f s).profileNew = s.profileNew := rfl
@[simp] theorem modDiag_stage {f} : (modDiag f s).stage = s.stage := rfl
@[simp] theorem modDiag_regs {f} : (modDiag f s).regs = s.regs := rfl
@[simp] theorem modDiag_latchCp {f} : (modDiag f s).latchCp = s.latchCp := rfl
@[simp] theorem modDiag_latch0 {f} : (modDiag f s).latch0 = s.latch0 := rfl
@[simp] theorem modDiag_latch1 {f} : (modDiag f s).latch1 = s.latch1 := rfl
@[simp] theorem modDiag_mdio {f} : (modDiag f s).mdio = s.mdio := rfl
@[simp] theorem modDiag_teller {f} : (modDiag f s).teller = s.teller := rfl
@[simp] theorem modDiag_cp {f} : (modDiag f s).cp = s.cp := rfl
@[simp] theorem modDiag_sec {f} : (modDiag f s).sec = s.sec := rfl
@[simp] theorem modDiag_ledger {f} : (modDiag f s).ledger = s.ledger := rfl
@[simp] theorem modDiag_journal {f} : (modDiag f s).journal = s.journal := rfl
@[simp] theorem modDiag_nextOp {f} : (modDiag f s).nextOp = s.nextOp := rfl
@[simp] theorem modDiag_ops {f} : (modDiag f s).ops = s.ops := rfl
@[simp] theorem modDiag_images {f} : (modDiag f s).images = s.images := rfl
@[simp] theorem modDiag_vault {f} : (modDiag f s).vault = s.vault := rfl
@[simp] theorem modDiag_clk {f} : (modDiag f s).clk = s.clk := rfl
@[simp] theorem modDiag_power {f} : (modDiag f s).power = s.power := rfl
@[simp] theorem modDiag_time {f} : (modDiag f s).time = s.time := rfl
@[simp] theorem modDiag_ctxs {f} : (modDiag f s).ctxs = s.ctxs := rfl
@[simp] theorem modDiag_tt {f} : (modDiag f s).tt = s.tt := rfl
@[simp] theorem modDiag_ports {f} : (modDiag f s).ports = s.ports := rfl
@[simp] theorem modDiag_hostPorts {f} : (modDiag f s).hostPorts = s.hostPorts := rfl
@[simp] theorem modDiag_lanes {f} : (modDiag f s).lanes = s.lanes := rfl
@[simp] theorem modDiag_ch {f} : (modDiag f s).ch = s.ch := rfl
@[simp] theorem modDiag_cal {f} : (modDiag f s).cal = s.cal := rfl
@[simp] theorem modDiag_audit {f} : (modDiag f s).audit = s.audit := rfl
@[simp] theorem modDiag_perf {f} : (modDiag f s).perf = s.perf := rfl
@[simp] theorem modDiag_mem {f} : (modDiag f s).mem = s.mem := rfl
@[simp] theorem modDiag_tick {f} : (modDiag f s).tick = s.tick := rfl
@[simp] theorem modDiag_draws {f} : (modDiag f s).draws = s.draws := rfl
end modDiag
section modAudit
@[simp] theorem modAudit_pending {f} : (modAudit f s).pending = s.pending := rfl
@[simp] theorem modAudit_part {f} : (modAudit f s).part = s.part := rfl
@[simp] theorem modAudit_straps {f} : (modAudit f s).straps = s.straps := rfl
@[simp] theorem modAudit_strapReq {f} : (modAudit f s).strapReq = s.strapReq := rfl
@[simp] theorem modAudit_profileSel {f} : (modAudit f s).profileSel = s.profileSel := rfl
@[simp] theorem modAudit_profileNew {f} : (modAudit f s).profileNew = s.profileNew := rfl
@[simp] theorem modAudit_stage {f} : (modAudit f s).stage = s.stage := rfl
@[simp] theorem modAudit_regs {f} : (modAudit f s).regs = s.regs := rfl
@[simp] theorem modAudit_latchCp {f} : (modAudit f s).latchCp = s.latchCp := rfl
@[simp] theorem modAudit_latch0 {f} : (modAudit f s).latch0 = s.latch0 := rfl
@[simp] theorem modAudit_latch1 {f} : (modAudit f s).latch1 = s.latch1 := rfl
@[simp] theorem modAudit_mdio {f} : (modAudit f s).mdio = s.mdio := rfl
@[simp] theorem modAudit_teller {f} : (modAudit f s).teller = s.teller := rfl
@[simp] theorem modAudit_cp {f} : (modAudit f s).cp = s.cp := rfl
@[simp] theorem modAudit_sec {f} : (modAudit f s).sec = s.sec := rfl
@[simp] theorem modAudit_ledger {f} : (modAudit f s).ledger = s.ledger := rfl
@[simp] theorem modAudit_journal {f} : (modAudit f s).journal = s.journal := rfl
@[simp] theorem modAudit_nextOp {f} : (modAudit f s).nextOp = s.nextOp := rfl
@[simp] theorem modAudit_ops {f} : (modAudit f s).ops = s.ops := rfl
@[simp] theorem modAudit_images {f} : (modAudit f s).images = s.images := rfl
@[simp] theorem modAudit_vault {f} : (modAudit f s).vault = s.vault := rfl
@[simp] theorem modAudit_clk {f} : (modAudit f s).clk = s.clk := rfl
@[simp] theorem modAudit_power {f} : (modAudit f s).power = s.power := rfl
@[simp] theorem modAudit_time {f} : (modAudit f s).time = s.time := rfl
@[simp] theorem modAudit_ctxs {f} : (modAudit f s).ctxs = s.ctxs := rfl
@[simp] theorem modAudit_tt {f} : (modAudit f s).tt = s.tt := rfl
@[simp] theorem modAudit_ports {f} : (modAudit f s).ports = s.ports := rfl
@[simp] theorem modAudit_hostPorts {f} : (modAudit f s).hostPorts = s.hostPorts := rfl
@[simp] theorem modAudit_lanes {f} : (modAudit f s).lanes = s.lanes := rfl
@[simp] theorem modAudit_ch {f} : (modAudit f s).ch = s.ch := rfl
@[simp] theorem modAudit_diag {f} : (modAudit f s).diag = s.diag := rfl
@[simp] theorem modAudit_cal {f} : (modAudit f s).cal = s.cal := rfl
@[simp] theorem modAudit_perf {f} : (modAudit f s).perf = s.perf := rfl
@[simp] theorem modAudit_mem {f} : (modAudit f s).mem = s.mem := rfl
@[simp] theorem modAudit_tick {f} : (modAudit f s).tick = s.tick := rfl
@[simp] theorem modAudit_draws {f} : (modAudit f s).draws = s.draws := rfl
end modAudit
section modVault
@[simp] theorem modVault_pending {f} : (modVault f s).pending = s.pending := rfl
@[simp] theorem modVault_part {f} : (modVault f s).part = s.part := rfl
@[simp] theorem modVault_straps {f} : (modVault f s).straps = s.straps := rfl
@[simp] theorem modVault_strapReq {f} : (modVault f s).strapReq = s.strapReq := rfl
@[simp] theorem modVault_profileSel {f} : (modVault f s).profileSel = s.profileSel := rfl
@[simp] theorem modVault_profileNew {f} : (modVault f s).profileNew = s.profileNew := rfl
@[simp] theorem modVault_stage {f} : (modVault f s).stage = s.stage := rfl
@[simp] theorem modVault_regs {f} : (modVault f s).regs = s.regs := rfl
@[simp] theorem modVault_latchCp {f} : (modVault f s).latchCp = s.latchCp := rfl
@[simp] theorem modVault_latch0 {f} : (modVault f s).latch0 = s.latch0 := rfl
@[simp] theorem modVault_latch1 {f} : (modVault f s).latch1 = s.latch1 := rfl
@[simp] theorem modVault_mdio {f} : (modVault f s).mdio = s.mdio := rfl
@[simp] theorem modVault_teller {f} : (modVault f s).teller = s.teller := rfl
@[simp] theorem modVault_cp {f} : (modVault f s).cp = s.cp := rfl
@[simp] theorem modVault_sec {f} : (modVault f s).sec = s.sec := rfl
@[simp] theorem modVault_ledger {f} : (modVault f s).ledger = s.ledger := rfl
@[simp] theorem modVault_journal {f} : (modVault f s).journal = s.journal := rfl
@[simp] theorem modVault_nextOp {f} : (modVault f s).nextOp = s.nextOp := rfl
@[simp] theorem modVault_ops {f} : (modVault f s).ops = s.ops := rfl
@[simp] theorem modVault_images {f} : (modVault f s).images = s.images := rfl
@[simp] theorem modVault_clk {f} : (modVault f s).clk = s.clk := rfl
@[simp] theorem modVault_power {f} : (modVault f s).power = s.power := rfl
@[simp] theorem modVault_time {f} : (modVault f s).time = s.time := rfl
@[simp] theorem modVault_ctxs {f} : (modVault f s).ctxs = s.ctxs := rfl
@[simp] theorem modVault_tt {f} : (modVault f s).tt = s.tt := rfl
@[simp] theorem modVault_ports {f} : (modVault f s).ports = s.ports := rfl
@[simp] theorem modVault_hostPorts {f} : (modVault f s).hostPorts = s.hostPorts := rfl
@[simp] theorem modVault_lanes {f} : (modVault f s).lanes = s.lanes := rfl
@[simp] theorem modVault_ch {f} : (modVault f s).ch = s.ch := rfl
@[simp] theorem modVault_diag {f} : (modVault f s).diag = s.diag := rfl
@[simp] theorem modVault_cal {f} : (modVault f s).cal = s.cal := rfl
@[simp] theorem modVault_audit {f} : (modVault f s).audit = s.audit := rfl
@[simp] theorem modVault_perf {f} : (modVault f s).perf = s.perf := rfl
@[simp] theorem modVault_mem {f} : (modVault f s).mem = s.mem := rfl
@[simp] theorem modVault_tick {f} : (modVault f s).tick = s.tick := rfl
@[simp] theorem modVault_draws {f} : (modVault f s).draws = s.draws := rfl
end modVault
section modImages
@[simp] theorem modImages_pending {f} : (modImages f s).pending = s.pending := rfl
@[simp] theorem modImages_part {f} : (modImages f s).part = s.part := rfl
@[simp] theorem modImages_straps {f} : (modImages f s).straps = s.straps := rfl
@[simp] theorem modImages_strapReq {f} : (modImages f s).strapReq = s.strapReq := rfl
@[simp] theorem modImages_profileSel {f} : (modImages f s).profileSel = s.profileSel := rfl
@[simp] theorem modImages_profileNew {f} : (modImages f s).profileNew = s.profileNew := rfl
@[simp] theorem modImages_stage {f} : (modImages f s).stage = s.stage := rfl
@[simp] theorem modImages_regs {f} : (modImages f s).regs = s.regs := rfl
@[simp] theorem modImages_latchCp {f} : (modImages f s).latchCp = s.latchCp := rfl
@[simp] theorem modImages_latch0 {f} : (modImages f s).latch0 = s.latch0 := rfl
@[simp] theorem modImages_latch1 {f} : (modImages f s).latch1 = s.latch1 := rfl
@[simp] theorem modImages_mdio {f} : (modImages f s).mdio = s.mdio := rfl
@[simp] theorem modImages_teller {f} : (modImages f s).teller = s.teller := rfl
@[simp] theorem modImages_cp {f} : (modImages f s).cp = s.cp := rfl
@[simp] theorem modImages_sec {f} : (modImages f s).sec = s.sec := rfl
@[simp] theorem modImages_ledger {f} : (modImages f s).ledger = s.ledger := rfl
@[simp] theorem modImages_journal {f} : (modImages f s).journal = s.journal := rfl
@[simp] theorem modImages_nextOp {f} : (modImages f s).nextOp = s.nextOp := rfl
@[simp] theorem modImages_ops {f} : (modImages f s).ops = s.ops := rfl
@[simp] theorem modImages_vault {f} : (modImages f s).vault = s.vault := rfl
@[simp] theorem modImages_clk {f} : (modImages f s).clk = s.clk := rfl
@[simp] theorem modImages_power {f} : (modImages f s).power = s.power := rfl
@[simp] theorem modImages_time {f} : (modImages f s).time = s.time := rfl
@[simp] theorem modImages_ctxs {f} : (modImages f s).ctxs = s.ctxs := rfl
@[simp] theorem modImages_tt {f} : (modImages f s).tt = s.tt := rfl
@[simp] theorem modImages_ports {f} : (modImages f s).ports = s.ports := rfl
@[simp] theorem modImages_hostPorts {f} : (modImages f s).hostPorts = s.hostPorts := rfl
@[simp] theorem modImages_lanes {f} : (modImages f s).lanes = s.lanes := rfl
@[simp] theorem modImages_ch {f} : (modImages f s).ch = s.ch := rfl
@[simp] theorem modImages_diag {f} : (modImages f s).diag = s.diag := rfl
@[simp] theorem modImages_cal {f} : (modImages f s).cal = s.cal := rfl
@[simp] theorem modImages_audit {f} : (modImages f s).audit = s.audit := rfl
@[simp] theorem modImages_perf {f} : (modImages f s).perf = s.perf := rfl
@[simp] theorem modImages_mem {f} : (modImages f s).mem = s.mem := rfl
@[simp] theorem modImages_tick {f} : (modImages f s).tick = s.tick := rfl
@[simp] theorem modImages_draws {f} : (modImages f s).draws = s.draws := rfl
end modImages
section modPerf
@[simp] theorem modPerf_pending {f} : (modPerf f s).pending = s.pending := rfl
@[simp] theorem modPerf_part {f} : (modPerf f s).part = s.part := rfl
@[simp] theorem modPerf_straps {f} : (modPerf f s).straps = s.straps := rfl
@[simp] theorem modPerf_strapReq {f} : (modPerf f s).strapReq = s.strapReq := rfl
@[simp] theorem modPerf_profileSel {f} : (modPerf f s).profileSel = s.profileSel := rfl
@[simp] theorem modPerf_profileNew {f} : (modPerf f s).profileNew = s.profileNew := rfl
@[simp] theorem modPerf_stage {f} : (modPerf f s).stage = s.stage := rfl
@[simp] theorem modPerf_regs {f} : (modPerf f s).regs = s.regs := rfl
@[simp] theorem modPerf_latchCp {f} : (modPerf f s).latchCp = s.latchCp := rfl
@[simp] theorem modPerf_latch0 {f} : (modPerf f s).latch0 = s.latch0 := rfl
@[simp] theorem modPerf_latch1 {f} : (modPerf f s).latch1 = s.latch1 := rfl
@[simp] theorem modPerf_mdio {f} : (modPerf f s).mdio = s.mdio := rfl
@[simp] theorem modPerf_teller {f} : (modPerf f s).teller = s.teller := rfl
@[simp] theorem modPerf_cp {f} : (modPerf f s).cp = s.cp := rfl
@[simp] theorem modPerf_sec {f} : (modPerf f s).sec = s.sec := rfl
@[simp] theorem modPerf_ledger {f} : (modPerf f s).ledger = s.ledger := rfl
@[simp] theorem modPerf_journal {f} : (modPerf f s).journal = s.journal := rfl
@[simp] theorem modPerf_nextOp {f} : (modPerf f s).nextOp = s.nextOp := rfl
@[simp] theorem modPerf_ops {f} : (modPerf f s).ops = s.ops := rfl
@[simp] theorem modPerf_images {f} : (modPerf f s).images = s.images := rfl
@[simp] theorem modPerf_vault {f} : (modPerf f s).vault = s.vault := rfl
@[simp] theorem modPerf_clk {f} : (modPerf f s).clk = s.clk := rfl
@[simp] theorem modPerf_power {f} : (modPerf f s).power = s.power := rfl
@[simp] theorem modPerf_time {f} : (modPerf f s).time = s.time := rfl
@[simp] theorem modPerf_ctxs {f} : (modPerf f s).ctxs = s.ctxs := rfl
@[simp] theorem modPerf_tt {f} : (modPerf f s).tt = s.tt := rfl
@[simp] theorem modPerf_ports {f} : (modPerf f s).ports = s.ports := rfl
@[simp] theorem modPerf_hostPorts {f} : (modPerf f s).hostPorts = s.hostPorts := rfl
@[simp] theorem modPerf_lanes {f} : (modPerf f s).lanes = s.lanes := rfl
@[simp] theorem modPerf_ch {f} : (modPerf f s).ch = s.ch := rfl
@[simp] theorem modPerf_diag {f} : (modPerf f s).diag = s.diag := rfl
@[simp] theorem modPerf_cal {f} : (modPerf f s).cal = s.cal := rfl
@[simp] theorem modPerf_audit {f} : (modPerf f s).audit = s.audit := rfl
@[simp] theorem modPerf_mem {f} : (modPerf f s).mem = s.mem := rfl
@[simp] theorem modPerf_tick {f} : (modPerf f s).tick = s.tick := rfl
@[simp] theorem modPerf_draws {f} : (modPerf f s).draws = s.draws := rfl
end modPerf
section draw
@[simp] theorem draw_pending : (draw s).pending = s.pending := rfl
@[simp] theorem draw_part : (draw s).part = s.part := rfl
@[simp] theorem draw_straps : (draw s).straps = s.straps := rfl
@[simp] theorem draw_strapReq : (draw s).strapReq = s.strapReq := rfl
@[simp] theorem draw_profileSel : (draw s).profileSel = s.profileSel := rfl
@[simp] theorem draw_profileNew : (draw s).profileNew = s.profileNew := rfl
@[simp] theorem draw_stage : (draw s).stage = s.stage := rfl
@[simp] theorem draw_regs : (draw s).regs = s.regs := rfl
@[simp] theorem draw_latchCp : (draw s).latchCp = s.latchCp := rfl
@[simp] theorem draw_latch0 : (draw s).latch0 = s.latch0 := rfl
@[simp] theorem draw_latch1 : (draw s).latch1 = s.latch1 := rfl
@[simp] theorem draw_mdio : (draw s).mdio = s.mdio := rfl
@[simp] theorem draw_teller : (draw s).teller = s.teller := rfl
@[simp] theorem draw_cp : (draw s).cp = s.cp := rfl
@[simp] theorem draw_sec : (draw s).sec = s.sec := rfl
@[simp] theorem draw_ledger : (draw s).ledger = s.ledger := rfl
@[simp] theorem draw_journal : (draw s).journal = s.journal := rfl
@[simp] theorem draw_nextOp : (draw s).nextOp = s.nextOp := rfl
@[simp] theorem draw_ops : (draw s).ops = s.ops := rfl
@[simp] theorem draw_images : (draw s).images = s.images := rfl
@[simp] theorem draw_vault : (draw s).vault = s.vault := rfl
@[simp] theorem draw_clk : (draw s).clk = s.clk := rfl
@[simp] theorem draw_power : (draw s).power = s.power := rfl
@[simp] theorem draw_time : (draw s).time = s.time := rfl
@[simp] theorem draw_ctxs : (draw s).ctxs = s.ctxs := rfl
@[simp] theorem draw_tt : (draw s).tt = s.tt := rfl
@[simp] theorem draw_ports : (draw s).ports = s.ports := rfl
@[simp] theorem draw_hostPorts : (draw s).hostPorts = s.hostPorts := rfl
@[simp] theorem draw_lanes : (draw s).lanes = s.lanes := rfl
@[simp] theorem draw_ch : (draw s).ch = s.ch := rfl
@[simp] theorem draw_diag : (draw s).diag = s.diag := rfl
@[simp] theorem draw_cal : (draw s).cal = s.cal := rfl
@[simp] theorem draw_audit : (draw s).audit = s.audit := rfl
@[simp] theorem draw_perf : (draw s).perf = s.perf := rfl
@[simp] theorem draw_mem : (draw s).mem = s.mem := rfl
@[simp] theorem draw_tick : (draw s).tick = s.tick := rfl
end draw
end Sys2Proof.Machine
end

