-- ==== Sys2Proof/Laws/Ops.lean ====
section
/-!
SUPPORT. Reading after writing: register words and fields, ports and the other tables, memory bytes.
-/
namespace Sys2Proof.Machine

/-! ## Words and fields -/

theorem maskOf_getLsbD {hi lo j : Nat} (h : lo ≤ hi) :
    (maskOf hi lo).getLsbD j = (decide (j < 32) && decide (lo ≤ j) && decide (j ≤ hi)) := by
  unfold maskOf
  rw [BitVec.getLsbD_ofNat, Nat.testBit_mul_two_pow, Nat.testBit_two_pow_sub_one]
  by_cases h1 : j < 32 <;> by_cases h2 : lo ≤ j <;> simp [h1, h2]
  omega

theorem setBits_getLsbD {v : Word} {hi lo x j : Nat} (h : lo ≤ hi) :
    (setBits v hi lo x).getLsbD j = if lo ≤ j ∧ j ≤ hi then decide (j < 32) && x.testBit (j - lo) else v.getLsbD j := by
  unfold setBits
  rw [BitVec.getLsbD_or, BitVec.getLsbD_and, BitVec.getLsbD_and, BitVec.getLsbD_not, maskOf_getLsbD h, BitVec.getLsbD_ofNat,
    Nat.testBit_mul_two_pow]
  by_cases h1 : j < 32
  · by_cases h2 : lo ≤ j <;> by_cases h3 : j ≤ hi <;> simp [h1, h2, h3]
  · have : v.getLsbD j = false := BitVec.getLsbD_of_ge v j (by omega)
    simp [h1, this]

theorem wordBits_testBit {v : Word} {hi lo i : Nat} :
    (wordBits v hi lo).testBit i = (decide (i < hi - lo + 1) && v.getLsbD (lo + i)) := by
  unfold wordBits
  rw [Nat.testBit_mod_two_pow, ← BitVec.getLsbD, BitVec.getLsbD_ushiftRight]

/-- A field that is written reads back as the value cut to the field's width. -/
theorem wordBits_setBits_self {v : Word} {hi lo x : Nat} (h : lo ≤ hi) (h32 : hi < 32) :
    wordBits (setBits v hi lo x) hi lo = x % 2 ^ (hi - lo + 1) := by
  apply Nat.eq_of_testBit_eq
  intro i
  rw [wordBits_testBit, setBits_getLsbD h, Nat.testBit_mod_two_pow]
  by_cases h1 : i < hi - lo + 1
  · have h2 : lo ≤ lo + i ∧ lo + i ≤ hi := by omega
    have h3 : lo + i < 32 := by omega
    simp [h1, h2, h3]
  · simp [h1]

/-- A field beside the one that is written reads as before. -/
theorem wordBits_setBits_other {v : Word} {hi lo x hi' lo' : Nat} (h : lo ≤ hi) (hd : hi' < lo ∨ hi < lo') (h' : lo' ≤ hi') :
    wordBits (setBits v hi lo x) hi' lo' = wordBits v hi' lo' := by
  apply Nat.eq_of_testBit_eq
  intro i
  rw [wordBits_testBit, wordBits_testBit, setBits_getLsbD h]
  by_cases h1 : i < hi' - lo' + 1
  · have h2 : ¬ (lo ≤ lo' + i ∧ lo' + i ≤ hi) := by omega
    rw [if_neg h2]
  · simp [h1]

theorem rdReg_wrReg (s : State) (a b : Nat) (v : Word) : rdReg (wrReg a v s) b = if b = a then v else rdReg s b := by
  unfold rdReg wrReg
  split
  · rename_i h
    subst h
    exact SMap.get_set_self _ _ _ _
  · exact SMap.get_set_other _ _ _ _ _ _ ‹_›

@[simp] theorem rdReg_wrReg_self (s : State) (a : Nat) (v : Word) : rdReg (wrReg a v s) a = v := by
  rw [rdReg_wrReg, if_pos rfl]

theorem rdReg_wrReg_other (s : State) {a b : Nat} (v : Word) (h : b ≠ a) : rdReg (wrReg a v s) b = rdReg s b := by
  rw [rdReg_wrReg, if_neg h]

/-- A field that is written reads back. -/
theorem rdFld_wrFld_self (s : State) (b : Nat) (f : Fld) (x : Nat) (h : f.lo ≤ f.hi) (h32 : f.hi < 32) :
    rdFld (wrFld b f x s) b f = x % 2 ^ (f.hi - f.lo + 1) := by
  unfold rdFld wrFld
  rw [rdReg_wrReg_self, wordBits_setBits_self h h32]

/-- A field of another word, or of other bits of the same word, reads as before. -/
theorem rdFld_wrFld_other (s : State) (b c : Nat) (f g : Fld) (x : Nat) (h : f.lo ≤ f.hi) (hg : g.lo ≤ g.hi)
    (hd : c + g.reg ≠ b + f.reg ∨ g.hi < f.lo ∨ f.hi < g.lo) : rdFld (wrFld b f x s) c g = rdFld s c g := by
  unfold rdFld wrFld
  by_cases e : c + g.reg = b + f.reg
  · rw [e, rdReg_wrReg_self]
    exact wordBits_setBits_other h (hd.resolve_left (fun n => n e)) hg
  · rw [rdReg_wrReg_other _ _ e]

/-- A write of a field leaves every other word as it was. -/
theorem rdReg_wrFld_other (s : State) {a b : Nat} (f : Fld) (x : Nat) (h : a ≠ b + f.reg) :
    rdReg (wrFld b f x s) a = rdReg s a := rdReg_wrReg_other _ _ h

/-- Words that a clear picks read their reset values; the others stay. -/
theorem rdReg_clearRegs (s : State) (p : Nat → Bool) (a : Nat) :
    rdReg (clearRegs p s) a = if p a then regReset a else rdReg s a := SMap.get_clear _ _ _ _

/-! ## Tables -/

theorem port_modPort (s : State) (n m : Nat) (f : PortState → PortState) :
    port (modPort n f s) m = if m = n then f (port s n) else port s m := by
  unfold port modPort
  split
  · rename_i h
    subst h
    exact SMap.get_set_self _ _ _ _
  · exact SMap.get_set_other _ _ _ _ _ _ ‹_›

@[simp] theorem port_modPort_self (s : State) (n : Nat) (f : PortState → PortState) : port (modPort n f s) n = f (port s n) := by
  rw [port_modPort, if_pos rfl]

theorem lane_modLane (s : State) (g k : Nat) (f : LaneState → LaneState) :
    lane (modLane g f s) k = if k = g then f (lane s g) else lane s k := by
  unfold lane modLane
  split
  · rename_i h
    subst h
    exact SMap.get_set_self _ _ _ _
  · exact SMap.get_set_other _ _ _ _ _ _ ‹_›

@[simp] theorem lane_modLane_self (s : State) (g : Nat) (f : LaneState → LaneState) : lane (modLane g f s) g = f (lane s g) := by
  rw [lane_modLane, if_pos rfl]

theorem hostPort_modHost (s : State) (n m : Nat) (f : HostPort → HostPort) :
    hostPort (modHost n f s) m = if m = n then f (hostPort s n) else hostPort s m := by
  unfold hostPort modHost
  split
  · rename_i h
    subst h
    exact SMap.get_set_self _ _ _ _
  · exact SMap.get_set_other _ _ _ _ _ _ ‹_›

@[simp] theorem hostPort_modHost_self (s : State) (n : Nat) (f : HostPort → HostPort) :
    hostPort (modHost n f s) n = f (hostPort s n) := by rw [hostPort_modHost, if_pos rfl]

theorem ctx_modCtx (s : State) (c d : Nat) (f : Ctx → Ctx) : ctx (modCtx c f s) d = if d = c then f (ctx s c) else ctx s d := by
  unfold ctx modCtx
  split
  · rename_i h
    subst h
    exact SMap.get_set_self _ _ _ _
  · exact SMap.get_set_other _ _ _ _ _ _ ‹_›

@[simp] theorem ctx_modCtx_self (s : State) (c : Nat) (f : Ctx → Ctx) : ctx (modCtx c f s) c = f (ctx s c) := by
  rw [ctx_modCtx, if_pos rfl]

theorem lot_modLot (s : State) (l k : Nat) (f : Lot → Lot) : lot (modLot l f s) k = if k = l then f (lot s l) else lot s k := by
  unfold lot modLot modCh
  split
  · rename_i h
    subst h
    exact SMap.get_set_self _ _ _ _
  · exact SMap.get_set_other _ _ _ _ _ _ ‹_›

theorem victim_modVictim (s : State) (v w : Nat) (f : Victim → Victim) :
    victim (modVictim v f s) w = if w = v then f (victim s v) else victim s w := by
  unfold victim modVictim modCh
  split
  · rename_i h
    subst h
    exact SMap.get_set_self _ _ _ _
  · exact SMap.get_set_other _ _ _ _ _ _ ‹_›

/-! ## Memory -/

theorem memByte_setMemByte (s : State) (a b : Nat) (v : Byte) :
    memByte (setMemByte a v s) b = if b = a then v else memByte s b := by
  unfold memByte setMemByte
  split
  · rename_i h
    subst h
    exact SMap.get_set_self _ _ _ _
  · exact SMap.get_set_other _ _ _ _ _ _ ‹_›

/-- The bytes that are stored read back, and every byte outside them reads as before. -/
theorem memByte_writeMem (s : State) (a b : Nat) (l : List Byte) :
    memByte (writeMem a l s) b = if a ≤ b ∧ b < a + l.length then l.getD (b - a) 0 else memByte s b := by
  induction l generalizing a s with
  | nil => simp [writeMem]
  | cons v l ih =>
    rw [writeMem, ih, memByte_setMemByte]
    by_cases h1 : b = a
    · subst h1
      simp
    · by_cases h2 : a + 1 ≤ b ∧ b < a + 1 + l.length
      · have h3 : a ≤ b ∧ b < a + (v :: l).length := by simp; omega
        have h4 : b - a = (b - (a + 1)) + 1 := by omega
        rw [if_pos h2, if_pos h3, h4]
        simp
      · have h3 : ¬ (a ≤ b ∧ b < a + (v :: l).length) := by simp; omega
        rw [if_neg h2, if_neg h3, if_neg h1]

theorem memByte_clearMem (s : State) (p : Nat → Bool) (a : Nat) :
    memByte (clearMem p s) a = if p a then memDefault a else memByte s a := SMap.get_clear _ _ _ _

end Sys2Proof.Machine
end

