-- ==== Sys2Proof/Laws/Regs.lean ====
section
/-!
SUPPORT. Reading a register field after a write of a field, and after the updates that touch no register.
-/
namespace Sys2Proof.Machine

/-- A field lies in one word. -/
abbrev Fld.Fits (f : Fld) : Prop := f.lo ≤ f.hi ∧ f.hi < 32

/-- Two fields of one kind of group share no bit. -/
abbrev Fld.Apart (f g : Fld) : Prop := g.reg ≠ f.reg ∨ g.hi < f.lo ∨ f.hi < g.lo

theorem rdG_wrG_self {s : State} {f : Fld} {x : Nat} (h : f.Fits) (hx : x < 2 ^ (f.hi - f.lo + 1)) : rdG (wrG f x s) f = x := by
  unfold rdG wrG
  rw [rdFld_wrFld_self _ _ _ _ h.1 h.2, Nat.mod_eq_of_lt hx]

theorem rdG_wrG_other {s : State} {f g : Fld} {x : Nat} (h : f.Fits ∧ g.Fits ∧ f.Apart g) : rdG (wrG f x s) g = rdG s g :=
  rdFld_wrFld_other _ _ _ _ _ _ h.1.1 h.2.1.1 (by have := h.2.2; unfold Fld.Apart at this; omega)

theorem rdG_evG_self {s : State} {f : Fld} (h : f.Fits) : rdG (evG f s) f = 1 :=
  rdG_wrG_self h (Nat.one_lt_two_pow (by omega))

theorem rdG_evG_other {s : State} {f g : Fld} (h : f.Fits ∧ g.Fits ∧ f.Apart g) : rdG (evG f s) g = rdG s g := rdG_wrG_other h

theorem rdP_wrP_self {s : State} {n : Nat} {f : Fld} {x : Nat} (h : f.Fits) (hx : x < 2 ^ (f.hi - f.lo + 1)) :
    rdP (wrP n f x s) n f = x := by
  unfold rdP wrP
  rw [rdFld_wrFld_self _ _ _ _ h.1 h.2, Nat.mod_eq_of_lt hx]

theorem rdP_wrP_other {s : State} {n : Nat} {f g : Fld} {x : Nat} (h : f.Fits ∧ g.Fits ∧ f.Apart g) :
    rdP (wrP n f x s) n g = rdP s n g :=
  rdFld_wrFld_other _ _ _ _ _ _ h.1.1 h.2.1.1 (by have := h.2.2; unfold Fld.Apart at this; omega)

/-- A field of a port lies in its window. -/
abbrev Fld.InPort (f : Fld) : Prop := f.lo ≤ f.hi ∧ f.reg < 0x100000

theorem rdP_wrP_port {s : State} {n m : Nat} {f g : Fld} {x : Nat} (hn : n ≠ m) (h : f.InPort ∧ g.InPort) :
    rdP (wrP n f x s) m g = rdP s m g := by
  refine rdFld_wrFld_other _ _ _ _ _ _ h.1.1 h.2.1 (.inl ?_)
  have h1 := h.1.2
  have h2 := h.2.2
  unfold portBase
  omega

theorem rdG_wrP {s : State} {n : Nat} {f g : Fld} {x : Nat} (h : f.lo ≤ f.hi ∧ g.lo ≤ g.hi ∧ g.reg < 0x1000000) :
    rdG (wrP n f x s) g = rdG s g := by
  refine rdFld_wrFld_other _ _ _ _ _ _ h.1 h.2.1 (.inl ?_)
  have := h.2.2
  unfold portBase
  omega

theorem rdP_wrG {s : State} {n : Nat} {f g : Fld} {x : Nat} (h : f.lo ≤ f.hi ∧ g.lo ≤ g.hi ∧ f.reg < 0x1000000) :
    rdP (wrG f x s) n g = rdP s n g := by
  refine rdFld_wrFld_other _ _ _ _ _ _ h.1 h.2.1 (.inl ?_)
  have := h.2.2
  unfold portBase
  omega

theorem rdL_wrL_self {s : State} {g : Nat} {f : Fld} {x : Nat} (h : f.Fits) (hx : x < 2 ^ (f.hi - f.lo + 1)) :
    rdL (wrL g f x s) g f = x := by
  unfold rdL wrL
  rw [rdFld_wrFld_self _ _ _ _ h.1 h.2, Nat.mod_eq_of_lt hx]

theorem rdL_wrL_other {s : State} {k : Nat} {f g : Fld} {x : Nat} (h : f.Fits ∧ g.Fits ∧ f.Apart g) :
    rdL (wrL k f x s) k g = rdL s k g :=
  rdFld_wrFld_other _ _ _ _ _ _ h.1.1 h.2.1.1 (by have := h.2.2; unfold Fld.Apart at this; omega)

/-- A state with the same register store reads the same. -/
theorem rdReg_congr {s t : State} (h : t.regs = s.regs) (a : Nat) : rdReg t a = rdReg s a := by unfold rdReg; rw [h]

theorem rdG_congr {s t : State} (h : t.regs = s.regs) (f : Fld) : rdG t f = rdG s f := by
  unfold rdG rdFld; rw [rdReg_congr h]

theorem rdP_congr {s t : State} (h : t.regs = s.regs) (n : Nat) (f : Fld) : rdP t n f = rdP s n f := by
  unfold rdP rdFld; rw [rdReg_congr h]

@[simp] theorem rdReg_modPort {s : State} {n f} {a} : rdReg (modPort n f s) a = rdReg s a := rfl
@[simp] theorem rdG_modPort {s : State} {n f} {q} : rdG (modPort n f s) q = rdG s q := rfl
@[simp] theorem rdP_modPort {s : State} {n f} {k q} : rdP (modPort n f s) k q = rdP s k q := rfl
@[simp] theorem rdL_modPort {s : State} {n f} {k q} : rdL (modPort n f s) k q = rdL s k q := rfl
@[simp] theorem rdReg_modHost {s : State} {n f} {a} : rdReg (modHost n f s) a = rdReg s a := rfl
@[simp] theorem rdG_modHost {s : State} {n f} {q} : rdG (modHost n f s) q = rdG s q := rfl
@[simp] theorem rdP_modHost {s : State} {n f} {k q} : rdP (modHost n f s) k q = rdP s k q := rfl
@[simp] theorem rdL_modHost {s : State} {n f} {k q} : rdL (modHost n f s) k q = rdL s k q := rfl
@[simp] theorem rdReg_modLane {s : State} {n f} {a} : rdReg (modLane n f s) a = rdReg s a := rfl
@[simp] theorem rdG_modLane {s : State} {n f} {q} : rdG (modLane n f s) q = rdG s q := rfl
@[simp] theorem rdP_modLane {s : State} {n f} {k q} : rdP (modLane n f s) k q = rdP s k q := rfl
@[simp] theorem rdL_modLane {s : State} {n f} {k q} : rdL (modLane n f s) k q = rdL s k q := rfl
@[simp] theorem rdReg_modCtx {s : State} {n f} {a} : rdReg (modCtx n f s) a = rdReg s a := rfl
@[simp] theorem rdG_modCtx {s : State} {n f} {q} : rdG (modCtx n f s) q = rdG s q := rfl
@[simp] theorem rdP_modCtx {s : State} {n f} {k q} : rdP (modCtx n f s) k q = rdP s k q := rfl
@[simp] theorem rdL_modCtx {s : State} {n f} {k q} : rdL (modCtx n f s) k q = rdL s k q := rfl
@[simp] theorem rdReg_modTt {s : State} {n f} {a} : rdReg (modTt n f s) a = rdReg s a := rfl
@[simp] theorem rdG_modTt {s : State} {n f} {q} : rdG (modTt n f s) q = rdG s q := rfl
@[simp] theorem rdP_modTt {s : State} {n f} {k q} : rdP (modTt n f s) k q = rdP s k q := rfl
@[simp] theorem rdL_modTt {s : State} {n f} {k q} : rdL (modTt n f s) k q = rdL s k q := rfl
@[simp] theorem rdReg_modTarget {s : State} {n f} {a} : rdReg (modTarget n f s) a = rdReg s a := rfl
@[simp] theorem rdG_modTarget {s : State} {n f} {q} : rdG (modTarget n f s) q = rdG s q := rfl
@[simp] theorem rdP_modTarget {s : State} {n f} {k q} : rdP (modTarget n f s) k q = rdP s k q := rfl
@[simp] theorem rdL_modTarget {s : State} {n f} {k q} : rdL (modTarget n f s) k q = rdL s k q := rfl
@[simp] theorem rdReg_modCal {s : State} {f} {a} : rdReg (modCal f s) a = rdReg s a := rfl
@[simp] theorem rdG_modCal {s : State} {f} {q} : rdG (modCal f s) q = rdG s q := rfl
@[simp] theorem rdP_modCal {s : State} {f} {k q} : rdP (modCal f s) k q = rdP s k q := rfl
@[simp] theorem rdL_modCal {s : State} {f} {k q} : rdL (modCal f s) k q = rdL s k q := rfl
@[simp] theorem rdReg_modCh {s : State} {f} {a} : rdReg (modCh f s) a = rdReg s a := rfl
@[simp] theorem rdG_modCh {s : State} {f} {q} : rdG (modCh f s) q = rdG s q := rfl
@[simp] theorem rdP_modCh {s : State} {f} {k q} : rdP (modCh f s) k q = rdP s k q := rfl
@[simp] theorem rdL_modCh {s : State} {f} {k q} : rdL (modCh f s) k q = rdL s k q := rfl
@[simp] theorem rdReg_modLot {s : State} {n f} {a} : rdReg (modLot n f s) a = rdReg s a := rfl
@[simp] theorem rdG_modLot {s : State} {n f} {q} : rdG (modLot n f s) q = rdG s q := rfl
@[simp] theorem rdP_modLot {s : State} {n f} {k q} : rdP (modLot n f s) k q = rdP s k q := rfl
@[simp] theorem rdL_modLot {s : State} {n f} {k q} : rdL (modLot n f s) k q = rdL s k q := rfl
@[simp] theorem rdReg_modVictim {s : State} {n f} {a} : rdReg (modVictim n f s) a = rdReg s a := rfl
@[simp] theorem rdG_modVictim {s : State} {n f} {q} : rdG (modVictim n f s) q = rdG s q := rfl
@[simp] theorem rdP_modVictim {s : State} {n f} {k q} : rdP (modVictim n f s) k q = rdP s k q := rfl
@[simp] theorem rdL_modVictim {s : State} {n f} {k q} : rdL (modVictim n f s) k q = rdL s k q := rfl
@[simp] theorem rdReg_modCp {s : State} {f} {a} : rdReg (modCp f s) a = rdReg s a := rfl
@[simp] theorem rdG_modCp {s : State} {f} {q} : rdG (modCp f s) q = rdG s q := rfl
@[simp] theorem rdP_modCp {s : State} {f} {k q} : rdP (modCp f s) k q = rdP s k q := rfl
@[simp] theorem rdL_modCp {s : State} {f} {k q} : rdL (modCp f s) k q = rdL s k q := rfl
@[simp] theorem rdReg_modSec {s : State} {f} {a} : rdReg (modSec f s) a = rdReg s a := rfl
@[simp] theorem rdG_modSec {s : State} {f} {q} : rdG (modSec f s) q = rdG s q := rfl
@[simp] theorem rdP_modSec {s : State} {f} {k q} : rdP (modSec f s) k q = rdP s k q := rfl
@[simp] theorem rdL_modSec {s : State} {f} {k q} : rdL (modSec f s) k q = rdL s k q := rfl
@[simp] theorem rdReg_modClk {s : State} {f} {a} : rdReg (modClk f s) a = rdReg s a := rfl
@[simp] theorem rdG_modClk {s : State} {f} {q} : rdG (modClk f s) q = rdG s q := rfl
@[simp] theorem rdP_modClk {s : State} {f} {k q} : rdP (modClk f s) k q = rdP s k q := rfl
@[simp] theorem rdL_modClk {s : State} {f} {k q} : rdL (modClk f s) k q = rdL s k q := rfl
@[simp] theorem rdReg_modPower {s : State} {f} {a} : rdReg (modPower f s) a = rdReg s a := rfl
@[simp] theorem rdG_modPower {s : State} {f} {q} : rdG (modPower f s) q = rdG s q := rfl
@[simp] theorem rdP_modPower {s : State} {f} {k q} : rdP (modPower f s) k q = rdP s k q := rfl
@[simp] theorem rdL_modPower {s : State} {f} {k q} : rdL (modPower f s) k q = rdL s k q := rfl
@[simp] theorem rdReg_modTime {s : State} {f} {a} : rdReg (modTime f s) a = rdReg s a := rfl
@[simp] theorem rdG_modTime {s : State} {f} {q} : rdG (modTime f s) q = rdG s q := rfl
@[simp] theorem rdP_modTime {s : State} {f} {k q} : rdP (modTime f s) k q = rdP s k q := rfl
@[simp] theorem rdL_modTime {s : State} {f} {k q} : rdL (modTime f s) k q = rdL s k q := rfl
@[simp] theorem rdReg_modDiag {s : State} {f} {a} : rdReg (modDiag f s) a = rdReg s a := rfl
@[simp] theorem rdG_modDiag {s : State} {f} {q} : rdG (modDiag f s) q = rdG s q := rfl
@[simp] theorem rdP_modDiag {s : State} {f} {k q} : rdP (modDiag f s) k q = rdP s k q := rfl
@[simp] theorem rdL_modDiag {s : State} {f} {k q} : rdL (modDiag f s) k q = rdL s k q := rfl
@[simp] theorem rdReg_modAudit {s : State} {f} {a} : rdReg (modAudit f s) a = rdReg s a := rfl
@[simp] theorem rdG_modAudit {s : State} {f} {q} : rdG (modAudit f s) q = rdG s q := rfl
@[simp] theorem rdP_modAudit {s : State} {f} {k q} : rdP (modAudit f s) k q = rdP s k q := rfl
@[simp] theorem rdL_modAudit {s : State} {f} {k q} : rdL (modAudit f s) k q = rdL s k q := rfl
@[simp] theorem rdReg_modVault {s : State} {f} {a} : rdReg (modVault f s) a = rdReg s a := rfl
@[simp] theorem rdG_modVault {s : State} {f} {q} : rdG (modVault f s) q = rdG s q := rfl
@[simp] theorem rdP_modVault {s : State} {f} {k q} : rdP (modVault f s) k q = rdP s k q := rfl
@[simp] theorem rdL_modVault {s : State} {f} {k q} : rdL (modVault f s) k q = rdL s k q := rfl
@[simp] theorem rdReg_modImages {s : State} {f} {a} : rdReg (modImages f s) a = rdReg s a := rfl
@[simp] theorem rdG_modImages {s : State} {f} {q} : rdG (modImages f s) q = rdG s q := rfl
@[simp] theorem rdP_modImages {s : State} {f} {k q} : rdP (modImages f s) k q = rdP s k q := rfl
@[simp] theorem rdL_modImages {s : State} {f} {k q} : rdL (modImages f s) k q = rdL s k q := rfl
@[simp] theorem rdReg_modPerf {s : State} {f} {a} : rdReg (modPerf f s) a = rdReg s a := rfl
@[simp] theorem rdG_modPerf {s : State} {f} {q} : rdG (modPerf f s) q = rdG s q := rfl
@[simp] theorem rdP_modPerf {s : State} {f} {k q} : rdP (modPerf f s) k q = rdP s k q := rfl
@[simp] theorem rdL_modPerf {s : State} {f} {k q} : rdL (modPerf f s) k q = rdL s k q := rfl
@[simp] theorem rdReg_draw {s : State} {a} : rdReg (draw s) a = rdReg s a := rfl
@[simp] theorem rdG_draw {s : State} {q} : rdG (draw s) q = rdG s q := rfl
@[simp] theorem rdP_draw {s : State} {k q} : rdP (draw s) k q = rdP s k q := rfl
@[simp] theorem rdL_draw {s : State} {k q} : rdL (draw s) k q = rdL s k q := rfl
@[simp] theorem rdReg_modOp {s : State} {n f} {a} : rdReg (modOp n f s) a = rdReg s a := rfl
@[simp] theorem rdG_modOp {s : State} {n f} {q} : rdG (modOp n f s) q = rdG s q := rfl
@[simp] theorem rdP_modOp {s : State} {n f} {k q} : rdP (modOp n f s) k q = rdP s k q := rfl
@[simp] theorem rdL_modOp {s : State} {n f} {k q} : rdL (modOp n f s) k q = rdL s k q := rfl
@[simp] theorem rdReg_modSession {s : State} {n f} {a} : rdReg (modSession n f s) a = rdReg s a := rfl
@[simp] theorem rdG_modSession {s : State} {n f} {q} : rdG (modSession n f s) q = rdG s q := rfl
@[simp] theorem rdP_modSession {s : State} {n f} {k q} : rdP (modSession n f s) k q = rdP s k q := rfl
@[simp] theorem rdL_modSession {s : State} {n f} {k q} : rdL (modSession n f s) k q = rdL s k q := rfl
@[simp] theorem rdReg_modGuard {s : State} {n f} {a} : rdReg (modGuard n f s) a = rdReg s a := rfl
@[simp] theorem rdG_modGuard {s : State} {n f} {q} : rdG (modGuard n f s) q = rdG s q := rfl
@[simp] theorem rdP_modGuard {s : State} {n f} {k q} : rdP (modGuard n f s) k q = rdP s k q := rfl
@[simp] theorem rdL_modGuard {s : State} {n f} {k q} : rdL (modGuard n f s) k q = rdL s k q := rfl
@[simp] theorem rdReg_mapLots {s : State} {f} {a} : rdReg (mapLots f s) a = rdReg s a := rfl
@[simp] theorem rdG_mapLots {s : State} {f} {q} : rdG (mapLots f s) q = rdG s q := rfl
@[simp] theorem rdP_mapLots {s : State} {f} {k q} : rdP (mapLots f s) k q = rdP s k q := rfl
@[simp] theorem rdL_mapLots {s : State} {f} {k q} : rdL (mapLots f s) k q = rdL s k q := rfl
@[simp] theorem rdReg_setMemByte {s : State} {n f} {a} : rdReg (setMemByte n f s) a = rdReg s a := rfl
@[simp] theorem rdG_setMemByte {s : State} {n f} {q} : rdG (setMemByte n f s) q = rdG s q := rfl
@[simp] theorem rdP_setMemByte {s : State} {n f} {k q} : rdP (setMemByte n f s) k q = rdP s k q := rfl
@[simp] theorem rdL_setMemByte {s : State} {n f} {k q} : rdL (setMemByte n f s) k q = rdL s k q := rfl
@[simp] theorem rdReg_clearMem {s : State} {f} {a} : rdReg (clearMem f s) a = rdReg s a := rfl
@[simp] theorem rdG_clearMem {s : State} {f} {q} : rdG (clearMem f s) q = rdG s q := rfl
@[simp] theorem rdP_clearMem {s : State} {f} {k q} : rdP (clearMem f s) k q = rdP s k q := rfl
@[simp] theorem rdL_clearMem {s : State} {f} {k q} : rdL (clearMem f s) k q = rdL s k q := rfl

end Sys2Proof.Machine
end

