-- ==== Sys2Proof/Laws/Touch.lean ====
section
/-!
SUPPORT. What every operation can change: `Touch m s t` says that `t` keeps what every operation keeps, and differs from `s` at most in the
parts (Safety.lean) whose bit `m` has. One lemma for each operation gives its parts. The files TouchCore .. TouchHost hold them in the order
of the definitions.
-/
namespace Sys2Proof.Machine

/-- The set of a list of pieces. -/
def pieceMask : List Piece → Nat
  | [] => 0
  | p :: l => 2 ^ p.idx ||| pieceMask l

theorem idx_inj {p q : Piece} (h : p.idx = q.idx) : p = q := by
  cases p <;> cases q <;> first | rfl | (simp [Piece.idx] at h)

theorem pieceMask_testBit (l : List Piece) (p : Piece) : (pieceMask l).testBit p.idx = decide (p ∈ l) := by
  induction l with
  | nil => simp [pieceMask]
  | cons q l ih =>
    have h : q.idx = p.idx ↔ p = q := ⟨fun e => (idx_inj e).symm, fun e => by rw [e]⟩
    simp only [pieceMask, Nat.testBit_or, Nat.testBit_two_pow, ih, h, List.mem_cons, Bool.decide_or]

/-- `t` keeps what every operation keeps, and differs from `s` at most in the pieces whose bit `m` has. -/
structure Touch (m : Nat) (s t : State) : Prop where
  keeps : Keeps s t
  same : ∀ p : Piece, m.testBit p.idx = false → p.same s t

/-- Every piece of the first set is in the second. -/
abbrev Within (a b : Nat) : Prop := a &&& b = a

theorem within_trans {a b c : Nat} (h : Within a b) (k : Within b c) : Within a c := by
  unfold Within at *
  rw [← h, Nat.and_assoc, k]

theorem within_bit {a b i : Nat} (h : Within a b) (k : b.testBit i = false) : a.testBit i = false := by
  have := congrArg (fun x => x.testBit i) h
  simp only [Nat.testBit_and, k, Bool.and_false] at this
  exact this.symm

theorem Piece.same_refl (s : State) (p : Piece) : p.same s s := by
  cases p <;> first | rfl | exact fun _ _ => rfl

theorem Piece.same_trans {s t u : State} {p : Piece} (h : p.same s t) (k : p.same t u) : p.same s u := by
  cases p <;> first | exact Eq.trans k h | exact fun a e => (k a e).trans (h a e)

theorem Touch.refl (m : Nat) (s : State) : Touch m s s := ⟨Keeps.refl s, fun p _ => p.same_refl s⟩

theorem Touch.trans {m : Nat} {s t u : State} (h : Touch m s t) (k : Touch m t u) : Touch m s u :=
  ⟨h.keeps.trans k.keeps, fun p e => Piece.same_trans (h.same p e) (k.same p e)⟩

theorem Touch.mono {a b : Nat} {s t : State} (w : Within a b) (h : Touch a s t) : Touch b s t :=
  ⟨h.keeps, fun p e => h.same p (within_bit w e)⟩

/-- A step from `s` to `t` that is known on its own, after a change from `s0` to `s`. -/
theorem Touch.after {a m : Nat} {s0 s t : State} (w : Within a m) (k : Touch a s t) (h : Touch m s0 s) : Touch m s0 t :=
  h.trans (k.mono w)

/-- A change of fields that are not the queue, the part, the memory, the registers or the Vault. -/
theorem touchUpd {a m : Nat} {s0 s t : State} (w : Within a m) (h : Touch m s0 s) (h1 : t.pending = s.pending) (h2 : t.part = s.part)
    (h3 : t.mem = s.mem) (h4 : t.regs = s.regs) (h5 : t.vault = s.vault)
    (k : ∀ p : Piece, a.testBit p.idx = false → p.same s t) : Touch m s0 t :=
  h.trans (Touch.mono w ⟨keepsUpd (Keeps.refl s) h1 h2 h3 h4 h5, k⟩)

/-- Every area of the register window. -/
abbrev allRegs : Nat := 0xFFF000000000

/-- The set of one area. -/
def areaBit (a : Nat) : Nat := 2 ^ (areaOf a).idx

theorem ite_intro {α : Type} {P : α → Prop} {c : Prop} [Decidable c] {x y : α} (hx : P x) (hy : P y) : P (if c then x else y) := by
  split
  · exact hx
  · exact hy

theorem wrReg_area (a : Nat) (v : Word) (s : State) : Touch (areaBit a) s (wrReg a v s) := by
  refine ⟨wrReg_keeps (Keeps.refl s), fun p e => ?_⟩
  have hne : p ≠ areaOf a := by
    intro h
    subst h
    simp [areaBit, Nat.testBit_two_pow_self] at e
  cases p <;> first
    | rfl
    | (intro b hb; exact rdReg_wrReg_other _ _ (fun h => hne (by rw [← hb, h])))

theorem areaOf_idx (a : Nat) : 36 ≤ (areaOf a).idx := by
  unfold areaOf
  iterate 13 refine ite_intro (P := fun p : Piece => 36 ≤ p.idx) (by decide) ?_
  decide

/-- A word reads the same where its area does. -/
theorem area_same {s t : State} {a : Nat} (h : (areaOf a).same s t) : rdReg t a = rdReg s a := by
  have k := areaOf_idx a
  generalize e : areaOf a = p at h k
  cases p <;> first | exact h a e | exact absurd k (by decide)

/-- A device-global field reads the same where its area does. -/
theorem rdG_same {s t : State} {f : Fld} (h : (areaOf f.reg).same s t) : rdG t f = rdG s f := by
  have e : rdReg t (0 + f.reg) = rdReg s (0 + f.reg) := area_same (by rw [Nat.zero_add]; exact h)
  unfold rdG rdFld
  rw [e]

theorem areaBit_all (a : Nat) : Within (areaBit a) allRegs := by
  unfold areaBit areaOf
  iterate 13 refine ite_intro (P := fun p : Piece => Within (2 ^ p.idx) allRegs) (by decide) ?_
  decide

theorem wrReg_touch {m a v s0 s} (w : Within (areaBit a) m) (h : Touch m s0 s) : Touch m s0 (wrReg a v s) :=
  Touch.after w (wrReg_area a v s) h

theorem wrReg_touchAll {m a v s0 s} (w : Within allRegs m) (h : Touch m s0 s) : Touch m s0 (wrReg a v s) :=
  wrReg_touch (within_trans (areaBit_all a) w) h

/-- The port windows. -/
abbrev portRegs : Nat := 0x800000000000

theorem areaBit_port (n r : Nat) : areaBit (portBase n + r) = portRegs := by
  unfold areaBit areaOf portBase
  rw [if_pos (by omega)]
  rfl

theorem wrRegP_touch {m n r v s0 s} (w : Within portRegs m) (h : Touch m s0 s) : Touch m s0 (wrReg (portBase n + r) v s) :=
  wrReg_touch (by rw [areaBit_port]; exact w) h

/-- The words of the lane groups that a field has. -/
def laneBit (r : Nat) : Nat := areaBit r ||| areaBit (0x80 + r) ||| areaBit (0x100 + r) ||| areaBit (0x180 + r)

theorem laneBit_base (g r : Nat) : Within (areaBit (laneBase g + r)) (laneBit r) := by
  have h : g % 4 = 0 ∨ g % 4 = 1 ∨ g % 4 = 2 ∨ g % 4 = 3 := by omega
  have key : ∀ a b c d x : Nat, x = a ∨ x = b ∨ x = c ∨ x = d → Within x (a ||| b ||| c ||| d) := by
    intro a b c d x hx
    unfold Within
    apply Nat.eq_of_testBit_eq
    intro i
    simp only [Nat.testBit_and, Nat.testBit_or]
    rcases hx with rfl | rfl | rfl | rfl <;> cases x.testBit i <;> simp
  unfold laneBit laneBase
  apply key
  rcases h with h | h | h | h <;> rw [h] <;> simp

/-- The words of the programmable counters. -/
abbrev pmRegs : Nat := 0x200000000000

theorem areaBit_pm (u c k : Nat) (hk : k < 0x20) : areaBit (0x40000 + pmBase u c + k) = pmRegs := by
  have h1 : 0x40000 + pmBase u c + k < 0x48000 := by unfold pmBase; omega
  have h2 : 0x40000 ≤ 0x40000 + pmBase u c + k := by omega
  generalize 0x40000 + pmBase u c + k = a at h1 h2
  unfold areaBit areaOf
  simp only [show ¬ 0x1000000 ≤ a by omega, show ¬ a < 0x10000 by omega, show ¬ a < 0x11000 by omega, show ¬ a < 0x11400 by omega,
    show ¬ a < 0x11800 by omega, show ¬ a < 0x11C00 by omega, show ¬ a < 0x12000 by omega, show ¬ a < 0x20000 by omega,
    show ¬ a < 0x20040 by omega, show ¬ a < 0x30000 by omega, show ¬ a < 0x40000 by omega, h1, if_true, if_false]
  rfl

/-- The device counters. -/
abbrev devRegs : Nat := 0x400000000000

theorem areaBit_dev (i k : Nat) (hk : k < 8) : areaBit (0x48000 + 8 * (i % 64) + k) = devRegs := by
  have h1 : 0x48000 + 8 * (i % 64) + k < 0x50000 := by omega
  have h2 : 0x48000 ≤ 0x48000 + 8 * (i % 64) + k := by omega
  generalize 0x48000 + 8 * (i % 64) + k = a at h1 h2
  unfold areaBit areaOf
  simp only [show ¬ 0x1000000 ≤ a by omega, show ¬ a < 0x10000 by omega, show ¬ a < 0x11000 by omega, show ¬ a < 0x11400 by omega,
    show ¬ a < 0x11800 by omega, show ¬ a < 0x11C00 by omega, show ¬ a < 0x12000 by omega, show ¬ a < 0x20000 by omega,
    show ¬ a < 0x20040 by omega, show ¬ a < 0x30000 by omega, show ¬ a < 0x40000 by omega, show ¬ a < 0x48000 by omega, h1, if_true, if_false]
  rfl

/-- The calibration words. -/
abbrev calRegs : Nat := 0x100000000000

theorem areaBit_cal (t r : Nat) (h1 : 0x30000 ≤ r) (h2 : r < 0x31000) : areaBit (calBase t + r) = calRegs := by
  have h3 : calBase t < 0x200 := by unfold calBase; split <;> omega
  generalize e : calBase t + r = a
  have h4 : 0x30000 ≤ a := by omega
  have h5 : a < 0x40000 := by omega
  unfold areaBit areaOf
  simp only [show ¬ 0x1000000 ≤ a by omega, show ¬ a < 0x10000 by omega, show ¬ a < 0x11000 by omega, show ¬ a < 0x11400 by omega,
    show ¬ a < 0x11800 by omega, show ¬ a < 0x11C00 by omega, show ¬ a < 0x12000 by omega, show ¬ a < 0x20000 by omega,
    show ¬ a < 0x20040 by omega, show ¬ a < 0x30000 by omega, h5, if_true, if_false]
  rfl

theorem wrRegHi_touch {m a v s0 s} (ha : 0x1000000 ≤ a) (w : Within portRegs m) (h : Touch m s0 s) : Touch m s0 (wrReg a v s) := by
  have e : areaBit a = portRegs := by
    unfold areaBit areaOf
    rw [if_pos ha]
    rfl
  exact wrReg_touch (by rw [e]; exact w) h

/-- The lane groups. -/
abbrev laneRegs : Nat := 0x8000000000

theorem wrRegLanes_touch {m a v s0 s} (h1 : 0x11400 ≤ a) (h2 : a < 0x11800) (w : Within laneRegs m) (h : Touch m s0 s) :
    Touch m s0 (wrReg a v s) := by
  have e : areaBit a = laneRegs := by
    unfold areaBit areaOf
    simp only [show ¬ 0x1000000 ≤ a by omega, show ¬ a < 0x10000 by omega, show ¬ a < 0x11000 by omega, show ¬ a < 0x11400 by omega, h2,
      if_true, if_false]
    rfl
  exact wrReg_touch (by rw [e]; exact w) h

theorem wrRegPm_touch {m u c k v s0 s} (hk : k < 0x20) (w : Within pmRegs m) (h : Touch m s0 s) :
    Touch m s0 (wrReg (pmAddr u c + k) v s) :=
  wrReg_touch (by unfold pmAddr; rw [areaBit_pm u c k hk]; exact w) h

theorem wrRegPm0_touch {m u c v s0 s} (w : Within pmRegs m) (h : Touch m s0 s) : Touch m s0 (wrReg (pmAddr u c) v s) :=
  wrRegPm_touch (k := 0) (by decide) w h

/-! ## Fields -/

theorem wrFld_touch {m b f x s0 s} (w : Within (areaBit (b + f.reg)) m) (h : Touch m s0 s) : Touch m s0 (wrFld b f x s) :=
  wrReg_touch w h

theorem wrFld_touchAll {m b f x s0 s} (w : Within allRegs m) (h : Touch m s0 s) : Touch m s0 (wrFld b f x s) := wrReg_touchAll w h

theorem wrFldP_touch {m n f x s0 s} (w : Within portRegs m) (h : Touch m s0 s) : Touch m s0 (wrFld (portBase n) f x s) :=
  wrRegP_touch w h

theorem wrFldL_touch {m g f x s0 s} (w : Within (laneBit f.reg) m) (h : Touch m s0 s) : Touch m s0 (wrFld (laneBase g) f x s) :=
  wrReg_touch (within_trans (laneBit_base g f.reg) w) h

theorem wrFldC_touch {m t f x s0 s} (h1 : 0x30000 ≤ f.reg) (h2 : f.reg < 0x31000) (w : Within calRegs m) (h : Touch m s0 s) :
    Touch m s0 (wrFld (calBase t) f x s) :=
  wrReg_touch (by rw [areaBit_cal t _ h1 h2]; exact w) h

/-- The set of the word of a device-global field. -/
abbrev fldBit (f : Fld) : Nat := areaBit f.reg

theorem wrG_touch {m f x s0 s} (w : Within (fldBit f) m) (h : Touch m s0 s) : Touch m s0 (wrG f x s) :=
  wrFld_touch (by rw [Nat.zero_add]; exact w) h

theorem wrG_touchAll {m f x s0 s} (w : Within allRegs m) (h : Touch m s0 s) : Touch m s0 (wrG f x s) := wrFld_touchAll w h

theorem wrP_touch {m n f x s0 s} (w : Within portRegs m) (h : Touch m s0 s) : Touch m s0 (wrP n f x s) := wrFldP_touch w h

theorem wrL_touch {m g f x s0 s} (w : Within (laneBit f.reg) m) (h : Touch m s0 s) : Touch m s0 (wrL g f x s) := wrFldL_touch w h

theorem wrGRail_touch {m f k x s0 s} (w : Within (fldBit f) m) (h : Touch m s0 s) : Touch m s0 (wrG (railBit f k) x s) :=
  wrG_touch w h

theorem setEv_touchAll {m b f s0 s} (w : Within allRegs m) (h : Touch m s0 s) : Touch m s0 (setEv b f s) := wrFld_touchAll w h

theorem evG_touch {m f s0 s} (w : Within (fldBit f) m) (h : Touch m s0 s) : Touch m s0 (evG f s) :=
  wrFld_touch (by rw [Nat.zero_add]; exact w) h

theorem evGRail_touch {m f k s0 s} (w : Within (fldBit f) m) (h : Touch m s0 s) : Touch m s0 (evG (railBit f k) s) :=
  evG_touch w h

theorem evGBit_touch {m f k s0 s} (w : Within (fldBit f) m) (h : Touch m s0 s) : Touch m s0 (evG (bitFld f k) s) :=
  evG_touch w h

theorem evG_touchAll {m f s0 s} (w : Within allRegs m) (h : Touch m s0 s) : Touch m s0 (evG f s) := wrFld_touchAll w h

theorem evP_touch {m n f s0 s} (w : Within portRegs m) (h : Touch m s0 s) : Touch m s0 (evP n f s) := wrFldP_touch w h

theorem evL_touch {m g f s0 s} (w : Within (laneBit f.reg) m) (h : Touch m s0 s) : Touch m s0 (evL g f s) := wrFldL_touch w h

theorem wrBit_touch {m b f i x s0 s} (w : Within (areaBit (b + f.reg)) m) (h : Touch m s0 s) : Touch m s0 (wrBit b f i x s) :=
  wrFld_touch w h

theorem wrBitG_touch {m f i x s0 s} (w : Within (fldBit f) m) (h : Touch m s0 s) : Touch m s0 (wrBit 0 f i x s) :=
  wrFld_touch (by rw [Nat.zero_add]; exact w) h

theorem wrBitP_touch {m n f i x s0 s} (w : Within portRegs m) (h : Touch m s0 s) : Touch m s0 (wrBit (portBase n) f i x s) :=
  wrFldP_touch w h

theorem wrBitL_touch {m g f i x s0 s} (w : Within (laneBit f.reg) m) (h : Touch m s0 s) : Touch m s0 (wrBit (laneBase g) f i x s) :=
  wrFldL_touch w h

theorem wrBit_touchAll {m b f i x s0 s} (w : Within allRegs m) (h : Touch m s0 s) : Touch m s0 (wrBit b f i x s) := wrFld_touchAll w h

theorem addCntG_touch {m f k s0 s} (w : Within (fldBit f) m) (h : Touch m s0 s) : Touch m s0 (addCnt 0 f k s) :=
  wrFld_touch (by rw [Nat.zero_add]; exact w) h

theorem addCntP_touch {m n f k s0 s} (w : Within portRegs m) (h : Touch m s0 s) : Touch m s0 (addCnt (portBase n) f k s) :=
  wrFldP_touch w h

theorem addCntL_touch {m g f k s0 s} (w : Within (laneBit f.reg) m) (h : Touch m s0 s) : Touch m s0 (addCnt (laneBase g) f k s) :=
  wrFldL_touch w h

theorem addCnt_touchAll {m b f k s0 s} (w : Within allRegs m) (h : Touch m s0 s) : Touch m s0 (addCnt b f k s) := wrFld_touchAll w h

theorem clearRegs_touch {m p s0 s} (w : Within allRegs m) (h : Touch m s0 s) : Touch m s0 (clearRegs p s) := by
  refine Touch.after w ⟨clearRegs_keeps (Keeps.refl s), fun q e => ?_⟩ h
  cases q <;> first | rfl | exact absurd e (by decide)

theorem addCnt48_touch {m a k s0 s} (w : Within (areaBit a) m) (w4 : Within (areaBit (a + 4)) m) (h : Touch m s0 s) :
    Touch m s0 (addCnt48 a k s) := wrReg_touch w4 (wrReg_touch w h)

theorem addCnt48Pm_touch {m u c k s0 s} (w : Within pmRegs m) (h : Touch m s0 s) : Touch m s0 (addCnt48 (pmAddr u c + 0x10) k s) := by
  unfold addCnt48
  refine wrReg_touch ?_ (wrRegPm_touch (by decide) w h)
  unfold pmAddr
  rw [Nat.add_assoc _ 0x10 4, areaBit_pm u c 0x14 (by decide)]; exact w

theorem countDev_touch {m i k s0 s} (w : Within devRegs m) (h : Touch m s0 s) : Touch m s0 (countDev i k s) := by
  unfold countDev
  split
  · exact h
  · refine addCnt48_touch ?_ ?_ h
    · have := areaBit_dev i 0 (by decide)
      rw [Nat.add_zero] at this
      rw [this]; exact w
    · rw [areaBit_dev i 4 (by decide)]; exact w

theorem pmCount_touch {m u code x k c s0 s} (w : Within pmRegs m) (h : Touch m s0 s) : Touch m s0 (pmCount u code x k c s) := by
  unfold pmCount
  dsimp only
  split
  · refine addCnt48_touch ?_ ?_ h
    · rw [areaBit_pm u c 0x10 (by decide)]; exact w
    · rw [Nat.add_assoc _ 0x10 4, areaBit_pm u c 0x14 (by decide)]; exact w
  · exact h

/-! ## Loops -/

theorem forL_touch {β : Type} {m : Nat} {s0 : State} {l : List β} {f : β → State → State} {s : State} (h : Touch m s0 s)
    (hf : ∀ x t, Touch m s0 t → Touch m s0 (f x t)) : Touch m s0 (forL l f s) := by
  unfold forL
  induction l generalizing s with
  | nil => exact h
  | cons b l ih => exact ih (hf b s h)

theorem forN_touch {m : Nat} {s0 : State} {n : Nat} {f : Nat → State → State} {s : State} (h : Touch m s0 s)
    (hf : ∀ x t, Touch m s0 t → Touch m s0 (f x t)) : Touch m s0 (forN n f s) := by
  unfold forN
  generalize List.range n = l
  induction l generalizing s with
  | nil => exact h
  | cons b l ih => exact ih (hf b s h)

theorem foldl_touch {β : Type} {m : Nat} {s0 : State} {l : List β} {f : State → β → State} {s : State} (h : Touch m s0 s)
    (hf : ∀ t x, Touch m s0 t → Touch m s0 (f t x)) : Touch m s0 (l.foldl f s) := by
  induction l generalizing s with
  | nil => exact h
  | cons b l ih => exact ih (hf s b h)

theorem foldlPair_touch {α β : Type} {m : Nat} {s0 : State} {l : List β} {f : α × State → β → α × State} {a : α × State}
    (h : Touch m s0 a.2) (hf : ∀ x b, Touch m s0 x.2 → Touch m s0 (f x b).2) : Touch m s0 (l.foldl f a).2 := by
  induction l generalizing a with
  | nil => exact h
  | cons b l ih => exact ih (hf a b h)

theorem forLPair_touch {α β : Type} {m : Nat} {s0 : State} {l : List β} {f : β → α × State → α × State} {a : α × State}
    (h : Touch m s0 a.2) (hf : ∀ b x, Touch m s0 x.2 → Touch m s0 (f b x).2) : Touch m s0 (forL l f a).2 := by
  unfold forL
  induction l generalizing a with
  | nil => exact h
  | cons b l ih => exact ih (hf b a h)

theorem whenB_touch {m : Nat} {s0 : State} {b : Bool} {f : State → State} {s : State} (h : Touch m s0 s)
    (hf : ∀ t, Touch m s0 t → Touch m s0 (f t)) : Touch m s0 (whenB b f s) := by
  unfold whenB
  split
  · exact hf s h
  · exact h

theorem pair_touch {α : Type} {m : Nat} {s0 t : State} {a : α} {p : α × State} (h : Touch m s0 p.2) (e : p = (a, t)) :
    Touch m s0 t := by
  subst e; exact h

theorem triple_touch {α β : Type} {m : Nat} {s0 t : State} {a : α} {b : β} {p : α × β × State} (h : Touch m s0 p.2.2)
    (e : p = (a, b, t)) : Touch m s0 t := by
  subst e; exact h

/-- An outcome is a next state that differs at most in these pieces. -/
def OutTouch (m : Nat) (s : State) (o : Host.Outcome State Fault Refusal) : Prop := ∃ t, o = .next t ∧ Touch m s t

theorem outTouch {m : Nat} {s0 t : State} (h : Touch m s0 t) : OutTouch m s0 (.next t) := ⟨t, rfl, h⟩

/-- The effect of a plan changes at most these pieces. -/
structure PlanTouch (m : Nat) (p : Plan) : Prop where
  touch : ∀ s0 s, Touch m s0 s → Touch m s0 (p.effect s)

/-- Every plan of an opcode does. -/
structure OpTouch (m : Nat) (o : Opcode) : Prop where
  plan : ∀ c r s, PlanTouch m (o.plan c r s)

/-- A check does, where the plan that it gives does. -/
structure ChkTouch (m : Nat) (o : Option Plan) : Prop where
  plan : ∀ p, o = some p → PlanTouch m p

/-- A list of checks does. -/
structure ChecksTouch (m : Nat) (l : List (Option Plan)) : Prop where
  all : ∀ o ∈ l, ChkTouch m o

theorem refuse_touch {m st n} : PlanTouch m (Plan.refuse st n) := ⟨fun _ _ h => h⟩
theorem refuseWith_touch {m st l} : PlanTouch m (Plan.refuseWith st l) := ⟨fun _ _ h => h⟩
theorem retryIn_touch {m st n} : PlanTouch m (Plan.retryIn st n) := ⟨fun _ _ h => h⟩
theorem done_id_touch {m st l} : PlanTouch m (Plan.done st l id) := ⟨fun _ _ h => h⟩
theorem done_touch {m st l f} (hf : ∀ s0 s, Touch m s0 s → Touch m s0 (f s)) : PlanTouch m (Plan.done st l f) := ⟨hf⟩

theorem chk_touch {m b p} (h : PlanTouch m p) : ChkTouch m (chk b p) := by
  refine ⟨fun q hq => ?_⟩
  unfold chk at hq
  split at hq
  · cases hq; exact h
  · cases hq

theorem some_touch {m p} (h : PlanTouch m p) : ChkTouch m (some p) := ⟨fun _ hq => by cases hq; exact h⟩
theorem none_touch {m} : ChkTouch m none := ⟨fun _ hq => by cases hq⟩

theorem firstOf_touch {m l d} (hl : ChecksTouch m l) (hd : PlanTouch m d) : PlanTouch m (firstOf l d) := by
  unfold firstOf
  induction l with
  | nil => exact hd
  | cons o l ih =>
    cases o with
    | none => exact ih ⟨fun o ho => hl.all o (List.mem_cons_of_mem _ ho)⟩
    | some p => exact (hl.all (some p) (by simp)).plan p rfl

theorem checksT_nil {m} : ChecksTouch m [] := ⟨by simp⟩

theorem checksT_cons {m} {o : Option Plan} {l : List (Option Plan)} (h : ChkTouch m o) (hl : ChecksTouch m l) : ChecksTouch m (o :: l) := by
  refine ⟨fun x hx => ?_⟩
  rcases List.mem_cons.mp hx with rfl | hx
  · exact h
  · exact hl.all x hx

theorem checksT_append {m} {l k : List (Option Plan)} (hl : ChecksTouch m l) (hk : ChecksTouch m k) : ChecksTouch m (l ++ k) := by
  refine ⟨fun x hx => ?_⟩
  rcases List.mem_append.mp hx with hx | hx
  · exact hl.all x hx
  · exact hk.all x hx

theorem checksT_map {m} {α : Type} {l : List α} {f : α → Option Plan} (h : ∀ a, ChkTouch m (f a)) : ChecksTouch m (l.map f) := by
  refine ⟨fun x hx => ?_⟩
  obtain ⟨a, _, rfl⟩ := List.mem_map.mp hx
  exact h a

theorem bad_touch {m b} : ChkTouch m (bad b) := chk_touch refuse_touch
theorem gated_touch {m s b} : ChkTouch m (gated s b) := chk_touch refuse_touch

/-! ## The updates -/

theorem modPort_touch {m a b s0 s} (w : Within 0x2000000 m) (h : Touch m s0 s) : Touch m s0 (modPort a b s) := by
  refine Touch.after w ⟨keepsUpd (Keeps.refl s) rfl rfl rfl rfl rfl, fun q e => ?_⟩ h
  cases q <;> first | exact absurd e (by decide) | rfl | exact fun _ _ => rfl

theorem modHost_touch {m a b s0 s} (w : Within 0x4000000 m) (h : Touch m s0 s) : Touch m s0 (modHost a b s) := by
  refine Touch.after w ⟨keepsUpd (Keeps.refl s) rfl rfl rfl rfl rfl, fun q e => ?_⟩ h
  cases q <;> first | exact absurd e (by decide) | rfl | exact fun _ _ => rfl

theorem modLane_touch {m a b s0 s} (w : Within 0x8000000 m) (h : Touch m s0 s) : Touch m s0 (modLane a b s) := by
  refine Touch.after w ⟨keepsUpd (Keeps.refl s) rfl rfl rfl rfl rfl, fun q e => ?_⟩ h
  cases q <;> first | exact absurd e (by decide) | rfl | exact fun _ _ => rfl

theorem modCtx_touch {m a b s0 s} (w : Within 0x800000 m) (h : Touch m s0 s) : Touch m s0 (modCtx a b s) := by
  refine Touch.after w ⟨keepsUpd (Keeps.refl s) rfl rfl rfl rfl rfl, fun q e => ?_⟩ h
  cases q <;> first | exact absurd e (by decide) | rfl | exact fun _ _ => rfl

theorem modTt_touch {m a b s0 s} (w : Within 0x1000000 m) (h : Touch m s0 s) : Touch m s0 (modTt a b s) := by
  refine Touch.after w ⟨keepsUpd (Keeps.refl s) rfl rfl rfl rfl rfl, fun q e => ?_⟩ h
  cases q <;> first | exact absurd e (by decide) | rfl | exact fun _ _ => rfl

theorem modCal_touch {m a s0 s} (w : Within 0x40000000 m) (h : Touch m s0 s) : Touch m s0 (modCal a s) := by
  refine Touch.after w ⟨keepsUpd (Keeps.refl s) rfl rfl rfl rfl rfl, fun q e => ?_⟩ h
  cases q <;> first | exact absurd e (by decide) | rfl | exact fun _ _ => rfl

theorem modCh_touch {m a s0 s} (w : Within 0x10000000 m) (h : Touch m s0 s) : Touch m s0 (modCh a s) := by
  refine Touch.after w ⟨keepsUpd (Keeps.refl s) rfl rfl rfl rfl rfl, fun q e => ?_⟩ h
  cases q <;> first | exact absurd e (by decide) | rfl | exact fun _ _ => rfl

theorem modCp_touch {m a s0 s} (w : Within 0x1000 m) (h : Touch m s0 s) : Touch m s0 (modCp a s) := by
  refine Touch.after w ⟨keepsUpd (Keeps.refl s) rfl rfl rfl rfl rfl, fun q e => ?_⟩ h
  cases q <;> first | exact absurd e (by decide) | rfl | exact fun _ _ => rfl

theorem modSec_touch {m a s0 s} (w : Within 0x2000 m) (h : Touch m s0 s) : Touch m s0 (modSec a s) := by
  refine Touch.after w ⟨keepsUpd (Keeps.refl s) rfl rfl rfl rfl rfl, fun q e => ?_⟩ h
  cases q <;> first | exact absurd e (by decide) | rfl | exact fun _ _ => rfl

theorem modClk_touch {m a s0 s} (w : Within 0x100000 m) (h : Touch m s0 s) : Touch m s0 (modClk a s) := by
  refine Touch.after w ⟨keepsUpd (Keeps.refl s) rfl rfl rfl rfl rfl, fun q e => ?_⟩ h
  cases q <;> first | exact absurd e (by decide) | rfl | exact fun _ _ => rfl

theorem modPower_touch {m a s0 s} (w : Within 0x200000 m) (h : Touch m s0 s) : Touch m s0 (modPower a s) := by
  refine Touch.after w ⟨keepsUpd (Keeps.refl s) rfl rfl rfl rfl rfl, fun q e => ?_⟩ h
  cases q <;> first | exact absurd e (by decide) | rfl | exact fun _ _ => rfl

theorem modTime_touch {m a s0 s} (w : Within 0x400000 m) (h : Touch m s0 s) : Touch m s0 (modTime a s) := by
  refine Touch.after w ⟨keepsUpd (Keeps.refl s) rfl rfl rfl rfl rfl, fun q e => ?_⟩ h
  cases q <;> first | exact absurd e (by decide) | rfl | exact fun _ _ => rfl

theorem modDiag_touch {m a s0 s} (w : Within 0x20000000 m) (h : Touch m s0 s) : Touch m s0 (modDiag a s) := by
  refine Touch.after w ⟨keepsUpd (Keeps.refl s) rfl rfl rfl rfl rfl, fun q e => ?_⟩ h
  cases q <;> first | exact absurd e (by decide) | rfl | exact fun _ _ => rfl

theorem modAudit_touch {m a s0 s} (w : Within 0x80000000 m) (h : Touch m s0 s) : Touch m s0 (modAudit a s) := by
  refine Touch.after w ⟨keepsUpd (Keeps.refl s) rfl rfl rfl rfl rfl, fun q e => ?_⟩ h
  cases q <;> first | exact absurd e (by decide) | rfl | exact fun _ _ => rfl

theorem modVault_touch {m a s0 s} (w : Within 0x80000 m) (h : Touch m s0 s) (hf : (a s.vault).fuses = s.vault.fuses) : Touch m s0 (modVault a s) := by
  refine Touch.after w ⟨modVault_keeps (Keeps.refl s) hf, fun q e => ?_⟩ h
  cases q <;> first | exact absurd e (by decide) | rfl | exact fun _ _ => rfl

theorem modImages_touch {m a s0 s} (w : Within 0x40000 m) (h : Touch m s0 s) : Touch m s0 (modImages a s) := by
  refine Touch.after w ⟨keepsUpd (Keeps.refl s) rfl rfl rfl rfl rfl, fun q e => ?_⟩ h
  cases q <;> first | exact absurd e (by decide) | rfl | exact fun _ _ => rfl

theorem modPerf_touch {m a s0 s} (w : Within 0x100000000 m) (h : Touch m s0 s) : Touch m s0 (modPerf a s) := by
  refine Touch.after w ⟨keepsUpd (Keeps.refl s) rfl rfl rfl rfl rfl, fun q e => ?_⟩ h
  cases q <;> first | exact absurd e (by decide) | rfl | exact fun _ _ => rfl

theorem draw_touch {m s0 s} (w : Within 0x800000000 m) (h : Touch m s0 s) : Touch m s0 (draw s) := by
  refine Touch.after w ⟨keepsUpd (Keeps.refl s) rfl rfl rfl rfl rfl, fun q e => ?_⟩ h
  cases q <;> first | exact absurd e (by decide) | rfl | exact fun _ _ => rfl

theorem setMemByte_touch {m a b s0 s} (w : Within 0x200000000 m) (h : Touch m s0 s) : Touch m s0 (setMemByte a b s) := by
  refine Touch.after w ⟨setMemByte_keeps (Keeps.refl s), fun q e => ?_⟩ h
  cases q <;> first | exact absurd e (by decide) | rfl | exact fun _ _ => rfl

theorem clearMem_touch {m a s0 s} (w : Within 0x200000000 m) (h : Touch m s0 s) : Touch m s0 (clearMem a s) := by
  refine Touch.after w ⟨clearMem_keeps (Keeps.refl s), fun q e => ?_⟩ h
  cases q <;> first | exact absurd e (by decide) | rfl | exact fun _ _ => rfl

theorem writeMem_touch {m a l s0 s} (w : Within 0x200000000 m) (h : Touch m s0 s) : Touch m s0 (writeMem a l s) := by
  induction l generalizing a s with
  | nil => exact h
  | cons b l ih => exact ih (setMemByte_touch w h)

theorem stage_touch {m x s0 s} (w : Within 0x40 m) (h : Touch m s0 s) : Touch m s0 { s with stage := x } := by
  refine touchUpd w h rfl rfl rfl rfl rfl fun q e => ?_
  cases q <;> first | exact absurd e (by decide) | rfl | exact fun _ _ => rfl

theorem busy_touch {m s} (w : Within 0x800000000 m) : PlanTouch m (Plan.busy s) := ⟨fun _ _ h => draw_touch w h⟩
theorem busyIf_touch {m s b} (w : Within 0x800000000 m) : ChkTouch m (busyIf s b) := chk_touch (busy_touch w)

end Sys2Proof.Machine
end

