-- ==== Sys2Proof/Laws/TouchCore.lean ====
section
/-!
SUPPORT. What every operation can change (Touch.lean), one lemma for each.
The registers, the Ledger and Journal, the stops, the Teller, the Vault, clocks, images.
-/
namespace Sys2Proof.Machine

theorem modTarget_touch {m s0 a0 a1 s} (w : Within 0x40000000 m) (h : Touch m s0 s) : Touch m s0 (modTarget a0 a1 s) := by
  unfold modTarget
  repeat' first
    | with_reducible assumption
    | with_reducible apply modCal_touch (within_trans (by decide) w)

theorem modLot_touch {m s0 a0 a1 s} (w : Within 0x10000000 m) (h : Touch m s0 s) : Touch m s0 (modLot a0 a1 s) := by
  unfold modLot
  repeat' first
    | with_reducible assumption
    | with_reducible apply modCh_touch (within_trans (by decide) w)

theorem modVictim_touch {m s0 a0 a1 s} (w : Within 0x10000000 m) (h : Touch m s0 s) : Touch m s0 (modVictim a0 a1 s) := by
  unfold modVictim
  repeat' first
    | with_reducible assumption
    | with_reducible apply modCh_touch (within_trans (by decide) w)

theorem mapLots_touch {m s0 a0 s} (w : Within 0x10000000 m) (h : Touch m s0 s) : Touch m s0 (mapLots a0 s) := by
  unfold mapLots
  repeat' first
    | with_reducible assumption
    | with_reducible apply modCh_touch (within_trans (by decide) w)

theorem pmEvN_touch {m s0 a0 a1 a2 a3 s} (w : Within 0x200000000000 m) (h : Touch m s0 s) : Touch m s0 (pmEvN a0 a1 a2 a3 s) := by
  unfold pmEvN
  repeat' first
    | with_reducible assumption
    | with_reducible apply pmCount_touch (within_trans (by decide) w)
    | with_reducible apply forN_touch
    | split
    | intro _

theorem pmEv_touch {m s0 a0 a1 a2 s} (w : Within 0x200000000000 m) (h : Touch m s0 s) : Touch m s0 (pmEv a0 a1 a2 s) := by
  unfold pmEv
  repeat' first
    | with_reducible assumption
    | with_reducible apply pmEvN_touch (within_trans (by decide) w)

theorem journal_touch {m s0 a0 s} (w : Within 0x400000008000 m) (h : Touch m s0 s) : Touch m s0 (journal a0 s) := by
  unfold journal
  repeat' first
    | with_reducible assumption
    | with_reducible apply countDev_touch (within_trans (by decide) w)
    | exact touchUpd w h (by rfl) (by rfl) (by rfl) (by rfl) (by rfl)
        (fun q e => by cases q <;> first | exact absurd e (by decide) | rfl | exact fun _ _ => rfl)

theorem journalEvent_touch {m s0 a0 a1 a2 a3 s} (w : Within 0x400000008000 m) (h : Touch m s0 s) : Touch m s0 (journalEvent a0 a1 a2 a3 s) := by
  unfold journalEvent
  repeat' first
    | with_reducible assumption
    | with_reducible apply journal_touch (within_trans (by decide) w)

theorem journalReset_touch {m s0 a0 a1 s} (w : Within 0x400000008000 m) (h : Touch m s0 s) : Touch m s0 (journalReset a0 a1 s) := by
  unfold journalReset
  repeat' first
    | with_reducible assumption
    | with_reducible apply journal_touch (within_trans (by decide) w)

theorem modOp_touch {m s0 a0 a1 s} (w : Within 0x20000 m) (h : Touch m s0 s) : Touch m s0 (modOp a0 a1 s) := by
  unfold modOp
  repeat' first
    | with_reducible assumption
    | exact touchUpd w h (by rfl) (by rfl) (by rfl) (by rfl) (by rfl)
        (fun q e => by cases q <;> first | exact absurd e (by decide) | rfl | exact fun _ _ => rfl)

theorem startOp_touch {m s0 a0 a1 a2 s} (w : Within 0x400000038000 m) (h : Touch m s0 s) : Touch m s0 (startOp a0 a1 a2 s) := by
  unfold startOp
  repeat' first
    | with_reducible assumption
    | with_reducible apply journal_touch (within_trans (by decide) w)
    | exact touchUpd w h (by rfl) (by rfl) (by rfl) (by rfl) (by rfl)
        (fun q e => by cases q <;> first | exact absurd e (by decide) | rfl | exact fun _ _ => rfl)

theorem opStep_touch {m s0 a0 a1 s} (w : Within 0x400000028000 m) (h : Touch m s0 s) : Touch m s0 (opStep a0 a1 s) := by
  unfold opStep
  repeat' first
    | with_reducible assumption
    | with_reducible apply modOp_touch (within_trans (by decide) w)
    | with_reducible apply journal_touch (within_trans (by decide) w)
    | split

theorem opProgress_touch {m s0 a0 a1 a2 a3 s} (w : Within 0x400000028000 m) (h : Touch m s0 s) : Touch m s0 (opProgress a0 a1 a2 a3 s) := by
  unfold opProgress
  repeat' first
    | with_reducible assumption
    | with_reducible apply modOp_touch (within_trans (by decide) w)
    | with_reducible apply opStep_touch (within_trans (by decide) w)
    | split

theorem opItem_touch {m s0 a0 a1 a2 a3 a4 s} (w : Within 0x400000028000 m) (h : Touch m s0 s) : Touch m s0 (opItem a0 a1 a2 a3 a4 s) := by
  unfold opItem
  repeat' first
    | with_reducible assumption
    | with_reducible apply modOp_touch (within_trans (by decide) w)
    | with_reducible apply journal_touch (within_trans (by decide) w)
    | split

theorem endOpWith_touch {m s0 a0 a1 a2 a3 s} (w : Within 0x400000028000 m) (h : Touch m s0 s) : Touch m s0 (endOpWith a0 a1 a2 a3 s) := by
  unfold endOpWith
  repeat' first
    | with_reducible assumption
    | with_reducible apply modOp_touch (within_trans (by decide) w)
    | with_reducible apply journal_touch (within_trans (by decide) w)
    | split

theorem endOp_touch {m s0 a0 a1 a2 s} (w : Within 0x400000028000 m) (h : Touch m s0 s) : Touch m s0 (endOp a0 a1 a2 s) := by
  unfold endOp
  repeat' first
    | with_reducible assumption
    | with_reducible apply endOpWith_touch (within_trans (by decide) w)

theorem ledgerWrite_touch {m s0 a0 s} (w : Within 0x620000004000 m) (h : Touch m s0 s) : Touch m s0 (ledgerWrite a0 s) := by
  unfold ledgerWrite
  repeat' first
    | with_reducible assumption
    | with_reducible apply pmEv_touch (within_trans (by decide) w)
    | with_reducible apply countDev_touch (within_trans (by decide) w)
    | with_reducible refine evGRail_touch (within_trans (by decide) w) ?_
    | with_reducible refine evGBit_touch (within_trans (by decide) w) ?_
    | with_reducible refine evG_touch (within_trans (by decide) w) ?_
    | with_reducible refine evG_touchAll (within_trans (by decide) w) ?_
    | with_reducible apply whenB_touch
    | exact touchUpd w h (by rfl) (by rfl) (by rfl) (by rfl) (by rfl)
        (fun q e => by cases q <;> first | exact absurd e (by decide) | rfl | exact fun _ _ => rfl)
    | intro _

theorem ledgerLose_touch {m s0 s} (w : Within 0x20000004000 m) (h : Touch m s0 s) : Touch m s0 (ledgerLose s) := by
  unfold ledgerLose
  repeat' first
    | with_reducible assumption
    | with_reducible refine addCntG_touch (within_trans (by decide) w) ?_
    | with_reducible refine addCntP_touch (within_trans (by decide) w) ?_
    | with_reducible refine addCntL_touch (within_trans (by decide) w) ?_
    | with_reducible refine addCnt_touchAll (within_trans (by decide) w) ?_
    | with_reducible refine evGRail_touch (within_trans (by decide) w) ?_
    | with_reducible refine evGBit_touch (within_trans (by decide) w) ?_
    | with_reducible refine evG_touch (within_trans (by decide) w) ?_
    | with_reducible refine evG_touchAll (within_trans (by decide) w) ?_
    | exact touchUpd w h (by rfl) (by rfl) (by rfl) (by rfl) (by rfl)
        (fun q e => by cases q <;> first | exact absurd e (by decide) | rfl | exact fun _ _ => rfl)

theorem ledgerOverflow_touch {m s0 s} (w : Within 0x620000004000 m) (h : Touch m s0 s) : Touch m s0 (ledgerOverflow s) := by
  unfold ledgerOverflow
  repeat' first
    | with_reducible assumption
    | with_reducible apply ledgerWrite_touch (within_trans (by decide) w)
    | exact touchUpd w h (by rfl) (by rfl) (by rfl) (by rfl) (by rfl)
        (fun q e => by cases q <;> first | exact absurd e (by decide) | rfl | exact fun _ _ => rfl)

theorem ledger_touch {m s0 a0 s} (w : Within 0x620000004000 m) (h : Touch m s0 s) : Touch m s0 (ledger a0 s) := by
  unfold ledger
  repeat' first
    | with_reducible assumption
    | with_reducible apply ledgerLose_touch (within_trans (by decide) w)
    | with_reducible apply ledgerOverflow_touch (within_trans (by decide) w)
    | with_reducible apply ledgerWrite_touch (within_trans (by decide) w)
    | split
    | intro _
    | dsimp only

theorem ledgerDevice_touch {m s0 a0 a1 s} (w : Within 0x620000004000 m) (h : Touch m s0 s) : Touch m s0 (ledgerDevice a0 a1 s) := by
  unfold ledgerDevice
  repeat' first
    | with_reducible assumption
    | with_reducible apply ledger_touch (within_trans (by decide) w)

theorem sendMsg_touch {m s0 a0 a1 a2 a3 s} (w : Within 0x2000000 m) (h : Touch m s0 s) : Touch m s0 (sendMsg a0 a1 a2 a3 s) := by
  unfold sendMsg
  repeat' first
    | with_reducible assumption
    | with_reducible apply modPort_touch (within_trans (by decide) w)

theorem sendAck_touch {m s0 a0 a1 a2 s} (w : Within 0x2000000 m) (h : Touch m s0 s) : Touch m s0 (sendAck a0 a1 a2 s) := by
  unfold sendAck
  repeat' first
    | with_reducible assumption
    | with_reducible apply modPort_touch (within_trans (by decide) w)

theorem noteTag_touch {m s0 a0 a1 a2 s} (w : Within 0x2000000 m) (h : Touch m s0 s) : Touch m s0 (noteTag a0 a1 a2 s) := by
  unfold noteTag
  repeat' first
    | with_reducible assumption
    | with_reducible apply modPort_touch (within_trans (by decide) w)

theorem onReliable_touch {m n y g f s0 s} (w : Within 0x2000000 m) (hf : ∀ t, Touch m s0 t → Touch m s0 (f t)) (h : Touch m s0 s) :
    Touch m s0 (onReliable n y g f s) := by
  unfold onReliable
  split
  · exact hf _ (noteTag_touch (within_trans (by decide) w) (sendAck_touch (within_trans (by decide) w) h))
  · exact sendAck_touch (within_trans (by decide) w) h

theorem txNotice_touch {m s0 a0 a1 a2 s} (w : Within 0xc00004000000 m) (h : Touch m s0 s) : Touch m s0 (txNotice a0 a1 a2 s) := by
  unfold txNotice
  repeat' first
    | with_reducible assumption
    | with_reducible apply modHost_touch (within_trans (by decide) w)
    | with_reducible apply countDev_touch (within_trans (by decide) w)
    | with_reducible apply wrP_touch (within_trans (by decide) w)

theorem rxNotice_touch {m s0 a0 a1 a2 s} (w : Within 0x400004000000 m) (h : Touch m s0 s) : Touch m s0 (rxNotice a0 a1 a2 s) := by
  unfold rxNotice
  repeat' first
    | with_reducible assumption
    | with_reducible apply countDev_touch (within_trans (by decide) w)
    | with_reducible apply modHost_touch (within_trans (by decide) w)

theorem updateSplit_touch {m s0 a0 s} (w : Within 0xc08000000000 m) (h : Touch m s0 s) : Touch m s0 (updateSplit a0 s) := by
  unfold updateSplit
  repeat' first
    | with_reducible assumption
    | with_reducible apply countDev_touch (within_trans (by decide) w)
    | with_reducible refine evL_touch (within_trans (by decide) w) ?_
    | with_reducible apply wrP_touch (within_trans (by decide) w)
    | split

theorem updateSplits_touch {m s0 a0 s} (w : Within 0xc08000000000 m) (h : Touch m s0 s) : Touch m s0 (updateSplits a0 s) := by
  unfold updateSplits
  repeat' first
    | with_reducible assumption
    | with_reducible apply updateSplit_touch (within_trans (by decide) w)
    | with_reducible apply forL_touch
    | split
    | intro _

theorem updateState_touch {m s0 a0 s} (w : Within 0xc00000000000 m) (h : Touch m s0 s) : Touch m s0 (updateState a0 s) := by
  unfold updateState
  repeat' first
    | with_reducible assumption
    | with_reducible apply countDev_touch (within_trans (by decide) w)
    | with_reducible apply evP_touch (within_trans (by decide) w)
    | with_reducible apply wrP_touch (within_trans (by decide) w)
    | split

theorem setReason_touch {m s0 a0 a1 a2 s} (w : Within 0xc00002000000 m) (h : Touch m s0 s) : Touch m s0 (setReason a0 a1 a2 s) := by
  unfold setReason
  repeat' first
    | with_reducible assumption
    | with_reducible apply updateState_touch (within_trans (by decide) w)
    | with_reducible apply modPort_touch (within_trans (by decide) w)
    | with_reducible apply wrP_touch (within_trans (by decide) w)
    | with_reducible apply whenB_touch
    | split
    | intro _

theorem updateRateReason_touch {m s0 a0 s} (w : Within 0xc00002000000 m) (h : Touch m s0 s) : Touch m s0 (updateRateReason a0 s) := by
  unfold updateRateReason
  repeat' first
    | with_reducible assumption
    | with_reducible apply setReason_touch (within_trans (by decide) w)

theorem portUp_touch {m s0 a0 s} (w : Within 0xc08002000000 m) (h : Touch m s0 s) : Touch m s0 (portUp a0 s) := by
  unfold portUp
  repeat' first
    | with_reducible assumption
    | with_reducible apply wrP_touch (within_trans (by decide) w)
    | with_reducible apply modPort_touch (within_trans (by decide) w)
    | with_reducible apply setReason_touch (within_trans (by decide) w)
    | with_reducible apply updateSplit_touch (within_trans (by decide) w)

theorem dropStaged_touch {m s0 a0 s} (w : Within 0x10000000 m) (h : Touch m s0 s) : Touch m s0 (dropStaged a0 s) := by
  unfold dropStaged
  repeat' first
    | with_reducible assumption
    | with_reducible apply mapLots_touch (within_trans (by decide) w)

theorem leaveStore_touch {m s0 a0 s} (w : Within 0x10000000 m) (h : Touch m s0 s) : Touch m s0 (leaveStore a0 s) := by
  unfold leaveStore
  repeat' first
    | with_reducible assumption
    | with_reducible apply modCh_touch (within_trans (by decide) w)

theorem endJoin_touch {m s0 a0 s} (w : Within 0x10000000 m) (h : Touch m s0 s) : Touch m s0 (endJoin a0 s) := by
  unfold endJoin
  repeat' first
    | with_reducible assumption
    | with_reducible apply leaveStore_touch (within_trans (by decide) w)
    | with_reducible apply modCh_touch (within_trans (by decide) w)

theorem chDormant_touch {m s0 a0 s} (w : Within 0x800010000000 m) (h : Touch m s0 s) : Touch m s0 (chDormant a0 s) := by
  unfold chDormant
  repeat' first
    | with_reducible assumption
    | with_reducible apply endJoin_touch (within_trans (by decide) w)
    | with_reducible apply dropStaged_touch (within_trans (by decide) w)
    | with_reducible apply modCh_touch (within_trans (by decide) w)
    | with_reducible apply mapLots_touch (within_trans (by decide) w)
    | with_reducible apply wrP_touch (within_trans (by decide) w)
    | split
    | intro _
    | dsimp only

theorem chLeave_touch {m s0 a0 s} (w : Within 0x800010000000 m) (h : Touch m s0 s) : Touch m s0 (chLeave a0 s) := by
  unfold chLeave
  repeat' first
    | with_reducible assumption
    | with_reducible apply modCh_touch (within_trans (by decide) w)
    | with_reducible apply leaveStore_touch (within_trans (by decide) w)
    | with_reducible apply chDormant_touch (within_trans (by decide) w)
    | split
    | intro _
    | dsimp only

theorem clearTrain_touch {m s0 a0 s} (w : Within 0x800000000000 m) (h : Touch m s0 s) : Touch m s0 (clearTrain a0 s) := by
  unfold clearTrain
  repeat' first
    | with_reducible assumption
    | with_reducible refine wrRegP_touch (within_trans (by decide) w) ?_

theorem saveElapsed_touch {m s0 a0 s} (w : Within 0x800000000000 m) (h : Touch m s0 s) : Touch m s0 (saveElapsed a0 s) := by
  unfold saveElapsed
  repeat' first
    | with_reducible assumption
    | with_reducible apply wrP_touch (within_trans (by decide) w)
    | split

theorem portDown_touch {m s0 a0 a1 s} (w : Within 0xc08017000000 m) (h : Touch m s0 s) : Touch m s0 (portDown a0 a1 s) := by
  unfold portDown
  repeat' first
    | with_reducible assumption
    | with_reducible apply chLeave_touch (within_trans (by decide) w)
    | with_reducible apply saveElapsed_touch (within_trans (by decide) w)
    | with_reducible apply modPort_touch (within_trans (by decide) w)
    | with_reducible refine wrRegP_touch (within_trans (by decide) w) ?_
    | with_reducible refine wrRegPm0_touch (within_trans (by decide) w) ?_
    | with_reducible refine wrReg_touch (within_trans (by decide) w) ?_
    | with_reducible refine wrReg_touchAll (within_trans (by decide) w) ?_
    | with_reducible apply clearTrain_touch (within_trans (by decide) w)
    | with_reducible apply modTt_touch (within_trans (by decide) w)
    | with_reducible apply modHost_touch (within_trans (by decide) w)
    | with_reducible apply wrP_touch (within_trans (by decide) w)
    | with_reducible apply updateSplit_touch (within_trans (by decide) w)
    | with_reducible apply countDev_touch (within_trans (by decide) w)
    | with_reducible apply evP_touch (within_trans (by decide) w)
    | with_reducible apply whenB_touch
    | split
    | intro _

theorem endRetrain_touch {m s0 a0 a1 a2 s} (w : Within 0x400002028000 m) (h : Touch m s0 s) : Touch m s0 (endRetrain a0 a1 a2 s) := by
  unfold endRetrain
  repeat' first
    | with_reducible assumption
    | with_reducible apply modPort_touch (within_trans (by decide) w)
    | with_reducible apply endOp_touch (within_trans (by decide) w)
    | split

theorem startAn_touch {m s0 a0 s} (w : Within 0x800802000000 m) (h : Touch m s0 s) : Touch m s0 (startAn a0 s) := by
  unfold startAn
  repeat' first
    | with_reducible assumption
    | with_reducible apply modPort_touch (within_trans (by decide) w)
    | with_reducible apply wrP_touch (within_trans (by decide) w)
    | with_reducible apply draw_touch (within_trans (by decide) w)
    | with_reducible apply evP_touch (within_trans (by decide) w)
    | split

theorem downRestart_touch {m s0 a0 a1 s} (w : Within 0xc08817000000 m) (h : Touch m s0 s) : Touch m s0 (downRestart a0 a1 s) := by
  unfold downRestart
  repeat' first
    | with_reducible assumption
    | with_reducible apply startAn_touch (within_trans (by decide) w)
    | with_reducible apply portDown_touch (within_trans (by decide) w)

theorem restoreModes_touch {m s0 a0 s} (w : Within 0x800002000000 m) (h : Touch m s0 s) : Touch m s0 (restoreModes a0 s) := by
  unfold restoreModes
  repeat' first
    | with_reducible assumption
    | with_reducible apply wrP_touch (within_trans (by decide) w)
    | with_reducible apply modPort_touch (within_trans (by decide) w)

theorem retrainPort_touch {m s0 a0 s} (w : Within 0xc08817000000 m) (h : Touch m s0 s) : Touch m s0 (retrainPort a0 s) := by
  unfold retrainPort
  repeat' first
    | with_reducible assumption
    | with_reducible apply downRestart_touch (within_trans (by decide) w)

theorem tellerCheck_touch {m s0 a0 s} (w : Within 0x2800000800 m) (h : Touch m s0 s) : Touch m s0 (tellerCheck a0 s) := by
  unfold tellerCheck
  repeat' first
    | with_reducible assumption
    | with_reducible apply draw_touch (within_trans (by decide) w)
    | with_reducible refine evGRail_touch (within_trans (by decide) w) ?_
    | with_reducible refine evGBit_touch (within_trans (by decide) w) ?_
    | with_reducible refine evG_touch (within_trans (by decide) w) ?_
    | with_reducible refine evG_touchAll (within_trans (by decide) w) ?_
    | with_reducible refine addCntG_touch (within_trans (by decide) w) ?_
    | with_reducible refine addCntP_touch (within_trans (by decide) w) ?_
    | with_reducible refine addCntL_touch (within_trans (by decide) w) ?_
    | with_reducible refine addCnt_touchAll (within_trans (by decide) w) ?_
    | exact touchUpd w h (by rfl) (by rfl) (by rfl) (by rfl) (by rfl)
        (fun q e => by cases q <;> first | exact absurd e (by decide) | rfl | exact fun _ _ => rfl)
    | split
    | intro _
    | dsimp only

theorem startTime_touch {m s0 s} (w : Within 0x10000400000 m) (h : Touch m s0 s) : Touch m s0 (startTime s) := by
  unfold startTime
  repeat' first
    | with_reducible assumption
    | with_reducible refine wrGRail_touch (within_trans (by decide) w) ?_
    | with_reducible refine wrG_touch (within_trans (by decide) w) ?_
    | with_reducible refine wrG_touchAll (within_trans (by decide) w) ?_
    | with_reducible apply modTime_touch (within_trans (by decide) w)

theorem stopTime_touch {m s0 s} (w : Within 0x400000 m) (h : Touch m s0 s) : Touch m s0 (stopTime s) := by
  unfold stopTime
  repeat' first
    | with_reducible assumption
    | with_reducible apply modTime_touch (within_trans (by decide) w)

theorem laneProgress_touch {m s0 a0 s} (w : Within 0x400000028000 m) (h : Touch m s0 s) : Touch m s0 (laneProgress a0 s) := by
  unfold laneProgress
  repeat' first
    | with_reducible assumption
    | with_reducible apply opProgress_touch (within_trans (by decide) w)

theorem laneTrainEnd_touch {m s0 a0 s} (w : Within 0x400008028000 m) (h : Touch m s0 s) : Touch m s0 (laneTrainEnd a0 s) := by
  unfold laneTrainEnd
  repeat' first
    | with_reducible assumption
    | with_reducible apply endOp_touch (within_trans (by decide) w)
    | with_reducible apply modLane_touch (within_trans (by decide) w)
    | with_reducible apply forL_touch
    | split
    | intro _
    | dsimp only

theorem laneFinish_touch {m s0 a0 s} (w : Within 0x400008028000 m) (h : Touch m s0 s) : Touch m s0 (laneFinish a0 s) := by
  unfold laneFinish
  repeat' first
    | with_reducible assumption
    | with_reducible apply laneTrainEnd_touch (within_trans (by decide) w)
    | with_reducible apply modLane_touch (within_trans (by decide) w)
    | with_reducible apply opItem_touch (within_trans (by decide) w)
    | split

theorem laneFlush_touch {m s0 a0 s} (w : Within 0x800008000000 m) (h : Touch m s0 s) : Touch m s0 (laneFlush a0 s) := by
  unfold laneFlush
  repeat' first
    | with_reducible assumption
    | with_reducible apply modLane_touch (within_trans (by decide) w)
    | with_reducible refine addCntG_touch (within_trans (by decide) w) ?_
    | with_reducible refine addCntP_touch (within_trans (by decide) w) ?_
    | with_reducible refine addCntL_touch (within_trans (by decide) w) ?_
    | with_reducible refine addCnt_touchAll (within_trans (by decide) w) ?_
    | with_reducible apply forL_touch
    | split
    | intro _

theorem laneSet_touch {m s0 a0 a1 s} (w : Within 0xc08008000000 m) (h : Touch m s0 s) : Touch m s0 (laneSet a0 a1 s) := by
  unfold laneSet
  repeat' first
    | with_reducible assumption
    | with_reducible apply laneFlush_touch (within_trans (by decide) w)
    | with_reducible refine wrL_touch (within_trans (by decide) w) ?_
    | with_reducible apply updateSplits_touch (within_trans (by decide) w)
    | with_reducible apply modLane_touch (within_trans (by decide) w)

theorem laneOff_touch {m s0 a0 s} (w : Within 0xc08008028000 m) (h : Touch m s0 s) : Touch m s0 (laneOff a0 s) := by
  unfold laneOff
  repeat' first
    | with_reducible assumption
    | with_reducible apply laneFinish_touch (within_trans (by decide) w)
    | with_reducible apply laneSet_touch (within_trans (by decide) w)

theorem laneStep2_touch {m s0 a0 s} (w : Within 0x8008000000 m) (h : Touch m s0 s) : Touch m s0 (laneStep2 a0 s) := by
  unfold laneStep2
  repeat' first
    | with_reducible assumption
    | with_reducible refine wrL_touch (within_trans (by decide) w) ?_
    | with_reducible refine evL_touch (within_trans (by decide) w) ?_
    | with_reducible apply modLane_touch (within_trans (by decide) w)
    | split
    | intro _
    | dsimp only

theorem laneGo_touch {m s0 a0 a1 s} (w : Within 0xc08008028000 m) (h : Touch m s0 s) : Touch m s0 (laneGo a0 a1 s) := by
  unfold laneGo
  repeat' first
    | with_reducible assumption
    | with_reducible apply laneSet_touch (within_trans (by decide) w)
    | with_reducible apply laneStep2_touch (within_trans (by decide) w)
    | with_reducible apply laneOff_touch (within_trans (by decide) w)
    | split

theorem laneAuto_touch {m s0 a0 s} (w : Within 0xc08008028000 m) (h : Touch m s0 s) : Touch m s0 (laneAuto a0 s) := by
  unfold laneAuto
  repeat' first
    | with_reducible assumption
    | with_reducible apply laneGo_touch (within_trans (by decide) w)
    | split

theorem wakePort_touch {m s0 a0 s} (w : Within 0x800802000000 m) (h : Touch m s0 s) : Touch m s0 (wakePort a0 s) := by
  unfold wakePort
  repeat' first
    | with_reducible assumption
    | with_reducible apply startAn_touch (within_trans (by decide) w)
    | with_reducible apply wrP_touch (within_trans (by decide) w)
    | split

theorem wakePorts_touch {m s0 a0 s} (w : Within 0x800802000000 m) (h : Touch m s0 s) : Touch m s0 (wakePorts a0 s) := by
  unfold wakePorts
  repeat' first
    | with_reducible assumption
    | with_reducible apply wakePort_touch (within_trans (by decide) w)
    | with_reducible apply forL_touch
    | intro _

theorem portsDown_touch {m s0 a0 a1 s} (w : Within 0xc08017000000 m) (h : Touch m s0 s) : Touch m s0 (portsDown a0 a1 s) := by
  unfold portsDown
  repeat' first
    | with_reducible assumption
    | with_reducible apply portDown_touch (within_trans (by decide) w)
    | with_reducible apply forL_touch
    | split
    | intro _

theorem blockStart_touch {m s0 a0 s} (w : Within 0xc1880a428000 m) (h : Touch m s0 s) : Touch m s0 (blockStart a0 s) := by
  unfold blockStart
  repeat' first
    | with_reducible assumption
    | with_reducible apply wakePorts_touch (within_trans (by decide) w)
    | with_reducible apply laneAuto_touch (within_trans (by decide) w)
    | with_reducible apply startTime_touch (within_trans (by decide) w)
    | split

theorem blockStop_touch {m s0 a0 s} (w : Within 0xc08008428000 m) (h : Touch m s0 s) : Touch m s0 (blockStop a0 s) := by
  unfold blockStop
  repeat' first
    | with_reducible assumption
    | with_reducible apply laneOff_touch (within_trans (by decide) w)
    | with_reducible apply stopTime_touch (within_trans (by decide) w)
    | split

theorem settle_touch {m s0 s s1} (w : Within 0xc1880a428000 m) (h : Touch m s0 s) (h1 : Touch m s0 s1) : Touch m s0 (settle s s1) := by
  unfold settle
  repeat' first
    | with_reducible assumption
    | with_reducible apply blockStop_touch (within_trans (by decide) w)
    | with_reducible apply blockStart_touch (within_trans (by decide) w)
    | with_reducible apply forL_touch
    | split
    | intro _

theorem auditShow_touch {m s0 s} (w : Within 0x100000000000 m) (h : Touch m s0 s) : Touch m s0 (auditShow s) := by
  unfold auditShow
  repeat' first
    | with_reducible assumption
    | with_reducible refine wrGRail_touch (within_trans (by decide) w) ?_
    | with_reducible refine wrG_touch (within_trans (by decide) w) ?_

theorem modBlock_touch {m s0 a0 a1 s} (w : Within 0x80000000 m) (h : Touch m s0 s) : Touch m s0 (modBlock a0 a1 s) := by
  unfold modBlock
  repeat' first
    | with_reducible assumption
    | with_reducible apply modAudit_touch (within_trans (by decide) w)

theorem bankEmpty_touch {m s0 s} (w : Within 0x10000000 m) (h : Touch m s0 s) : Touch m s0 (bankEmpty s) := by
  unfold bankEmpty
  repeat' first
    | with_reducible assumption
    | with_reducible apply modCh_touch (within_trans (by decide) w)

theorem auditWipe_touch {m s0 a0 s} (w : Within 0x210000000 m) (h : Touch m s0 s) : Touch m s0 (auditWipe a0 s) := by
  unfold auditWipe
  repeat' first
    | with_reducible assumption
    | with_reducible apply bankEmpty_touch (within_trans (by decide) w)
    | with_reducible apply clearMem_touch (within_trans (by decide) w)
    | split

theorem auditFree_touch {m s0 a0 s} (w : Within 0xc0888a028000 m) (h : Touch m s0 s) : Touch m s0 (auditFree a0 s) := by
  unfold auditFree
  repeat' first
    | with_reducible assumption
    | with_reducible apply modAudit_touch (within_trans (by decide) w)
    | with_reducible apply wakePorts_touch (within_trans (by decide) w)
    | with_reducible apply laneAuto_touch (within_trans (by decide) w)
    | split

theorem auditOver_touch {m s0 s} (w : Within 0x100080000000 m) (h : Touch m s0 s) : Touch m s0 (auditOver s) := by
  unfold auditOver
  repeat' first
    | with_reducible assumption
    | with_reducible apply auditShow_touch (within_trans (by decide) w)
    | with_reducible apply modAudit_touch (within_trans (by decide) w)
    | split

theorem sliceResult_touch {m s0 a0 a1 s} (w : Within 0x500080008000 m) (h : Touch m s0 s) : Touch m s0 (sliceResult a0 a1 s) := by
  unfold sliceResult
  repeat' first
    | with_reducible assumption
    | with_reducible apply journalEvent_touch (within_trans (by decide) w)
    | with_reducible apply modAudit_touch (within_trans (by decide) w)
    | with_reducible refine evGRail_touch (within_trans (by decide) w) ?_
    | with_reducible refine evGBit_touch (within_trans (by decide) w) ?_
    | with_reducible refine evG_touch (within_trans (by decide) w) ?_
    | with_reducible refine evG_touchAll (within_trans (by decide) w) ?_
    | split

theorem auditCut_touch {m s0 a0 s} (w : Within 0xd0889a028000 m) (h : Touch m s0 s) : Touch m s0 (auditCut a0 s) := by
  unfold auditCut
  repeat' first
    | with_reducible assumption
    | with_reducible apply sliceResult_touch (within_trans (by decide) w)
    | with_reducible apply modBlock_touch (within_trans (by decide) w)
    | with_reducible apply modAudit_touch (within_trans (by decide) w)
    | with_reducible apply auditFree_touch (within_trans (by decide) w)
    | with_reducible refine evGRail_touch (within_trans (by decide) w) ?_
    | with_reducible refine evGBit_touch (within_trans (by decide) w) ?_
    | with_reducible refine evG_touch (within_trans (by decide) w) ?_
    | with_reducible refine evG_touchAll (within_trans (by decide) w) ?_
    | with_reducible apply bankEmpty_touch (within_trans (by decide) w)
    | with_reducible apply forL_touch
    | split
    | intro _

theorem auditAsk_touch {m s0 a0 s} (w : Within 0xd0889a028000 m) (h : Touch m s0 s) : Touch m s0 (auditAsk a0 s) := by
  unfold auditAsk
  repeat' first
    | with_reducible assumption
    | with_reducible apply auditFree_touch (within_trans (by decide) w)
    | with_reducible apply modAudit_touch (within_trans (by decide) w)
    | with_reducible apply auditCut_touch (within_trans (by decide) w)
    | split

theorem auditRequest_touch {m s0 a0 s} (w : Within 0xd0889a028000 m) (h : Touch m s0 s) : Touch m s0 (auditRequest a0 s) := by
  unfold auditRequest
  repeat' first
    | with_reducible assumption
    | with_reducible apply auditOver_touch (within_trans (by decide) w)
    | with_reducible apply auditAsk_touch (within_trans (by decide) w)
    | split

theorem auditAbort_touch {m s0 a0 s} (w : Within 0xd0889a028000 m) (h : Touch m s0 s) : Touch m s0 (auditAbort a0 s) := by
  unfold auditAbort
  repeat' first
    | with_reducible assumption
    | with_reducible apply modAudit_touch (within_trans (by decide) w)
    | with_reducible apply auditFree_touch (within_trans (by decide) w)
    | with_reducible apply auditShow_touch (within_trans (by decide) w)
    | with_reducible apply bankEmpty_touch (within_trans (by decide) w)
    | with_reducible apply auditOver_touch (within_trans (by decide) w)
    | with_reducible apply forL_touch
    | split
    | intro _
    | dsimp only

theorem safeEntry_touch {m s0 s} (w : Within 0x400000108000 m) (h : Touch m s0 s) : Touch m s0 (safeEntry s) := by
  unfold safeEntry
  repeat' first
    | with_reducible assumption
    | with_reducible apply journalEvent_touch (within_trans (by decide) w)
    | with_reducible apply modClk_touch (within_trans (by decide) w)
    | split

theorem safeEnter_touch {m f s0 s} (w : Within 0xd1889a528000 m) (hf : ∀ t, Touch m s0 t → Touch m s0 (f t)) (h : Touch m s0 s) :
    Touch m s0 (safeEnter f s) := by
  unfold safeEnter
  have h1 := settle_touch (within_trans (by decide) w) h (hf s h)
  dsimp only
  split
  · exact auditAbort_touch (within_trans (by decide) w) (safeEntry_touch (within_trans (by decide) w) (countDev_touch (within_trans (by decide) w)
        h1))
  · exact h1

theorem holdAll_touch {m s0 s} (w : Within 0x40000000000 m) (h : Touch m s0 s) : Touch m s0 (holdAll s) := by
  unfold holdAll
  repeat' first
    | with_reducible assumption
    | with_reducible refine wrGRail_touch (within_trans (by decide) w) ?_
    | with_reducible refine wrG_touch (within_trans (by decide) w) ?_

theorem safeDrop_touch {m s0 s} (w : Within 0xc5881a428000 m) (h : Touch m s0 s) : Touch m s0 (safeDrop s) := by
  unfold safeDrop
  repeat' first
    | with_reducible assumption
    | with_reducible apply modCh_touch (within_trans (by decide) w)
    | with_reducible refine wrGRail_touch (within_trans (by decide) w) ?_
    | with_reducible refine wrG_touch (within_trans (by decide) w) ?_
    | with_reducible refine wrG_touchAll (within_trans (by decide) w) ?_
    | with_reducible apply settle_touch (within_trans (by decide) w)
    | with_reducible apply journalEvent_touch (within_trans (by decide) w)

theorem Plan_selftest_touch {m b s} (w : Within 0xd0889a028000 m) : PlanTouch m (Plan.selftest b s) :=
  ⟨fun _ _ h => auditRequest_touch (within_trans (by decide) w) (draw_touch (within_trans (by decide) w) h)⟩

/-- The audit's check. -/
theorem inAudit_touch {m s g} (w : Within 0xd0889a028000 m) : ChkTouch m (inAudit s g) := chk_touch (Plan_selftest_touch w)

theorem laneGates_touch {m s gs} (w : Within 0xd0889a028000 m) : ChecksTouch m (laneGates s gs) :=
  checksT_append (checksT_map fun _ => gated_touch) (checksT_map fun _ => inAudit_touch w)

theorem Plan_long_touch {m s o r n f} (w : Within 0x400800038000 m) (hf : ∀ x s0 t, Touch m s0 t → Touch m s0 (f x t)) :
    PlanTouch m (Plan.long s o r n f) := by
  unfold Plan.long
  split
  · exact refuse_touch
  · exact ⟨fun _ _ h => hf _ _ _ (startOp_touch (within_trans (by decide) w) (draw_touch (within_trans (by decide) w) h))⟩

theorem modSession_touch {m s0 a0 a1 s} (w : Within 0x2000 m) (h : Touch m s0 s) : Touch m s0 (modSession a0 a1 s) := by
  unfold modSession
  repeat' first
    | with_reducible assumption
    | with_reducible apply modSec_touch (within_trans (by decide) w)

theorem ledgerEnd_touch {m s0 a0 a1 a2 s} (w : Within 0x620000004000 m) (h : Touch m s0 s) : Touch m s0 (ledgerEnd a0 a1 a2 s) := by
  unfold ledgerEnd
  repeat' first
    | with_reducible assumption
    | with_reducible apply ledger_touch (within_trans (by decide) w)
    | split

theorem endSession_touch {m s0 a0 a1 s} (w : Within 0x620000006000 m) (h : Touch m s0 s) : Touch m s0 (endSession a0 a1 s) := by
  unfold endSession
  repeat' first
    | with_reducible assumption
    | with_reducible apply ledgerEnd_touch (within_trans (by decide) w)
    | with_reducible apply modSec_touch (within_trans (by decide) w)
    | split

theorem endSessions_touch {m s0 a0 s} (w : Within 0x620000006000 m) (h : Touch m s0 s) : Touch m s0 (endSessions a0 s) := by
  unfold endSessions
  repeat' first
    | with_reducible assumption
    | with_reducible apply modSec_touch (within_trans (by decide) w)
    | with_reducible apply endSession_touch (within_trans (by decide) w)
    | with_reducible apply forL_touch
    | split
    | intro _

theorem dropSessions_touch {m s0 s} (w : Within 0x2000 m) (h : Touch m s0 s) : Touch m s0 (dropSessions s) := by
  unfold dropSessions
  repeat' first
    | with_reducible assumption
    | with_reducible apply modSec_touch (within_trans (by decide) w)

theorem ledgerEnds_touch {m s0 a0 s} (w : Within 0x620000006000 m) (h : Touch m s0 s) : Touch m s0 (ledgerEnds a0 s) := by
  unfold ledgerEnds
  repeat' first
    | with_reducible assumption
    | with_reducible apply modSec_touch (within_trans (by decide) w)
    | with_reducible apply ledgerEnd_touch (within_trans (by decide) w)
    | with_reducible apply forL_touch
    | split
    | intro _

theorem modGuard_touch {m s0 a0 a1 s} (w : Within 0x2000 m) (h : Touch m s0 s) : Touch m s0 (modGuard a0 a1 s) := by
  unfold modGuard
  repeat' first
    | with_reducible assumption
    | with_reducible apply modSec_touch (within_trans (by decide) w)

theorem wakeDoze_touch {m s0 s} (w : Within 0x480000200000 m) (h : Touch m s0 s) : Touch m s0 (wakeDoze s) := by
  unfold wakeDoze
  repeat' first
    | with_reducible assumption
    | with_reducible apply countDev_touch (within_trans (by decide) w)
    | with_reducible refine evGRail_touch (within_trans (by decide) w) ?_
    | with_reducible refine evGBit_touch (within_trans (by decide) w) ?_
    | with_reducible refine evG_touch (within_trans (by decide) w) ?_
    | with_reducible refine evG_touchAll (within_trans (by decide) w) ?_
    | with_reducible refine wrGRail_touch (within_trans (by decide) w) ?_
    | with_reducible refine wrG_touch (within_trans (by decide) w) ?_
    | with_reducible refine wrG_touchAll (within_trans (by decide) w) ?_
    | with_reducible apply modPower_touch (within_trans (by decide) w)
    | split

theorem setDropped_touch {m s0 s} (w : Within 0x1000 m) (h : Touch m s0 s) : Touch m s0 (setDropped s) := by
  unfold setDropped
  repeat' first
    | with_reducible assumption
    | with_reducible apply modCp_touch (within_trans (by decide) w)

theorem discardPacket_touch {m s0 s} (w : Within 0x400000001000 m) (h : Touch m s0 s) : Touch m s0 (discardPacket s) := by
  unfold discardPacket
  repeat' first
    | with_reducible assumption
    | with_reducible apply countDev_touch (within_trans (by decide) w)
    | with_reducible apply setDropped_touch (within_trans (by decide) w)

theorem discardBad_touch {m s0 s} (w : Within 0x402000001000 m) (h : Touch m s0 s) : Touch m s0 (discardBad s) := by
  unfold discardBad
  repeat' first
    | with_reducible assumption
    | with_reducible refine addCntG_touch (within_trans (by decide) w) ?_
    | with_reducible refine addCntP_touch (within_trans (by decide) w) ?_
    | with_reducible refine addCntL_touch (within_trans (by decide) w) ?_
    | with_reducible refine addCnt_touchAll (within_trans (by decide) w) ?_
    | with_reducible apply discardPacket_touch (within_trans (by decide) w)

theorem holdReply_touch {m s0 a0 s} (w : Within 0x1000 m) (h : Touch m s0 s) : Touch m s0 (holdReply a0 s) := by
  unfold holdReply
  repeat' first
    | with_reducible assumption
    | with_reducible apply modCp_touch (within_trans (by decide) w)

theorem storeReply_touch {m s0 a0 a1 s} (w : Within 0x3000 m) (h : Touch m s0 s) : Touch m s0 (storeReply a0 a1 s) := by
  unfold storeReply
  repeat' first
    | with_reducible assumption
    | with_reducible apply modCp_touch (within_trans (by decide) w)
    | with_reducible apply modSession_touch (within_trans (by decide) w)
    | split

theorem complete_touch {m s0 a0 a1 a2 a3 s} (w : Within 0x3000 m) (h : Touch m s0 s) : Touch m s0 (complete a0 a1 a2 a3 s) := by
  unfold complete
  repeat' first
    | with_reducible assumption
    | with_reducible apply holdReply_touch (within_trans (by decide) w)
    | with_reducible apply storeReply_touch (within_trans (by decide) w)

theorem judge_touch {m s0 a0 s} (w : Within 0x2000003000 m) (h : Touch m s0 s) : Touch m s0 (judge a0 s) := by
  unfold judge
  repeat' first
    | with_reducible assumption
    | with_reducible refine addCntG_touch (within_trans (by decide) w) ?_
    | with_reducible refine addCntP_touch (within_trans (by decide) w) ?_
    | with_reducible refine addCntL_touch (within_trans (by decide) w) ?_
    | with_reducible refine addCnt_touchAll (within_trans (by decide) w) ?_
    | with_reducible apply holdReply_touch (within_trans (by decide) w)
    | with_reducible apply modCp_touch (within_trans (by decide) w)
    | with_reducible apply complete_touch (within_trans (by decide) w)
    | split

theorem arrive_touch {m s0 a0 s} (w : Within 0x402000003000 m) (h : Touch m s0 s) : Touch m s0 (arrive a0 s) := by
  unfold arrive
  repeat' first
    | with_reducible assumption
    | with_reducible apply modCp_touch (within_trans (by decide) w)
    | with_reducible apply discardPacket_touch (within_trans (by decide) w)
    | with_reducible apply judge_touch (within_trans (by decide) w)
    | with_reducible apply discardBad_touch (within_trans (by decide) w)
    | split
    | intro _
    | dsimp only

theorem planOf_touch {m o c s} (ho : OpTouch m o) : PlanTouch m (planOf o c s) := by
  have key : ∀ (b : Plan → Bool) (p : Plan), PlanTouch m p → PlanTouch m (if b p = true then Plan.refuse .ledgerFull 0 else p) := by
    intro b p h
    split
    · exact refuse_touch
    · exact h
  unfold planOf
  refine key (fun p => p.executed && o.change && atLeast (roleOf s c) (some .installer) && ledgerFull s) _ ?_
  refine firstOf_touch ?_ (ho.plan _ _ _)
  exact checksT_cons (chk_touch refuse_touch) (checksT_cons (chk_touch refuse_touch)
    (checksT_cons (chk_touch refuse_touch) (checksT_cons bad_touch checksT_nil)))

theorem namedCheck_touch {m s0 a0 s} (w : Within 0x2800000800 m) (h : Touch m s0 s) : Touch m s0 (namedCheck a0 s) := by
  unfold namedCheck
  repeat' first
    | with_reducible assumption
    | with_reducible apply tellerCheck_touch (within_trans (by decide) w)
    | split

theorem beforeEffect_touch {m o c p s0 s} (w : Within 0x6a2800206800 m) (h : Touch m s0 s) : Touch m s0 (beforeEffect o c p s) := by
  unfold beforeEffect
  repeat' first
    | with_reducible assumption
    | with_reducible apply namedCheck_touch (within_trans (by decide) w)
    | with_reducible apply countDev_touch (within_trans (by decide) w)
    | with_reducible apply pmEv_touch (within_trans (by decide) w)
    | with_reducible apply ledger_touch (within_trans (by decide) w)
    | with_reducible apply wakeDoze_touch (within_trans (by decide) w)
    | with_reducible apply modSession_touch (within_trans (by decide) w)
    | split

theorem carryOut_touch {m o c p s0 s} (w : Within 0x6a2800207800 m) (hp : PlanTouch m p) (h : Touch m s0 s) :
    Touch m s0 (carryOut o c p s) :=
  complete_touch (within_trans (by decide) w) (hp.touch _ _ (beforeEffect_touch (within_trans (by decide) w) h))

theorem process_touch {m o c s0 s} (w : Within 0x6a2800207800 m) (ho : OpTouch m o) (h : Touch m s0 s) : Touch m s0 (process o c s) := by
  unfold process
  split
  · exact carryOut_touch (within_trans (by decide) w) (planOf_touch ho) h
  · exact h

theorem runOpcode_touch {m o c s0 s} (w : Within 0x6a2800207800 m) (ho : OpTouch m o) (h : Touch m s0 s) :
    OutTouch m s0 (.next (runOpcode o c s)) := by
  refine outTouch ?_
  unfold runOpcode
  refine process_touch (within_trans (by decide) w) ho ?_
  split
  · exact h
  · exact arrive_touch (within_trans (by decide) w) h

theorem loadShadow_touch {m s0 s} (w : Within 0x20000080000 m) (h : Touch m s0 s) : Touch m s0 (loadShadow s) := by
  unfold loadShadow
  repeat' first
    | with_reducible assumption
    | with_reducible refine modVault_touch (within_trans (by decide) w) ?_ rfl
    | with_reducible refine wrGRail_touch (within_trans (by decide) w) ?_
    | with_reducible refine wrG_touch (within_trans (by decide) w) ?_

theorem vaultPlan_touch {m a0 a1 s} (w : Within 0x4008000b8000 m) : PlanTouch m (vaultPlan a0 a1 s) := by
  unfold vaultPlan
  repeat' first
    | with_reducible assumption
    | with_reducible apply firstOf_touch
    | with_reducible apply checksT_cons
    | with_reducible exact checksT_nil
    | with_reducible apply chk_touch
    | with_reducible exact bad_touch
    | with_reducible exact busy_touch (within_trans (by decide) w)
    | with_reducible apply checksT_append
    | with_reducible exact done_id_touch
    | with_reducible apply some_touch
    | with_reducible exact none_touch
    | with_reducible apply done_touch
    | with_reducible apply Plan_long_touch (within_trans (by decide) w)
    | with_reducible exact refuse_touch
    | with_reducible exact retryIn_touch
    | with_reducible apply opProgress_touch (within_trans (by decide) w)
    | with_reducible refine modVault_touch (within_trans (by decide) w) ?_ rfl
    | split
    | intro _
    | dsimp only

theorem opVaultProgram_touch {m} (w : Within 0x4008000b8000 m) :
    OpTouch m opVaultProgram := ⟨fun c r s => vaultPlan_touch w (a0 := c) (a1 := r) (s := s)⟩

theorem execVaultProgram_touch {m s0 a0 s} (w : Within 0x6a28002bf800 m) (h : Touch m s0 s) : OutTouch m s0 (execVaultProgram a0 s) :=
  runOpcode_touch (within_trans (by decide) w) (opVaultProgram_touch (within_trans (by decide) w)) h

theorem burnBytes_touch {m o d s0 s} (w : Within 0x80000 m) (h : Touch m s0 s) : Touch m s0 (burnBytes o d s) := by
  unfold burnBytes
  refine forN_touch h fun i t ht => ?_
  refine ht.trans ⟨⟨rfl, rfl, id, id, fun a => ?_⟩, fun q e => ?_⟩
  · simp only [modVault]
    by_cases e : a = o + i
    · subst e
      rw [SMap.get_set_self]
      ext j
      simp
      tauto
    · rw [SMap.get_set_other _ _ _ _ _ _ e]
      simp
  · have e := within_bit w e
    cases q <;> first | exact absurd e (by decide) | rfl | exact fun _ _ => rfl

theorem burnEnd_touch {m s0 a0 a1 s} (w : Within 0x4000000a8000 m) (h : Touch m s0 s) : Touch m s0 (burnEnd a0 a1 s) := by
  unfold burnEnd
  repeat' first
    | with_reducible assumption
    | with_reducible apply endOp_touch (within_trans (by decide) w)
    | with_reducible refine modVault_touch (within_trans (by decide) w) ?_ rfl

theorem burnDone_touch {m s0 a0 s} (w : Within 0x4200000a8000 m) (h : Touch m s0 s) : Touch m s0 (burnDone a0 s) := by
  unfold burnDone
  repeat' first
    | with_reducible assumption
    | with_reducible refine modVault_touch (within_trans (by decide) w) ?_ rfl
    | with_reducible apply burnEnd_touch (within_trans (by decide) w)
    | with_reducible refine wrGRail_touch (within_trans (by decide) w) ?_
    | with_reducible refine wrG_touch (within_trans (by decide) w) ?_
    | with_reducible refine wrG_touchAll (within_trans (by decide) w) ?_
    | with_reducible apply opItem_touch (within_trans (by decide) w)
    | with_reducible apply forN_touch
    | split
    | intro _

theorem wordBurn_touch {m s0 a0 s} (w : Within 0x4208000a8000 m) (h : Touch m s0 s) : Touch m s0 (wordBurn a0 s) := by
  unfold wordBurn
  repeat' first
    | with_reducible assumption
    | with_reducible apply burnEnd_touch (within_trans (by decide) w)
    | with_reducible apply draw_touch (within_trans (by decide) w)
    | with_reducible apply burnBytes_touch (within_trans (by decide) w)
    | with_reducible apply burnDone_touch (within_trans (by decide) w)
    | with_reducible apply opProgress_touch (within_trans (by decide) w)
    | with_reducible refine modVault_touch (within_trans (by decide) w) ?_ rfl
    | split
    | intro _
    | dsimp only

theorem execVaultWordBurn_touch {m s0 a0 s} (w : Within 0x4208000a8000 m) (h : Touch m s0 s) : OutTouch m s0 (execVaultWordBurn a0 s) := by
  unfold execVaultWordBurn
  refine outTouch ?_
  repeat' first
    | with_reducible assumption
    | with_reducible apply wordBurn_touch (within_trans (by decide) w)

theorem burnStop_touch {m s0 s} (w : Within 0x80000 m) (h : Touch m s0 s) : Touch m s0 (burnStop s) := by
  unfold burnStop
  repeat' first
    | with_reducible assumption
    | with_reducible refine modVault_touch (within_trans (by decide) w) ?_ rfl

theorem execVddFuseChange_touch {m s0 a0 s} (w : Within 0x20000080000 m) (h : Touch m s0 s) : OutTouch m s0 (execVddFuseChange a0 s) := by
  unfold execVddFuseChange
  refine outTouch ?_
  repeat' first
    | with_reducible assumption
    | with_reducible refine wrGRail_touch (within_trans (by decide) w) ?_
    | with_reducible refine wrG_touch (within_trans (by decide) w) ?_
    | with_reducible refine wrG_touchAll (within_trans (by decide) w) ?_
    | with_reducible apply burnStop_touch (within_trans (by decide) w)
    | split

theorem scanOpen_touch {m s0 s} (w : Within 0xf7889f5ae000 m) (h : Touch m s0 s) : Touch m s0 (scanOpen s) := by
  unfold scanOpen
  repeat' first
    | with_reducible assumption
    | with_reducible apply safeEnter_touch (within_trans (by decide) w)
    | with_reducible apply holdAll_touch (within_trans (by decide) w)
    | with_reducible apply portsDown_touch (within_trans (by decide) w)
    | with_reducible apply modSec_touch (within_trans (by decide) w)
    | with_reducible apply endSessions_touch (within_trans (by decide) w)
    | with_reducible refine wrGRail_touch (within_trans (by decide) w) ?_
    | with_reducible refine wrG_touch (within_trans (by decide) w) ?_
    | with_reducible refine wrG_touchAll (within_trans (by decide) w) ?_
    | with_reducible refine modVault_touch (within_trans (by decide) w) ?_ rfl
    | split
    | intro _

theorem execScanEn_touch {m s0 s} (w : Within 0xf7889f5ae000 m) (h : Touch m s0 s) : OutTouch m s0 (execScanEn s) := by
  unfold execScanEn
  refine outTouch ?_
  repeat' first
    | with_reducible assumption
    | with_reducible apply scanOpen_touch (within_trans (by decide) w)

theorem cutEntry_touch {m s0 a0 a1 s} (w : Within 0x400000008000 m) (h : Touch m s0 s) : Touch m s0 (cutEntry a0 a1 s) := by
  unfold cutEntry
  repeat' first
    | with_reducible assumption
    | with_reducible apply journal_touch (within_trans (by decide) w)
    | split

theorem cutOpen_touch {m s0 a0 s} (w : Within 0x400000008000 m) (h : Touch m s0 s) : Touch m s0 (cutOpen a0 s) := by
  unfold cutOpen
  repeat' first
    | with_reducible assumption
    | with_reducible apply cutEntry_touch (within_trans (by decide) w)
    | with_reducible apply forL_touch
    | intro _

theorem auditRebuild_touch {m s0 s} (w : Within 0x80000000 m) (h : Touch m s0 s) : Touch m s0 (auditRebuild s) := by
  unfold auditRebuild
  repeat' first
    | with_reducible assumption
    | with_reducible apply modAudit_touch (within_trans (by decide) w)
    | split

theorem applyRepairs_touch {m s0 s} (w : Within 0x40080000000 m) (h : Touch m s0 s) : Touch m s0 (applyRepairs s) := by
  unfold applyRepairs
  repeat' first
    | with_reducible assumption
    | with_reducible refine wrGRail_touch (within_trans (by decide) w) ?_
    | with_reducible refine wrG_touch (within_trans (by decide) w) ?_
    | with_reducible refine wrG_touchAll (within_trans (by decide) w) ?_
    | with_reducible apply modAudit_touch (within_trans (by decide) w)

theorem endCutAudit_touch {m s0 s} (w : Within 0x400000008000 m) (h : Touch m s0 s) : Touch m s0 (endCutAudit s) := by
  unfold endCutAudit
  repeat' first
    | with_reducible assumption
    | with_reducible apply journalEvent_touch (within_trans (by decide) w)
    | split

theorem safeLate_touch {m s0 s} (w : Within 0x400000108000 m) (h : Touch m s0 s) : Touch m s0 (safeLate s) := by
  unfold safeLate
  repeat' first
    | with_reducible assumption
    | with_reducible apply safeEntry_touch (within_trans (by decide) w)
    | with_reducible apply modClk_touch (within_trans (by decide) w)
    | split

theorem genesis_touch {m s0 s} (w : Within 0x620800104000 m) (h : Touch m s0 s) : Touch m s0 (genesis s) := by
  unfold genesis
  repeat' first
    | with_reducible assumption
    | with_reducible apply draw_touch (within_trans (by decide) w)
    | with_reducible apply ledger_touch (within_trans (by decide) w)
    | with_reducible apply modClk_touch (within_trans (by decide) w)
    | split

theorem startEntries_touch {m s0 a0 s} (w : Within 0x62080010e000 m) (h : Touch m s0 s) : Touch m s0 (startEntries a0 s) := by
  unfold startEntries
  repeat' first
    | with_reducible assumption
    | with_reducible apply ledgerEnds_touch (within_trans (by decide) w)
    | with_reducible apply ledgerDevice_touch (within_trans (by decide) w)
    | with_reducible apply genesis_touch (within_trans (by decide) w)
    | with_reducible apply endCutAudit_touch (within_trans (by decide) w)
    | with_reducible apply cutOpen_touch (within_trans (by decide) w)
    | with_reducible apply journalReset_touch (within_trans (by decide) w)
    | split

theorem romStart_touch {m s0 s} (w : Within 0x66088018e040 m) (h : Touch m s0 s) : Touch m s0 (romStart s) := by
  unfold romStart
  repeat' first
    | with_reducible assumption
    | with_reducible apply loadShadow_touch (within_trans (by decide) w)
    | with_reducible apply safeLate_touch (within_trans (by decide) w)
    | with_reducible apply auditRebuild_touch (within_trans (by decide) w)
    | with_reducible apply applyRepairs_touch (within_trans (by decide) w)
    | with_reducible apply startEntries_touch (within_trans (by decide) w)
    | exact touchUpd w h (by rfl) (by rfl) (by rfl) (by rfl) (by rfl)
        (fun q e => by cases q <;> first | exact absurd e (by decide) | rfl | exact fun _ _ => rfl)
    | split

theorem mgmtFallback_touch {m s0 s} (w : Within 0x40000000000 m) (h : Touch m s0 s) : Touch m s0 (mgmtFallback s) := by
  unfold mgmtFallback
  repeat' first
    | with_reducible assumption
    | with_reducible refine evGRail_touch (within_trans (by decide) w) ?_
    | with_reducible refine evGBit_touch (within_trans (by decide) w) ?_
    | with_reducible refine evG_touch (within_trans (by decide) w) ?_
    | with_reducible refine evG_touchAll (within_trans (by decide) w) ?_
    | with_reducible refine wrGRail_touch (within_trans (by decide) w) ?_
    | with_reducible refine wrG_touch (within_trans (by decide) w) ?_
    | with_reducible refine wrG_touchAll (within_trans (by decide) w) ?_
    | split

theorem mgmtGo_touch {m s0 s} (w : Within 0x66088018e040 m) (h : Touch m s0 s) : Touch m s0 (mgmtGo s) := by
  unfold mgmtGo
  repeat' first
    | with_reducible assumption
    | with_reducible apply mgmtFallback_touch (within_trans (by decide) w)
    | with_reducible apply romStart_touch (within_trans (by decide) w)
    | with_reducible apply safeLate_touch (within_trans (by decide) w)
    | split
    | intro _
    | dsimp only

theorem avsWrite_touch {m s0 a0 s} (w : Within 0x80000200000 m) (h : Touch m s0 s) : Touch m s0 (avsWrite a0 s) := by
  unfold avsWrite
  repeat' first
    | with_reducible assumption
    | with_reducible refine wrGRail_touch (within_trans (by decide) w) ?_
    | with_reducible refine wrG_touch (within_trans (by decide) w) ?_
    | with_reducible refine wrG_touchAll (within_trans (by decide) w) ?_
    | with_reducible apply modPower_touch (within_trans (by decide) w)
    | split
    | intro _
    | dsimp only

theorem wakeCores_touch {m s0 s} (w : Within 0x480000208040 m) (h : Touch m s0 s) : Touch m s0 (wakeCores s) := by
  unfold wakeCores
  split
  · refine journalEvent_touch (within_trans (by decide) w) (countDev_touch (within_trans (by decide) w) (evG_touch (within_trans (by decide) w)
        (wrG_touch (within_trans (by decide) w) ?_)))
    exact stage_touch (s := modPower (fun p => { p with wakeStep := 2 }) (avsWrite 750 s)) (within_trans (by decide) w) (modPower_touch
        (within_trans (by decide) w) (avsWrite_touch (within_trans (by decide) w) h))
  · exact h

theorem iroValid_touch {m s0 s} (w : Within 0x6e088038e040 m) (h : Touch m s0 s) : Touch m s0 (iroValid s) := by
  unfold iroValid
  repeat' first
    | with_reducible assumption
    | with_reducible apply mgmtGo_touch (within_trans (by decide) w)
    | with_reducible apply wakeCores_touch (within_trans (by decide) w)
    | with_reducible refine wrGRail_touch (within_trans (by decide) w) ?_
    | with_reducible refine wrG_touch (within_trans (by decide) w) ?_
    | with_reducible refine wrG_touchAll (within_trans (by decide) w) ?_
    | split

theorem execIroValid_touch {m s0 s} (w : Within 0x6e088038e040 m) (h : Touch m s0 s) : OutTouch m s0 (execIroValid s) := by
  unfold execIroValid
  refine outTouch ?_
  repeat' first
    | with_reducible assumption
    | with_reducible apply iroValid_touch (within_trans (by decide) w)

theorem refclkValid_touch {m s0 s} (w : Within 0x66088018e040 m) (h : Touch m s0 s) : Touch m s0 (refclkValid s) := by
  unfold refclkValid
  repeat' first
    | with_reducible assumption
    | with_reducible apply mgmtGo_touch (within_trans (by decide) w)
    | with_reducible refine wrGRail_touch (within_trans (by decide) w) ?_
    | with_reducible refine wrG_touch (within_trans (by decide) w) ?_
    | with_reducible refine wrG_touchAll (within_trans (by decide) w) ?_
    | with_reducible apply modClk_touch (within_trans (by decide) w)
    | split

theorem execRefclkValid_touch {m s0 s} (w : Within 0x66088018e040 m) (h : Touch m s0 s) : OutTouch m s0 (execRefclkValid s) := by
  unfold execRefclkValid
  refine outTouch ?_
  repeat' first
    | with_reducible assumption
    | with_reducible apply refclkValid_touch (within_trans (by decide) w)

theorem execIroMeasured_touch {m s0 a0 s} (w : Within 0x40000000000 m) (h : Touch m s0 s) : OutTouch m s0 (execIroMeasured a0 s) := by
  unfold execIroMeasured
  refine outTouch ?_
  repeat' first
    | with_reducible assumption
    | with_reducible refine wrGRail_touch (within_trans (by decide) w) ?_
    | with_reducible refine wrG_touch (within_trans (by decide) w) ?_
    | with_reducible refine wrG_touchAll (within_trans (by decide) w) ?_
    | split

theorem setDsp_touch {m s0 a0 a1 a2 s} (w : Within 0x200000 m) (h : Touch m s0 s) : Touch m s0 (setDsp a0 a1 a2 s) := by
  unfold setDsp
  repeat' first
    | with_reducible assumption
    | with_reducible apply modPower_touch (within_trans (by decide) w)

theorem pllReady_touch {m s0 a0 s} (w : Within 0xfff88a5ae040 m) (h : Touch m s0 s) : Touch m s0 (pllReady a0 s) := by
  unfold pllReady
  repeat' first
    | with_reducible assumption
    | with_reducible apply mgmtGo_touch (within_trans (by decide) w)
    | with_reducible apply settle_touch (within_trans (by decide) w)
    | with_reducible refine wrFldP_touch (within_trans (by decide) w) ?_
    | with_reducible refine wrFldL_touch (within_trans (by decide) w) ?_
    | with_reducible refine wrFld_touch (within_trans (by decide) w) ?_
    | with_reducible refine wrFld_touchAll (within_trans (by decide) w) ?_
    | split

theorem execPllReady_touch {m s0 a0 s} (w : Within 0xfff88a5ae040 m) (h : Touch m s0 s) : OutTouch m s0 (execPllReady a0 s) := by
  unfold execPllReady
  refine outTouch ?_
  repeat' first
    | with_reducible assumption
    | with_reducible apply pllReady_touch (within_trans (by decide) w)

theorem calFinish_touch {m s0 a0 a1 s} (w : Within 0x40100000 m) (h : Touch m s0 s) : Touch m s0 (calFinish a0 a1 s) := by
  unfold calFinish
  repeat' first
    | with_reducible assumption
    | with_reducible apply modCal_touch (within_trans (by decide) w)
    | with_reducible apply modClk_touch (within_trans (by decide) w)
    | split
    | intro _
    | dsimp only

theorem powerupCal_touch {m s0 a0 a1 a2 s} (w : Within 0xfff040108000 m) (h : Touch m s0 s) : Touch m s0 (powerupCal a0 a1 a2 s) := by
  unfold powerupCal
  repeat' first
    | with_reducible assumption
    | with_reducible refine wrFldP_touch (within_trans (by decide) w) ?_
    | with_reducible refine wrFldL_touch (within_trans (by decide) w) ?_
    | with_reducible refine wrFld_touch (within_trans (by decide) w) ?_
    | with_reducible refine wrFld_touchAll (within_trans (by decide) w) ?_
    | with_reducible apply calFinish_touch (within_trans (by decide) w)
    | with_reducible apply journalEvent_touch (within_trans (by decide) w)
    | with_reducible refine evGRail_touch (within_trans (by decide) w) ?_
    | with_reducible refine evGBit_touch (within_trans (by decide) w) ?_
    | with_reducible refine evG_touch (within_trans (by decide) w) ?_
    | with_reducible refine evG_touchAll (within_trans (by decide) w) ?_
    | with_reducible apply modCal_touch (within_trans (by decide) w)
    | split

theorem execPowerupCalibration_touch {m s0 a0 a1 a2 s} (w : Within 0xfff040108000 m) (h : Touch m s0 s) :
    OutTouch m s0 (execPowerupCalibration a0 a1 a2 s) := by
  unfold execPowerupCalibration
  refine outTouch ?_
  repeat' first
    | with_reducible assumption
    | with_reducible apply powerupCal_touch (within_trans (by decide) w)

theorem failAll_touch {m s0 s} (w : Within 0xc48017100000 m) (h : Touch m s0 s) : Touch m s0 (failAll s) := by
  unfold failAll
  repeat' first
    | with_reducible assumption
    | with_reducible apply holdAll_touch (within_trans (by decide) w)
    | with_reducible apply portsDown_touch (within_trans (by decide) w)
    | with_reducible apply modClk_touch (within_trans (by decide) w)

theorem refclkFail_touch {m s0 a0 s} (w : Within 0xfff89f5ae040 m) (h : Touch m s0 s) : Touch m s0 (refclkFail a0 s) := by
  unfold refclkFail
  repeat' first
    | with_reducible assumption
    | with_reducible refine wrGRail_touch (within_trans (by decide) w) ?_
    | with_reducible refine wrG_touch (within_trans (by decide) w) ?_
    | with_reducible refine wrG_touchAll (within_trans (by decide) w) ?_
    | with_reducible refine evGRail_touch (within_trans (by decide) w) ?_
    | with_reducible refine evGBit_touch (within_trans (by decide) w) ?_
    | with_reducible refine evG_touch (within_trans (by decide) w) ?_
    | with_reducible refine evG_touchAll (within_trans (by decide) w) ?_
    | with_reducible apply modClk_touch (within_trans (by decide) w)
    | with_reducible apply mgmtGo_touch (within_trans (by decide) w)
    | with_reducible apply safeEnter_touch (within_trans (by decide) w)
    | with_reducible apply failAll_touch (within_trans (by decide) w)
    | split
    | intro _

theorem execRefclkLost_touch {m s0 s} (w : Within 0xfff89f5ae040 m) (h : Touch m s0 s) : OutTouch m s0 (execRefclkLost s) := by
  unfold execRefclkLost
  refine outTouch ?_
  repeat' first
    | with_reducible assumption
    | with_reducible apply refclkFail_touch (within_trans (by decide) w)

theorem execRefclkRange_touch {m s0 s} (w : Within 0xfff89f5ae040 m) (h : Touch m s0 s) : OutTouch m s0 (execRefclkRange s) := by
  unfold execRefclkRange
  refine outTouch ?_
  repeat' first
    | with_reducible assumption
    | with_reducible apply refclkFail_touch (within_trans (by decide) w)

theorem iroRange_touch {m s0 s} (w : Within 0xf7889f5ae040 m) (h : Touch m s0 s) : Touch m s0 (iroRange s) := by
  unfold iroRange
  repeat' first
    | with_reducible assumption
    | with_reducible refine wrGRail_touch (within_trans (by decide) w) ?_
    | with_reducible refine wrG_touch (within_trans (by decide) w) ?_
    | with_reducible refine wrG_touchAll (within_trans (by decide) w) ?_
    | with_reducible refine evGRail_touch (within_trans (by decide) w) ?_
    | with_reducible refine evGBit_touch (within_trans (by decide) w) ?_
    | with_reducible refine evG_touch (within_trans (by decide) w) ?_
    | with_reducible refine evG_touchAll (within_trans (by decide) w) ?_
    | with_reducible apply mgmtGo_touch (within_trans (by decide) w)
    | with_reducible apply safeEnter_touch (within_trans (by decide) w)
    | with_reducible apply failAll_touch (within_trans (by decide) w)
    | split
    | intro _

theorem execIroRange_touch {m s0 s} (w : Within 0xf7889f5ae040 m) (h : Touch m s0 s) : OutTouch m s0 (execIroRange s) := by
  unfold execIroRange
  refine outTouch ?_
  repeat' first
    | with_reducible assumption
    | with_reducible apply iroRange_touch (within_trans (by decide) w)

theorem unlockHold_touch {m s0 a0 s} (w : Within 0xc48017100000 m) (h : Touch m s0 s) : Touch m s0 (unlockHold a0 s) := by
  unfold unlockHold
  repeat' first
    | with_reducible assumption
    | with_reducible apply failAll_touch (within_trans (by decide) w)
    | with_reducible apply modCh_touch (within_trans (by decide) w)
    | with_reducible refine wrGRail_touch (within_trans (by decide) w) ?_
    | with_reducible refine wrG_touch (within_trans (by decide) w) ?_
    | with_reducible refine wrG_touchAll (within_trans (by decide) w) ?_
    | with_reducible refine wrBitG_touch (within_trans (by decide) w) ?_
    | with_reducible refine wrBitP_touch (within_trans (by decide) w) ?_
    | with_reducible refine wrBitL_touch (within_trans (by decide) w) ?_
    | with_reducible refine wrBit_touchAll (within_trans (by decide) w) ?_
    | with_reducible apply portsDown_touch (within_trans (by decide) w)
    | split

theorem pllUnlock_touch {m s0 a0 a1 s} (w : Within 0xfff89f5ae040 m) (h : Touch m s0 s) : Touch m s0 (pllUnlock a0 a1 s) := by
  unfold pllUnlock
  repeat' first
    | with_reducible assumption
    | with_reducible refine wrFldP_touch (within_trans (by decide) w) ?_
    | with_reducible refine wrFldL_touch (within_trans (by decide) w) ?_
    | with_reducible refine wrFld_touch (within_trans (by decide) w) ?_
    | with_reducible refine wrFld_touchAll (within_trans (by decide) w) ?_
    | with_reducible apply countDev_touch (within_trans (by decide) w)
    | with_reducible refine evGRail_touch (within_trans (by decide) w) ?_
    | with_reducible refine evGBit_touch (within_trans (by decide) w) ?_
    | with_reducible refine evG_touch (within_trans (by decide) w) ?_
    | with_reducible refine evG_touchAll (within_trans (by decide) w) ?_
    | with_reducible apply mgmtGo_touch (within_trans (by decide) w)
    | with_reducible apply safeEnter_touch (within_trans (by decide) w)
    | with_reducible apply unlockHold_touch (within_trans (by decide) w)
    | with_reducible apply settle_touch (within_trans (by decide) w)
    | split
    | intro _

theorem execPllUnlock_touch {m s0 a0 a1 s} (w : Within 0xfff89f5ae040 m) (h : Touch m s0 s) : OutTouch m s0 (execPllUnlock a0 a1 s) := by
  unfold execPllUnlock
  refine outTouch ?_
  repeat' first
    | with_reducible assumption
    | with_reducible apply pllUnlock_touch (within_trans (by decide) w)

theorem safeRelease_touch {m s0 s} (w : Within 0xc5881a528000 m) (h : Touch m s0 s) : Touch m s0 (safeRelease s) := by
  unfold safeRelease
  repeat' first
    | with_reducible assumption
    | with_reducible apply safeDrop_touch (within_trans (by decide) w)
    | with_reducible apply modClk_touch (within_trans (by decide) w)
    | with_reducible refine wrGRail_touch (within_trans (by decide) w) ?_
    | with_reducible refine wrG_touch (within_trans (by decide) w) ?_
    | with_reducible refine wrG_touchAll (within_trans (by decide) w) ?_
    | split

theorem execSafeRelease_touch {m s0 s} (w : Within 0xc5881a528000 m) (h : Touch m s0 s) : OutTouch m s0 (execSafeRelease s) := by
  unfold execSafeRelease
  refine outTouch ?_
  repeat' first
    | with_reducible assumption
    | with_reducible apply safeRelease_touch (within_trans (by decide) w)

theorem releaseWrite_touch {m s0 s} (w : Within 0xc5881a528000 m) (h : Touch m s0 s) : Touch m s0 (releaseWrite s) := by
  unfold releaseWrite
  repeat' first
    | with_reducible assumption
    | with_reducible apply safeDrop_touch (within_trans (by decide) w)
    | with_reducible apply modClk_touch (within_trans (by decide) w)
    | split

theorem execRelease_touch {m s0 s} (w : Within 0xc5881a528000 m) (h : Touch m s0 s) : OutTouch m s0 (execRelease s) := by
  unfold execRelease
  refine outTouch ?_
  repeat' first
    | with_reducible assumption
    | with_reducible apply releaseWrite_touch (within_trans (by decide) w)

theorem switchTo_touch {m s0 a0 a1 s} (w : Within 0xe7888a5ae040 m) (h : Touch m s0 s) : Touch m s0 (switchTo a0 a1 s) := by
  unfold switchTo
  repeat' first
    | with_reducible assumption
    | with_reducible refine evGRail_touch (within_trans (by decide) w) ?_
    | with_reducible refine evGBit_touch (within_trans (by decide) w) ?_
    | with_reducible refine evG_touch (within_trans (by decide) w) ?_
    | with_reducible refine evG_touchAll (within_trans (by decide) w) ?_
    | with_reducible refine wrGRail_touch (within_trans (by decide) w) ?_
    | with_reducible refine wrG_touch (within_trans (by decide) w) ?_
    | with_reducible refine wrG_touchAll (within_trans (by decide) w) ?_
    | with_reducible refine wrBitG_touch (within_trans (by decide) w) ?_
    | with_reducible refine wrBitP_touch (within_trans (by decide) w) ?_
    | with_reducible refine wrBitL_touch (within_trans (by decide) w) ?_
    | with_reducible refine wrBit_touchAll (within_trans (by decide) w) ?_
    | with_reducible apply mgmtGo_touch (within_trans (by decide) w)
    | with_reducible apply settle_touch (within_trans (by decide) w)
    | split

theorem clkSwitch_touch {m s0 a0 s} (w : Within 0xe7888a5ae040 m) (h : Touch m s0 s) : Touch m s0 (clkSwitch a0 s) := by
  unfold clkSwitch
  repeat' first
    | with_reducible assumption
    | with_reducible refine wrGRail_touch (within_trans (by decide) w) ?_
    | with_reducible refine wrG_touch (within_trans (by decide) w) ?_
    | with_reducible refine wrG_touchAll (within_trans (by decide) w) ?_
    | with_reducible refine evGRail_touch (within_trans (by decide) w) ?_
    | with_reducible refine evGBit_touch (within_trans (by decide) w) ?_
    | with_reducible refine evG_touch (within_trans (by decide) w) ?_
    | with_reducible refine evG_touchAll (within_trans (by decide) w) ?_
    | with_reducible apply switchTo_touch (within_trans (by decide) w)
    | with_reducible apply modClk_touch (within_trans (by decide) w)
    | split
    | intro _
    | dsimp only

theorem execClkSwitchGo_touch {m s0 a0 s} (w : Within 0xe7888a5ae040 m) (h : Touch m s0 s) : OutTouch m s0 (execClkSwitchGo a0 s) := by
  unfold execClkSwitchGo
  refine outTouch ?_
  repeat' first
    | with_reducible assumption
    | with_reducible apply clkSwitch_touch (within_trans (by decide) w)

theorem oldClockDead_touch {m s0 s} (w : Within 0xe7888a5ae040 m) (h : Touch m s0 s) : Touch m s0 (oldClockDead s) := by
  unfold oldClockDead
  repeat' first
    | with_reducible assumption
    | with_reducible apply switchTo_touch (within_trans (by decide) w)
    | with_reducible apply modClk_touch (within_trans (by decide) w)
    | split

theorem execOldClockDead_touch {m s0 s} (w : Within 0xe7888a5ae040 m) (h : Touch m s0 s) : OutTouch m s0 (execOldClockDead s) := by
  unfold execOldClockDead
  refine outTouch ?_
  repeat' first
    | with_reducible assumption
    | with_reducible apply oldClockDead_touch (within_trans (by decide) w)

theorem sirDown_touch {m s0 s} (w : Within 0xc08817000000 m) (h : Touch m s0 s) : Touch m s0 (sirDown s) := by
  unfold sirDown
  repeat' first
    | with_reducible assumption
    | with_reducible apply downRestart_touch (within_trans (by decide) w)
    | with_reducible apply forL_touch
    | split
    | intro _

theorem clkEnWrite_touch {m s0 a0 s} (w : Within 0xc5881f428000 m) (h : Touch m s0 s) : Touch m s0 (clkEnWrite a0 s) := by
  unfold clkEnWrite
  repeat' first
    | with_reducible assumption
    | with_reducible refine wrGRail_touch (within_trans (by decide) w) ?_
    | with_reducible refine wrG_touch (within_trans (by decide) w) ?_
    | with_reducible refine wrG_touchAll (within_trans (by decide) w) ?_
    | with_reducible apply portsDown_touch (within_trans (by decide) w)
    | with_reducible apply settle_touch (within_trans (by decide) w)
    | with_reducible apply sirDown_touch (within_trans (by decide) w)
    | with_reducible apply foldl_touch
    | split
    | intro _
    | dsimp only

theorem execClkEnWrite_touch {m s0 a0 s} (w : Within 0xc5881f428000 m) (h : Touch m s0 s) : OutTouch m s0 (execClkEnWrite a0 s) := by
  unfold execClkEnWrite
  refine outTouch ?_
  repeat' first
    | with_reducible assumption
    | with_reducible apply clkEnWrite_touch (within_trans (by decide) w)

theorem clkoutChange_touch {m s0 a0 s} (w : Within 0x40000100000 m) (h : Touch m s0 s) : Touch m s0 (clkoutChange a0 s) := by
  unfold clkoutChange
  repeat' first
    | with_reducible assumption
    | with_reducible refine wrGRail_touch (within_trans (by decide) w) ?_
    | with_reducible refine wrG_touch (within_trans (by decide) w) ?_
    | with_reducible refine wrG_touchAll (within_trans (by decide) w) ?_
    | with_reducible apply modClk_touch (within_trans (by decide) w)
    | with_reducible refine evGRail_touch (within_trans (by decide) w) ?_
    | with_reducible refine evGBit_touch (within_trans (by decide) w) ?_
    | with_reducible refine evG_touch (within_trans (by decide) w) ?_
    | with_reducible refine evG_touchAll (within_trans (by decide) w) ?_
    | split
    | intro _
    | dsimp only

theorem execClkoutChange_touch {m s0 a0 s} (w : Within 0x40000100000 m) (h : Touch m s0 s) : OutTouch m s0 (execClkoutChange a0 s) := by
  unfold execClkoutChange
  refine outTouch ?_
  repeat' first
    | with_reducible assumption
    | with_reducible apply clkoutChange_touch (within_trans (by decide) w)

theorem clockSelectPlan_touch {m a0 a1 s} (w : Within 0xe7888a5ae040 m) : PlanTouch m (clockSelectPlan a0 a1 s) := by
  unfold clockSelectPlan
  repeat' first
    | with_reducible assumption
    | with_reducible apply firstOf_touch
    | with_reducible apply checksT_cons
    | with_reducible exact checksT_nil
    | with_reducible apply chk_touch
    | with_reducible exact bad_touch
    | with_reducible apply checksT_append
    | with_reducible apply done_touch
    | with_reducible exact retryIn_touch
    | with_reducible apply clkoutChange_touch (within_trans (by decide) w)
    | with_reducible apply switchTo_touch (within_trans (by decide) w)
    | split
    | intro _
    | dsimp only

theorem opClockSelect_touch {m} (w : Within 0xe7888a5ae040 m) :
    OpTouch m opClockSelect := ⟨fun c r s => clockSelectPlan_touch w (a0 := c) (a1 := r) (s := s)⟩

theorem execClockSelect_touch {m s0 a0 s} (w : Within 0xefa88a7af840 m) (h : Touch m s0 s) : OutTouch m s0 (execClockSelect a0 s) :=
  runOpcode_touch (within_trans (by decide) w) (opClockSelect_touch (within_trans (by decide) w)) h

theorem showActive_touch {m s0 a0 s} (w : Within 0x900000000000 m) (h : Touch m s0 s) : Touch m s0 (showActive a0 s) := by
  unfold showActive
  repeat' first
    | with_reducible assumption
    | with_reducible refine wrFldP_touch (within_trans (by decide) w) ?_
    | with_reducible refine wrFldL_touch (within_trans (by decide) w) ?_
    | with_reducible refine wrFldC_touch (by decide) (by decide) (within_trans (by decide) w) ?_
    | with_reducible refine wrFld_touch (within_trans (by decide) w) ?_
    | with_reducible refine wrFld_touchAll (within_trans (by decide) w) ?_
    | with_reducible apply wrP_touch (within_trans (by decide) w)
    | split

theorem substRoles_touch {m s0 a0 a1 s} (w : Within 0x900040000000 m) (h : Touch m s0 s) : Touch m s0 (substRoles a0 a1 s) := by
  unfold substRoles
  repeat' first
    | with_reducible assumption
    | with_reducible apply showActive_touch (within_trans (by decide) w)
    | with_reducible refine evGRail_touch (within_trans (by decide) w) ?_
    | with_reducible refine evGBit_touch (within_trans (by decide) w) ?_
    | with_reducible refine evG_touch (within_trans (by decide) w) ?_
    | with_reducible refine evG_touchAll (within_trans (by decide) w) ?_
    | with_reducible apply modTarget_touch (within_trans (by decide) w)

theorem commitRecord_touch {m s0 a0 s} (w : Within 0x900040000000 m) (h : Touch m s0 s) : Touch m s0 (commitRecord a0 s) := by
  unfold commitRecord
  repeat' first
    | with_reducible assumption
    | with_reducible apply modTarget_touch (within_trans (by decide) w)
    | with_reducible apply showActive_touch (within_trans (by decide) w)
    | with_reducible refine wrFldP_touch (within_trans (by decide) w) ?_
    | with_reducible refine wrFldL_touch (within_trans (by decide) w) ?_
    | with_reducible refine wrFldC_touch (by decide) (by decide) (within_trans (by decide) w) ?_

theorem cpRead_touch {m s0 a0 s} (w : Within 0x1000 m) (h : Touch m s0 s) : Touch m s0 (cpRead a0 s) := by
  unfold cpRead
  repeat' first
    | with_reducible assumption
    | with_reducible apply modCp_touch (within_trans (by decide) w)
    | split

theorem cpWrite_touch {m s0 a0 s} (w : Within 0x402000003000 m) (h : Touch m s0 s) : Touch m s0 (cpWrite a0 s) := by
  unfold cpWrite
  repeat' first
    | with_reducible assumption
    | with_reducible apply modCp_touch (within_trans (by decide) w)
    | with_reducible apply setDropped_touch (within_trans (by decide) w)
    | with_reducible apply arrive_touch (within_trans (by decide) w)
    | split
    | intro _
    | dsimp only

theorem execWrite_touch {m s0 a0 s} (w : Within 0x402000003000 m) (h : Touch m s0 s) : OutTouch m s0 (execWrite a0 s) := by
  unfold execWrite
  refine outTouch ?_
  repeat' first
    | with_reducible assumption
    | with_reducible apply cpWrite_touch (within_trans (by decide) w)

theorem execRead_touch {m s0 a0 s} (w : Within 0x1000 m) (h : Touch m s0 s) : OutTouch m s0 (execRead a0 s) := by
  unfold execRead
  refine outTouch ?_
  repeat' first
    | with_reducible assumption
    | with_reducible apply cpRead_touch (within_trans (by decide) w)

theorem execPoll_touch {m s0 s} (w : Within 0x1000 m) (h : Touch m s0 s) : OutTouch m s0 (execPoll s) := by
  unfold execPoll
  refine outTouch ?_
  repeat' first
    | with_reducible assumption
    | with_reducible apply modCp_touch (within_trans (by decide) w)
    | split

theorem execTransactionIgnored_touch {m s0 a0 s} (w : Within 0x1000 m) (h : Touch m s0 s) : OutTouch m s0 (execTransactionIgnored a0 s) := by
  unfold execTransactionIgnored
  refine outTouch ?_
  repeat' first
    | with_reducible assumption
    | with_reducible apply setDropped_touch (within_trans (by decide) w)
    | with_reducible apply modCp_touch (within_trans (by decide) w)
    | split

theorem helloDone_touch {m s0 s} (w : Within 0x620000007000 m) (h : Touch m s0 s) : Touch m s0 (helloDone s) := by
  unfold helloDone
  repeat' first
    | with_reducible assumption
    | with_reducible apply modCp_touch (within_trans (by decide) w)
    | with_reducible apply endSessions_touch (within_trans (by decide) w)
    | split

theorem helloPlan_touch {m a0 a1 s} (w : Within 0x620000007000 m) : PlanTouch m (helloPlan a0 a1 s) := by
  unfold helloPlan
  repeat' first
    | with_reducible assumption
    | with_reducible apply firstOf_touch
    | with_reducible apply checksT_cons
    | with_reducible exact checksT_nil
    | with_reducible exact bad_touch
    | with_reducible exact done_id_touch
    | with_reducible apply done_touch
    | with_reducible apply helloDone_touch (within_trans (by decide) w)
    | split
    | intro _

theorem opHello_touch {m} (w : Within 0x620000007000 m) : OpTouch m opHello := ⟨fun c r s => helloPlan_touch w (a0 := c) (a1 := r) (s := s)⟩

theorem execHello_touch {m s0 a0 s} (w : Within 0x6a2800207800 m) (h : Touch m s0 s) : OutTouch m s0 (execHello a0 s) :=
  runOpcode_touch (within_trans (by decide) w) (opHello_touch (within_trans (by decide) w)) h

theorem profilePlan_touch {m a0 a1 s} (w : Within 0x30 m) : PlanTouch m (profilePlan a0 a1 s) := by
  unfold profilePlan
  repeat' first
    | with_reducible assumption
    | with_reducible apply firstOf_touch
    | with_reducible apply checksT_cons
    | with_reducible exact checksT_nil
    | with_reducible exact bad_touch
    | with_reducible apply checksT_append
    | with_reducible apply done_touch
    | exact touchUpd w (by assumption) (by rfl) (by rfl) (by rfl) (by rfl) (by rfl)
        (fun q e => by cases q <;> first | exact absurd e (by decide) | rfl | exact fun _ _ => rfl)
    | split
    | intro _

theorem opProfileSelect_touch {m} (w : Within 0x30 m) : OpTouch m opProfileSelect := ⟨fun c r s => profilePlan_touch w (a0 := c) (a1 := r) (s := s)⟩

theorem execProfileSelect_touch {m s0 a0 s} (w : Within 0x6a2800207830 m) (h : Touch m s0 s) : OutTouch m s0 (execProfileSelect a0 s) :=
  runOpcode_touch (within_trans (by decide) w) (opProfileSelect_touch (within_trans (by decide) w)) h

theorem openSession_touch {m s0 a0 a1 s} (w : Within 0x620000006000 m) (h : Touch m s0 s) : Touch m s0 (openSession a0 a1 s) := by
  unfold openSession
  repeat' first
    | with_reducible assumption
    | with_reducible apply modGuard_touch (within_trans (by decide) w)
    | with_reducible apply modSec_touch (within_trans (by decide) w)
    | with_reducible apply countDev_touch (within_trans (by decide) w)
    | with_reducible apply ledger_touch (within_trans (by decide) w)
    | split

theorem authFail_touch {m s0 a0 a1 s} (w : Within 0x620000006000 m) (h : Touch m s0 s) : Touch m s0 (authFail a0 a1 s) := by
  unfold authFail
  repeat' first
    | with_reducible assumption
    | with_reducible apply ledger_touch (within_trans (by decide) w)
    | with_reducible apply modSec_touch (within_trans (by decide) w)
    | with_reducible apply countDev_touch (within_trans (by decide) w)
    | with_reducible refine addCntG_touch (within_trans (by decide) w) ?_
    | with_reducible refine addCntP_touch (within_trans (by decide) w) ?_
    | with_reducible refine addCntL_touch (within_trans (by decide) w) ?_
    | with_reducible refine addCnt_touchAll (within_trans (by decide) w) ?_
    | with_reducible refine evGRail_touch (within_trans (by decide) w) ?_
    | with_reducible refine evGBit_touch (within_trans (by decide) w) ?_
    | with_reducible refine evG_touch (within_trans (by decide) w) ?_
    | with_reducible refine evG_touchAll (within_trans (by decide) w) ?_
    | with_reducible apply modGuard_touch (within_trans (by decide) w)
    | split
    | intro _
    | dsimp only

theorem openPhase1_touch {m a0 a1 a2 s} (w : Within 0x620800006000 m) : PlanTouch m (openPhase1 a0 a1 a2 s) := by
  unfold openPhase1
  repeat' first
    | with_reducible assumption
    | with_reducible apply firstOf_touch
    | with_reducible apply checksT_cons
    | with_reducible exact checksT_nil
    | with_reducible apply chk_touch
    | with_reducible exact busy_touch (within_trans (by decide) w)
    | with_reducible apply checksT_append
    | with_reducible apply some_touch
    | with_reducible exact none_touch
    | with_reducible apply done_touch
    | with_reducible apply modSec_touch (within_trans (by decide) w)
    | with_reducible apply openSession_touch (within_trans (by decide) w)
    | with_reducible apply draw_touch (within_trans (by decide) w)
    | split
    | intro _

theorem openPhase2_touch {m a0 a1 a2 s} (w : Within 0x620800006000 m) : PlanTouch m (openPhase2 a0 a1 a2 s) := by
  unfold openPhase2
  repeat' first
    | with_reducible assumption
    | with_reducible exact busy_touch (within_trans (by decide) w)
    | with_reducible apply checksT_append
    | with_reducible exact done_id_touch
    | with_reducible apply some_touch
    | with_reducible exact none_touch
    | with_reducible apply done_touch
    | with_reducible apply openSession_touch (within_trans (by decide) w)
    | with_reducible apply authFail_touch (within_trans (by decide) w)
    | split
    | intro _
    | dsimp only

theorem sessionOpenPlan_touch {m a0 a1 s} (w : Within 0x620800006000 m) : PlanTouch m (sessionOpenPlan a0 a1 s) := by
  unfold sessionOpenPlan
  repeat' first
    | with_reducible assumption
    | with_reducible apply firstOf_touch
    | with_reducible apply checksT_cons
    | with_reducible exact checksT_nil
    | with_reducible exact bad_touch
    | with_reducible apply some_touch
    | with_reducible exact none_touch
    | with_reducible exact refuse_touch
    | with_reducible apply openPhase1_touch (within_trans (by decide) w)
    | with_reducible apply openPhase2_touch (within_trans (by decide) w)
    | split

theorem opSessionOpen_touch {m} (w : Within 0x620800006000 m) :
    OpTouch m opSessionOpen := ⟨fun c r s => sessionOpenPlan_touch w (a0 := c) (a1 := r) (s := s)⟩

theorem execSessionOpen_touch {m s0 a0 s} (w : Within 0x6a2800207800 m) (h : Touch m s0 s) : OutTouch m s0 (execSessionOpen a0 s) :=
  runOpcode_touch (within_trans (by decide) w) (opSessionOpen_touch (within_trans (by decide) w)) h

theorem opSessionClose_touch {m} (w : Within 0x620000006000 m) : OpTouch m opSessionClose := by
  refine ⟨fun c r s => ?_⟩
  show PlanTouch m (_ : Plan)
  unfold opSessionClose
  dsimp only
  repeat' first
    | with_reducible apply firstOf_touch
    | with_reducible apply checksT_cons
    | with_reducible exact checksT_nil
    | with_reducible exact bad_touch
    | with_reducible apply some_touch
    | with_reducible exact none_touch
    | with_reducible apply done_touch
    | with_reducible apply firstOf_touch
    | with_reducible apply endSession_touch (within_trans (by decide) w)
    | split
    | intro _

theorem execSessionClose_touch {m s0 a0 s} (w : Within 0x6a2800207800 m) (h : Touch m s0 s) : OutTouch m s0 (execSessionClose a0 s) :=
  runOpcode_touch (within_trans (by decide) w) (opSessionClose_touch (within_trans (by decide) w)) h

theorem sessionIdle_touch {m s0 a0 s} (w : Within 0x620000006000 m) (h : Touch m s0 s) : Touch m s0 (sessionIdle a0 s) := by
  unfold sessionIdle
  repeat' first
    | with_reducible assumption
    | with_reducible apply endSession_touch (within_trans (by decide) w)
    | split

theorem execSessionIdleTimeout_touch {m s0 a0 s} (w : Within 0x620000006000 m) (h : Touch m s0 s) : OutTouch m s0 (execSessionIdleTimeout a0 s) := by
  unfold execSessionIdleTimeout
  refine outTouch ?_
  repeat' first
    | with_reducible assumption
    | with_reducible apply sessionIdle_touch (within_trans (by decide) w)

theorem execProvisionalHandleExpiry_touch {m s0 s} (w : Within 0x2000 m) (h : Touch m s0 s) : OutTouch m s0 (execProvisionalHandleExpiry s) := by
  unfold execProvisionalHandleExpiry
  refine outTouch ?_
  repeat' first
    | with_reducible assumption
    | with_reducible apply modSec_touch (within_trans (by decide) w)

theorem execHoldoffExpiry_touch {m s0 a0 s} (w : Within 0x2000 m) (h : Touch m s0 s) : OutTouch m s0 (execHoldoffExpiry a0 s) := by
  unfold execHoldoffExpiry
  refine outTouch ?_
  repeat' first
    | with_reducible assumption
    | with_reducible apply modGuard_touch (within_trans (by decide) w)

theorem opQueryPlan_touch {m a0 a1 s} (w : Within 0x800020000 m) : PlanTouch m (opQueryPlan a0 a1 s) := by
  unfold opQueryPlan
  repeat' first
    | with_reducible assumption
    | with_reducible apply firstOf_touch
    | with_reducible apply checksT_cons
    | with_reducible exact checksT_nil
    | with_reducible exact bad_touch
    | with_reducible apply done_touch
    | with_reducible apply modOp_touch (within_trans (by decide) w)
    | with_reducible apply draw_touch (within_trans (by decide) w)
    | split
    | intro _

theorem opOpQuery_touch {m} (w : Within 0x800020000 m) : OpTouch m opOpQuery := ⟨fun c r s => opQueryPlan_touch w (a0 := c) (a1 := r) (s := s)⟩

theorem execOpQuery_touch {m s0 a0 s} (w : Within 0x6a2800227800 m) (h : Touch m s0 s) : OutTouch m s0 (execOpQuery a0 s) :=
  runOpcode_touch (within_trans (by decide) w) (opOpQuery_touch (within_trans (by decide) w)) h

theorem ledgerReadPlan_touch {m a0 a1 s} (w : Within 0x0 m) : PlanTouch m (ledgerReadPlan a0 a1 s) := by
  unfold ledgerReadPlan
  repeat' first
    | with_reducible assumption
    | with_reducible apply firstOf_touch
    | with_reducible apply checksT_cons
    | with_reducible exact checksT_nil
    | with_reducible exact bad_touch
    | with_reducible apply checksT_append
    | with_reducible exact done_id_touch

theorem opLedgerRead_touch {m} (w : Within 0x0 m) : OpTouch m opLedgerRead := ⟨fun c r s => ledgerReadPlan_touch w (a0 := c) (a1 := r) (s := s)⟩

theorem execLedgerRead_touch {m s0 a0 s} (w : Within 0x6a2800207800 m) (h : Touch m s0 s) : OutTouch m s0 (execLedgerRead a0 s) :=
  runOpcode_touch (within_trans (by decide) w) (opLedgerRead_touch (within_trans (by decide) w)) h

theorem ledgerDrain_touch {m s0 a0 a1 a2 s} (w : Within 0x620000004000 m) (h : Touch m s0 s) : Touch m s0 (ledgerDrain a0 a1 a2 s) := by
  unfold ledgerDrain
  repeat' first
    | with_reducible assumption
    | with_reducible apply ledger_touch (within_trans (by decide) w)
    | exact touchUpd w h (by rfl) (by rfl) (by rfl) (by rfl) (by rfl)
        (fun q e => by cases q <;> first | exact absurd e (by decide) | rfl | exact fun _ _ => rfl)

theorem ledgerDrainPlan_touch {m a0 a1 s} (w : Within 0x620000004000 m) : PlanTouch m (ledgerDrainPlan a0 a1 s) := by
  unfold ledgerDrainPlan
  repeat' first
    | with_reducible assumption
    | with_reducible apply firstOf_touch
    | with_reducible apply checksT_cons
    | with_reducible exact checksT_nil
    | with_reducible apply chk_touch
    | with_reducible exact bad_touch
    | with_reducible exact done_id_touch
    | with_reducible apply done_touch
    | with_reducible apply ledgerDrain_touch (within_trans (by decide) w)
    | split
    | intro _

theorem opLedgerDrainAck_touch {m} (w : Within 0x620000004000 m) :
    OpTouch m opLedgerDrainAck := ⟨fun c r s => ledgerDrainPlan_touch w (a0 := c) (a1 := r) (s := s)⟩

theorem execLedgerDrainAck_touch {m s0 a0 s} (w : Within 0x6a2800207800 m) (h : Touch m s0 s) : OutTouch m s0 (execLedgerDrainAck a0 s) :=
  runOpcode_touch (within_trans (by decide) w) (opLedgerDrainAck_touch (within_trans (by decide) w)) h

theorem deviceResetPlan_touch {m a0 a1 s} (w : Within 0x100000 m) : PlanTouch m (deviceResetPlan a0 a1 s) := by
  unfold deviceResetPlan
  repeat' first
    | with_reducible assumption
    | with_reducible apply firstOf_touch
    | with_reducible apply checksT_cons
    | with_reducible exact checksT_nil
    | with_reducible exact bad_touch
    | with_reducible apply checksT_append
    | with_reducible apply some_touch
    | with_reducible exact none_touch
    | with_reducible apply done_touch
    | with_reducible apply modClk_touch (within_trans (by decide) w)
    | split
    | intro _

theorem opDeviceReset_touch {m} (w : Within 0x100000 m) :
    OpTouch m opDeviceReset := ⟨fun c r s => deviceResetPlan_touch w (a0 := c) (a1 := r) (s := s)⟩

theorem execDeviceReset_touch {m s0 a0 s} (w : Within 0x6a2800307800 m) (h : Touch m s0 s) : OutTouch m s0 (execDeviceReset a0 s) :=
  runOpcode_touch (within_trans (by decide) w) (opDeviceReset_touch (within_trans (by decide) w)) h

theorem imageLoad_touch {m s0 a0 a1 s} (w : Within 0x40000 m) (h : Touch m s0 s) : Touch m s0 (imageLoad a0 a1 s) := by
  unfold imageLoad
  repeat' first
    | with_reducible assumption
    | with_reducible apply modImages_touch (within_trans (by decide) w)

theorem imageLoadPlan_touch {m a0 a1 s} (w : Within 0x800040000 m) : PlanTouch m (imageLoadPlan a0 a1 s) := by
  unfold imageLoadPlan
  repeat' first
    | with_reducible assumption
    | with_reducible apply firstOf_touch
    | with_reducible apply checksT_cons
    | with_reducible exact checksT_nil
    | with_reducible exact bad_touch
    | with_reducible exact busyIf_touch (within_trans (by decide) w)
    | with_reducible apply done_touch
    | with_reducible apply imageLoad_touch (within_trans (by decide) w)
    | split
    | intro _

theorem opImageLoad_touch {m} (w : Within 0x800040000 m) : OpTouch m opImageLoad := ⟨fun c r s => imageLoadPlan_touch w (a0 := c) (a1 := r) (s := s)⟩

theorem execImageLoad_touch {m s0 a0 s} (w : Within 0x6a2800247800 m) (h : Touch m s0 s) : OutTouch m s0 (execImageLoad a0 s) :=
  runOpcode_touch (within_trans (by decide) w) (opImageLoad_touch (within_trans (by decide) w)) h

theorem imageActivatePlan_touch {m a0 a1 s} (w : Within 0x400800078000 m) : PlanTouch m (imageActivatePlan a0 a1 s) := by
  unfold imageActivatePlan
  repeat' first
    | with_reducible assumption
    | with_reducible apply firstOf_touch
    | with_reducible apply checksT_cons
    | with_reducible exact checksT_nil
    | with_reducible apply chk_touch
    | with_reducible exact bad_touch
    | with_reducible exact busyIf_touch (within_trans (by decide) w)
    | with_reducible exact done_id_touch
    | with_reducible apply some_touch
    | with_reducible exact none_touch
    | with_reducible apply done_touch
    | with_reducible apply Plan_long_touch (within_trans (by decide) w)
    | with_reducible exact retryIn_touch
    | with_reducible apply modImages_touch (within_trans (by decide) w)
    | split
    | intro _

theorem opImageActivate_touch {m} (w : Within 0x400800078000 m) :
    OpTouch m opImageActivate := ⟨fun c r s => imageActivatePlan_touch w (a0 := c) (a1 := r) (s := s)⟩

theorem execImageActivate_touch {m s0 a0 s} (w : Within 0x6a280027f800 m) (h : Touch m s0 s) : OutTouch m s0 (execImageActivate a0 s) :=
  runOpcode_touch (within_trans (by decide) w) (opImageActivate_touch (within_trans (by decide) w)) h

theorem activationFails_touch {m s0 a0 a1 s} (w : Within 0x400000068000 m) (h : Touch m s0 s) : Touch m s0 (activationFails a0 a1 s) := by
  unfold activationFails
  repeat' first
    | with_reducible assumption
    | with_reducible apply endOp_touch (within_trans (by decide) w)
    | with_reducible apply modImages_touch (within_trans (by decide) w)

theorem signatureVerified_touch {m s0 s} (w : Within 0x400000068000 m) (h : Touch m s0 s) : Touch m s0 (signatureVerified s) := by
  unfold signatureVerified
  repeat' first
    | with_reducible assumption
    | with_reducible apply activationFails_touch (within_trans (by decide) w)
    | with_reducible apply opProgress_touch (within_trans (by decide) w)
    | with_reducible apply opItem_touch (within_trans (by decide) w)
    | with_reducible apply modImages_touch (within_trans (by decide) w)
    | with_reducible apply journalEvent_touch (within_trans (by decide) w)
    | split

theorem execSignatureVerified_touch {m s0 s} (w : Within 0x400000068000 m) (h : Touch m s0 s) : OutTouch m s0 (execSignatureVerified s) := by
  unfold execSignatureVerified
  refine outTouch ?_
  repeat' first
    | with_reducible assumption
    | with_reducible apply signatureVerified_touch (within_trans (by decide) w)

theorem imageStop_touch {m s0 s} (w : Within 0x43040 m) (h : Touch m s0 s) : Touch m s0 (imageStop s) := by
  unfold imageStop
  repeat' first
    | with_reducible assumption
    | with_reducible apply modCp_touch (within_trans (by decide) w)
    | with_reducible apply dropSessions_touch (within_trans (by decide) w)
    | exact touchUpd w h (by rfl) (by rfl) (by rfl) (by rfl) (by rfl)
        (fun q e => by cases q <;> first | exact absurd e (by decide) | rfl | exact fun _ _ => rfl)
    | split

theorem imageRun_touch {m s0 s} (w : Within 0x62000006e040 m) (h : Touch m s0 s) : Touch m s0 (imageRun s) := by
  unfold imageRun
  repeat' first
    | with_reducible assumption
    | with_reducible apply modImages_touch (within_trans (by decide) w)
    | with_reducible apply ledgerEnds_touch (within_trans (by decide) w)
    | with_reducible apply ledgerDevice_touch (within_trans (by decide) w)
    | with_reducible apply journalEvent_touch (within_trans (by decide) w)
    | with_reducible apply cutOpen_touch (within_trans (by decide) w)
    | with_reducible apply endOp_touch (within_trans (by decide) w)
    | exact touchUpd w h (by rfl) (by rfl) (by rfl) (by rfl) (by rfl)
        (fun q e => by cases q <;> first | exact absurd e (by decide) | rfl | exact fun _ _ => rfl)

theorem imageStart_touch {m s0 s} (w : Within 0x62000006f040 m) (h : Touch m s0 s) : Touch m s0 (imageStart s) := by
  unfold imageStart
  repeat' first
    | with_reducible assumption
    | with_reducible apply imageRun_touch (within_trans (by decide) w)
    | with_reducible apply imageStop_touch (within_trans (by decide) w)
    | split

theorem execImageStart_touch {m s0 s} (w : Within 0x62000006f040 m) (h : Touch m s0 s) : OutTouch m s0 (execImageStart s) := by
  unfold execImageStart
  refine outTouch ?_
  repeat' first
    | with_reducible assumption
    | with_reducible apply imageStart_touch (within_trans (by decide) w)

end Sys2Proof.Machine
end

