-- ==== Sys2Proof/Laws/TouchLink.lean ====
section
/-!
SUPPORT. What every operation can change (Touch.lean), one lemma for each.
Loadings, the Bank, negotiation, training, the Survey.
-/
namespace Sys2Proof.Machine

theorem writeTable_touch {m s0 a0 a1 a2 s} (w : Within 0x200000000 m) (h : Touch m s0 s) : Touch m s0 (writeTable a0 a1 a2 s) := by
  unfold writeTable
  repeat' first
    | with_reducible assumption
    | with_reducible apply writeMem_touch (within_trans (by decide) w)

theorem clearTables_touch {m s0 a0 s} (w : Within 0x200000000 m) (h : Touch m s0 s) : Touch m s0 (clearTables a0 s) := by
  unfold clearTables
  repeat' first
    | with_reducible assumption
    | with_reducible apply clearMem_touch (within_trans (by decide) w)

theorem modRun_touch {m s0 a0 a1 s} (w : Within 0x20000000 m) (h : Touch m s0 s) : Touch m s0 (modRun a0 a1 s) := by
  unfold modRun
  repeat' first
    | with_reducible assumption
    | with_reducible apply modDiag_touch (within_trans (by decide) w)

theorem storeWrite_touch {m s0 s} (w : Within 0x220000000 m) (h : Touch m s0 s) : Touch m s0 (storeWrite s) := by
  unfold storeWrite
  repeat' first
    | with_reducible assumption
    | with_reducible apply writeMem_touch (within_trans (by decide) w)
    | with_reducible apply modDiag_touch (within_trans (by decide) w)

theorem capHeader_touch {m s0 a0 a1 a2 s} (w : Within 0x200000000 m) (h : Touch m s0 s) : Touch m s0 (capHeader a0 a1 a2 s) := by
  unfold capHeader
  repeat' first
    | with_reducible assumption
    | with_reducible apply writeMem_touch (within_trans (by decide) w)

theorem diagEnd_touch {m s0 a0 a1 s} (w : Within 0x400020028000 m) (h : Touch m s0 s) : Touch m s0 (diagEnd a0 a1 s) := by
  unfold diagEnd
  repeat' first
    | with_reducible assumption
    | with_reducible apply modDiag_touch (within_trans (by decide) w)
    | with_reducible apply endOpWith_touch (within_trans (by decide) w)
    | split

theorem captureCut_touch {m s0 a0 s} (w : Within 0x400220028000 m) (h : Touch m s0 s) : Touch m s0 (captureCut a0 s) := by
  unfold captureCut
  repeat' first
    | with_reducible assumption
    | with_reducible apply diagEnd_touch (within_trans (by decide) w)
    | with_reducible apply capHeader_touch (within_trans (by decide) w)
    | split

theorem storeYield_touch {m s0 s} (w : Within 0x400020028000 m) (h : Touch m s0 s) : Touch m s0 (storeYield s) := by
  unfold storeYield
  repeat' first
    | with_reducible assumption
    | with_reducible apply diagEnd_touch (within_trans (by decide) w)
    | split

theorem diagLeft_touch {m s0 a0 s} (w : Within 0x400020028000 m) (h : Touch m s0 s) : Touch m s0 (diagLeft a0 s) := by
  unfold diagLeft
  repeat' first
    | with_reducible assumption
    | with_reducible apply diagEnd_touch (within_trans (by decide) w)
    | with_reducible apply forL_touch
    | split
    | intro _
    | dsimp only

theorem diagBusy_touch {m s0 a0 s} (w : Within 0x400020028000 m) (h : Touch m s0 s) : Touch m s0 (diagBusy a0 s) := by
  unfold diagBusy
  repeat' first
    | with_reducible assumption
    | with_reducible apply diagEnd_touch (within_trans (by decide) w)
    | with_reducible apply modRun_touch (within_trans (by decide) w)
    | with_reducible apply forL_touch
    | split
    | intro _

theorem stageLot_touch {m s0 a0 a1 a2 a3 a4 s} (w : Within 0x604a10000000 m) (h : Touch m s0 s) : Touch m s0 (stageLot a0 a1 a2 a3 a4 s) := by
  unfold stageLot
  repeat' first
    | with_reducible assumption
    | with_reducible apply clearMem_touch (within_trans (by decide) w)
    | with_reducible apply draw_touch (within_trans (by decide) w)
    | with_reducible apply modLot_touch (within_trans (by decide) w)
    | with_reducible apply pmEvN_touch (within_trans (by decide) w)
    | with_reducible apply countDev_touch (within_trans (by decide) w)
    | with_reducible refine addCntG_touch (within_trans (by decide) w) ?_
    | with_reducible refine addCntP_touch (within_trans (by decide) w) ?_
    | with_reducible refine addCntL_touch (within_trans (by decide) w) ?_
    | with_reducible refine addCnt_touchAll (within_trans (by decide) w) ?_
    | split
    | intro _
    | dsimp only

theorem retireLot_touch {m s0 a0 s} (w : Within 0x10000000 m) (h : Touch m s0 s) : Touch m s0 (retireLot a0 s) := by
  unfold retireLot
  repeat' first
    | with_reducible assumption
    | with_reducible apply modLot_touch (within_trans (by decide) w)

theorem storeMap_touch {m s0 a0 a1 s} (w : Within 0x230000000 m) (h : Touch m s0 s) : Touch m s0 (storeMap a0 a1 s) := by
  unfold storeMap
  repeat' first
    | with_reducible assumption
    | with_reducible apply writeMem_touch (within_trans (by decide) w)
    | with_reducible apply modCh_touch (within_trans (by decide) w)
    | with_reducible apply storeWrite_touch (within_trans (by decide) w)
    | with_reducible apply forL_touch
    | split
    | intro _

theorem needLot_touch {m s0 s} (w : Within 0x404010000000 m) (h : Touch m s0 s) : Touch m s0 (needLot s) := by
  unfold needLot
  repeat' first
    | with_reducible assumption
    | with_reducible apply countDev_touch (within_trans (by decide) w)
    | with_reducible refine evGRail_touch (within_trans (by decide) w) ?_
    | with_reducible refine evGBit_touch (within_trans (by decide) w) ?_
    | with_reducible refine evG_touch (within_trans (by decide) w) ?_
    | with_reducible refine evG_touchAll (within_trans (by decide) w) ?_
    | with_reducible apply modLot_touch (within_trans (by decide) w)
    | split

theorem stageBase_touch {m s0 a0 a1 a2 a3 s} (w : Within 0x604a10000000 m) (h : Touch m s0 s) : Touch m s0 (stageBase a0 a1 a2 a3 s) := by
  unfold stageBase
  repeat' first
    | with_reducible assumption
    | with_reducible apply stageLot_touch (within_trans (by decide) w)
    | with_reducible apply needLot_touch (within_trans (by decide) w)

theorem selectBand_touch {m s0 a0 a1 a2 s} (w : Within 0x604a10000000 m) (h : Touch m s0 s) : Touch m s0 (selectBand a0 a1 a2 s) := by
  unfold selectBand
  repeat' first
    | with_reducible assumption
    | with_reducible apply modLot_touch (within_trans (by decide) w)
    | with_reducible apply retireLot_touch (within_trans (by decide) w)
    | with_reducible apply stageBase_touch (within_trans (by decide) w)
    | with_reducible apply forL_touch
    | split
    | intro _

theorem retireDormant_touch {m s0 a0 a1 s} (w : Within 0x10000000 m) (h : Touch m s0 s) : Touch m s0 (retireDormant a0 a1 s) := by
  unfold retireDormant
  repeat' first
    | with_reducible assumption
    | with_reducible apply retireLot_touch (within_trans (by decide) w)
    | with_reducible apply forL_touch
    | split
    | intro _

theorem selectVictim_touch {m s0 a0 s} (w : Within 0x604a10000000 m) (h : Touch m s0 s) : Touch m s0 (selectVictim a0 s) := by
  unfold selectVictim
  repeat' first
    | with_reducible assumption
    | with_reducible apply selectBand_touch (within_trans (by decide) w)
    | with_reducible apply retireDormant_touch (within_trans (by decide) w)
    | with_reducible apply forN_touch
    | with_reducible apply forL_touch
    | split
    | intro _

theorem joinInto_touch {m s0 a0 a1 s} (w : Within 0x604a10000000 m) (h : Touch m s0 s) : Touch m s0 (joinInto a0 a1 s) := by
  unfold joinInto
  repeat' first
    | with_reducible assumption
    | with_reducible apply stageBase_touch (within_trans (by decide) w)
    | with_reducible apply retireLot_touch (within_trans (by decide) w)
    | with_reducible apply retireDormant_touch (within_trans (by decide) w)
    | with_reducible apply forN_touch
    | with_reducible apply forL_touch
    | split
    | intro _
    | dsimp only

theorem joinProgress_touch {m s0 a0 s} (w : Within 0xc00000028000 m) (h : Touch m s0 s) : Touch m s0 (joinProgress a0 s) := by
  unfold joinProgress
  repeat' first
    | with_reducible assumption
    | with_reducible apply wrP_touch (within_trans (by decide) w)
    | with_reducible apply opProgress_touch (within_trans (by decide) w)
    | split
    | intro _
    | dsimp only

theorem joinCheck_touch {m s0 a0 s} (w : Within 0xc00002028000 m) (h : Touch m s0 s) : Touch m s0 (joinCheck a0 s) := by
  unfold joinCheck
  repeat' first
    | with_reducible assumption
    | with_reducible apply joinProgress_touch (within_trans (by decide) w)
    | with_reducible apply wrP_touch (within_trans (by decide) w)
    | with_reducible apply modPort_touch (within_trans (by decide) w)
    | split
    | intro _
    | dsimp only

theorem surveyNote_touch {m s0 a0 a1 a2 s} (w : Within 0x400010028000 m) (h : Touch m s0 s) : Touch m s0 (surveyNote a0 a1 a2 s) := by
  unfold surveyNote
  repeat' first
    | with_reducible assumption
    | with_reducible apply opItem_touch (within_trans (by decide) w)
    | with_reducible apply modCh_touch (within_trans (by decide) w)
    | split

theorem commitVictim_touch {m s0 a0 s} (w : Within 0xe04012028000 m) (h : Touch m s0 s) : Touch m s0 (commitVictim a0 s) := by
  unfold commitVictim
  repeat' first
    | with_reducible assumption
    | with_reducible apply wrP_touch (within_trans (by decide) w)
    | with_reducible apply pmEv_touch (within_trans (by decide) w)
    | with_reducible apply countDev_touch (within_trans (by decide) w)
    | with_reducible refine addCntG_touch (within_trans (by decide) w) ?_
    | with_reducible refine addCntP_touch (within_trans (by decide) w) ?_
    | with_reducible refine addCntL_touch (within_trans (by decide) w) ?_
    | with_reducible refine addCnt_touchAll (within_trans (by decide) w) ?_
    | with_reducible apply modVictim_touch (within_trans (by decide) w)
    | with_reducible apply surveyNote_touch (within_trans (by decide) w)
    | with_reducible apply joinCheck_touch (within_trans (by decide) w)
    | with_reducible apply forL_touch
    | with_reducible apply whenB_touch
    | intro _

theorem sweepVictim_touch {m s0 a0 s} (w : Within 0x10000000 m) (h : Touch m s0 s) : Touch m s0 (sweepVictim a0 s) := by
  unfold sweepVictim
  repeat' first
    | with_reducible assumption
    | with_reducible apply modVictim_touch (within_trans (by decide) w)
    | with_reducible apply mapLots_touch (within_trans (by decide) w)
    | split

theorem commitDue_touch {m s0 a0 s} (w : Within 0xe04012028000 m) (h : Touch m s0 s) : Touch m s0 (commitDue a0 s) := by
  unfold commitDue
  repeat' first
    | with_reducible assumption
    | with_reducible refine evGRail_touch (within_trans (by decide) w) ?_
    | with_reducible refine evGBit_touch (within_trans (by decide) w) ?_
    | with_reducible refine evG_touch (within_trans (by decide) w) ?_
    | with_reducible refine evG_touchAll (within_trans (by decide) w) ?_
    | with_reducible refine wrGRail_touch (within_trans (by decide) w) ?_
    | with_reducible refine wrG_touch (within_trans (by decide) w) ?_
    | with_reducible refine wrG_touchAll (within_trans (by decide) w) ?_
    | with_reducible apply commitVictim_touch (within_trans (by decide) w)
    | split

theorem discardStaged_touch {m s0 a0 s} (w : Within 0x4010000000 m) (h : Touch m s0 s) : Touch m s0 (discardStaged a0 s) := by
  unfold discardStaged
  repeat' first
    | with_reducible assumption
    | with_reducible refine evGRail_touch (within_trans (by decide) w) ?_
    | with_reducible refine evGBit_touch (within_trans (by decide) w) ?_
    | with_reducible refine evG_touch (within_trans (by decide) w) ?_
    | with_reducible refine evG_touchAll (within_trans (by decide) w) ?_
    | with_reducible apply dropStaged_touch (within_trans (by decide) w)

theorem wantStore_touch {m s0 a0 s} (w : Within 0x404030028000 m) (h : Touch m s0 s) : Touch m s0 (wantStore a0 s) := by
  unfold wantStore
  repeat' first
    | with_reducible assumption
    | with_reducible apply storeYield_touch (within_trans (by decide) w)
    | with_reducible apply modCh_touch (within_trans (by decide) w)
    | with_reducible refine evGRail_touch (within_trans (by decide) w) ?_
    | with_reducible refine evGBit_touch (within_trans (by decide) w) ?_
    | with_reducible refine evG_touch (within_trans (by decide) w) ?_
    | with_reducible refine evG_touchAll (within_trans (by decide) w) ?_
    | split

theorem keepVictim_touch {m s0 a0 s} (w : Within 0xc00012028000 m) (h : Touch m s0 s) : Touch m s0 (keepVictim a0 s) := by
  unfold keepVictim
  repeat' first
    | with_reducible assumption
    | with_reducible apply modVictim_touch (within_trans (by decide) w)
    | with_reducible apply joinCheck_touch (within_trans (by decide) w)
    | with_reducible apply surveyNote_touch (within_trans (by decide) w)
    | with_reducible apply forL_touch
    | with_reducible apply whenB_touch
    | intro _

theorem measureAgain_touch {m s0 a0 s} (w : Within 0x404030028000 m) (h : Touch m s0 s) : Touch m s0 (measureAgain a0 s) := by
  unfold measureAgain
  repeat' first
    | with_reducible assumption
    | with_reducible apply modVictim_touch (within_trans (by decide) w)
    | with_reducible apply modCh_touch (within_trans (by decide) w)
    | with_reducible apply opProgress_touch (within_trans (by decide) w)
    | with_reducible apply surveyNote_touch (within_trans (by decide) w)
    | with_reducible apply wantStore_touch (within_trans (by decide) w)
    | with_reducible apply forL_touch
    | split
    | intro _

theorem joinStart_touch {m s0 a0 s} (w : Within 0xc04032028000 m) (h : Touch m s0 s) : Touch m s0 (joinStart a0 s) := by
  unfold joinStart
  repeat' first
    | with_reducible assumption
    | with_reducible apply chDormant_touch (within_trans (by decide) w)
    | with_reducible apply modCh_touch (within_trans (by decide) w)
    | with_reducible apply wrP_touch (within_trans (by decide) w)
    | with_reducible apply wantStore_touch (within_trans (by decide) w)
    | with_reducible apply modPort_touch (within_trans (by decide) w)
    | split

theorem freePort_touch {m s0 a0 s} (w : Within 0x800010000000 m) (h : Touch m s0 s) : Touch m s0 (freePort a0 s) := by
  unfold freePort
  repeat' first
    | with_reducible assumption
    | with_reducible apply wrP_touch (within_trans (by decide) w)
    | with_reducible apply modCh_touch (within_trans (by decide) w)
    | with_reducible apply mapLots_touch (within_trans (by decide) w)

theorem retrainStep_touch {m s0 a0 a1 a2 s} (w : Within 0x400000028000 m) (h : Touch m s0 s) : Touch m s0 (retrainStep a0 a1 a2 s) := by
  unfold retrainStep
  repeat' first
    | with_reducible assumption
    | with_reducible apply opProgress_touch (within_trans (by decide) w)
    | split

theorem retrainDone_touch {m s0 a0 s} (w : Within 0x400002028000 m) (h : Touch m s0 s) : Touch m s0 (retrainDone a0 s) := by
  unfold retrainDone
  repeat' first
    | with_reducible assumption
    | with_reducible apply endRetrain_touch (within_trans (by decide) w)

theorem setPhase_touch {m s0 a0 a1 s} (w : Within 0xc00000028000 m) (h : Touch m s0 s) : Touch m s0 (setPhase a0 a1 s) := by
  unfold setPhase
  repeat' first
    | with_reducible assumption
    | with_reducible apply wrP_touch (within_trans (by decide) w)
    | with_reducible apply opItem_touch (within_trans (by decide) w)
    | with_reducible apply opProgress_touch (within_trans (by decide) w)
    | split

theorem beginTraining_touch {m s0 a0 a1 a2 a3 s} (w : Within 0xc00002028000 m) (h : Touch m s0 s) : Touch m s0 (beginTraining a0 a1 a2 a3 s) := by
  unfold beginTraining
  repeat' first
    | with_reducible assumption
    | with_reducible apply modPort_touch (within_trans (by decide) w)
    | with_reducible refine wrRegP_touch (within_trans (by decide) w) ?_
    | with_reducible refine wrRegPm0_touch (within_trans (by decide) w) ?_
    | with_reducible refine wrReg_touch (within_trans (by decide) w) ?_
    | with_reducible refine wrReg_touchAll (within_trans (by decide) w) ?_
    | with_reducible apply wrP_touch (within_trans (by decide) w)
    | with_reducible apply setPhase_touch (within_trans (by decide) w)
    | with_reducible apply countDev_touch (within_trans (by decide) w)

theorem ghostSrc_touch {m s0 a0 a1 a2 a3 s} (w : Within 0x800000000000 m) (h : Touch m s0 s) : Touch m s0 (ghostSrc a0 a1 a2 a3 s) := by
  unfold ghostSrc
  repeat' first
    | with_reducible assumption
    | with_reducible refine wrRegP_touch (within_trans (by decide) w) ?_

theorem ghostPage_touch {m s0 a0 a1 a2 s} (w : Within 0xc00002000000 m) (h : Touch m s0 s) : Touch m s0 (ghostPage a0 a1 a2 s) := by
  unfold ghostPage
  repeat' first
    | with_reducible assumption
    | with_reducible apply ghostSrc_touch (within_trans (by decide) w)
    | with_reducible refine addCntG_touch (within_trans (by decide) w) ?_
    | with_reducible refine addCntP_touch (within_trans (by decide) w) ?_
    | with_reducible refine addCntL_touch (within_trans (by decide) w) ?_
    | with_reducible refine addCnt_touchAll (within_trans (by decide) w) ?_
    | with_reducible apply modPort_touch (within_trans (by decide) w)
    | with_reducible apply countDev_touch (within_trans (by decide) w)
    | with_reducible apply evP_touch (within_trans (by decide) w)
    | split
    | intro _
    | dsimp only

theorem goodPage_touch {m s0 a0 a1 a2 s} (w : Within 0x800002000000 m) (h : Touch m s0 s) : Touch m s0 (goodPage a0 a1 a2 s) := by
  unfold goodPage
  repeat' first
    | with_reducible assumption
    | with_reducible apply modPort_touch (within_trans (by decide) w)
    | with_reducible apply wrP_touch (within_trans (by decide) w)
    | split
    | intro _
    | dsimp only

theorem takePage_touch {m s0 a0 a1 s} (w : Within 0xc00002000000 m) (h : Touch m s0 s) : Touch m s0 (takePage a0 a1 s) := by
  unfold takePage
  repeat' first
    | with_reducible assumption
    | with_reducible apply ghostPage_touch (within_trans (by decide) w)
    | with_reducible apply ghostSrc_touch (within_trans (by decide) w)
    | with_reducible refine addCntG_touch (within_trans (by decide) w) ?_
    | with_reducible refine addCntP_touch (within_trans (by decide) w) ?_
    | with_reducible refine addCntL_touch (within_trans (by decide) w) ?_
    | with_reducible refine addCnt_touchAll (within_trans (by decide) w) ?_
    | with_reducible apply goodPage_touch (within_trans (by decide) w)
    | split

theorem leaveListen_touch {m s0 a0 s} (w : Within 0x800802000000 m) (h : Touch m s0 s) : Touch m s0 (leaveListen a0 s) := by
  unfold leaveListen
  repeat' first
    | with_reducible assumption
    | with_reducible apply startAn_touch (within_trans (by decide) w)
    | with_reducible apply modPort_touch (within_trans (by decide) w)
    | with_reducible apply clearTrain_touch (within_trans (by decide) w)

theorem anPage_touch {m s0 a0 a1 s} (w : Within 0xc88837228000 m) (h : Touch m s0 s) : Touch m s0 (anPage a0 a1 s) := by
  unfold anPage
  repeat' first
    | with_reducible assumption
    | with_reducible apply takePage_touch (within_trans (by decide) w)
    | with_reducible apply leaveListen_touch (within_trans (by decide) w)
    | with_reducible apply diagBusy_touch (within_trans (by decide) w)
    | with_reducible apply wakeDoze_touch (within_trans (by decide) w)
    | with_reducible apply downRestart_touch (within_trans (by decide) w)
    | split

theorem execAnPage_touch {m s0 a0 a1 s} (w : Within 0xc88837228000 m) (h : Touch m s0 s) : OutTouch m s0 (execAnPage a0 a1 s) := by
  unfold execAnPage
  refine outTouch ?_
  repeat' first
    | with_reducible assumption
    | with_reducible apply anPage_touch (within_trans (by decide) w)

theorem execFlpBurstSend_touch {m s0 a0 s} (w : Within 0x802000000 m) (h : Touch m s0 s) : OutTouch m s0 (execFlpBurstSend a0 s) := by
  unfold execFlpBurstSend
  refine outTouch ?_
  repeat' first
    | with_reducible assumption
    | with_reducible apply draw_touch (within_trans (by decide) w)
    | with_reducible apply modPort_touch (within_trans (by decide) w)
    | split

theorem showResult_touch {m s0 a0 a1 a2 a3 a4 a5 s} (w : Within 0x800000000000 m) (h : Touch m s0 s) :
    Touch m s0 (showResult a0 a1 a2 a3 a4 a5 s) := by
  unfold showResult
  repeat' first
    | with_reducible assumption
    | with_reducible apply wrP_touch (within_trans (by decide) w)
    | with_reducible refine wrRegP_touch (within_trans (by decide) w) ?_

theorem resolveStd_touch {m s0 a0 a1 s} (w : Within 0xc00002028000 m) (h : Touch m s0 s) : Touch m s0 (resolveStd a0 a1 s) := by
  unfold resolveStd
  repeat' first
    | with_reducible assumption
    | with_reducible apply showResult_touch (within_trans (by decide) w)
    | with_reducible apply wrP_touch (within_trans (by decide) w)
    | with_reducible apply retrainStep_touch (within_trans (by decide) w)
    | with_reducible apply modPort_touch (within_trans (by decide) w)
    | split
    | intro _
    | dsimp only

theorem msFault_touch {m s0 a0 a1 a2 a3 s} (w : Within 0xc00002028000 m) (h : Touch m s0 s) : Touch m s0 (msFault a0 a1 a2 a3 s) := by
  unfold msFault
  repeat' first
    | with_reducible assumption
    | with_reducible apply resolveStd_touch (within_trans (by decide) w)
    | with_reducible apply evP_touch (within_trans (by decide) w)
    | with_reducible apply modPort_touch (within_trans (by decide) w)

theorem anComplete_touch {m s0 a0 a1 s} (w : Within 0xc00802028000 m) (h : Touch m s0 s) : Touch m s0 (anComplete a0 a1 s) := by
  unfold anComplete
  repeat' first
    | with_reducible assumption
    | with_reducible apply resolveStd_touch (within_trans (by decide) w)
    | with_reducible apply evP_touch (within_trans (by decide) w)
    | with_reducible apply msFault_touch (within_trans (by decide) w)
    | with_reducible apply beginTraining_touch (within_trans (by decide) w)
    | with_reducible apply showResult_touch (within_trans (by decide) w)
    | with_reducible apply modPort_touch (within_trans (by decide) w)
    | with_reducible apply startAn_touch (within_trans (by decide) w)
    | split
    | intro _
    | dsimp only

theorem execAnComplete_touch {m s0 a0 a1 s} (w : Within 0xc00802028000 m) (h : Touch m s0 s) : OutTouch m s0 (execAnComplete a0 a1 s) := by
  unfold execAnComplete
  refine outTouch ?_
  repeat' first
    | with_reducible assumption
    | with_reducible apply anComplete_touch (within_trans (by decide) w)

theorem countFail_touch {m s0 a0 s} (w : Within 0x800002000000 m) (h : Touch m s0 s) : Touch m s0 (countFail a0 s) := by
  unfold countFail
  repeat' first
    | with_reducible assumption
    | with_reducible apply evP_touch (within_trans (by decide) w)
    | with_reducible apply modPort_touch (within_trans (by decide) w)
    | with_reducible apply whenB_touch
    | intro _

theorem linkFailExpiry_touch {m s0 a0 s} (w : Within 0x800802000000 m) (h : Touch m s0 s) : Touch m s0 (linkFailExpiry a0 s) := by
  unfold linkFailExpiry
  repeat' first
    | with_reducible assumption
    | with_reducible apply startAn_touch (within_trans (by decide) w)
    | with_reducible apply countFail_touch (within_trans (by decide) w)
    | split

theorem execLinkFailInhibitExpiry_touch {m s0 a0 s} (w : Within 0x800802000000 m) (h : Touch m s0 s) :
    OutTouch m s0 (execLinkFailInhibitExpiry a0 s) := by
  unfold execLinkFailInhibitExpiry
  refine outTouch ?_
  repeat' first
    | with_reducible assumption
    | with_reducible apply linkFailExpiry_touch (within_trans (by decide) w)

theorem noLineEnergy_touch {m s0 a0 s} (w : Within 0x800802000000 m) (h : Touch m s0 s) : Touch m s0 (noLineEnergy a0 s) := by
  unfold noLineEnergy
  repeat' first
    | with_reducible assumption
    | with_reducible apply restoreModes_touch (within_trans (by decide) w)
    | with_reducible apply startAn_touch (within_trans (by decide) w)
    | split

theorem execNoLineEnergy_touch {m s0 a0 s} (w : Within 0x800802000000 m) (h : Touch m s0 s) : OutTouch m s0 (execNoLineEnergy a0 s) := by
  unfold execNoLineEnergy
  refine outTouch ?_
  repeat' first
    | with_reducible assumption
    | with_reducible apply noLineEnergy_touch (within_trans (by decide) w)

theorem countSirFail_touch {m s0 a0 s} (w : Within 0x800002000000 m) (h : Touch m s0 s) : Touch m s0 (countSirFail a0 s) := by
  unfold countSirFail
  repeat' first
    | with_reducible assumption
    | with_reducible apply modPort_touch (within_trans (by decide) w)
    | with_reducible apply evP_touch (within_trans (by decide) w)
    | with_reducible apply wrP_touch (within_trans (by decide) w)
    | split
    | intro _
    | dsimp only

theorem pcsLinkUp_touch {m s0 a0 s} (w : Within 0xc08002028000 m) (h : Touch m s0 s) : Touch m s0 (pcsLinkUp a0 s) := by
  unfold pcsLinkUp
  repeat' first
    | with_reducible assumption
    | with_reducible apply portUp_touch (within_trans (by decide) w)
    | with_reducible apply modPort_touch (within_trans (by decide) w)
    | with_reducible apply retrainDone_touch (within_trans (by decide) w)
    | with_reducible apply setReason_touch (within_trans (by decide) w)
    | split

theorem execPcsLinkUp_touch {m s0 a0 s} (w : Within 0xc08002028000 m) (h : Touch m s0 s) : OutTouch m s0 (execPcsLinkUp a0 s) := by
  unfold execPcsLinkUp
  refine outTouch ?_
  repeat' first
    | with_reducible assumption
    | with_reducible apply pcsLinkUp_touch (within_trans (by decide) w)

theorem execPcsLinkDown_touch {m s0 a0 a1 s} (w : Within 0xc08817000000 m) (h : Touch m s0 s) : OutTouch m s0 (execPcsLinkDown a0 a1 s) := by
  unfold execPcsLinkDown
  refine outTouch ?_
  repeat' first
    | with_reducible assumption
    | with_reducible apply downRestart_touch (within_trans (by decide) w)
    | split

theorem execFastRetrain_touch {m s0 a0 s} (w : Within 0xc00002000000 m) (h : Touch m s0 s) : OutTouch m s0 (execFastRetrain a0 s) := by
  unfold execFastRetrain
  refine outTouch ?_
  repeat' first
    | with_reducible assumption
    | with_reducible apply setReason_touch (within_trans (by decide) w)
    | split

theorem modTr_touch {m s0 a0 a1 s} (w : Within 0x2000000 m) (h : Touch m s0 s) : Touch m s0 (modTr a0 a1 s) := by
  unfold modTr
  repeat' first
    | with_reducible assumption
    | with_reducible apply modPort_touch (within_trans (by decide) w)

theorem toListen_touch {m s0 a0 s} (w : Within 0xc00012028000 m) (h : Touch m s0 s) : Touch m s0 (toListen a0 s) := by
  unfold toListen
  repeat' first
    | with_reducible assumption
    | with_reducible apply chLeave_touch (within_trans (by decide) w)
    | with_reducible apply saveElapsed_touch (within_trans (by decide) w)
    | with_reducible apply modPort_touch (within_trans (by decide) w)
    | with_reducible apply wrP_touch (within_trans (by decide) w)
    | with_reducible apply clearTrain_touch (within_trans (by decide) w)
    | with_reducible apply endRetrain_touch (within_trans (by decide) w)
    | with_reducible apply evP_touch (within_trans (by decide) w)

theorem restartHandshake_touch {m s0 a0 s} (w : Within 0xc08017028000 m) (h : Touch m s0 s) : Touch m s0 (restartHandshake a0 s) := by
  unfold restartHandshake
  repeat' first
    | with_reducible assumption
    | with_reducible apply portDown_touch (within_trans (by decide) w)
    | with_reducible apply modPort_touch (within_trans (by decide) w)
    | with_reducible apply wrP_touch (within_trans (by decide) w)
    | with_reducible apply setPhase_touch (within_trans (by decide) w)
    | with_reducible refine addCntG_touch (within_trans (by decide) w) ?_
    | with_reducible refine addCntP_touch (within_trans (by decide) w) ?_
    | with_reducible refine addCntL_touch (within_trans (by decide) w) ?_
    | with_reducible refine addCnt_touchAll (within_trans (by decide) w) ?_
    | split

theorem attemptFails_touch {m s0 a0 s} (w : Within 0xc00812028000 m) (h : Touch m s0 s) : Touch m s0 (attemptFails a0 s) := by
  unfold attemptFails
  repeat' first
    | with_reducible assumption
    | with_reducible apply countSirFail_touch (within_trans (by decide) w)
    | with_reducible apply countDev_touch (within_trans (by decide) w)
    | with_reducible apply evP_touch (within_trans (by decide) w)
    | with_reducible apply chLeave_touch (within_trans (by decide) w)
    | with_reducible apply saveElapsed_touch (within_trans (by decide) w)
    | with_reducible apply endRetrain_touch (within_trans (by decide) w)
    | with_reducible apply startAn_touch (within_trans (by decide) w)
    | with_reducible apply clearTrain_touch (within_trans (by decide) w)
    | with_reducible apply modPort_touch (within_trans (by decide) w)

theorem enterEcho_touch {m s0 a0 s} (w : Within 0xc14032428000 m) (h : Touch m s0 s) : Touch m s0 (enterEcho a0 s) := by
  unfold enterEcho
  repeat' first
    | with_reducible assumption
    | with_reducible apply setPhase_touch (within_trans (by decide) w)
    | with_reducible apply modTr_touch (within_trans (by decide) w)
    | with_reducible refine evGRail_touch (within_trans (by decide) w) ?_
    | with_reducible refine evGBit_touch (within_trans (by decide) w) ?_
    | with_reducible refine evG_touch (within_trans (by decide) w) ?_
    | with_reducible refine evG_touchAll (within_trans (by decide) w) ?_
    | with_reducible apply modTime_touch (within_trans (by decide) w)
    | with_reducible apply joinStart_touch (within_trans (by decide) w)
    | with_reducible apply sendMsg_touch (within_trans (by decide) w)
    | split

theorem enterPhase_touch {m s0 a0 a1 s} (w : Within 0xc00802028000 m) (h : Touch m s0 s) : Touch m s0 (enterPhase a0 a1 s) := by
  unfold enterPhase
  repeat' first
    | with_reducible assumption
    | with_reducible apply setPhase_touch (within_trans (by decide) w)
    | with_reducible apply modTr_touch (within_trans (by decide) w)
    | with_reducible apply draw_touch (within_trans (by decide) w)
    | with_reducible apply joinProgress_touch (within_trans (by decide) w)
    | split

theorem phaseDue_touch {m s0 a0 s} (w : Within 0xc14832428000 m) (h : Touch m s0 s) : Touch m s0 (phaseDue a0 s) := by
  unfold phaseDue
  repeat' first
    | with_reducible assumption
    | with_reducible apply enterEcho_touch (within_trans (by decide) w)
    | with_reducible apply enterPhase_touch (within_trans (by decide) w)
    | split
    | intro _
    | dsimp only

theorem maybeNext_touch {m s0 a0 s} (w : Within 0x802000000 m) (h : Touch m s0 s) : Touch m s0 (maybeNext a0 s) := by
  unfold maybeNext
  repeat' first
    | with_reducible assumption
    | with_reducible apply sendMsg_touch (within_trans (by decide) w)
    | with_reducible apply draw_touch (within_trans (by decide) w)
    | with_reducible apply modTr_touch (within_trans (by decide) w)
    | split
    | intro _
    | dsimp only

theorem ready_touch {m s0 a0 a1 s} (w : Within 0x802000000 m) (h : Touch m s0 s) : Touch m s0 (ready a0 a1 s) := by
  unfold ready
  repeat' first
    | with_reducible assumption
    | with_reducible apply maybeNext_touch (within_trans (by decide) w)
    | with_reducible apply sendMsg_touch (within_trans (by decide) w)
    | with_reducible apply modTr_touch (within_trans (by decide) w)
    | split

theorem echoReady_touch {m s0 a0 s} (w : Within 0x802000000 m) (h : Touch m s0 s) : Touch m s0 (echoReady a0 s) := by
  unfold echoReady
  repeat' first
    | with_reducible assumption
    | with_reducible apply ready_touch (within_trans (by decide) w)
    | split
    | intro _
    | dsimp only

theorem decidePairs_touch {m s0 a0 s} (w : Within 0x800802000000 m) (h : Touch m s0 s) : Touch m s0 (decidePairs a0 s) := by
  unfold decidePairs
  repeat' first
    | with_reducible assumption
    | with_reducible apply evP_touch (within_trans (by decide) w)
    | with_reducible apply ready_touch (within_trans (by decide) w)
    | with_reducible apply modTr_touch (within_trans (by decide) w)
    | with_reducible apply wrP_touch (within_trans (by decide) w)
    | with_reducible apply whenB_touch
    | split
    | intro _
    | dsimp only

theorem reportPairs_touch {m s0 a0 a1 s} (w : Within 0x800802000000 m) (h : Touch m s0 s) : Touch m s0 (reportPairs a0 a1 s) := by
  unfold reportPairs
  repeat' first
    | with_reducible assumption
    | with_reducible apply decidePairs_touch (within_trans (by decide) w)
    | with_reducible apply sendMsg_touch (within_trans (by decide) w)
    | with_reducible apply modTr_touch (within_trans (by decide) w)

theorem sendTable_touch {m s0 a0 a1 a2 s} (w : Within 0x2000000 m) (h : Touch m s0 s) : Touch m s0 (sendTable a0 a1 a2 s) := by
  unfold sendTable
  repeat' first
    | with_reducible assumption
    | with_reducible apply sendMsg_touch (within_trans (by decide) w)
    | with_reducible apply modTr_touch (within_trans (by decide) w)
    | split

theorem sendLoading_touch {m s0 a0 a1 s} (w : Within 0x802000000 m) (h : Touch m s0 s) : Touch m s0 (sendLoading a0 a1 s) := by
  unfold sendLoading
  repeat' first
    | with_reducible assumption
    | with_reducible apply sendTable_touch (within_trans (by decide) w)
    | with_reducible apply draw_touch (within_trans (by decide) w)

theorem restartLoading_touch {m s0 a0 s} (w : Within 0x800002000000 m) (h : Touch m s0 s) : Touch m s0 (restartLoading a0 s) := by
  unfold restartLoading
  repeat' first
    | with_reducible assumption
    | with_reducible apply modTr_touch (within_trans (by decide) w)
    | with_reducible apply wrP_touch (within_trans (by decide) w)

theorem maybeGo_touch {m s0 a0 s} (w : Within 0x802000000 m) (h : Touch m s0 s) : Touch m s0 (maybeGo a0 s) := by
  unfold maybeGo
  repeat' first
    | with_reducible assumption
    | with_reducible apply sendMsg_touch (within_trans (by decide) w)
    | with_reducible apply draw_touch (within_trans (by decide) w)
    | with_reducible apply modTr_touch (within_trans (by decide) w)
    | split
    | intro _
    | dsimp only

theorem enterService_touch {m s0 a0 s} (w : Within 0xc08202028000 m) (h : Touch m s0 s) : Touch m s0 (enterService a0 s) := by
  unfold enterService
  repeat' first
    | with_reducible assumption
    | with_reducible apply writeTable_touch (within_trans (by decide) w)
    | with_reducible apply saveElapsed_touch (within_trans (by decide) w)
    | with_reducible apply modPort_touch (within_trans (by decide) w)
    | with_reducible apply setPhase_touch (within_trans (by decide) w)
    | with_reducible apply wrP_touch (within_trans (by decide) w)
    | with_reducible apply setReason_touch (within_trans (by decide) w)
    | with_reducible apply updateRateReason_touch (within_trans (by decide) w)
    | with_reducible apply portUp_touch (within_trans (by decide) w)
    | with_reducible apply retrainDone_touch (within_trans (by decide) w)
    | with_reducible apply sendMsg_touch (within_trans (by decide) w)
    | split
    | intro _
    | dsimp only

theorem serviceDue_touch {m s0 a0 s} (w : Within 0xc08202028000 m) (h : Touch m s0 s) : Touch m s0 (serviceDue a0 s) := by
  unfold serviceDue
  repeat' first
    | with_reducible assumption
    | with_reducible apply enterService_touch (within_trans (by decide) w)
    | split

theorem execHandshakeDetectorFire_touch {m s0 a0 a1 a2 s} (w : Within 0x2000000 m) (h : Touch m s0 s) :
    OutTouch m s0 (execHandshakeDetectorFire a0 a1 a2 s) := by
  unfold execHandshakeDetectorFire
  refine outTouch ?_
  repeat' first
    | with_reducible assumption
    | with_reducible apply modTr_touch (within_trans (by decide) w)
    | split

theorem execHandshakeConfirmTimeout_touch {m s0 a0 a1 a2 s} (w : Within 0x800002000000 m) (h : Touch m s0 s) :
    OutTouch m s0 (execHandshakeConfirmTimeout a0 a1 a2 s) := by
  unfold execHandshakeConfirmTimeout
  refine outTouch ?_
  repeat' first
    | with_reducible assumption
    | with_reducible refine addCntG_touch (within_trans (by decide) w) ?_
    | with_reducible refine addCntP_touch (within_trans (by decide) w) ?_
    | with_reducible refine addCntL_touch (within_trans (by decide) w) ?_
    | with_reducible refine addCnt_touchAll (within_trans (by decide) w) ?_
    | with_reducible apply modTr_touch (within_trans (by decide) w)
    | split

theorem goodBurst_touch {m s0 a0 a1 s} (w : Within 0x802000000 m) (h : Touch m s0 s) : Touch m s0 (goodBurst a0 a1 s) := by
  unfold goodBurst
  repeat' first
    | with_reducible assumption
    | with_reducible apply draw_touch (within_trans (by decide) w)
    | with_reducible apply modTr_touch (within_trans (by decide) w)
    | split
    | intro _
    | dsimp only

theorem handshakeBurst_touch {m s0 a0 a1 s} (w : Within 0xc08817028000 m) (h : Touch m s0 s) : Touch m s0 (handshakeBurst a0 a1 s) := by
  unfold handshakeBurst
  repeat' first
    | with_reducible assumption
    | with_reducible apply modTr_touch (within_trans (by decide) w)
    | with_reducible apply ghostSrc_touch (within_trans (by decide) w)
    | with_reducible refine addCntG_touch (within_trans (by decide) w) ?_
    | with_reducible refine addCntP_touch (within_trans (by decide) w) ?_
    | with_reducible refine addCntL_touch (within_trans (by decide) w) ?_
    | with_reducible refine addCnt_touchAll (within_trans (by decide) w) ?_
    | with_reducible apply goodBurst_touch (within_trans (by decide) w)
    | with_reducible apply restartHandshake_touch (within_trans (by decide) w)
    | with_reducible apply downRestart_touch (within_trans (by decide) w)
    | split
    | intro _
    | dsimp only

theorem execHandshakeBurst_touch {m s0 a0 a1 s} (w : Within 0xc08817028000 m) (h : Touch m s0 s) : OutTouch m s0 (execHandshakeBurst a0 a1 s) := by
  unfold execHandshakeBurst
  refine outTouch ?_
  repeat' first
    | with_reducible assumption
    | with_reducible apply handshakeBurst_touch (within_trans (by decide) w)

theorem execSlaveBurst_touch {m s0 a0 s} (w : Within 0x2000000 m) (h : Touch m s0 s) : OutTouch m s0 (execSlaveBurst a0 s) := by
  unfold execSlaveBurst
  refine outTouch ?_
  repeat' first
    | with_reducible assumption
    | with_reducible apply modTr_touch (within_trans (by decide) w)
    | split

theorem execPartnerSilent_touch {m s0 a0 s} (w : Within 0xc08817028000 m) (h : Touch m s0 s) : OutTouch m s0 (execPartnerSilent a0 s) := by
  unfold execPartnerSilent
  refine outTouch ?_
  repeat' first
    | with_reducible assumption
    | with_reducible apply toListen_touch (within_trans (by decide) w)
    | with_reducible apply downRestart_touch (within_trans (by decide) w)
    | split

theorem execFirstBurstTimeout_touch {m s0 a0 s} (w : Within 0xc00012028000 m) (h : Touch m s0 s) : OutTouch m s0 (execFirstBurstTimeout a0 s) := by
  unfold execFirstBurstTimeout
  refine outTouch ?_
  repeat' first
    | with_reducible assumption
    | with_reducible apply toListen_touch (within_trans (by decide) w)
    | split

theorem execListenWindow_touch {m s0 a0 s} (w : Within 0x802000000 m) (h : Touch m s0 s) : OutTouch m s0 (execListenWindow a0 s) := by
  unfold execListenWindow
  refine outTouch ?_
  repeat' first
    | with_reducible assumption
    | with_reducible apply draw_touch (within_trans (by decide) w)
    | with_reducible apply modTr_touch (within_trans (by decide) w)
    | split

theorem execListenTdr_touch {m s0 a0 a1 a2 s} (w : Within 0x800802000000 m) (h : Touch m s0 s) : OutTouch m s0 (execListenTdr a0 a1 a2 s) := by
  unfold execListenTdr
  refine outTouch ?_
  repeat' first
    | with_reducible assumption
    | with_reducible apply leaveListen_touch (within_trans (by decide) w)
    | with_reducible apply modTr_touch (within_trans (by decide) w)
    | with_reducible refine wrRegP_touch (within_trans (by decide) w) ?_
    | with_reducible refine wrRegPm0_touch (within_trans (by decide) w) ?_
    | with_reducible refine wrRegHi_touch (by unfold portBase; omega) (within_trans (by decide) w) ?_
    | with_reducible refine wrReg_touch (within_trans (by decide) w) ?_
    | with_reducible refine wrReg_touchAll (within_trans (by decide) w) ?_
    | with_reducible apply evP_touch (within_trans (by decide) w)
    | with_reducible apply forN_touch
    | with_reducible apply whenB_touch
    | split
    | intro _

theorem execPhaseLimit_touch {m s0 a0 s} (w : Within 0xc08017028000 m) (h : Touch m s0 s) : OutTouch m s0 (execPhaseLimit a0 s) := by
  unfold execPhaseLimit
  refine outTouch ?_
  repeat' first
    | with_reducible assumption
    | with_reducible apply restartHandshake_touch (within_trans (by decide) w)
    | with_reducible apply sendMsg_touch (within_trans (by decide) w)
    | split

theorem execPhaseMismatch_touch {m s0 a0 s} (w : Within 0xc08017028000 m) (h : Touch m s0 s) : OutTouch m s0 (execPhaseMismatch a0 s) := by
  unfold execPhaseMismatch
  refine outTouch ?_
  repeat' first
    | with_reducible assumption
    | with_reducible apply restartHandshake_touch (within_trans (by decide) w)
    | split

theorem execTrainingDeadline_touch {m s0 a0 s} (w : Within 0xc00812028000 m) (h : Touch m s0 s) : OutTouch m s0 (execTrainingDeadline a0 s) := by
  unfold execTrainingDeadline
  refine outTouch ?_
  repeat' first
    | with_reducible assumption
    | with_reducible apply attemptFails_touch (within_trans (by decide) w)
    | split

theorem execTrainingPhaseChange_touch {m s0 a0 s} (w : Within 0xc14832428000 m) (h : Touch m s0 s) :
    OutTouch m s0 (execTrainingPhaseChange a0 s) := by
  unfold execTrainingPhaseChange
  refine outTouch ?_
  repeat' first
    | with_reducible assumption
    | with_reducible apply phaseDue_touch (within_trans (by decide) w)

theorem execCancellerConverged_touch {m s0 a0 s} (w : Within 0x802000000 m) (h : Touch m s0 s) : OutTouch m s0 (execCancellerConverged a0 s) := by
  unfold execCancellerConverged
  refine outTouch ?_
  repeat' first
    | with_reducible assumption
    | with_reducible apply echoReady_touch (within_trans (by decide) w)
    | with_reducible apply modTr_touch (within_trans (by decide) w)
    | split

theorem onTrain_touch {m s0 a0 a1 a2 a3 s} (w : Within 0x2000000 m) (f3 : ∀ x0, Touch m s0 x0 → Touch m s0 (a3 x0)) (h : Touch m s0 s) :
    Touch m s0 (onTrain a0 a1 a2 a3 s) := by
  unfold onTrain
  repeat' first
    | with_reducible assumption
    | with_reducible apply f3
    | with_reducible apply onReliable_touch (within_trans (by decide) w)
    | split

theorem execTParams_touch {m s0 a0 a1 a2 a3 a4 a5 s} (w : Within 0x2000000 m) (h : Touch m s0 s) :
    OutTouch m s0 (execTParams a0 a1 a2 a3 a4 a5 s) := by
  unfold execTParams
  refine outTouch ?_
  repeat' first
    | with_reducible assumption
    | with_reducible apply onTrain_touch (within_trans (by decide) w)
    | with_reducible apply modTr_touch (within_trans (by decide) w)
    | with_reducible apply sendMsg_touch (within_trans (by decide) w)
    | split
    | intro _

theorem execTAlign_touch {m s0 a0 a1 a2 a3 s} (w : Within 0x802000000 m) (h : Touch m s0 s) : OutTouch m s0 (execTAlign a0 a1 a2 a3 s) := by
  unfold execTAlign
  refine outTouch ?_
  repeat' first
    | with_reducible assumption
    | with_reducible apply echoReady_touch (within_trans (by decide) w)
    | with_reducible apply modTr_touch (within_trans (by decide) w)
    | split

theorem execTReady_touch {m s0 a0 a1 a2 s} (w : Within 0x802000000 m) (h : Touch m s0 s) : OutTouch m s0 (execTReady a0 a1 a2 s) := by
  unfold execTReady
  refine outTouch ?_
  repeat' first
    | with_reducible assumption
    | with_reducible apply onTrain_touch (within_trans (by decide) w)
    | with_reducible apply maybeNext_touch (within_trans (by decide) w)
    | with_reducible apply modTr_touch (within_trans (by decide) w)
    | split
    | intro _

theorem execTNext_touch {m s0 a0 a1 a2 a3 s} (w : Within 0x2000000 m) (h : Touch m s0 s) : OutTouch m s0 (execTNext a0 a1 a2 a3 s) := by
  unfold execTNext
  refine outTouch ?_
  repeat' first
    | with_reducible assumption
    | with_reducible apply onTrain_touch (within_trans (by decide) w)
    | with_reducible apply modTr_touch (within_trans (by decide) w)
    | split
    | intro _
    | dsimp only

theorem execTPairs_touch {m s0 a0 a1 a2 s} (w : Within 0x800802000000 m) (h : Touch m s0 s) : OutTouch m s0 (execTPairs a0 a1 a2 s) := by
  unfold execTPairs
  refine outTouch ?_
  repeat' first
    | with_reducible assumption
    | with_reducible apply onTrain_touch (within_trans (by decide) w)
    | with_reducible apply modTr_touch (within_trans (by decide) w)
    | with_reducible apply decidePairs_touch (within_trans (by decide) w)
    | split
    | intro _

theorem execTLoading_touch {m s0 a0 a1 a2 s} (w : Within 0x800802000000 m) (h : Touch m s0 s) : OutTouch m s0 (execTLoading a0 a1 a2 s) := by
  unfold execTLoading
  refine outTouch ?_
  repeat' first
    | with_reducible assumption
    | with_reducible apply onTrain_touch (within_trans (by decide) w)
    | with_reducible apply maybeGo_touch (within_trans (by decide) w)
    | with_reducible apply sendMsg_touch (within_trans (by decide) w)
    | with_reducible apply modTr_touch (within_trans (by decide) w)
    | with_reducible apply restartLoading_touch (within_trans (by decide) w)
    | split
    | intro _

theorem execTConfirm_touch {m s0 a0 a1 s} (w : Within 0x802000000 m) (h : Touch m s0 s) : OutTouch m s0 (execTConfirm a0 a1 s) := by
  unfold execTConfirm
  refine outTouch ?_
  repeat' first
    | with_reducible assumption
    | with_reducible apply onTrain_touch (within_trans (by decide) w)
    | with_reducible apply maybeGo_touch (within_trans (by decide) w)
    | with_reducible apply modTr_touch (within_trans (by decide) w)
    | split
    | intro _

theorem execTGo_touch {m s0 a0 a1 a2 s} (w : Within 0x2000000 m) (h : Touch m s0 s) : OutTouch m s0 (execTGo a0 a1 a2 s) := by
  unfold execTGo
  refine outTouch ?_
  repeat' first
    | with_reducible assumption
    | with_reducible apply onTrain_touch (within_trans (by decide) w)
    | with_reducible apply modTr_touch (within_trans (by decide) w)
    | split
    | intro _
    | dsimp only

theorem execTAbort_touch {m s0 a0 a1 s} (w : Within 0xc08017028000 m) (h : Touch m s0 s) : OutTouch m s0 (execTAbort a0 a1 s) := by
  unfold execTAbort
  refine outTouch ?_
  repeat' first
    | with_reducible assumption
    | with_reducible apply restartLoading_touch (within_trans (by decide) w)
    | with_reducible apply restartHandshake_touch (within_trans (by decide) w)
    | split

theorem execDiscoveryMeasured_touch {m s0 a0 a1 s} (w : Within 0x800802000000 m) (h : Touch m s0 s) :
    OutTouch m s0 (execDiscoveryMeasured a0 a1 s) := by
  unfold execDiscoveryMeasured
  refine outTouch ?_
  repeat' first
    | with_reducible assumption
    | with_reducible apply reportPairs_touch (within_trans (by decide) w)
    | split

theorem execPairCheckRetry_touch {m s0 a0 a1 s} (w : Within 0x800802000000 m) (h : Touch m s0 s) : OutTouch m s0 (execPairCheckRetry a0 a1 s) := by
  unfold execPairCheckRetry
  refine outTouch ?_
  repeat' first
    | with_reducible assumption
    | with_reducible apply reportPairs_touch (within_trans (by decide) w)
    | split

theorem execJoinRampStep_touch {m s0 a0 s} (w : Within 0xc00802028000 m) (h : Touch m s0 s) : OutTouch m s0 (execJoinRampStep a0 s) := by
  unfold execJoinRampStep
  refine outTouch ?_
  repeat' first
    | with_reducible assumption
    | with_reducible apply retrainStep_touch (within_trans (by decide) w)
    | with_reducible apply wrP_touch (within_trans (by decide) w)
    | with_reducible apply modTr_touch (within_trans (by decide) w)
    | with_reducible apply ready_touch (within_trans (by decide) w)
    | split
    | intro _
    | dsimp only

theorem execJoinLate_touch {m s0 a0 s} (w : Within 0x800000000000 m) (h : Touch m s0 s) : OutTouch m s0 (execJoinLate a0 s) := by
  unfold execJoinLate
  refine outTouch ?_
  repeat' first
    | with_reducible assumption
    | with_reducible apply evP_touch (within_trans (by decide) w)
    | with_reducible apply wrP_touch (within_trans (by decide) w)
    | split

theorem execLoadingMeasured_touch {m s0 a0 a1 s} (w : Within 0x802000000 m) (h : Touch m s0 s) : OutTouch m s0 (execLoadingMeasured a0 a1 s) := by
  unfold execLoadingMeasured
  refine outTouch ?_
  repeat' first
    | with_reducible assumption
    | with_reducible apply sendLoading_touch (within_trans (by decide) w)
    | split

theorem execLoadingRemeasure_touch {m s0 a0 a1 s} (w : Within 0x802000000 m) (h : Touch m s0 s) : OutTouch m s0 (execLoadingRemeasure a0 a1 s) := by
  unfold execLoadingRemeasure
  refine outTouch ?_
  repeat' first
    | with_reducible assumption
    | with_reducible apply sendLoading_touch (within_trans (by decide) w)
    | split

theorem execServiceEntry_touch {m s0 a0 s} (w : Within 0xc08202028000 m) (h : Touch m s0 s) : OutTouch m s0 (execServiceEntry a0 s) := by
  unfold execServiceEntry
  refine outTouch ?_
  repeat' first
    | with_reducible assumption
    | with_reducible apply serviceDue_touch (within_trans (by decide) w)

theorem policyDue_touch {m s0 s} (w : Within 0x4010000000 m) (h : Touch m s0 s) : Touch m s0 (policyDue s) := by
  unfold policyDue
  repeat' first
    | with_reducible assumption
    | with_reducible refine wrRegP_touch (within_trans (by decide) w) ?_
    | with_reducible refine wrRegPm0_touch (within_trans (by decide) w) ?_
    | with_reducible refine wrReg_touch (within_trans (by decide) w) ?_
    | with_reducible refine wrReg_touchAll (within_trans (by decide) w) ?_
    | with_reducible apply modCh_touch (within_trans (by decide) w)
    | split

theorem bankPolicyPlan_touch {m a0 a1 s} (w : Within 0xd0889a028000 m) : PlanTouch m (bankPolicyPlan a0 a1 s) := by
  unfold bankPolicyPlan
  repeat' first
    | with_reducible assumption
    | with_reducible apply firstOf_touch
    | with_reducible apply checksT_cons
    | with_reducible exact checksT_nil
    | with_reducible exact bad_touch
    | with_reducible exact gated_touch
    | with_reducible exact inAudit_touch (within_trans (by decide) w)
    | with_reducible apply some_touch
    | with_reducible exact none_touch
    | with_reducible apply done_touch
    | with_reducible apply modCh_touch (within_trans (by decide) w)
    | split
    | intro _

theorem opBankPolicy_touch {m} (w : Within 0xd0889a028000 m) :
    OpTouch m opBankPolicy := ⟨fun c r s => bankPolicyPlan_touch w (a0 := c) (a1 := r) (s := s)⟩

theorem execBankPolicy_touch {m s0 a0 s} (w : Within 0xfaa89a22f800 m) (h : Touch m s0 s) : OutTouch m s0 (execBankPolicy a0 s) :=
  runOpcode_touch (within_trans (by decide) w) (opBankPolicy_touch (within_trans (by decide) w)) h

theorem bankStatusPlan_touch {m a0 a1 s} (w : Within 0xd0889a028000 m) : PlanTouch m (bankStatusPlan a0 a1 s) := by
  unfold bankStatusPlan
  repeat' first
    | with_reducible assumption
    | with_reducible apply firstOf_touch
    | with_reducible apply checksT_cons
    | with_reducible exact checksT_nil
    | with_reducible exact bad_touch
    | with_reducible exact gated_touch
    | with_reducible exact inAudit_touch (within_trans (by decide) w)
    | with_reducible exact done_id_touch

theorem opBankStatus_touch {m} (w : Within 0xd0889a028000 m) :
    OpTouch m opBankStatus := ⟨fun c r s => bankStatusPlan_touch w (a0 := c) (a1 := r) (s := s)⟩

theorem execBankStatus_touch {m s0 a0 s} (w : Within 0xfaa89a22f800 m) (h : Touch m s0 s) : OutTouch m s0 (execBankStatus a0 s) :=
  runOpcode_touch (within_trans (by decide) w) (opBankStatus_touch (within_trans (by decide) w)) h

theorem modSurvey_touch {m s0 a0 s} (w : Within 0x10000000 m) (h : Touch m s0 s) : Touch m s0 (modSurvey a0 s) := by
  unfold modSurvey
  repeat' first
    | with_reducible assumption
    | with_reducible apply modCh_touch (within_trans (by decide) w)

theorem surveyStep_touch {m s0 a0 s} (w : Within 0x404010028000 m) (h : Touch m s0 s) : Touch m s0 (surveyStep a0 s) := by
  unfold surveyStep
  repeat' first
    | with_reducible assumption
    | with_reducible refine wrGRail_touch (within_trans (by decide) w) ?_
    | with_reducible refine wrG_touch (within_trans (by decide) w) ?_
    | with_reducible refine wrG_touchAll (within_trans (by decide) w) ?_
    | with_reducible apply opProgress_touch (within_trans (by decide) w)
    | with_reducible apply modSurvey_touch (within_trans (by decide) w)
    | split

theorem surveyEnd_touch {m s0 a0 s} (w : Within 0xfff010028000 m) (h : Touch m s0 s) : Touch m s0 (surveyEnd a0 s) := by
  unfold surveyEnd
  repeat' first
    | with_reducible assumption
    | with_reducible apply dropStaged_touch (within_trans (by decide) w)
    | with_reducible apply modCh_touch (within_trans (by decide) w)
    | with_reducible refine wrGRail_touch (within_trans (by decide) w) ?_
    | with_reducible refine wrG_touch (within_trans (by decide) w) ?_
    | with_reducible refine wrG_touchAll (within_trans (by decide) w) ?_
    | with_reducible apply endOpWith_touch (within_trans (by decide) w)
    | with_reducible refine evGRail_touch (within_trans (by decide) w) ?_
    | with_reducible refine evGBit_touch (within_trans (by decide) w) ?_
    | with_reducible refine evG_touch (within_trans (by decide) w) ?_
    | with_reducible refine evG_touchAll (within_trans (by decide) w) ?_
    | split

theorem surveyBegin_touch {m s0 a0 a1 a2 a3 a4 s} (w : Within 0xfff010028000 m) (h : Touch m s0 s) : Touch m s0 (surveyBegin a0 a1 a2 a3 a4 s) := by
  unfold surveyBegin
  repeat' first
    | with_reducible assumption
    | with_reducible refine wrGRail_touch (within_trans (by decide) w) ?_
    | with_reducible refine wrG_touch (within_trans (by decide) w) ?_
    | with_reducible refine wrG_touchAll (within_trans (by decide) w) ?_
    | with_reducible apply modCh_touch (within_trans (by decide) w)
    | with_reducible apply surveyEnd_touch (within_trans (by decide) w)
    | split
    | intro _
    | dsimp only

theorem surveyStartPlan_touch {m a0 a1 s} (w : Within 0xfff89a038000 m) : PlanTouch m (surveyStartPlan a0 a1 s) := by
  unfold surveyStartPlan
  repeat' first
    | with_reducible assumption
    | with_reducible apply firstOf_touch
    | with_reducible apply checksT_cons
    | with_reducible exact checksT_nil
    | with_reducible exact bad_touch
    | with_reducible exact gated_touch
    | with_reducible exact inAudit_touch (within_trans (by decide) w)
    | with_reducible exact busyIf_touch (within_trans (by decide) w)
    | with_reducible apply some_touch
    | with_reducible exact none_touch
    | with_reducible apply Plan_long_touch (within_trans (by decide) w)
    | with_reducible apply surveyBegin_touch (within_trans (by decide) w)
    | split
    | intro _

theorem opSurveyStart_touch {m} (w : Within 0xfff89a038000 m) :
    OpTouch m opSurveyStart := ⟨fun c r s => surveyStartPlan_touch w (a0 := c) (a1 := r) (s := s)⟩

theorem execSurveyStart_touch {m s0 a0 s} (w : Within 0xfff89a23f800 m) (h : Touch m s0 s) : OutTouch m s0 (execSurveyStart a0 s) :=
  runOpcode_touch (within_trans (by decide) w) (opSurveyStart_touch (within_trans (by decide) w)) h

theorem surveyAbort_touch {m s0 s} (w : Within 0xfff010028000 m) (h : Touch m s0 s) : Touch m s0 (surveyAbort s) := by
  unfold surveyAbort
  repeat' first
    | with_reducible assumption
    | with_reducible apply surveyEnd_touch (within_trans (by decide) w)

theorem bandCheck_touch {m s0 a0 s} (w : Within 0x4002000000 m) (h : Touch m s0 s) : Touch m s0 (bandCheck a0 s) := by
  unfold bandCheck
  repeat' first
    | with_reducible assumption
    | with_reducible refine evGRail_touch (within_trans (by decide) w) ?_
    | with_reducible refine evGBit_touch (within_trans (by decide) w) ?_
    | with_reducible refine evG_touch (within_trans (by decide) w) ?_
    | with_reducible refine evG_touchAll (within_trans (by decide) w) ?_
    | with_reducible refine wrGRail_touch (within_trans (by decide) w) ?_
    | with_reducible refine wrG_touch (within_trans (by decide) w) ?_
    | with_reducible refine wrG_touchAll (within_trans (by decide) w) ?_
    | with_reducible apply sendMsg_touch (within_trans (by decide) w)
    | with_reducible apply modPort_touch (within_trans (by decide) w)
    | with_reducible apply forL_touch
    | with_reducible apply whenB_touch
    | split
    | intro _

theorem execBandCheck_touch {m s0 a0 s} (w : Within 0x404012028000 m) (h : Touch m s0 s) : OutTouch m s0 (execBandCheck a0 s) := by
  unfold execBandCheck
  refine outTouch ?_
  repeat' first
    | with_reducible assumption
    | with_reducible apply surveyStep_touch (within_trans (by decide) w)
    | with_reducible apply bandCheck_touch (within_trans (by decide) w)
    | split

theorem batchVictim_touch {m s0 a0 s} (w : Within 0x604a10028000 m) (h : Touch m s0 s) : Touch m s0 (batchVictim a0 s) := by
  unfold batchVictim
  repeat' first
    | with_reducible assumption
    | with_reducible apply surveyNote_touch (within_trans (by decide) w)
    | with_reducible apply modVictim_touch (within_trans (by decide) w)
    | with_reducible apply selectVictim_touch (within_trans (by decide) w)
    | split

theorem runBatch_touch {m l s0 s} (w : Within 0x604a10028000 m) (h : Touch m s0 s) : Touch m s0 (runBatch l s).2 := by
  induction l generalizing s with
  | nil => exact h
  | cons a l ih =>
    unfold runBatch
    split
    · exact h
    · exact ih (batchVictim_touch (within_trans (by decide) w) h)

theorem surveyBatch_touch {m s0 a0 a1 a2 s} (w : Within 0x604a30028000 m) (h : Touch m s0 s) : Touch m s0 (surveyBatch a0 a1 a2 s) := by
  unfold surveyBatch
  repeat' first
    | with_reducible assumption
    | with_reducible apply storeMap_touch (within_trans (by decide) w)
    | with_reducible apply runBatch_touch (within_trans (by decide) w)
    | with_reducible refine pair_touch ?_ (by assumption)
    | with_reducible refine triple_touch ?_ (by assumption)
    | with_reducible apply surveyStep_touch (within_trans (by decide) w)
    | with_reducible apply modSurvey_touch (within_trans (by decide) w)
    | with_reducible apply forLPair_touch
    | with_reducible apply foldlPair_touch
    | split

theorem execSurveyBatch_touch {m s0 a0 a1 s} (w : Within 0x604a30028000 m) (h : Touch m s0 s) : OutTouch m s0 (execSurveyBatch a0 a1 s) := by
  unfold execSurveyBatch
  refine outTouch ?_
  repeat' first
    | with_reducible assumption
    | with_reducible apply surveyBatch_touch (within_trans (by decide) w)
    | split

theorem execSurveyRelease_touch {m s0 s} (w : Within 0xfff010028000 m) (h : Touch m s0 s) : OutTouch m s0 (execSurveyRelease s) := by
  unfold execSurveyRelease
  refine outTouch ?_
  repeat' first
    | with_reducible assumption
    | with_reducible apply surveyEnd_touch (within_trans (by decide) w)
    | with_reducible apply surveyStep_touch (within_trans (by decide) w)
    | split

theorem joinVictim_touch {m s0 a0 a1 s} (w : Within 0x10000000 m) (h : Touch m s0 s) : Touch m s0 (joinVictim a0 a1 s) := by
  unfold joinVictim
  repeat' first
    | with_reducible assumption
    | with_reducible apply modVictim_touch (within_trans (by decide) w)

theorem joinStage_touch {m s0 a0 a1 s} (w : Within 0x604a10000000 m) (h : Touch m s0 s) : Touch m s0 (joinStage a0 a1 s) := by
  unfold joinStage
  repeat' first
    | with_reducible assumption
    | with_reducible apply joinVictim_touch (within_trans (by decide) w)
    | with_reducible apply selectVictim_touch (within_trans (by decide) w)
    | with_reducible apply joinInto_touch (within_trans (by decide) w)
    | split
    | intro _
    | dsimp only

theorem joinMeasured_touch {m s0 a0 a1 a2 s} (w : Within 0xe04a32028000 m) (h : Touch m s0 s) : Touch m s0 (joinMeasured a0 a1 a2 s) := by
  unfold joinMeasured
  repeat' first
    | with_reducible assumption
    | with_reducible apply storeMap_touch (within_trans (by decide) w)
    | with_reducible apply joinStage_touch (within_trans (by decide) w)
    | with_reducible apply joinCheck_touch (within_trans (by decide) w)
    | with_reducible apply modCh_touch (within_trans (by decide) w)
    | with_reducible apply modTr_touch (within_trans (by decide) w)
    | with_reducible apply forL_touch
    | split
    | intro _

theorem execJoinMeasured_touch {m s0 a0 a1 s} (w : Within 0xe04a32028000 m) (h : Touch m s0 s) : OutTouch m s0 (execJoinMeasured a0 a1 s) := by
  unfold execJoinMeasured
  refine outTouch ?_
  repeat' first
    | with_reducible assumption
    | with_reducible apply joinMeasured_touch (within_trans (by decide) w)
    | split

theorem shadowReady_touch {m s0 a0 a1 a2 s} (w : Within 0xc04032028000 m) (h : Touch m s0 s) : Touch m s0 (shadowReady a0 a1 a2 s) := by
  unfold shadowReady
  repeat' first
    | with_reducible assumption
    | with_reducible apply modVictim_touch (within_trans (by decide) w)
    | with_reducible apply opStep_touch (within_trans (by decide) w)
    | with_reducible apply discardStaged_touch (within_trans (by decide) w)
    | with_reducible apply measureAgain_touch (within_trans (by decide) w)
    | with_reducible apply keepVictim_touch (within_trans (by decide) w)
    | split
    | intro _
    | dsimp only

theorem execShadowReady_touch {m s0 a0 a1 a2 s} (w : Within 0xc04032028000 m) (h : Touch m s0 s) : OutTouch m s0 (execShadowReady a0 a1 a2 s) := by
  unfold execShadowReady
  refine outTouch ?_
  repeat' first
    | with_reducible assumption
    | with_reducible apply shadowReady_touch (within_trans (by decide) w)

theorem execSurveyCommit_touch {m s0 a0 s} (w : Within 0xe04012028000 m) (h : Touch m s0 s) : OutTouch m s0 (execSurveyCommit a0 s) := by
  unfold execSurveyCommit
  refine outTouch ?_
  repeat' first
    | with_reducible assumption
    | with_reducible apply commitDue_touch (within_trans (by decide) w)
    | split

theorem execLendingCommit_touch {m s0 a0 s} (w : Within 0xe04012028000 m) (h : Touch m s0 s) : OutTouch m s0 (execLendingCommit a0 s) := by
  unfold execLendingCommit
  refine outTouch ?_
  repeat' first
    | with_reducible assumption
    | with_reducible apply commitDue_touch (within_trans (by decide) w)
    | split

theorem execCommitSweep_touch {m s0 a0 s} (w : Within 0x10000000 m) (h : Touch m s0 s) : OutTouch m s0 (execCommitSweep a0 s) := by
  unfold execCommitSweep
  refine outTouch ?_
  repeat' first
    | with_reducible assumption
    | with_reducible apply sweepVictim_touch (within_trans (by decide) w)

theorem execStagedExpiry_touch {m s0 a0 s} (w : Within 0x404030028000 m) (h : Touch m s0 s) : OutTouch m s0 (execStagedExpiry a0 s) := by
  unfold execStagedExpiry
  refine outTouch ?_
  repeat' first
    | with_reducible assumption
    | with_reducible apply measureAgain_touch (within_trans (by decide) w)
    | with_reducible apply discardStaged_touch (within_trans (by decide) w)
    | split

theorem execDormantHoldExpiry_touch {m s0 a0 s} (w : Within 0x800010000000 m) (h : Touch m s0 s) : OutTouch m s0 (execDormantHoldExpiry a0 s) := by
  unfold execDormantHoldExpiry
  refine outTouch ?_
  repeat' first
    | with_reducible assumption
    | with_reducible apply freePort_touch (within_trans (by decide) w)
    | split

theorem execFeedbackTimeout_touch {m s0 a0 s} (w : Within 0x210000000 m) (h : Touch m s0 s) : OutTouch m s0 (execFeedbackTimeout a0 s) := by
  unfold execFeedbackTimeout
  refine outTouch ?_
  repeat' first
    | with_reducible assumption
    | with_reducible apply writeMem_touch (within_trans (by decide) w)
    | with_reducible apply modVictim_touch (within_trans (by decide) w)
    | split

theorem foreignCheck_touch {m s0 a0 s} (w : Within 0x804010000000 m) (h : Touch m s0 s) : Touch m s0 (foreignCheck a0 s) := by
  unfold foreignCheck
  repeat' first
    | with_reducible assumption
    | with_reducible apply modVictim_touch (within_trans (by decide) w)
    | with_reducible refine evGRail_touch (within_trans (by decide) w) ?_
    | with_reducible refine evGBit_touch (within_trans (by decide) w) ?_
    | with_reducible refine evG_touch (within_trans (by decide) w) ?_
    | with_reducible refine evG_touchAll (within_trans (by decide) w) ?_
    | with_reducible apply wrP_touch (within_trans (by decide) w)
    | with_reducible apply whenB_touch
    | intro _

theorem farCheck_touch {m s0 a0 s} (w : Within 0x800010000000 m) (h : Touch m s0 s) : Touch m s0 (farCheck a0 s) := by
  unfold farCheck
  repeat' first
    | with_reducible assumption
    | with_reducible apply modVictim_touch (within_trans (by decide) w)
    | with_reducible apply wrP_touch (within_trans (by decide) w)
    | split

theorem windowReport_touch {m s0 a0 s} (w : Within 0x804210000000 m) (h : Touch m s0 s) : Touch m s0 (windowReport a0 s) := by
  unfold windowReport
  repeat' first
    | with_reducible assumption
    | with_reducible apply foreignCheck_touch (within_trans (by decide) w)
    | with_reducible apply writeMem_touch (within_trans (by decide) w)
    | with_reducible apply farCheck_touch (within_trans (by decide) w)
    | with_reducible apply wrP_touch (within_trans (by decide) w)

theorem lendOne_touch {m s0 a0 a1} (w : Within 0x604a10000000 m) (h : Touch m s0 a1.2) : Touch m s0 (lendOne a0 a1).2 := by
  unfold lendOne
  repeat' first
    | with_reducible assumption
    | with_reducible apply modVictim_touch (within_trans (by decide) w)
    | with_reducible apply stageLot_touch (within_trans (by decide) w)
    | split
    | intro _
    | dsimp only

theorem lend_touch {m s0 s} (w : Within 0x604a10000000 m) (h : Touch m s0 s) : Touch m s0 (lend s) := by
  unfold lend
  repeat' first
    | with_reducible assumption
    | with_reducible apply lendOne_touch (within_trans (by decide) w)
    | with_reducible refine pair_touch ?_ (by assumption)
    | with_reducible refine triple_touch ?_ (by assumption)
    | with_reducible apply modVictim_touch (within_trans (by decide) w)
    | with_reducible apply retireLot_touch (within_trans (by decide) w)
    | with_reducible apply forLPair_touch
    | with_reducible apply foldlPair_touch
    | with_reducible apply foldl_touch
    | with_reducible apply forL_touch
    | split
    | intro _

theorem execChWindowEnd_touch {m s0 a0 s} (w : Within 0xe04a12028000 m) (h : Touch m s0 s) : OutTouch m s0 (execChWindowEnd a0 s) := by
  unfold execChWindowEnd
  refine outTouch ?_
  repeat' first
    | with_reducible assumption
    | with_reducible apply windowReport_touch (within_trans (by decide) w)
    | with_reducible apply policyDue_touch (within_trans (by decide) w)
    | with_reducible apply commitDue_touch (within_trans (by decide) w)
    | with_reducible apply lend_touch (within_trans (by decide) w)
    | with_reducible apply forL_touch
    | split
    | intro _
    | dsimp only

end Sys2Proof.Machine
end

