-- ==== Sys2Proof/Laws/TouchData.lean ====
section
/-!
SUPPORT. What every operation can change (Touch.lean), one lemma for each.
Frames, the Escrow, messages, hitless operation, the Shutter.
-/
namespace Sys2Proof.Machine

theorem pmPort_touch {m s0 a0 a1 a2 s} (w : Within 0x200000000000 m) (h : Touch m s0 s) : Touch m s0 (pmPort a0 a1 a2 s) := by
  unfold pmPort
  repeat' first
    | with_reducible assumption
    | with_reducible apply pmEvN_touch (within_trans (by decide) w)

theorem ptpCorrect_touch {m s0 a0 a1 a2 a3 s} (w : Within 0xe00000000000 m) (h : Touch m s0 s) : Touch m s0 (ptpCorrect a0 a1 a2 a3 s).2.2 := by
  unfold ptpCorrect
  repeat' first
    | with_reducible assumption
    | with_reducible refine addCntG_touch (within_trans (by decide) w) ?_
    | with_reducible refine addCntP_touch (within_trans (by decide) w) ?_
    | with_reducible refine addCntL_touch (within_trans (by decide) w) ?_
    | with_reducible refine addCnt_touchAll (within_trans (by decide) w) ?_
    | with_reducible apply evP_touch (within_trans (by decide) w)
    | with_reducible apply pmEv_touch (within_trans (by decide) w)
    | with_reducible apply countDev_touch (within_trans (by decide) w)
    | split

theorem pushTs_touch {m s0 a0 a1 s} (w : Within 0x800004000000 m) (h : Touch m s0 s) : Touch m s0 (pushTs a0 a1 s) := by
  unfold pushTs
  repeat' first
    | with_reducible assumption
    | with_reducible apply evP_touch (within_trans (by decide) w)
    | with_reducible apply wrP_touch (within_trans (by decide) w)
    | with_reducible apply modHost_touch (within_trans (by decide) w)
    | split

theorem noteLaunch_touch {m s0 a0 a1 a2 s} (w : Within 0x800000 m) (h : Touch m s0 s) : Touch m s0 (noteLaunch a0 a1 a2 s) := by
  unfold noteLaunch
  repeat' first
    | with_reducible assumption
    | with_reducible apply modCtx_touch (within_trans (by decide) w)
    | split

theorem egress_touch {m s0 a0 a1 a2 s} (w : Within 0xe00004800000 m) (h : Touch m s0 s) : Touch m s0 (egress a0 a1 a2 s).2 := by
  unfold egress
  repeat' first
    | with_reducible assumption
    | with_reducible apply ptpCorrect_touch (within_trans (by decide) w)
    | with_reducible refine pair_touch ?_ (by assumption)
    | with_reducible refine triple_touch ?_ (by assumption)
    | with_reducible apply modHost_touch (within_trans (by decide) w)
    | with_reducible apply pmEv_touch (within_trans (by decide) w)
    | with_reducible apply noteLaunch_touch (within_trans (by decide) w)
    | with_reducible apply pushTs_touch (within_trans (by decide) w)
    | with_reducible apply forLPair_touch
    | with_reducible apply foldlPair_touch
    | split
    | intro _
    | dsimp only

theorem sendPause_touch {m s0 a0 a1 s} (w : Within 0xc00008000000 m) (h : Touch m s0 s) : Touch m s0 (sendPause a0 a1 s) := by
  unfold sendPause
  repeat' first
    | with_reducible assumption
    | with_reducible apply countDev_touch (within_trans (by decide) w)
    | with_reducible refine addCntG_touch (within_trans (by decide) w) ?_
    | with_reducible refine addCntP_touch (within_trans (by decide) w) ?_
    | with_reducible refine addCntL_touch (within_trans (by decide) w) ?_
    | with_reducible refine addCnt_touchAll (within_trans (by decide) w) ?_
    | with_reducible apply modLane_touch (within_trans (by decide) w)

theorem holdCheck_touch {m s0 a0 s} (w : Within 0xe0000c000000 m) (h : Touch m s0 s) : Touch m s0 (holdCheck a0 s) := by
  unfold holdCheck
  repeat' first
    | with_reducible assumption
    | with_reducible apply wrP_touch (within_trans (by decide) w)
    | with_reducible apply modHost_touch (within_trans (by decide) w)
    | with_reducible apply pmEv_touch (within_trans (by decide) w)
    | with_reducible apply countDev_touch (within_trans (by decide) w)
    | with_reducible apply sendPause_touch (within_trans (by decide) w)
    | split
    | intro _
    | dsimp only

theorem lineIn_touch {m s0 a0 a1 a2 a3 a4 s} (w : Within 0xe00008000000 m) (h : Touch m s0 s) : Touch m s0 (lineIn a0 a1 a2 a3 a4 s) := by
  unfold lineIn
  repeat' first
    | with_reducible assumption
    | with_reducible refine addCntG_touch (within_trans (by decide) w) ?_
    | with_reducible refine addCntP_touch (within_trans (by decide) w) ?_
    | with_reducible refine addCntL_touch (within_trans (by decide) w) ?_
    | with_reducible refine addCnt_touchAll (within_trans (by decide) w) ?_
    | with_reducible apply ptpCorrect_touch (within_trans (by decide) w)
    | with_reducible refine pair_touch ?_ (by assumption)
    | with_reducible refine triple_touch ?_ (by assumption)
    | with_reducible apply evP_touch (within_trans (by decide) w)
    | with_reducible apply pmEv_touch (within_trans (by decide) w)
    | with_reducible apply countDev_touch (within_trans (by decide) w)
    | with_reducible apply modLane_touch (within_trans (by decide) w)
    | with_reducible apply forLPair_touch
    | with_reducible apply foldlPair_touch
    | with_reducible apply whenB_touch
    | split
    | intro _

theorem wantWake_touch {m s0 a0 s} (w : Within 0x2000000 m) (h : Touch m s0 s) : Touch m s0 (wantWake a0 s) := by
  unfold wantWake
  repeat' first
    | with_reducible assumption
    | with_reducible apply sendMsg_touch (within_trans (by decide) w)
    | with_reducible apply modPort_touch (within_trans (by decide) w)
    | split
    | intro _
    | dsimp only

theorem lineOut_touch {m s0 a0 a1 s} (w : Within 0xe0000e800000 m) (h : Touch m s0 s) : Touch m s0 (lineOut a0 a1 s) := by
  unfold lineOut
  repeat' first
    | with_reducible assumption
    | with_reducible apply modPort_touch (within_trans (by decide) w)
    | with_reducible apply wantWake_touch (within_trans (by decide) w)
    | with_reducible apply holdCheck_touch (within_trans (by decide) w)
    | with_reducible apply modHost_touch (within_trans (by decide) w)
    | with_reducible apply egress_touch (within_trans (by decide) w)
    | with_reducible refine pair_touch ?_ (by assumption)
    | with_reducible refine triple_touch ?_ (by assumption)
    | with_reducible apply forLPair_touch
    | with_reducible apply foldlPair_touch
    | split

theorem modEsc_touch {m s0 a0 a1 s} (w : Within 0x2000000 m) (h : Touch m s0 s) : Touch m s0 (modEsc a0 a1 s) := by
  unfold modEsc
  repeat' first
    | with_reducible assumption
    | with_reducible apply modPort_touch (within_trans (by decide) w)

theorem thaw_touch {m s0 a0 a1 s} (w : Within 0x2000000 m) (h : Touch m s0 s) : Touch m s0 (thaw a0 a1 s) := by
  unfold thaw
  repeat' first
    | with_reducible assumption
    | with_reducible apply modPort_touch (within_trans (by decide) w)

theorem fillPayload_touch {m n t l acc p s0 s} (w : Within 0xe00004800000 m) (h : Touch m s0 s) :
    Touch m s0 (fillPayload n t l acc p s).2.2.2.2 := by
  induction l generalizing acc p s with
  | nil => exact h
  | cons f l ih =>
    unfold fillPayload
    split
    · exact h
    · refine ih ?_
      split
      · exact modHost_touch (within_trans (by decide) w) (egress_touch (within_trans (by decide) w) h)
      · exact egress_touch (within_trans (by decide) w) h

theorem sendBlock_touch {m s0 a0 a1 s} (w : Within 0x2000000 m) (h : Touch m s0 s) : Touch m s0 (sendBlock a0 a1 s) := by
  unfold sendBlock
  repeat' first
    | with_reducible assumption
    | with_reducible apply modPort_touch (within_trans (by decide) w)
    | split
    | intro _
    | dsimp only

theorem sendRetx_touch {m s0 a0 a1 a2 s} (w : Within 0xe00002000000 m) (h : Touch m s0 s) : Touch m s0 (sendRetx a0 a1 a2 s) := by
  unfold sendRetx
  repeat' first
    | with_reducible assumption
    | with_reducible apply pmPort_touch (within_trans (by decide) w)
    | with_reducible apply countDev_touch (within_trans (by decide) w)
    | with_reducible refine addCntG_touch (within_trans (by decide) w) ?_
    | with_reducible refine addCntP_touch (within_trans (by decide) w) ?_
    | with_reducible refine addCntL_touch (within_trans (by decide) w) ?_
    | with_reducible refine addCnt_touchAll (within_trans (by decide) w) ?_
    | with_reducible apply modEsc_touch (within_trans (by decide) w)

theorem sendNew_touch {m s0 a0 a1 s} (w : Within 0xe0000e800000 m) (h : Touch m s0 s) : Touch m s0 (sendNew a0 a1 s) := by
  unfold sendNew
  repeat' first
    | with_reducible assumption
    | with_reducible apply fillPayload_touch (within_trans (by decide) w)
    | with_reducible refine pair_touch ?_ (by assumption)
    | with_reducible refine triple_touch ?_ (by assumption)
    | with_reducible apply modEsc_touch (within_trans (by decide) w)
    | with_reducible apply modPort_touch (within_trans (by decide) w)
    | with_reducible apply thaw_touch (within_trans (by decide) w)
    | with_reducible apply holdCheck_touch (within_trans (by decide) w)
    | with_reducible apply pmPort_touch (within_trans (by decide) w)
    | with_reducible apply countDev_touch (within_trans (by decide) w)

theorem dtuSlot_touch {m s0 a0 a1 s} (w : Within 0xe0000e800000 m) (h : Touch m s0 s) : Touch m s0 (dtuSlot a0 a1 s) := by
  unfold dtuSlot
  repeat' first
    | with_reducible assumption
    | with_reducible apply sendBlock_touch (within_trans (by decide) w)
    | with_reducible apply sendRetx_touch (within_trans (by decide) w)
    | with_reducible apply sendNew_touch (within_trans (by decide) w)
    | with_reducible apply modEsc_touch (within_trans (by decide) w)
    | split
    | intro _
    | dsimp only

theorem execDtuSlot_touch {m s0 a0 a1 s} (w : Within 0xe0000e800000 m) (h : Touch m s0 s) : OutTouch m s0 (execDtuSlot a0 a1 s) := by
  unfold execDtuSlot
  refine outTouch ?_
  repeat' first
    | with_reducible assumption
    | with_reducible apply dtuSlot_touch (within_trans (by decide) w)

theorem takeRecords_touch {m n x k b g s0 s} (w : Within 0xe0000a000000 m) (h : Touch m s0 s) : Touch m s0 (takeRecords n x k b g s) := by
  induction k generalizing b g s with
  | zero => exact h
  | succ k ih =>
    unfold takeRecords
    repeat' first
      | with_reducible assumption
      | with_reducible apply modEsc_touch (within_trans (by decide) w)
      | with_reducible apply lineIn_touch (within_trans (by decide) w)
      | with_reducible apply ih
      | split
      | dsimp only

theorem deliverDtu_touch {m s0 a0 a1 s} (w : Within 0xe0000a000000 m) (h : Touch m s0 s) : Touch m s0 (deliverDtu a0 a1 s) := by
  unfold deliverDtu
  repeat' first
    | with_reducible assumption
    | with_reducible apply modEsc_touch (within_trans (by decide) w)
    | with_reducible apply takeRecords_touch (within_trans (by decide) w)
    | split
    | intro _
    | dsimp only

theorem deliverHeld_touch {m n l s0 s} (w : Within 0xe0000a000000 m) (h : Touch m s0 s) : Touch m s0 (deliverHeld n l s) := by
  induction l generalizing s with
  | nil => exact modEsc_touch (within_trans (by decide) w) h
  | cons x l ih =>
    unfold deliverHeld
    split
    · exact ih (deliverDtu_touch (within_trans (by decide) w) (modEsc_touch (within_trans (by decide) w) h))
    · exact modEsc_touch (within_trans (by decide) w) h

theorem dataDtu_touch {m s0 a0 a1 a2 s} (w : Within 0xe0000a000000 m) (h : Touch m s0 s) : Touch m s0 (dataDtu a0 a1 a2 s) := by
  unfold dataDtu
  repeat' first
    | with_reducible assumption
    | with_reducible apply modPort_touch (within_trans (by decide) w)
    | with_reducible apply thaw_touch (within_trans (by decide) w)
    | with_reducible apply pmPort_touch (within_trans (by decide) w)
    | with_reducible apply countDev_touch (within_trans (by decide) w)
    | with_reducible apply deliverHeld_touch (within_trans (by decide) w)
    | with_reducible apply modEsc_touch (within_trans (by decide) w)
    | split
    | intro _
    | dsimp only

theorem execDtuReceived_touch {m s0 a0 a1 a2 s} (w : Within 0xe0000a000000 m) (h : Touch m s0 s) : OutTouch m s0 (execDtuReceived a0 a1 a2 s) := by
  unfold execDtuReceived
  refine outTouch ?_
  repeat' first
    | with_reducible assumption
    | with_reducible apply dataDtu_touch (within_trans (by decide) w)
    | with_reducible apply modEsc_touch (within_trans (by decide) w)
    | split

theorem passLost_touch {m n q l s0 s} (w : Within 0xe0000a000000 m) (h : Touch m s0 s) : Touch m s0 (passLost n q l s) := by
  induction l generalizing s with
  | nil => exact h
  | cons x l ih =>
    unfold passLost
    split
    · exact deliverHeld_touch (within_trans (by decide) w) h
    · dsimp only
      refine ih ?_
      split
      · exact deliverDtu_touch (within_trans (by decide) w) (modEsc_touch (within_trans (by decide) w) h)
      · exact modEsc_touch (within_trans (by decide) w) (modEsc_touch (within_trans (by decide) w) h)

theorem execDtuLost_touch {m s0 a0 a1 s} (w : Within 0xe0000a000000 m) (h : Touch m s0 s) : OutTouch m s0 (execDtuLost a0 a1 s) := by
  unfold execDtuLost
  refine outTouch ?_
  repeat' first
    | with_reducible assumption
    | with_reducible apply pmPort_touch (within_trans (by decide) w)
    | with_reducible apply countDev_touch (within_trans (by decide) w)
    | with_reducible refine addCntG_touch (within_trans (by decide) w) ?_
    | with_reducible refine addCntP_touch (within_trans (by decide) w) ?_
    | with_reducible refine addCntL_touch (within_trans (by decide) w) ?_
    | with_reducible refine addCnt_touchAll (within_trans (by decide) w) ?_
    | with_reducible apply passLost_touch (within_trans (by decide) w)
    | with_reducible apply modPort_touch (within_trans (by decide) w)
    | with_reducible apply setReason_touch (within_trans (by decide) w)
    | split

theorem execEscrowDiscard_touch {m s0 a0 a1 s} (w : Within 0x2000000 m) (h : Touch m s0 s) : OutTouch m s0 (execEscrowDiscard a0 a1 s) := by
  unfold execEscrowDiscard
  refine outTouch ?_
  repeat' first
    | with_reducible assumption
    | with_reducible apply modEsc_touch (within_trans (by decide) w)

theorem takePtr_touch {m s0 a0 a1 a2 s} (w : Within 0xc00002000000 m) (h : Touch m s0 s) : Touch m s0 (takePtr a0 a1 a2 s) := by
  unfold takePtr
  repeat' first
    | with_reducible assumption
    | with_reducible apply setReason_touch (within_trans (by decide) w)
    | with_reducible apply modEsc_touch (within_trans (by decide) w)
    | split
    | intro _
    | dsimp only

theorem execEocBlock_touch {m s0 a0 a1 a2 s} (w : Within 0xc00002000000 m) (h : Touch m s0 s) : OutTouch m s0 (execEocBlock a0 a1 a2 s) := by
  unfold execEocBlock
  refine outTouch ?_
  repeat' first
    | with_reducible assumption
    | with_reducible apply countDev_touch (within_trans (by decide) w)
    | with_reducible refine addCntG_touch (within_trans (by decide) w) ?_
    | with_reducible refine addCntP_touch (within_trans (by decide) w) ?_
    | with_reducible refine addCntL_touch (within_trans (by decide) w) ?_
    | with_reducible refine addCnt_touchAll (within_trans (by decide) w) ?_
    | with_reducible apply takePtr_touch (within_trans (by decide) w)
    | with_reducible apply modEsc_touch (within_trans (by decide) w)
    | split

theorem phaseStep_touch {m s0 a0 s} (w : Within 0x2000000 m) (h : Touch m s0 s) : Touch m s0 (phaseStep a0 s) := by
  unfold phaseStep
  repeat' first
    | with_reducible assumption
    | with_reducible apply modPort_touch (within_trans (by decide) w)
    | split

theorem onService_touch {m s0 a0 a1 a2 a3 s} (w : Within 0x2000000 m) (f3 : ∀ x0, Touch m s0 x0 → Touch m s0 (a3 x0)) (h : Touch m s0 s) :
    Touch m s0 (onService a0 a1 a2 a3 s) := by
  unfold onService
  repeat' first
    | with_reducible assumption
    | with_reducible apply f3
    | with_reducible apply onReliable_touch (within_trans (by decide) w)
    | split

theorem onService2_touch {m s0 a0 a1 a2 a3 s} (w : Within 0x2000000 m) (f3 : ∀ x0, Touch m s0 x0 → Touch m s0 (a3 x0)) (h : Touch m s0 s) :
    Touch m s0 (onService2 a0 a1 a2 a3 s) := by
  unfold onService2
  repeat' first
    | with_reducible assumption
    | with_reducible apply f3
    | with_reducible apply onReliable_touch (within_trans (by decide) w)
    | split

theorem setRate_touch {m s0 a0 s} (w : Within 0xc00006000000 m) (h : Touch m s0 s) : Touch m s0 (setRate a0 s) := by
  unfold setRate
  repeat' first
    | with_reducible assumption
    | with_reducible apply wrP_touch (within_trans (by decide) w)
    | with_reducible apply countDev_touch (within_trans (by decide) w)
    | with_reducible refine addCntG_touch (within_trans (by decide) w) ?_
    | with_reducible refine addCntP_touch (within_trans (by decide) w) ?_
    | with_reducible refine addCntL_touch (within_trans (by decide) w) ?_
    | with_reducible refine addCnt_touchAll (within_trans (by decide) w) ?_
    | with_reducible apply evP_touch (within_trans (by decide) w)
    | with_reducible apply txNotice_touch (within_trans (by decide) w)
    | with_reducible apply rxNotice_touch (within_trans (by decide) w)
    | with_reducible apply updateRateReason_touch (within_trans (by decide) w)
    | split
    | intro _
    | dsimp only

theorem rateSteps_touch {m s0 a0 s} (w : Within 0xc00006000000 m) (h : Touch m s0 s) : Touch m s0 (rateSteps a0 s) := by
  unfold rateSteps
  repeat' first
    | with_reducible assumption
    | with_reducible apply setRate_touch (within_trans (by decide) w)
    | with_reducible apply forL_touch
    | intro _

theorem noticeDown_touch {m s0 a0 a1 a2 s} (w : Within 0xc00004000000 m) (h : Touch m s0 s) : Touch m s0 (noticeDown a0 a1 a2 s) := by
  unfold noticeDown
  repeat' first
    | with_reducible assumption
    | with_reducible apply txNotice_touch (within_trans (by decide) w)
    | split

theorem putLoading_touch {m s0 a0 a1 a2 a3 s} (w : Within 0x202000000 m) (h : Touch m s0 s) : Touch m s0 (putLoading a0 a1 a2 a3 s) := by
  unfold putLoading
  repeat' first
    | with_reducible assumption
    | with_reducible apply writeTable_touch (within_trans (by decide) w)
    | with_reducible apply modPort_touch (within_trans (by decide) w)

theorem applyChange_touch {m s0 a0 a1 a2 s} (w : Within 0xc00202000000 m) (h : Touch m s0 s) : Touch m s0 (applyChange a0 a1 a2 s).2 := by
  unfold applyChange
  repeat' first
    | with_reducible assumption
    | with_reducible apply countDev_touch (within_trans (by decide) w)
    | with_reducible apply putLoading_touch (within_trans (by decide) w)
    | with_reducible refine addCntG_touch (within_trans (by decide) w) ?_
    | with_reducible refine addCntP_touch (within_trans (by decide) w) ?_
    | with_reducible refine addCntL_touch (within_trans (by decide) w) ?_
    | with_reducible refine addCnt_touchAll (within_trans (by decide) w) ?_
    | with_reducible apply modPort_touch (within_trans (by decide) w)
    | split

theorem requestChange_touch {m s0 a0 a1 a2 s} (w : Within 0x2000000 m) (h : Touch m s0 s) : Touch m s0 (requestChange a0 a1 a2 s) := by
  unfold requestChange
  repeat' first
    | with_reducible assumption
    | with_reducible apply modPort_touch (within_trans (by decide) w)
    | with_reducible apply sendMsg_touch (within_trans (by decide) w)

theorem requestSwap_touch {m s0 a0 a1 a2 s} (w : Within 0x2000000 m) (h : Touch m s0 s) : Touch m s0 (requestSwap a0 a1 a2 s) := by
  unfold requestSwap
  repeat' first
    | with_reducible assumption
    | with_reducible apply requestChange_touch (within_trans (by decide) w)

theorem requestFull_touch {m s0 a0 a1 a2 a3 a4 a5 a6 s} (w : Within 0x2000000 m) (h : Touch m s0 s) :
    Touch m s0 (requestFull a0 a1 a2 a3 a4 a5 a6 s) := by
  unfold requestFull
  repeat' first
    | with_reducible assumption
    | with_reducible apply requestChange_touch (within_trans (by decide) w)

theorem sendReject_touch {m s0 a0 a1 a2 s} (w : Within 0x800002000000 m) (h : Touch m s0 s) : Touch m s0 (sendReject a0 a1 a2 s) := by
  unfold sendReject
  repeat' first
    | with_reducible assumption
    | with_reducible apply evP_touch (within_trans (by decide) w)
    | with_reducible apply sendMsg_touch (within_trans (by decide) w)

theorem requestLoading_touch {m s0 a0 a1 a2 a3 s} (w : Within 0x2000000 m) (h : Touch m s0 s) : Touch m s0 (requestLoading a0 a1 a2 a3 s) := by
  unfold requestLoading
  repeat' first
    | with_reducible assumption
    | with_reducible apply requestFull_touch (within_trans (by decide) w)
    | split

theorem requestRate_touch {m s0 a0 a1 a2 a3 a4 s} (w : Within 0x802000000 m) (h : Touch m s0 s) : Touch m s0 (requestRate a0 a1 a2 a3 a4 s) := by
  unfold requestRate
  repeat' first
    | with_reducible assumption
    | with_reducible apply requestLoading_touch (within_trans (by decide) w)
    | with_reducible apply draw_touch (within_trans (by decide) w)

theorem requestRest_touch {m s0 a0 a1 a2 a3 a4 s} (w : Within 0x2000000 m) (f4 : ∀ x0, Touch m s0 x0 → Touch m s0 (a4 x0)) (h : Touch m s0 s) :
    Touch m s0 (requestRest a0 a1 a2 a3 a4 s) := by
  unfold requestRest
  repeat' first
    | with_reducible assumption
    | with_reducible apply f4
    | with_reducible apply requestFull_touch (within_trans (by decide) w)
    | split

theorem requestMoved_touch {m s0 a0 a1 a2 a3 s} (w : Within 0x2000000 m) (f3 : ∀ x0, Touch m s0 x0 → Touch m s0 (a3 x0)) (h : Touch m s0 s) :
    Touch m s0 (requestMoved a0 a1 a2 a3 s) := by
  unfold requestMoved
  repeat' first
    | with_reducible assumption
    | with_reducible apply f3
    | with_reducible apply requestSwap_touch (within_trans (by decide) w)
    | split

theorem requestClear_touch {m s0 a0 a1 a2 a3 s} (w : Within 0x802000000 m) (h : Touch m s0 s) : Touch m s0 (requestClear a0 a1 a2 a3 s) := by
  unfold requestClear
  repeat' first
    | with_reducible assumption
    | with_reducible apply requestMoved_touch (within_trans (by decide) w)
    | with_reducible apply requestRest_touch (within_trans (by decide) w)
    | with_reducible apply requestRate_touch (within_trans (by decide) w)
    | with_reducible apply draw_touch (within_trans (by decide) w)
    | split
    | intro _

theorem answerNeed_touch {m s0 a0 a1 s} (w : Within 0x800802000000 m) (h : Touch m s0 s) : Touch m s0 (answerNeed a0 a1 s) := by
  unfold answerNeed
  repeat' first
    | with_reducible assumption
    | with_reducible apply sendReject_touch (within_trans (by decide) w)
    | with_reducible apply draw_touch (within_trans (by decide) w)
    | with_reducible apply requestRate_touch (within_trans (by decide) w)
    | with_reducible apply requestClear_touch (within_trans (by decide) w)
    | split
    | intro _
    | dsimp only

theorem answerNext_touch {m s0 a0 s} (w : Within 0x800802000000 m) (h : Touch m s0 s) : Touch m s0 (answerNext a0 s) := by
  unfold answerNext
  repeat' first
    | with_reducible assumption
    | with_reducible apply answerNeed_touch (within_trans (by decide) w)
    | with_reducible apply modPort_touch (within_trans (by decide) w)
    | split

theorem addNeed_touch {m s0 a0 a1 s} (w : Within 0x800802000000 m) (h : Touch m s0 s) : Touch m s0 (addNeed a0 a1 s) := by
  unfold addNeed
  repeat' first
    | with_reducible assumption
    | with_reducible apply answerNext_touch (within_trans (by decide) w)
    | with_reducible apply modPort_touch (within_trans (by decide) w)

theorem takeRequest_touch {m s0 a0 a1 a2 s} (w : Within 0xc00006000000 m) (h : Touch m s0 s) : Touch m s0 (takeRequest a0 a1 a2 s) := by
  unfold takeRequest
  repeat' first
    | with_reducible assumption
    | with_reducible apply modPort_touch (within_trans (by decide) w)
    | with_reducible apply sendReject_touch (within_trans (by decide) w)
    | with_reducible apply sendMsg_touch (within_trans (by decide) w)
    | with_reducible apply noticeDown_touch (within_trans (by decide) w)
    | split
    | intro _
    | dsimp only

theorem startTrial_touch {m s0 a0 a1 s} (w : Within 0xc00002000000 m) (h : Touch m s0 s) : Touch m s0 (startTrial a0 a1 s) := by
  unfold startTrial
  repeat' first
    | with_reducible assumption
    | with_reducible apply modPort_touch (within_trans (by decide) w)
    | with_reducible apply setReason_touch (within_trans (by decide) w)

theorem rxDue_touch {m s0 a0 s} (w : Within 0xc00202000000 m) (h : Touch m s0 s) : Touch m s0 (rxDue a0 s).2 := by
  unfold rxDue
  repeat' first
    | with_reducible assumption
    | with_reducible apply applyChange_touch (within_trans (by decide) w)
    | with_reducible refine pair_touch ?_ (by assumption)
    | with_reducible refine triple_touch ?_ (by assumption)
    | with_reducible apply modPort_touch (within_trans (by decide) w)
    | with_reducible apply startTrial_touch (within_trans (by decide) w)
    | with_reducible apply evP_touch (within_trans (by decide) w)
    | with_reducible refine addCntG_touch (within_trans (by decide) w) ?_
    | with_reducible refine addCntP_touch (within_trans (by decide) w) ?_
    | with_reducible refine addCntL_touch (within_trans (by decide) w) ?_
    | with_reducible refine addCnt_touchAll (within_trans (by decide) w) ?_
    | with_reducible apply forLPair_touch
    | with_reducible apply foldlPair_touch
    | split

theorem txDue_touch {m n l s0} (w : Within 0xc00202000000 m) {a : List RateStep × State} (h : Touch m s0 a.2) :
    Touch m s0 (txDue n l a).2 := by
  induction l generalizing a with
  | nil => exact h
  | cons c l ih =>
    unfold txDue
    split
    · exact ih h
    · exact ih (applyChange_touch (within_trans (by decide) w) (modPort_touch (within_trans (by decide) w) h))

theorem loadingStage_touch {m s0 a0 a1} (w : Within 0xc00202000000 m) (h : Touch m s0 a1.2) : Touch m s0 (loadingStage a0 a1).2 := by
  unfold loadingStage
  repeat' first
    | with_reducible assumption
    | with_reducible apply txDue_touch (within_trans (by decide) w)
    | with_reducible refine pair_touch ?_ (by assumption)
    | with_reducible refine triple_touch ?_ (by assumption)
    | with_reducible apply rxDue_touch (within_trans (by decide) w)
    | with_reducible apply forLPair_touch
    | with_reducible apply foldlPair_touch
    | split

theorem execLoadingChangeApply_touch {m n s0 s} (w : Within 0xc00a06000000 m) (h : Touch m s0 s) :
    OutTouch m s0 (execLoadingChangeApply n s) :=
  outTouch (answerNext_touch (within_trans (by decide) w) (rateSteps_touch (within_trans (by decide) w) (loadingStage_touch (a1 := ([], s))
      (within_trans (by decide) w) h)))

theorem cancelFallback_touch {m s0 a0 s} (w : Within 0x2000000 m) (h : Touch m s0 s) : Touch m s0 (cancelFallback a0 s) := by
  unfold cancelFallback
  repeat' first
    | with_reducible assumption
    | with_reducible apply modPort_touch (within_trans (by decide) w)

theorem voidChanges_touch {m s0 a0 a1 s} (w : Within 0x2000000 m) (h : Touch m s0 s) : Touch m s0 (voidChanges a0 a1 s) := by
  unfold voidChanges
  repeat' first
    | with_reducible assumption
    | with_reducible apply modPort_touch (within_trans (by decide) w)

theorem msgAck_touch {m s0 a0 a1 a2 s} (w : Within 0x2000000 m) (h : Touch m s0 s) : Touch m s0 (msgAck a0 a1 a2 s) := by
  unfold msgAck
  repeat' first
    | with_reducible assumption
    | with_reducible apply modPort_touch (within_trans (by decide) w)
    | with_reducible apply voidChanges_touch (within_trans (by decide) w)
    | split
    | intro _
    | dsimp only

theorem execMsgAck_touch {m s0 a0 a1 a2 s} (w : Within 0x2000000 m) (h : Touch m s0 s) : OutTouch m s0 (execMsgAck a0 a1 a2 s) := by
  unfold execMsgAck
  refine outTouch ?_
  repeat' first
    | with_reducible assumption
    | with_reducible apply msgAck_touch (within_trans (by decide) w)
    | split

theorem abandon_touch {m s0 a0 a1 s} (w : Within 0x800002000000 m) (h : Touch m s0 s) : Touch m s0 (abandon a0 a1 s) := by
  unfold abandon
  repeat' first
    | with_reducible assumption
    | with_reducible apply modPort_touch (within_trans (by decide) w)
    | with_reducible apply cancelFallback_touch (within_trans (by decide) w)
    | with_reducible apply evP_touch (within_trans (by decide) w)
    | with_reducible apply whenB_touch
    | split
    | intro _

theorem execMessageResend_touch {m s0 a0 a1 a2 s} (w : Within 0x800002000000 m) (h : Touch m s0 s) :
    OutTouch m s0 (execMessageResend a0 a1 a2 s) := by
  unfold execMessageResend
  refine outTouch ?_
  repeat' first
    | with_reducible assumption
    | with_reducible apply abandon_touch (within_trans (by decide) w)
    | with_reducible apply modPort_touch (within_trans (by decide) w)
    | split

theorem execLoadingConfirmRepeat_touch {m s0 a0 s} (w : Within 0x2000000 m) (h : Touch m s0 s) : OutTouch m s0 (execLoadingConfirmRepeat a0 s) := by
  unfold execLoadingConfirmRepeat
  refine outTouch ?_
  repeat' first
    | with_reducible assumption
    | with_reducible apply modPort_touch (within_trans (by decide) w)

theorem execVersion_touch {m s0 a0 a1 a2 a3 a4 a5 a6 a7 s} (w : Within 0xc08817028000 m) (h : Touch m s0 s) :
    OutTouch m s0 (execVersion a0 a1 a2 a3 a4 a5 a6 a7 s) := by
  unfold execVersion
  refine outTouch ?_
  repeat' first
    | with_reducible assumption
    | with_reducible apply onService_touch (within_trans (by decide) w)
    | with_reducible apply modPort_touch (within_trans (by decide) w)
    | with_reducible apply evP_touch (within_trans (by decide) w)
    | with_reducible apply restartHandshake_touch (within_trans (by decide) w)
    | with_reducible apply downRestart_touch (within_trans (by decide) w)
    | split
    | intro _

theorem execFeStatus_touch {m s0 a0 a1 s} (w : Within 0xc00002000000 m) (h : Touch m s0 s) : OutTouch m s0 (execFeStatus a0 a1 s) := by
  unfold execFeStatus
  refine outTouch ?_
  repeat' first
    | with_reducible assumption
    | with_reducible apply modPort_touch (within_trans (by decide) w)
    | with_reducible apply setReason_touch (within_trans (by decide) w)
    | split

theorem execFeStatusSend_touch {m s0 a0 a1 s} (w : Within 0x600002000000 m) (h : Touch m s0 s) : OutTouch m s0 (execFeStatusSend a0 a1 s) := by
  unfold execFeStatusSend
  refine outTouch ?_
  repeat' first
    | with_reducible assumption
    | with_reducible apply pmPort_touch (within_trans (by decide) w)
    | with_reducible apply countDev_touch (within_trans (by decide) w)
    | with_reducible apply sendMsg_touch (within_trans (by decide) w)
    | split

theorem execLoadingRequest_touch {m s0 a0 a1 a2 s} (w : Within 0xc00006000000 m) (h : Touch m s0 s) :
    OutTouch m s0 (execLoadingRequest a0 a1 a2 s) := by
  unfold execLoadingRequest
  refine outTouch ?_
  repeat' first
    | with_reducible assumption
    | with_reducible apply onService_touch (within_trans (by decide) w)
    | with_reducible apply takeRequest_touch (within_trans (by decide) w)
    | intro _

theorem execLoadingConfirm_touch {m s0 a0 a1 a2 a3 s} (w : Within 0x2000000 m) (h : Touch m s0 s) :
    OutTouch m s0 (execLoadingConfirm a0 a1 a2 a3 s) := by
  unfold execLoadingConfirm
  refine outTouch ?_
  repeat' first
    | with_reducible assumption
    | with_reducible apply onService_touch (within_trans (by decide) w)
    | with_reducible apply modPort_touch (within_trans (by decide) w)
    | intro _

theorem execLoadingReject_touch {m s0 a0 a1 a2 a3 s} (w : Within 0x800802000000 m) (h : Touch m s0 s) :
    OutTouch m s0 (execLoadingReject a0 a1 a2 a3 s) := by
  unfold execLoadingReject
  refine outTouch ?_
  repeat' first
    | with_reducible assumption
    | with_reducible apply onService_touch (within_trans (by decide) w)
    | with_reducible apply evP_touch (within_trans (by decide) w)
    | with_reducible apply answerNext_touch (within_trans (by decide) w)
    | with_reducible apply modPort_touch (within_trans (by decide) w)
    | split
    | intro _

theorem execLoadingNeed_touch {m s0 a0 a1 a2 a3 a4 s} (w : Within 0x800802000000 m) (h : Touch m s0 s) :
    OutTouch m s0 (execLoadingNeed a0 a1 a2 a3 a4 s) := by
  unfold execLoadingNeed
  refine outTouch ?_
  repeat' first
    | with_reducible assumption
    | with_reducible apply onService_touch (within_trans (by decide) w)
    | with_reducible apply sendReject_touch (within_trans (by decide) w)
    | with_reducible apply addNeed_touch (within_trans (by decide) w)
    | split
    | intro _
    | dsimp only

theorem execRateNotice_touch {m s0 a0 a1 a2 a3 a4 s} (w : Within 0x800802000000 m) (h : Touch m s0 s) :
    OutTouch m s0 (execRateNotice a0 a1 a2 a3 a4 s) := by
  unfold execRateNotice
  refine outTouch ?_
  repeat' first
    | with_reducible assumption
    | with_reducible apply onService_touch (within_trans (by decide) w)
    | with_reducible apply sendReject_touch (within_trans (by decide) w)
    | with_reducible apply addNeed_touch (within_trans (by decide) w)
    | split
    | intro _
    | dsimp only

theorem takeMeas_touch {m s0 a0 s} (w : Within 0xc00002000000 m) (h : Touch m s0 s) : Touch m s0 (takeMeas a0 s) := by
  unfold takeMeas
  repeat' first
    | with_reducible assumption
    | with_reducible apply modPort_touch (within_trans (by decide) w)
    | with_reducible apply setReason_touch (within_trans (by decide) w)
    | split
    | intro _
    | dsimp only

theorem execSeamlessSwap_touch {m s0 a0 a1 s} (w : Within 0x802000000 m) (h : Touch m s0 s) : OutTouch m s0 (execSeamlessSwap a0 a1 s) := by
  unfold execSeamlessSwap
  refine outTouch ?_
  repeat' first
    | with_reducible assumption
    | with_reducible apply requestSwap_touch (within_trans (by decide) w)
    | with_reducible apply draw_touch (within_trans (by decide) w)
    | split
    | intro _
    | dsimp only

theorem sendFallback_touch {m s0 a0 a1 a2 a3 a4 s} (w : Within 0xc00006000000 m) (h : Touch m s0 s) : Touch m s0 (sendFallback a0 a1 a2 a3 a4 s) := by
  unfold sendFallback
  repeat' first
    | with_reducible assumption
    | with_reducible apply sendMsg_touch (within_trans (by decide) w)
    | with_reducible apply modPort_touch (within_trans (by decide) w)
    | with_reducible apply noticeDown_touch (within_trans (by decide) w)
    | split
    | intro _
    | dsimp only

theorem tryFallback_touch {m n s0 s t} (w : Within 0xc00006000000 m) (h : Touch m s0 s) (e : tryFallback n s = some t) : Touch m s0 t := by
  unfold tryFallback at e
  split at e
  · obtain ⟨p, _, rfl⟩ := Option.map_eq_some_iff.mp e
    exact sendFallback_touch (within_trans (by decide) w) h
  · cases e

theorem execFallbackTrigger_touch {m n s0 s} (w : Within 0xc00006000000 m) (h : Touch m s0 s) :
    OutTouch m s0 (execFallbackTrigger n s) := by
  refine outTouch ?_
  cases e : tryFallback n.val s with
  | some t => exact tryFallback_touch (within_trans (by decide) w) h e
  | none => exact h

theorem execStandbyTableSend_touch {m s0 a0 a1 a2 s} (w : Within 0x802000000 m) (h : Touch m s0 s) :
    OutTouch m s0 (execStandbyTableSend a0 a1 a2 s) := by
  unfold execStandbyTableSend
  refine outTouch ?_
  repeat' first
    | with_reducible assumption
    | with_reducible apply sendMsg_touch (within_trans (by decide) w)
    | with_reducible apply modPort_touch (within_trans (by decide) w)
    | with_reducible apply draw_touch (within_trans (by decide) w)
    | split

theorem restoreDir_touch {m s0 a0 a1 a2 a3 s} (w : Within 0x202000000 m) (h : Touch m s0 s) : Touch m s0 (restoreDir a0 a1 a2 a3 s) := by
  unfold restoreDir
  repeat' first
    | with_reducible assumption
    | with_reducible apply modPort_touch (within_trans (by decide) w)
    | with_reducible apply writeTable_touch (within_trans (by decide) w)

theorem enterThree_touch {m s0 a0 a1 s} (w : Within 0xc00202000000 m) (h : Touch m s0 s) : Touch m s0 (enterThree a0 a1 s).2 := by
  unfold enterThree
  repeat' first
    | with_reducible assumption
    | with_reducible apply modPort_touch (within_trans (by decide) w)
    | with_reducible apply putLoading_touch (within_trans (by decide) w)
    | with_reducible apply wrP_touch (within_trans (by decide) w)
    | with_reducible apply countDev_touch (within_trans (by decide) w)
    | with_reducible refine addCntG_touch (within_trans (by decide) w) ?_
    | with_reducible refine addCntP_touch (within_trans (by decide) w) ?_
    | with_reducible refine addCntL_touch (within_trans (by decide) w) ?_
    | with_reducible refine addCnt_touchAll (within_trans (by decide) w) ?_
    | with_reducible apply evP_touch (within_trans (by decide) w)
    | with_reducible apply setReason_touch (within_trans (by decide) w)
    | with_reducible apply startTrial_touch (within_trans (by decide) w)
    | split

theorem leaveThree_touch {m s0 a0 a1 s} (w : Within 0xc00202000000 m) (h : Touch m s0 s) : Touch m s0 (leaveThree a0 a1 s).2 := by
  unfold leaveThree
  repeat' first
    | with_reducible assumption
    | with_reducible apply modPort_touch (within_trans (by decide) w)
    | with_reducible apply restoreDir_touch (within_trans (by decide) w)
    | with_reducible apply evP_touch (within_trans (by decide) w)
    | with_reducible apply wrP_touch (within_trans (by decide) w)
    | with_reducible apply setReason_touch (within_trans (by decide) w)
    | split

theorem fallbackStage_touch {m s0 a0 a1} (w : Within 0xc00202000000 m) (h : Touch m s0 a1.2) : Touch m s0 (fallbackStage a0 a1).2 := by
  unfold fallbackStage
  repeat' first
    | with_reducible assumption
    | with_reducible apply voidChanges_touch (within_trans (by decide) w)
    | with_reducible apply modPort_touch (within_trans (by decide) w)
    | with_reducible apply enterThree_touch (within_trans (by decide) w)
    | with_reducible refine pair_touch ?_ (by assumption)
    | with_reducible refine triple_touch ?_ (by assumption)
    | with_reducible apply leaveThree_touch (within_trans (by decide) w)
    | with_reducible apply wrP_touch (within_trans (by decide) w)
    | with_reducible apply forLPair_touch
    | with_reducible apply foldlPair_touch
    | split
    | intro _
    | dsimp only

theorem execPairFallbackApply_touch {m n s0 s} (w : Within 0xc00206000000 m) (h : Touch m s0 s) :
    OutTouch m s0 (execPairFallbackApply n s) :=
  outTouch (rateSteps_touch (within_trans (by decide) w) (fallbackStage_touch (a1 := ([], s)) (within_trans (by decide) w) h))

theorem takeFallback_touch {m s0 a0 a1 s} (w : Within 0xc00006000000 m) (h : Touch m s0 s) : Touch m s0 (takeFallback a0 a1 s) := by
  unfold takeFallback
  repeat' first
    | with_reducible assumption
    | with_reducible apply voidChanges_touch (within_trans (by decide) w)
    | with_reducible apply modPort_touch (within_trans (by decide) w)
    | with_reducible apply noticeDown_touch (within_trans (by decide) w)
    | split
    | intro _
    | dsimp only

theorem execPairFallback_touch {m s0 a0 a1 a2 a3 a4 a5 a6 s} (w : Within 0xc00006000000 m) (h : Touch m s0 s) :
    OutTouch m s0 (execPairFallback a0 a1 a2 a3 a4 a5 a6 s) := by
  unfold execPairFallback
  refine outTouch ?_
  repeat' first
    | with_reducible assumption
    | with_reducible apply onService2_touch (within_trans (by decide) w)
    | with_reducible apply takeFallback_touch (within_trans (by decide) w)
    | split
    | intro _

theorem execLoadingTrial_touch {m s0 a0 a1 a2 s} (w : Within 0xc00a06000000 m) (h : Touch m s0 s) : OutTouch m s0 (execLoadingTrial a0 a1 a2 s) := by
  unfold execLoadingTrial
  refine outTouch ?_
  repeat' first
    | with_reducible assumption
    | with_reducible apply modPort_touch (within_trans (by decide) w)
    | with_reducible apply setReason_touch (within_trans (by decide) w)
    | with_reducible apply applyChange_touch (within_trans (by decide) w)
    | with_reducible refine pair_touch ?_ (by assumption)
    | with_reducible refine triple_touch ?_ (by assumption)
    | with_reducible apply answerNext_touch (within_trans (by decide) w)
    | with_reducible apply rateSteps_touch (within_trans (by decide) w)
    | with_reducible apply restoreDir_touch (within_trans (by decide) w)
    | with_reducible apply sendFallback_touch (within_trans (by decide) w)
    | with_reducible apply setRate_touch (within_trans (by decide) w)
    | with_reducible apply forLPair_touch
    | with_reducible apply foldlPair_touch
    | split

theorem execPairBreak_touch {m s0 a0 a1 s} (w : Within 0xc08817000000 m) (h : Touch m s0 s) : OutTouch m s0 (execPairBreak a0 a1 s) := by
  unfold execPairBreak
  refine outTouch ?_
  repeat' first
    | with_reducible assumption
    | with_reducible apply wantWake_touch (within_trans (by decide) w)
    | with_reducible apply downRestart_touch (within_trans (by decide) w)
    | with_reducible apply voidChanges_touch (within_trans (by decide) w)
    | with_reducible apply modPort_touch (within_trans (by decide) w)
    | with_reducible apply txNotice_touch (within_trans (by decide) w)
    | with_reducible apply rxNotice_touch (within_trans (by decide) w)
    | split
    | intro _
    | dsimp only

theorem execFallbackReturn_touch {m s0 a0 s} (w : Within 0xc00006000000 m) (h : Touch m s0 s) : OutTouch m s0 (execFallbackReturn a0 s) := by
  unfold execFallbackReturn
  refine outTouch ?_
  repeat' first
    | with_reducible assumption
    | with_reducible apply sendFallback_touch (within_trans (by decide) w)
    | split

theorem execStepDown_touch {m n snr s0 s} (w : Within 0xc00806000000 m) (h : Touch m s0 s) : OutTouch m s0 (execStepDown n snr s) := by
  refine outTouch ?_
  split
  · cases e : tryFallback n.val s with
    | some t => exact tryFallback_touch (within_trans (by decide) w) h e
    | none => exact requestRate_touch (within_trans (by decide) w) h
  · exact h

theorem execStepUp_touch {m s0 a0 a1 s} (w : Within 0x802000000 m) (h : Touch m s0 s) : OutTouch m s0 (execStepUp a0 a1 s) := by
  unfold execStepUp
  refine outTouch ?_
  repeat' first
    | with_reducible assumption
    | with_reducible apply requestFull_touch (within_trans (by decide) w)
    | with_reducible apply draw_touch (within_trans (by decide) w)
    | split
    | intro _
    | dsimp only

theorem askRx_touch {m s0 a0 a1 a2 s} (w : Within 0x2000000 m) (h : Touch m s0 s) : Touch m s0 (askRx a0 a1 a2 s) := by
  unfold askRx
  repeat' first
    | with_reducible assumption
    | with_reducible apply requestFull_touch (within_trans (by decide) w)

theorem askTx_touch {m s0 a0 a1 a2 s} (w : Within 0x2000000 m) (h : Touch m s0 s) : Touch m s0 (askTx a0 a1 a2 s) := by
  unfold askTx
  repeat' first
    | with_reducible assumption
    | with_reducible apply modPort_touch (within_trans (by decide) w)
    | with_reducible apply sendMsg_touch (within_trans (by decide) w)

theorem askRates_touch {m s0 a0 a1 s} (w : Within 0x2000000 m) (h : Touch m s0 s) : Touch m s0 (askRates a0 a1 s).2 := by
  unfold askRates
  repeat' first
    | with_reducible assumption
    | with_reducible apply askRx_touch (within_trans (by decide) w)
    | with_reducible apply askTx_touch (within_trans (by decide) w)
    | with_reducible apply whenB_touch
    | intro _

theorem storeRate_touch {m s0 a0 a1 a2 a3 s} (w : Within 0xc00002000000 m) (h : Touch m s0 s) : Touch m s0 (storeRate a0 a1 a2 a3 s) := by
  unfold storeRate
  repeat' first
    | with_reducible assumption
    | with_reducible apply updateRateReason_touch (within_trans (by decide) w)
    | with_reducible apply wrP_touch (within_trans (by decide) w)

theorem askCaps_touch {m s0 a0 s} (w : Within 0x2000000 m) (h : Touch m s0 s) : Touch m s0 (askCaps a0 s) := by
  unfold askCaps
  repeat' first
    | with_reducible assumption
    | with_reducible apply askRates_touch (within_trans (by decide) w)
    | with_reducible refine pair_touch ?_ (by assumption)
    | with_reducible refine triple_touch ?_ (by assumption)
    | with_reducible apply forLPair_touch
    | with_reducible apply foldlPair_touch
    | with_reducible apply forL_touch
    | split
    | intro _

theorem rateCheck_touch {m s0 a0 s} (w : Within 0xc00002000000 m) (h : Touch m s0 s) : Touch m s0 (rateCheck a0 s) := by
  unfold rateCheck
  repeat' first
    | with_reducible assumption
    | with_reducible apply storeRate_touch (within_trans (by decide) w)
    | with_reducible apply askRates_touch (within_trans (by decide) w)
    | with_reducible refine pair_touch ?_ (by assumption)
    | with_reducible refine triple_touch ?_ (by assumption)
    | with_reducible apply modPort_touch (within_trans (by decide) w)
    | with_reducible apply askCaps_touch (within_trans (by decide) w)
    | with_reducible apply forLPair_touch
    | with_reducible apply foldlPair_touch
    | with_reducible apply foldl_touch
    | with_reducible apply forL_touch
    | split
    | intro _
    | dsimp only

theorem portRatePlan_touch {m a0 a1 s} (w : Within 0xd0889a028000 m) : PlanTouch m (portRatePlan a0 a1 s) := by
  unfold portRatePlan
  repeat' first
    | with_reducible assumption
    | with_reducible apply firstOf_touch
    | with_reducible apply checksT_cons
    | with_reducible exact checksT_nil
    | with_reducible exact bad_touch
    | with_reducible exact gated_touch
    | with_reducible exact inAudit_touch (within_trans (by decide) w)
    | with_reducible apply checksT_append
    | with_reducible apply done_touch
    | with_reducible apply askRates_touch (within_trans (by decide) w)
    | with_reducible refine pair_touch ?_ (by assumption)
    | with_reducible refine triple_touch ?_ (by assumption)
    | with_reducible apply modPort_touch (within_trans (by decide) w)
    | with_reducible apply storeRate_touch (within_trans (by decide) w)
    | with_reducible apply forLPair_touch
    | with_reducible apply foldlPair_touch
    | split
    | intro _

theorem opPortRate_touch {m} (w : Within 0xd0889a028000 m) : OpTouch m opPortRate := ⟨fun c r s => portRatePlan_touch w (a0 := c) (a1 := r) (s := s)⟩

theorem execPortRate_touch {m s0 a0 s} (w : Within 0xfaa89a22f800 m) (h : Touch m s0 s) : OutTouch m s0 (execPortRate a0 s) :=
  runOpcode_touch (within_trans (by decide) w) (opPortRate_touch (within_trans (by decide) w)) h

theorem execElementRetire_touch {m s0 a0 a1 a2 a3 a4 s} (w : Within 0xc00802000000 m) (h : Touch m s0 s) :
    OutTouch m s0 (execElementRetire a0 a1 a2 a3 a4 s) := by
  unfold execElementRetire
  refine outTouch ?_
  repeat' first
    | with_reducible assumption
    | with_reducible apply modPort_touch (within_trans (by decide) w)
    | with_reducible apply evP_touch (within_trans (by decide) w)
    | with_reducible apply setReason_touch (within_trans (by decide) w)
    | with_reducible apply draw_touch (within_trans (by decide) w)
    | split

theorem substDue_touch {m s0 a0 s} (w : Within 0xf00042008000 m) (h : Touch m s0 s) : Touch m s0 (substDue a0 s) := by
  unfold substDue
  repeat' first
    | with_reducible assumption
    | with_reducible apply modPort_touch (within_trans (by decide) w)
    | with_reducible apply evP_touch (within_trans (by decide) w)
    | with_reducible refine addCntG_touch (within_trans (by decide) w) ?_
    | with_reducible refine addCntP_touch (within_trans (by decide) w) ?_
    | with_reducible refine addCntL_touch (within_trans (by decide) w) ?_
    | with_reducible refine addCnt_touchAll (within_trans (by decide) w) ?_
    | with_reducible apply substRoles_touch (within_trans (by decide) w)
    | with_reducible apply pmEv_touch (within_trans (by decide) w)
    | with_reducible apply countDev_touch (within_trans (by decide) w)
    | with_reducible apply journalEvent_touch (within_trans (by decide) w)
    | with_reducible apply forL_touch
    | split
    | intro _

theorem execSpareSubstitution_touch {m s0 a0 s} (w : Within 0xf00042008000 m) (h : Touch m s0 s) : OutTouch m s0 (execSpareSubstitution a0 s) := by
  unfold execSpareSubstitution
  refine outTouch ?_
  repeat' first
    | with_reducible assumption
    | with_reducible apply substDue_touch (within_trans (by decide) w)

theorem execDriftFence_touch {m s0 a0 a1 a2 a3 s} (w : Within 0x800002000000 m) (h : Touch m s0 s) :
    OutTouch m s0 (execDriftFence a0 a1 a2 a3 s) := by
  unfold execDriftFence
  refine outTouch ?_
  repeat' first
    | with_reducible assumption
    | with_reducible apply evP_touch (within_trans (by decide) w)
    | with_reducible apply modPort_touch (within_trans (by decide) w)
    | split

theorem driftRevert_touch {m s0 a0 s} (w : Within 0xc00002000000 m) (h : Touch m s0 s) : Touch m s0 (driftRevert a0 s) := by
  unfold driftRevert
  repeat' first
    | with_reducible assumption
    | with_reducible apply countDev_touch (within_trans (by decide) w)
    | with_reducible refine addCntG_touch (within_trans (by decide) w) ?_
    | with_reducible refine addCntP_touch (within_trans (by decide) w) ?_
    | with_reducible refine addCntL_touch (within_trans (by decide) w) ?_
    | with_reducible refine addCnt_touchAll (within_trans (by decide) w) ?_
    | with_reducible apply modPort_touch (within_trans (by decide) w)
    | split
    | intro _
    | dsimp only

theorem execDriftRevert_touch {m s0 a0 s} (w : Within 0xc00002000000 m) (h : Touch m s0 s) : OutTouch m s0 (execDriftRevert a0 s) := by
  unfold execDriftRevert
  refine outTouch ?_
  repeat' first
    | with_reducible assumption
    | with_reducible apply driftRevert_touch (within_trans (by decide) w)

theorem execDegradeHoldExpiry_touch {m s0 a0 s} (w : Within 0xc00002000000 m) (h : Touch m s0 s) : OutTouch m s0 (execDegradeHoldExpiry a0 s) := by
  unfold execDegradeHoldExpiry
  refine outTouch ?_
  repeat' first
    | with_reducible assumption
    | with_reducible apply setReason_touch (within_trans (by decide) w)
    | with_reducible apply modPort_touch (within_trans (by decide) w)
    | with_reducible apply updateState_touch (within_trans (by decide) w)
    | split

theorem execPartnerBlockTimeout_touch {m s0 a0 s} (w : Within 0xc08817000000 m) (h : Touch m s0 s) :
    OutTouch m s0 (execPartnerBlockTimeout a0 s) := by
  unfold execPartnerBlockTimeout
  refine outTouch ?_
  repeat' first
    | with_reducible assumption
    | with_reducible apply downRestart_touch (within_trans (by decide) w)
    | split

theorem modShut_touch {m s0 a0 a1 s} (w : Within 0x2000000 m) (h : Touch m s0 s) : Touch m s0 (modShut a0 a1 s) := by
  unfold modShut
  repeat' first
    | with_reducible assumption
    | with_reducible apply modPort_touch (within_trans (by decide) w)

theorem execShutterRequestTrigger_touch {m s0 a0 s} (w : Within 0x2000000 m) (h : Touch m s0 s) : OutTouch m s0 (execShutterRequestTrigger a0 s) := by
  unfold execShutterRequestTrigger
  refine outTouch ?_
  repeat' first
    | with_reducible assumption
    | with_reducible apply sendMsg_touch (within_trans (by decide) w)
    | with_reducible apply modShut_touch (within_trans (by decide) w)
    | split

theorem shutRequest_touch {m s0 a0 a1 s} (w : Within 0x2000000 m) (h : Touch m s0 s) : Touch m s0 (shutRequest a0 a1 s) := by
  unfold shutRequest
  repeat' first
    | with_reducible assumption
    | with_reducible apply sendMsg_touch (within_trans (by decide) w)
    | with_reducible apply modShut_touch (within_trans (by decide) w)
    | split

theorem execShutter_touch {m s0 a0 a1 a2 a3 a4 s} (w : Within 0x800002000000 m) (h : Touch m s0 s) :
    OutTouch m s0 (execShutter a0 a1 a2 a3 a4 s) := by
  unfold execShutter
  refine outTouch ?_
  repeat' first
    | with_reducible assumption
    | with_reducible apply onService2_touch (within_trans (by decide) w)
    | with_reducible apply shutRequest_touch (within_trans (by decide) w)
    | with_reducible apply modShut_touch (within_trans (by decide) w)
    | with_reducible apply evP_touch (within_trans (by decide) w)
    | split
    | intro _

theorem shutterDue_touch {m s0 a0 s} (w : Within 0xc00002000000 m) (h : Touch m s0 s) : Touch m s0 (shutterDue a0 s) := by
  unfold shutterDue
  repeat' first
    | with_reducible assumption
    | with_reducible apply countDev_touch (within_trans (by decide) w)
    | with_reducible apply wrP_touch (within_trans (by decide) w)
    | with_reducible apply modShut_touch (within_trans (by decide) w)
    | split

theorem execShutterEntry_touch {m s0 a0 s} (w : Within 0xc00002000000 m) (h : Touch m s0 s) : OutTouch m s0 (execShutterEntry a0 s) := by
  unfold execShutterEntry
  refine outTouch ?_
  repeat' first
    | with_reducible assumption
    | with_reducible apply shutterDue_touch (within_trans (by decide) w)

theorem execRefresh_touch {m s0 a0 a1 s} (w : Within 0xc08817000000 m) (h : Touch m s0 s) : OutTouch m s0 (execRefresh a0 a1 s) := by
  unfold execRefresh
  refine outTouch ?_
  repeat' first
    | with_reducible assumption
    | with_reducible apply modShut_touch (within_trans (by decide) w)
    | with_reducible apply downRestart_touch (within_trans (by decide) w)
    | split

theorem knockAt_touch {m s0 a0 a1 s} (w : Within 0x2000000 m) (h : Touch m s0 s) : Touch m s0 (knockAt a0 a1 s) := by
  unfold knockAt
  repeat' first
    | with_reducible assumption
    | with_reducible apply modShut_touch (within_trans (by decide) w)
    | split
    | intro _
    | dsimp only

theorem execKnock_touch {m s0 a0 a1 s} (w : Within 0x2000000 m) (h : Touch m s0 s) : OutTouch m s0 (execKnock a0 a1 s) := by
  unfold execKnock
  refine outTouch ?_
  repeat' first
    | with_reducible assumption
    | with_reducible apply knockAt_touch (within_trans (by decide) w)
    | split

theorem execKnockDetectorFire_touch {m s0 a0 a1 a2 a3 s} (w : Within 0x2000000 m) (h : Touch m s0 s) :
    OutTouch m s0 (execKnockDetectorFire a0 a1 a2 a3 s) := by
  unfold execKnockDetectorFire
  refine outTouch ?_
  repeat' first
    | with_reducible assumption
    | with_reducible apply modShut_touch (within_trans (by decide) w)
    | split

theorem execKnockConfirm_touch {m s0 a0 a1 a2 a3 s} (w : Within 0x2000000 m) (h : Touch m s0 s) : OutTouch m s0 (execKnockConfirm a0 a1 a2 a3 s) := by
  unfold execKnockConfirm
  refine outTouch ?_
  repeat' first
    | with_reducible assumption
    | with_reducible apply modShut_touch (within_trans (by decide) w)
    | split

theorem execFalseKnock_touch {m s0 a0 a1 a2 a3 s} (w : Within 0xc00002000000 m) (h : Touch m s0 s) :
    OutTouch m s0 (execFalseKnock a0 a1 a2 a3 s) := by
  unfold execFalseKnock
  refine outTouch ?_
  repeat' first
    | with_reducible assumption
    | with_reducible apply countDev_touch (within_trans (by decide) w)
    | with_reducible refine addCntG_touch (within_trans (by decide) w) ?_
    | with_reducible refine addCntP_touch (within_trans (by decide) w) ?_
    | with_reducible refine addCntL_touch (within_trans (by decide) w) ?_
    | with_reducible refine addCnt_touchAll (within_trans (by decide) w) ?_
    | with_reducible apply modShut_touch (within_trans (by decide) w)
    | split

theorem execAnswer_touch {m s0 a0 a1 s} (w : Within 0x2000000 m) (h : Touch m s0 s) : OutTouch m s0 (execAnswer a0 a1 s) := by
  unfold execAnswer
  refine outTouch ?_
  repeat' first
    | with_reducible assumption
    | with_reducible apply modShut_touch (within_trans (by decide) w)
    | split

theorem execShutterResume_touch {m s0 a0 a1 s} (w : Within 0xc00002000000 m) (h : Touch m s0 s) : OutTouch m s0 (execShutterResume a0 a1 s) := by
  unfold execShutterResume
  refine outTouch ?_
  repeat' first
    | with_reducible assumption
    | with_reducible apply modPort_touch (within_trans (by decide) w)
    | with_reducible apply countDev_touch (within_trans (by decide) w)
    | with_reducible refine addCntG_touch (within_trans (by decide) w) ?_
    | with_reducible refine addCntP_touch (within_trans (by decide) w) ?_
    | with_reducible refine addCntL_touch (within_trans (by decide) w) ?_
    | with_reducible refine addCnt_touchAll (within_trans (by decide) w) ?_
    | with_reducible apply wrP_touch (within_trans (by decide) w)
    | split

theorem execKnockRetry_touch {m s0 a0 a1 s} (w : Within 0xc08817000000 m) (h : Touch m s0 s) : OutTouch m s0 (execKnockRetry a0 a1 s) := by
  unfold execKnockRetry
  refine outTouch ?_
  repeat' first
    | with_reducible assumption
    | with_reducible apply downRestart_touch (within_trans (by decide) w)
    | with_reducible apply evP_touch (within_trans (by decide) w)
    | with_reducible apply modShut_touch (within_trans (by decide) w)
    | split

theorem execScheduledWake_touch {m s0 a0 a1 s} (w : Within 0x2000000 m) (h : Touch m s0 s) : OutTouch m s0 (execScheduledWake a0 a1 s) := by
  unfold execScheduledWake
  refine outTouch ?_
  repeat' first
    | with_reducible assumption
    | with_reducible apply knockAt_touch (within_trans (by decide) w)
    | with_reducible apply wantWake_touch (within_trans (by decide) w)

theorem execLpi_touch {m s0 a0 a1 s} (w : Within 0x800002000000 m) (h : Touch m s0 s) : OutTouch m s0 (execLpi a0 a1 s) := by
  unfold execLpi
  refine outTouch ?_
  repeat' first
    | with_reducible assumption
    | with_reducible apply wrP_touch (within_trans (by decide) w)
    | with_reducible apply modShut_touch (within_trans (by decide) w)
    | with_reducible refine addCntG_touch (within_trans (by decide) w) ?_
    | with_reducible refine addCntP_touch (within_trans (by decide) w) ?_
    | with_reducible refine addCntL_touch (within_trans (by decide) w) ?_
    | with_reducible refine addCnt_touchAll (within_trans (by decide) w) ?_
    | split

theorem execFeedbackSet_touch {m s0 a0 a1 a2 a3 s} (w : Within 0x2000000 m) (h : Touch m s0 s) : OutTouch m s0 (execFeedbackSet a0 a1 a2 a3 s) := by
  unfold execFeedbackSet
  refine outTouch ?_
  repeat' first
    | with_reducible assumption
    | with_reducible apply onService2_touch (within_trans (by decide) w)
    | with_reducible apply modPort_touch (within_trans (by decide) w)
    | split
    | intro _

theorem execFeedback_touch {m s0 a0 a1 a2 a3 a4 a5 a6 s} (w : Within 0x10000000 m) (h : Touch m s0 s) :
    OutTouch m s0 (execFeedback a0 a1 a2 a3 a4 a5 a6 s) := by
  unfold execFeedback
  refine outTouch ?_
  repeat' first
    | with_reducible assumption
    | with_reducible apply modVictim_touch (within_trans (by decide) w)
    | with_reducible apply forN_touch
    | split
    | intro _

end Sys2Proof.Machine
end

