-- ==== Sys2Proof/Laws/TouchUnits.lean ====
section
/-!
SUPPORT. What every operation can change (Touch.lean), one lemma for each.
Lane groups, launch, diagnostics, calibration, the Closing Audit, monitors, power, resets.
-/
namespace Sys2Proof.Machine

theorem htxStripe_touch {m s0 a0 s} (w : Within 0x200008000000 m) (h : Touch m s0 s) : Touch m s0 (htxStripe a0 s) := by
  unfold htxStripe
  repeat' first
    | with_reducible assumption
    | with_reducible apply pmEv_touch (within_trans (by decide) w)
    | with_reducible apply modLane_touch (within_trans (by decide) w)
    | with_reducible apply pmEvN_touch (within_trans (by decide) w)
    | split
    | intro _
    | dsimp only

theorem execHtxStripe_touch {m s0 a0 s} (w : Within 0x200008000000 m) (h : Touch m s0 s) : OutTouch m s0 (execHtxStripe a0 s) := by
  unfold execHtxStripe
  refine outTouch ?_
  repeat' first
    | with_reducible assumption
    | with_reducible apply htxStripe_touch (within_trans (by decide) w)

theorem stripeDrop_touch {m s0 a0 s} (w : Within 0x608000000000 m) (h : Touch m s0 s) : Touch m s0 (stripeDrop a0 s) := by
  unfold stripeDrop
  repeat' first
    | with_reducible assumption
    | with_reducible apply pmEv_touch (within_trans (by decide) w)
    | with_reducible apply countDev_touch (within_trans (by decide) w)
    | with_reducible refine addCntG_touch (within_trans (by decide) w) ?_
    | with_reducible refine addCntP_touch (within_trans (by decide) w) ?_
    | with_reducible refine addCntL_touch (within_trans (by decide) w) ?_

theorem execHrxStripe_touch {m s0 a0 a1 s} (w : Within 0x608008000000 m) (h : Touch m s0 s) : OutTouch m s0 (execHrxStripe a0 a1 s) := by
  unfold execHrxStripe
  refine outTouch ?_
  repeat' first
    | with_reducible assumption
    | with_reducible apply pmEv_touch (within_trans (by decide) w)
    | with_reducible apply countDev_touch (within_trans (by decide) w)
    | with_reducible refine addCntG_touch (within_trans (by decide) w) ?_
    | with_reducible refine addCntP_touch (within_trans (by decide) w) ?_
    | with_reducible refine addCntL_touch (within_trans (by decide) w) ?_
    | with_reducible refine addCnt_touchAll (within_trans (by decide) w) ?_
    | with_reducible apply stripeDrop_touch (within_trans (by decide) w)
    | with_reducible refine evL_touch (within_trans (by decide) w) ?_
    | with_reducible apply modLane_touch (within_trans (by decide) w)
    | with_reducible apply whenB_touch
    | split
    | intro _

theorem noticeAck_touch {m s0 a0 a1 s} (w : Within 0x800004000000 m) (h : Touch m s0 s) : Touch m s0 (noticeAck a0 a1 s) := by
  unfold noticeAck
  repeat' first
    | with_reducible assumption
    | with_reducible apply modHost_touch (within_trans (by decide) w)
    | with_reducible apply wrP_touch (within_trans (by decide) w)
    | split

theorem execHrxControlStripe_touch {m s0 a0 a1 s} (w : Within 0x80800c000000 m) (h : Touch m s0 s) :
    OutTouch m s0 (execHrxControlStripe a0 a1 s) := by
  unfold execHrxControlStripe
  refine outTouch ?_
  repeat' first
    | with_reducible assumption
    | with_reducible refine evL_touch (within_trans (by decide) w) ?_
    | with_reducible refine wrL_touch (within_trans (by decide) w) ?_
    | with_reducible apply modLane_touch (within_trans (by decide) w)
    | with_reducible apply noticeAck_touch (within_trans (by decide) w)
    | with_reducible apply forL_touch
    | split
    | intro _

theorem toContext_touch {m s0 a0 a1 a2 s} (w : Within 0x610000800000 m) (h : Touch m s0 s) : Touch m s0 (toContext a0 a1 a2 s) := by
  unfold toContext
  repeat' first
    | with_reducible assumption
    | with_reducible apply modCtx_touch (within_trans (by decide) w)
    | with_reducible refine addCntG_touch (within_trans (by decide) w) ?_
    | with_reducible refine addCntP_touch (within_trans (by decide) w) ?_
    | with_reducible refine addCntL_touch (within_trans (by decide) w) ?_
    | with_reducible refine addCnt_touchAll (within_trans (by decide) w) ?_
    | with_reducible apply pmEv_touch (within_trans (by decide) w)
    | with_reducible apply countDev_touch (within_trans (by decide) w)
    | with_reducible refine evGRail_touch (within_trans (by decide) w) ?_
    | with_reducible refine evGBit_touch (within_trans (by decide) w) ?_
    | with_reducible refine evG_touch (within_trans (by decide) w) ?_
    | with_reducible refine evG_touchAll (within_trans (by decide) w) ?_
    | with_reducible apply whenB_touch
    | split
    | intro _
    | dsimp only

theorem hrxFrame_touch {m s0 a0 a1 a2 s} (w : Within 0xe1000e800000 m) (h : Touch m s0 s) : Touch m s0 (hrxFrame a0 a1 a2 s) := by
  unfold hrxFrame
  repeat' first
    | with_reducible assumption
    | with_reducible refine addCntG_touch (within_trans (by decide) w) ?_
    | with_reducible refine addCntP_touch (within_trans (by decide) w) ?_
    | with_reducible refine addCntL_touch (within_trans (by decide) w) ?_
    | with_reducible refine addCnt_touchAll (within_trans (by decide) w) ?_
    | with_reducible apply pmEv_touch (within_trans (by decide) w)
    | with_reducible apply countDev_touch (within_trans (by decide) w)
    | with_reducible apply toContext_touch (within_trans (by decide) w)
    | with_reducible apply lineOut_touch (within_trans (by decide) w)
    | split
    | intro _
    | dsimp only

theorem execHrxRecord_touch {m s0 a0 a1 a2 a3 s} (w : Within 0xf1889e828000 m) (h : Touch m s0 s) : OutTouch m s0 (execHrxRecord a0 a1 a2 a3 s) := by
  unfold execHrxRecord
  refine outTouch ?_
  repeat' first
    | with_reducible assumption
    | with_reducible apply auditRequest_touch (within_trans (by decide) w)
    | with_reducible apply modLane_touch (within_trans (by decide) w)
    | with_reducible apply countDev_touch (within_trans (by decide) w)
    | with_reducible refine addCntG_touch (within_trans (by decide) w) ?_
    | with_reducible refine addCntP_touch (within_trans (by decide) w) ?_
    | with_reducible refine addCntL_touch (within_trans (by decide) w) ?_
    | with_reducible refine addCnt_touchAll (within_trans (by decide) w) ?_
    | with_reducible apply hrxFrame_touch (within_trans (by decide) w)
    | split

theorem execPauseRepeat_touch {m s0 a0 s} (w : Within 0xc00008000000 m) (h : Touch m s0 s) : OutTouch m s0 (execPauseRepeat a0 s) := by
  unfold execPauseRepeat
  refine outTouch ?_
  repeat' first
    | with_reducible assumption
    | with_reducible apply sendPause_touch (within_trans (by decide) w)
    | split

theorem execNoticeTimeout_touch {m s0 a0 s} (w : Within 0x800000000000 m) (h : Touch m s0 s) : OutTouch m s0 (execNoticeTimeout a0 s) := by
  unfold execNoticeTimeout
  refine outTouch ?_
  repeat' first
    | with_reducible assumption
    | with_reducible apply wrP_touch (within_trans (by decide) w)
    | split

theorem execLineFrame_touch {m s0 a0 a1 a2 a3 a4 s} (w : Within 0xe00008000000 m) (h : Touch m s0 s) :
    OutTouch m s0 (execLineFrame a0 a1 a2 a3 a4 s) := by
  unfold execLineFrame
  refine outTouch ?_
  repeat' first
    | with_reducible assumption
    | with_reducible apply lineIn_touch (within_trans (by decide) w)
    | split

theorem execLaneLockLost_touch {m s0 a0 a1 s} (w : Within 0xc08008028000 m) (h : Touch m s0 s) : OutTouch m s0 (execLaneLockLost a0 a1 s) := by
  unfold execLaneLockLost
  refine outTouch ?_
  repeat' first
    | with_reducible assumption
    | with_reducible refine evL_touch (within_trans (by decide) w) ?_
    | with_reducible apply laneGo_touch (within_trans (by decide) w)
    | with_reducible apply laneSet_touch (within_trans (by decide) w)
    | with_reducible refine wrBitG_touch (within_trans (by decide) w) ?_
    | with_reducible refine wrBitP_touch (within_trans (by decide) w) ?_
    | with_reducible refine wrBitL_touch (within_trans (by decide) w) ?_
    | with_reducible refine wrBit_touchAll (within_trans (by decide) w) ?_
    | with_reducible apply modLane_touch (within_trans (by decide) w)
    | split

theorem laneMoved_touch {m s0 a0 s} (w : Within 0x400000028000 m) (h : Touch m s0 s) : Touch m s0 (laneMoved a0 s) := by
  unfold laneMoved
  repeat' first
    | with_reducible assumption
    | with_reducible apply laneProgress_touch (within_trans (by decide) w)
    | split

theorem execHrxClockDetect_touch {m s0 a0 s} (w : Within 0x408008028000 m) (h : Touch m s0 s) : OutTouch m s0 (execHrxClockDetect a0 s) := by
  unfold execHrxClockDetect
  refine outTouch ?_
  repeat' first
    | with_reducible assumption
    | with_reducible apply laneMoved_touch (within_trans (by decide) w)
    | with_reducible apply laneStep2_touch (within_trans (by decide) w)
    | with_reducible apply modLane_touch (within_trans (by decide) w)
    | split

theorem trainFails_touch {m s0 a0 s} (w : Within 0x408008028000 m) (h : Touch m s0 s) : Touch m s0 (trainFails a0 s) := by
  unfold trainFails
  repeat' first
    | with_reducible assumption
    | with_reducible refine wrL_touch (within_trans (by decide) w) ?_
    | with_reducible apply modLane_touch (within_trans (by decide) w)
    | with_reducible apply laneFinish_touch (within_trans (by decide) w)
    | with_reducible refine addCntG_touch (within_trans (by decide) w) ?_
    | with_reducible refine addCntP_touch (within_trans (by decide) w) ?_
    | with_reducible refine addCntL_touch (within_trans (by decide) w) ?_
    | with_reducible refine addCnt_touchAll (within_trans (by decide) w) ?_
    | with_reducible refine evL_touch (within_trans (by decide) w) ?_

theorem execTrainFail_touch {m s0 a0 s} (w : Within 0x408008028000 m) (h : Touch m s0 s) : OutTouch m s0 (execTrainFail a0 s) := by
  unfold execTrainFail
  refine outTouch ?_
  repeat' first
    | with_reducible assumption
    | with_reducible apply trainFails_touch (within_trans (by decide) w)
    | split

theorem execTrainRetry_touch {m s0 a0 s} (w : Within 0xc08008028000 m) (h : Touch m s0 s) : OutTouch m s0 (execTrainRetry a0 s) := by
  unfold execTrainRetry
  refine outTouch ?_
  repeat' first
    | with_reducible assumption
    | with_reducible apply laneGo_touch (within_trans (by decide) w)
    | split

theorem choosePace_touch {m s0 a0 s} (w : Within 0x800004000000 m) (h : Touch m s0 s) : Touch m s0 (choosePace a0 s) := by
  unfold choosePace
  repeat' first
    | with_reducible assumption
    | with_reducible apply wrP_touch (within_trans (by decide) w)
    | with_reducible apply modHost_touch (within_trans (by decide) w)
    | with_reducible apply forL_touch
    | split
    | intro _

theorem laneEnter_touch {m s0 a0 s} (w : Within 0xc0800c028000 m) (h : Touch m s0 s) : Touch m s0 (laneEnter a0 s) := by
  unfold laneEnter
  repeat' first
    | with_reducible assumption
    | with_reducible refine wrL_touch (within_trans (by decide) w) ?_
    | with_reducible apply modLane_touch (within_trans (by decide) w)
    | with_reducible apply laneFinish_touch (within_trans (by decide) w)
    | with_reducible apply updateSplits_touch (within_trans (by decide) w)
    | with_reducible apply choosePace_touch (within_trans (by decide) w)

theorem trainFrame_touch {m s0 a0 a1 a2 s} (w : Within 0xc0800c028000 m) (h : Touch m s0 s) : Touch m s0 (trainFrame a0 a1 a2 s) := by
  unfold trainFrame
  repeat' first
    | with_reducible assumption
    | with_reducible apply laneMoved_touch (within_trans (by decide) w)
    | with_reducible refine wrL_touch (within_trans (by decide) w) ?_
    | with_reducible apply trainFails_touch (within_trans (by decide) w)
    | with_reducible apply modLane_touch (within_trans (by decide) w)
    | with_reducible apply laneEnter_touch (within_trans (by decide) w)
    | split
    | intro _
    | dsimp only

theorem execTrainFrame_touch {m s0 a0 a1 a2 s} (w : Within 0xc0800c028000 m) (h : Touch m s0 s) : OutTouch m s0 (execTrainFrame a0 a1 a2 s) := by
  unfold execTrainFrame
  refine outTouch ?_
  repeat' first
    | with_reducible assumption
    | with_reducible apply trainFrame_touch (within_trans (by decide) w)
    | split

theorem laneTrainPlan_touch {m a0 a1 s} (w : Within 0xd0889a038000 m) : PlanTouch m (laneTrainPlan a0 a1 s) := by
  unfold laneTrainPlan
  repeat' first
    | with_reducible assumption
    | with_reducible apply firstOf_touch
    | with_reducible apply checksT_cons
    | with_reducible exact checksT_nil
    | with_reducible apply chk_touch
    | with_reducible exact bad_touch
    | with_reducible exact busyIf_touch (within_trans (by decide) w)
    | with_reducible apply checksT_append
    | with_reducible exact laneGates_touch (within_trans (by decide) w)
    | with_reducible exact done_id_touch
    | with_reducible apply some_touch
    | with_reducible exact none_touch
    | with_reducible apply done_touch
    | with_reducible apply Plan_long_touch (within_trans (by decide) w)
    | with_reducible apply modLane_touch (within_trans (by decide) w)
    | with_reducible apply laneProgress_touch (within_trans (by decide) w)
    | with_reducible apply laneGo_touch (within_trans (by decide) w)
    | with_reducible apply forL_touch
    | split
    | intro _

theorem opLaneTrain_touch {m} (w : Within 0xd0889a038000 m) :
    OpTouch m opLaneTrain := ⟨fun c r s => laneTrainPlan_touch w (a0 := c) (a1 := r) (s := s)⟩

theorem execLaneTrain_touch {m s0 a0 s} (w : Within 0xfaa89a23f800 m) (h : Touch m s0 s) : OutTouch m s0 (execLaneTrain a0 s) :=
  runOpcode_touch (within_trans (by decide) w) (opLaneTrain_touch (within_trans (by decide) w)) h

theorem laneTestPlan_touch {m a0 a1 s} (w : Within 0xd0889a038000 m) : PlanTouch m (laneTestPlan a0 a1 s) := by
  unfold laneTestPlan
  repeat' first
    | with_reducible assumption
    | with_reducible apply firstOf_touch
    | with_reducible apply checksT_cons
    | with_reducible exact checksT_nil
    | with_reducible exact bad_touch
    | with_reducible exact busyIf_touch (within_trans (by decide) w)
    | with_reducible apply checksT_append
    | with_reducible exact laneGates_touch (within_trans (by decide) w)
    | with_reducible apply some_touch
    | with_reducible exact none_touch
    | with_reducible apply Plan_long_touch (within_trans (by decide) w)
    | with_reducible apply laneSet_touch (within_trans (by decide) w)
    | with_reducible apply opProgress_touch (within_trans (by decide) w)
    | with_reducible apply modLane_touch (within_trans (by decide) w)
    | split
    | intro _

theorem opLaneTest_touch {m} (w : Within 0xd0889a038000 m) : OpTouch m opLaneTest := ⟨fun c r s => laneTestPlan_touch w (a0 := c) (a1 := r) (s := s)⟩

theorem execLaneTest_touch {m s0 a0 s} (w : Within 0xfaa89a23f800 m) (h : Touch m s0 s) : OutTouch m s0 (execLaneTest a0 s) :=
  runOpcode_touch (within_trans (by decide) w) (opLaneTest_touch (within_trans (by decide) w)) h

theorem execPrbsSync_touch {m s0 a0 a1 s} (w : Within 0x400008028000 m) (h : Touch m s0 s) : OutTouch m s0 (execPrbsSync a0 a1 s) := by
  unfold execPrbsSync
  refine outTouch ?_
  repeat' first
    | with_reducible assumption
    | with_reducible apply modLane_touch (within_trans (by decide) w)
    | with_reducible apply opProgress_touch (within_trans (by decide) w)
    | with_reducible apply opItem_touch (within_trans (by decide) w)
    | split
    | intro _
    | dsimp only

theorem execErrorInjection_touch {m s0 a0 s} (w : Within 0x8000000 m) (h : Touch m s0 s) : OutTouch m s0 (execErrorInjection a0 s) := by
  unfold execErrorInjection
  refine outTouch ?_
  repeat' first
    | with_reducible assumption
    | with_reducible apply modLane_touch (within_trans (by decide) w)
    | split

theorem execLaneTestEnd_touch {m s0 a0 a1 a2 s} (w : Within 0xc08008028000 m) (h : Touch m s0 s) : OutTouch m s0 (execLaneTestEnd a0 a1 a2 s) := by
  unfold execLaneTestEnd
  refine outTouch ?_
  repeat' first
    | with_reducible assumption
    | with_reducible refine wrRegLanes_touch (by unfold laneBase; omega) (by unfold laneBase; omega) (within_trans (by decide) w) ?_
    | with_reducible apply modLane_touch (within_trans (by decide) w)
    | with_reducible apply laneGo_touch (within_trans (by decide) w)
    | with_reducible apply laneSet_touch (within_trans (by decide) w)
    | with_reducible apply endOp_touch (within_trans (by decide) w)
    | with_reducible apply opProgress_touch (within_trans (by decide) w)
    | with_reducible apply forL_touch
    | split
    | intro _

theorem endSlew_touch {m s0 s} (w : Within 0x10000400000 m) (h : Touch m s0 s) : Touch m s0 (endSlew s) := by
  unfold endSlew
  repeat' first
    | with_reducible assumption
    | with_reducible refine wrGRail_touch (within_trans (by decide) w) ?_
    | with_reducible refine wrG_touch (within_trans (by decide) w) ?_
    | with_reducible refine wrG_touchAll (within_trans (by decide) w) ?_
    | with_reducible apply modTime_touch (within_trans (by decide) w)

theorem moveClock_touch {m s0 a0 a1 s} (w : Within 0x400000 m) (h : Touch m s0 s) : Touch m s0 (moveClock a0 a1 s) := by
  unfold moveClock
  repeat' first
    | with_reducible assumption
    | with_reducible apply modTime_touch (within_trans (by decide) w)

theorem runClock_touch {m s0 a0 s} (w : Within 0x10000400000 m) (h : Touch m s0 s) : Touch m s0 (runClock a0 s) := by
  unfold runClock
  repeat' first
    | with_reducible assumption
    | with_reducible apply moveClock_touch (within_trans (by decide) w)
    | with_reducible apply endSlew_touch (within_trans (by decide) w)
    | with_reducible apply modTime_touch (within_trans (by decide) w)
    | split
    | intro _
    | dsimp only

theorem updateClamp_touch {m s0 s} (w : Within 0x10000000000 m) (h : Touch m s0 s) : Touch m s0 (updateClamp s) := by
  unfold updateClamp
  repeat' first
    | with_reducible assumption
    | with_reducible refine evGRail_touch (within_trans (by decide) w) ?_
    | with_reducible refine evGBit_touch (within_trans (by decide) w) ?_
    | with_reducible refine evG_touch (within_trans (by decide) w) ?_
    | with_reducible refine evG_touchAll (within_trans (by decide) w) ?_
    | with_reducible refine wrGRail_touch (within_trans (by decide) w) ?_
    | with_reducible refine wrG_touch (within_trans (by decide) w) ?_
    | with_reducible refine wrG_touchAll (within_trans (by decide) w) ?_
    | with_reducible apply whenB_touch
    | intro _

theorem dropHead_touch {m s0 a0 s} (w : Within 0x800000 m) (h : Touch m s0 s) : Touch m s0 (dropHead a0 s) := by
  unfold dropHead
  repeat' first
    | with_reducible assumption
    | with_reducible apply modCtx_touch (within_trans (by decide) w)

theorem sendLaunched_touch {m s0 a0 a1 a2 s} (w : Within 0xe00006800000 m) (h : Touch m s0 s) : Touch m s0 (sendLaunched a0 a1 a2 s) := by
  unfold sendLaunched
  repeat' first
    | with_reducible assumption
    | with_reducible apply wantWake_touch (within_trans (by decide) w)
    | with_reducible apply modPort_touch (within_trans (by decide) w)
    | with_reducible apply egress_touch (within_trans (by decide) w)
    | with_reducible refine pair_touch ?_ (by assumption)
    | with_reducible refine triple_touch ?_ (by assumption)
    | with_reducible apply forLPair_touch
    | with_reducible apply foldlPair_touch
    | split

theorem doLaunch_touch {m s0 a0 a1 s} (w : Within 0xe10006800000 m) (h : Touch m s0 s) : Touch m s0 (doLaunch a0 a1 s) := by
  unfold doLaunch
  repeat' first
    | with_reducible assumption
    | with_reducible apply modCtx_touch (within_trans (by decide) w)
    | with_reducible apply dropHead_touch (within_trans (by decide) w)
    | with_reducible apply pmEv_touch (within_trans (by decide) w)
    | with_reducible apply countDev_touch (within_trans (by decide) w)
    | with_reducible refine evGRail_touch (within_trans (by decide) w) ?_
    | with_reducible refine evGBit_touch (within_trans (by decide) w) ?_
    | with_reducible refine evG_touch (within_trans (by decide) w) ?_
    | with_reducible refine evG_touchAll (within_trans (by decide) w) ?_
    | with_reducible refine addCntG_touch (within_trans (by decide) w) ?_
    | with_reducible refine addCntP_touch (within_trans (by decide) w) ?_
    | with_reducible refine addCntL_touch (within_trans (by decide) w) ?_
    | with_reducible refine addCnt_touchAll (within_trans (by decide) w) ?_
    | with_reducible apply sendLaunched_touch (within_trans (by decide) w)
    | with_reducible apply whenB_touch
    | split
    | intro _
    | dsimp only

theorem execLaunch_touch {m s0 a0 a1 a2 s} (w : Within 0xe10006800000 m) (h : Touch m s0 s) : OutTouch m s0 (execLaunch a0 a1 a2 s) := by
  unfold execLaunch
  refine outTouch ?_
  repeat' first
    | with_reducible assumption
    | with_reducible apply doLaunch_touch (within_trans (by decide) w)
    | split

theorem holdCtx_touch {m s0 a0 s} (w : Within 0xe10006800000 m) (h : Touch m s0 s) : Touch m s0 (holdCtx a0 s) := by
  unfold holdCtx
  repeat' first
    | with_reducible assumption
    | with_reducible apply modCtx_touch (within_trans (by decide) w)
    | with_reducible apply doLaunch_touch (within_trans (by decide) w)
    | with_reducible apply dropHead_touch (within_trans (by decide) w)
    | split
    | intro _
    | dsimp only

theorem stepClock_touch {m s0 a0 s} (w : Within 0xe10006c00000 m) (h : Touch m s0 s) : Touch m s0 (stepClock a0 s) := by
  unfold stepClock
  repeat' first
    | with_reducible assumption
    | with_reducible apply modTime_touch (within_trans (by decide) w)
    | with_reducible apply endSlew_touch (within_trans (by decide) w)
    | with_reducible apply countDev_touch (within_trans (by decide) w)
    | with_reducible refine evGRail_touch (within_trans (by decide) w) ?_
    | with_reducible refine evGBit_touch (within_trans (by decide) w) ?_
    | with_reducible refine evG_touch (within_trans (by decide) w) ?_
    | with_reducible refine evG_touchAll (within_trans (by decide) w) ?_
    | with_reducible refine wrGRail_touch (within_trans (by decide) w) ?_
    | with_reducible refine wrG_touch (within_trans (by decide) w) ?_
    | with_reducible refine wrG_touchAll (within_trans (by decide) w) ?_
    | with_reducible apply holdCtx_touch (within_trans (by decide) w)
    | with_reducible apply modCtx_touch (within_trans (by decide) w)
    | with_reducible apply forL_touch
    | split
    | intro _
    | dsimp only

theorem releaseCtx_touch {m s0 a0 s} (w : Within 0x800000 m) (h : Touch m s0 s) : Touch m s0 (releaseCtx a0 s) := by
  unfold releaseCtx
  repeat' first
    | with_reducible assumption
    | with_reducible apply modCtx_touch (within_trans (by decide) w)

theorem adjApply_touch {m s0 a0 s} (w : Within 0xe10006c00000 m) (h : Touch m s0 s) : Touch m s0 (adjApply a0 s) := by
  unfold adjApply
  repeat' first
    | with_reducible assumption
    | with_reducible refine wrGRail_touch (within_trans (by decide) w) ?_
    | with_reducible refine wrG_touch (within_trans (by decide) w) ?_
    | with_reducible refine wrG_touchAll (within_trans (by decide) w) ?_
    | with_reducible apply stepClock_touch (within_trans (by decide) w)
    | with_reducible apply updateClamp_touch (within_trans (by decide) w)
    | with_reducible apply modTime_touch (within_trans (by decide) w)
    | with_reducible apply endSlew_touch (within_trans (by decide) w)
    | split
    | intro _
    | dsimp only

theorem timeAdjustPlan_touch {m a0 a1 s} (w : Within 0xe10806c00000 m) : PlanTouch m (timeAdjustPlan a0 a1 s) := by
  unfold timeAdjustPlan
  repeat' first
    | with_reducible assumption
    | with_reducible apply firstOf_touch
    | with_reducible apply checksT_cons
    | with_reducible exact checksT_nil
    | with_reducible exact bad_touch
    | with_reducible exact gated_touch
    | with_reducible exact busyIf_touch (within_trans (by decide) w)
    | with_reducible apply done_touch
    | with_reducible apply adjApply_touch (within_trans (by decide) w)
    | split
    | intro _

theorem opTimeAdjust_touch {m} (w : Within 0xe10806c00000 m) :
    OpTouch m opTimeAdjust := ⟨fun c r s => timeAdjustPlan_touch w (a0 := c) (a1 := r) (s := s)⟩

theorem execTimeAdjust_touch {m s0 a0 s} (w : Within 0xeb2806e07800 m) (h : Touch m s0 s) : OutTouch m s0 (execTimeAdjust a0 s) :=
  runOpcode_touch (within_trans (by decide) w) (opTimeAdjust_touch (within_trans (by decide) w)) h

theorem endHold_touch {m s0 s} (w : Within 0x10000800000 m) (h : Touch m s0 s) : Touch m s0 (endHold s) := by
  unfold endHold
  repeat' first
    | with_reducible assumption
    | with_reducible apply releaseCtx_touch (within_trans (by decide) w)
    | with_reducible refine wrGRail_touch (within_trans (by decide) w) ?_
    | with_reducible refine wrG_touch (within_trans (by decide) w) ?_
    | with_reducible refine wrG_touchAll (within_trans (by decide) w) ?_
    | with_reducible apply forL_touch
    | intro _

theorem timeAckPlan_touch {m a0 a1 s} (w : Within 0x10000800000 m) : PlanTouch m (timeAckPlan a0 a1 s) := by
  unfold timeAckPlan
  repeat' first
    | with_reducible assumption
    | with_reducible apply firstOf_touch
    | with_reducible apply checksT_cons
    | with_reducible exact checksT_nil
    | with_reducible exact bad_touch
    | with_reducible exact gated_touch
    | with_reducible apply done_touch
    | with_reducible apply endHold_touch (within_trans (by decide) w)
    | split
    | intro _

theorem opTimeAck_touch {m} (w : Within 0x10000800000 m) : OpTouch m opTimeAck := ⟨fun c r s => timeAckPlan_touch w (a0 := c) (a1 := r) (s := s)⟩

theorem execTimeAck_touch {m s0 a0 s} (w : Within 0x6b2800a07800 m) (h : Touch m s0 s) : OutTouch m s0 (execTimeAck a0 s) :=
  runOpcode_touch (within_trans (by decide) w) (opTimeAck_touch (within_trans (by decide) w)) h

theorem launchCtxPlan_touch {m a0 a1 s} (w : Within 0x800000 m) : PlanTouch m (launchCtxPlan a0 a1 s) := by
  unfold launchCtxPlan
  repeat' first
    | with_reducible assumption
    | with_reducible apply firstOf_touch
    | with_reducible apply checksT_cons
    | with_reducible exact checksT_nil
    | with_reducible exact bad_touch
    | with_reducible exact gated_touch
    | with_reducible apply checksT_append
    | with_reducible apply done_touch
    | with_reducible apply modCtx_touch (within_trans (by decide) w)
    | split
    | intro _

theorem opLaunchCtxSet_touch {m} (w : Within 0x800000 m) :
    OpTouch m opLaunchCtxSet := ⟨fun c r s => launchCtxPlan_touch w (a0 := c) (a1 := r) (s := s)⟩

theorem execLaunchCtxSet_touch {m s0 a0 s} (w : Within 0x6a2800a07800 m) (h : Touch m s0 s) : OutTouch m s0 (execLaunchCtxSet a0 s) :=
  runOpcode_touch (within_trans (by decide) w) (opLaunchCtxSet_touch (within_trans (by decide) w)) h

theorem execSlewEnd_touch {m s0 s} (w : Within 0x10000400000 m) (h : Touch m s0 s) : OutTouch m s0 (execSlewEnd s) := by
  unfold execSlewEnd
  refine outTouch ?_
  repeat' first
    | with_reducible assumption
    | with_reducible apply endSlew_touch (within_trans (by decide) w)
    | with_reducible apply moveClock_touch (within_trans (by decide) w)
    | split

theorem execGridRamp_touch {m s0 a0 s} (w : Within 0x10000400000 m) (h : Touch m s0 s) : OutTouch m s0 (execGridRamp a0 s) := by
  unfold execGridRamp
  refine outTouch ?_
  repeat' first
    | with_reducible assumption
    | with_reducible apply updateClamp_touch (within_trans (by decide) w)
    | with_reducible apply modTime_touch (within_trans (by decide) w)
    | split

theorem execAnchor_touch {m s0 s} (w : Within 0x10000400000 m) (h : Touch m s0 s) : OutTouch m s0 (execAnchor s) := by
  unfold execAnchor
  refine outTouch ?_
  repeat' first
    | with_reducible assumption
    | with_reducible refine evGRail_touch (within_trans (by decide) w) ?_
    | with_reducible refine evGBit_touch (within_trans (by decide) w) ?_
    | with_reducible refine evG_touch (within_trans (by decide) w) ?_
    | with_reducible refine evG_touchAll (within_trans (by decide) w) ?_
    | with_reducible refine wrGRail_touch (within_trans (by decide) w) ?_
    | with_reducible refine wrG_touch (within_trans (by decide) w) ?_
    | with_reducible refine wrG_touchAll (within_trans (by decide) w) ?_
    | with_reducible apply modTime_touch (within_trans (by decide) w)
    | split

theorem showDelay_touch {m s0 a0 a1 s} (w : Within 0x800001000000 m) (h : Touch m s0 s) : Touch m s0 (showDelay a0 a1 s) := by
  unfold showDelay
  repeat' first
    | with_reducible assumption
    | with_reducible apply wrP_touch (within_trans (by decide) w)
    | with_reducible apply modTt_touch (within_trans (by decide) w)

theorem loseDelay_touch {m s0 a0 s} (w : Within 0x800000000000 m) (h : Touch m s0 s) : Touch m s0 (loseDelay a0 s) := by
  unfold loseDelay
  repeat' first
    | with_reducible assumption
    | with_reducible apply evP_touch (within_trans (by decide) w)
    | with_reducible apply wrP_touch (within_trans (by decide) w)

theorem timeReport_touch {m s0 a0 a1 a2 s} (w : Within 0x800001000000 m) (h : Touch m s0 s) : Touch m s0 (timeReport a0 a1 a2 s) := by
  unfold timeReport
  repeat' first
    | with_reducible assumption
    | with_reducible apply modTt_touch (within_trans (by decide) w)
    | with_reducible apply showDelay_touch (within_trans (by decide) w)
    | with_reducible apply wrP_touch (within_trans (by decide) w)
    | with_reducible apply loseDelay_touch (within_trans (by decide) w)
    | split
    | intro _
    | dsimp only

theorem execTimeReport_touch {m s0 a0 a1 a2 a3 a4 s} (w : Within 0x800001000000 m) (h : Touch m s0 s) :
    OutTouch m s0 (execTimeReport a0 a1 a2 a3 a4 s) := by
  unfold execTimeReport
  refine outTouch ?_
  repeat' first
    | with_reducible assumption
    | with_reducible apply timeReport_touch (within_trans (by decide) w)

theorem execTtLost_touch {m s0 a0 s} (w : Within 0x800001000000 m) (h : Touch m s0 s) : OutTouch m s0 (execTtLost a0 s) := by
  unfold execTtLost
  refine outTouch ?_
  repeat' first
    | with_reducible assumption
    | with_reducible apply loseDelay_touch (within_trans (by decide) w)
    | with_reducible apply wrP_touch (within_trans (by decide) w)
    | with_reducible apply modTt_touch (within_trans (by decide) w)
    | split

theorem execTimeMark_touch {m s0 a0 a1 a2 a3 a4 a5 a6 a7 a8 a9 a10 s} (w : Within 0x800000000000 m) (h : Touch m s0 s) :
    OutTouch m s0 (execTimeMark a0 a1 a2 a3 a4 a5 a6 a7 a8 a9 a10 s) := by
  unfold execTimeMark
  refine outTouch ?_
  repeat' first
    | with_reducible assumption
    | with_reducible apply wrP_touch (within_trans (by decide) w)
    | split

theorem execTimeMarkSend_touch {m s0 a0 a1 a2 s} (w : Within 0x800003000000 m) (h : Touch m s0 s) : OutTouch m s0 (execTimeMarkSend a0 a1 a2 s) := by
  unfold execTimeMarkSend
  refine outTouch ?_
  repeat' first
    | with_reducible assumption
    | with_reducible apply wrP_touch (within_trans (by decide) w)
    | with_reducible apply sendMsg_touch (within_trans (by decide) w)
    | with_reducible apply modTt_touch (within_trans (by decide) w)
    | split

theorem diagStartPlan_touch {m a0 a1 s} (w : Within 0xd088ba038000 m) : PlanTouch m (diagStartPlan a0 a1 s) := by
  unfold diagStartPlan
  repeat' first
    | with_reducible assumption
    | with_reducible apply firstOf_touch
    | with_reducible apply checksT_cons
    | with_reducible exact checksT_nil
    | with_reducible apply chk_touch
    | with_reducible exact bad_touch
    | with_reducible exact gated_touch
    | with_reducible exact inAudit_touch (within_trans (by decide) w)
    | with_reducible exact busyIf_touch (within_trans (by decide) w)
    | with_reducible apply checksT_append
    | with_reducible exact done_id_touch
    | with_reducible apply some_touch
    | with_reducible exact none_touch
    | with_reducible apply done_touch
    | with_reducible apply Plan_long_touch (within_trans (by decide) w)
    | with_reducible apply modDiag_touch (within_trans (by decide) w)
    | split
    | intro _

theorem opDiagStart_touch {m} (w : Within 0xd088ba038000 m) :
    OpTouch m opDiagStart := ⟨fun c r s => diagStartPlan_touch w (a0 := c) (a1 := r) (s := s)⟩

theorem execDiagStart_touch {m s0 a0 s} (w : Within 0xfaa8ba23f800 m) (h : Touch m s0 s) : OutTouch m s0 (execDiagStart a0 s) :=
  runOpcode_touch (within_trans (by decide) w) (opDiagStart_touch (within_trans (by decide) w)) h

theorem diagResultPlan_touch {m a0 a1 s} (w : Within 0x800000000 m) : PlanTouch m (diagResultPlan a0 a1 s) := by
  unfold diagResultPlan
  repeat' first
    | with_reducible assumption
    | with_reducible apply firstOf_touch
    | with_reducible apply checksT_cons
    | with_reducible exact checksT_nil
    | with_reducible exact bad_touch
    | with_reducible exact busy_touch (within_trans (by decide) w)
    | with_reducible apply checksT_append
    | with_reducible exact done_id_touch
    | with_reducible apply some_touch
    | with_reducible exact none_touch
    | with_reducible apply done_touch
    | split
    | intro _
    | dsimp only

theorem opDiagResult_touch {m} (w : Within 0x800000000 m) :
    OpTouch m opDiagResult := ⟨fun c r s => diagResultPlan_touch w (a0 := c) (a1 := r) (s := s)⟩

theorem execDiagResult_touch {m s0 a0 s} (w : Within 0x6a2800207800 m) (h : Touch m s0 s) : OutTouch m s0 (execDiagResult a0 s) :=
  runOpcode_touch (within_trans (by decide) w) (opDiagResult_touch (within_trans (by decide) w)) h

theorem diagStep_touch {m s0 a0 a1 a2 s} (w : Within 0x400020028000 m) (h : Touch m s0 s) : Touch m s0 (diagStep a0 a1 a2 s) := by
  unfold diagStep
  repeat' first
    | with_reducible assumption
    | with_reducible apply opItem_touch (within_trans (by decide) w)
    | with_reducible apply opProgress_touch (within_trans (by decide) w)
    | with_reducible apply modRun_touch (within_trans (by decide) w)

theorem runBegin_touch {m s0 a0 a1 s} (w : Within 0x400020028000 m) (h : Touch m s0 s) : Touch m s0 (runBegin a0 a1 s) := by
  unfold runBegin
  repeat' first
    | with_reducible assumption
    | with_reducible apply opStep_touch (within_trans (by decide) w)
    | with_reducible apply modRun_touch (within_trans (by decide) w)

theorem setRecord_touch {m s0 a0 a1 a2 s} (w : Within 0x20000000 m) (h : Touch m s0 s) : Touch m s0 (setRecord a0 a1 a2 s) := by
  unfold setRecord
  repeat' first
    | with_reducible assumption
    | with_reducible apply modRun_touch (within_trans (by decide) w)

theorem showListenDiag_touch {m s0 a0 a1 a2 s} (w : Within 0x800000000000 m) (h : Touch m s0 s) : Touch m s0 (showListenDiag a0 a1 a2 s) := by
  unfold showListenDiag
  repeat' first
    | with_reducible assumption
    | with_reducible refine wrRegP_touch (within_trans (by decide) w) ?_
    | with_reducible refine wrRegPm0_touch (within_trans (by decide) w) ?_
    | with_reducible refine wrRegHi_touch (by unfold portBase; omega) (within_trans (by decide) w) ?_
    | with_reducible refine wrReg_touch (within_trans (by decide) w) ?_
    | with_reducible refine wrReg_touchAll (within_trans (by decide) w) ?_
    | split

theorem pairDone_touch {m s0 a0 s} (w : Within 0x400020028000 m) (h : Touch m s0 s) : Touch m s0 (pairDone a0 s) := by
  unfold pairDone
  repeat' first
    | with_reducible assumption
    | with_reducible apply modRun_touch (within_trans (by decide) w)
    | with_reducible apply diagStep_touch (within_trans (by decide) w)
    | with_reducible apply diagEnd_touch (within_trans (by decide) w)
    | split
    | intro _
    | dsimp only

theorem execActiveAcquisition_touch {m s0 a0 a1 a2 s} (w : Within 0xc00820028000 m) (h : Touch m s0 s) :
    OutTouch m s0 (execActiveAcquisition a0 a1 a2 s) := by
  unfold execActiveAcquisition
  refine outTouch ?_
  repeat' first
    | with_reducible assumption
    | with_reducible apply diagEnd_touch (within_trans (by decide) w)
    | with_reducible apply modRun_touch (within_trans (by decide) w)
    | with_reducible apply pairDone_touch (within_trans (by decide) w)
    | with_reducible apply setRecord_touch (within_trans (by decide) w)
    | with_reducible apply showListenDiag_touch (within_trans (by decide) w)
    | with_reducible apply draw_touch (within_trans (by decide) w)
    | split

theorem execInputBusy_touch {m s0 a0 s} (w : Within 0xc00822028000 m) (h : Touch m s0 s) : OutTouch m s0 (execInputBusy a0 s) := by
  unfold execInputBusy
  refine outTouch ?_
  repeat' first
    | with_reducible assumption
    | with_reducible apply diagBusy_touch (within_trans (by decide) w)
    | with_reducible apply leaveListen_touch (within_trans (by decide) w)
    | split

theorem execPassiveCopy_touch {m s0 a0 a1 s} (w : Within 0x400020028000 m) (h : Touch m s0 s) : OutTouch m s0 (execPassiveCopy a0 a1 s) := by
  unfold execPassiveCopy
  refine outTouch ?_
  repeat' first
    | with_reducible assumption
    | with_reducible apply diagEnd_touch (within_trans (by decide) w)
    | with_reducible apply setRecord_touch (within_trans (by decide) w)
    | with_reducible apply modRun_touch (within_trans (by decide) w)
    | with_reducible apply diagStep_touch (within_trans (by decide) w)
    | with_reducible apply forL_touch
    | split
    | intro _

theorem execNoiseFloorWindowEnd_touch {m s0 a0 a1 a2 s} (w : Within 0x400a20028000 m) (h : Touch m s0 s) :
    OutTouch m s0 (execNoiseFloorWindowEnd a0 a1 a2 s) := by
  unfold execNoiseFloorWindowEnd
  refine outTouch ?_
  repeat' first
    | with_reducible assumption
    | with_reducible apply diagEnd_touch (within_trans (by decide) w)
    | with_reducible apply writeMem_touch (within_trans (by decide) w)
    | with_reducible apply capHeader_touch (within_trans (by decide) w)
    | with_reducible apply storeWrite_touch (within_trans (by decide) w)
    | with_reducible apply draw_touch (within_trans (by decide) w)
    | with_reducible apply diagStep_touch (within_trans (by decide) w)
    | with_reducible apply modRun_touch (within_trans (by decide) w)
    | with_reducible apply forL_touch
    | split
    | intro _

theorem captureTrigger_touch {m s0 a0 s} (w : Within 0x400220028000 m) (h : Touch m s0 s) : Touch m s0 (captureTrigger a0 s) := by
  unfold captureTrigger
  repeat' first
    | with_reducible assumption
    | with_reducible apply writeMem_touch (within_trans (by decide) w)
    | with_reducible apply diagStep_touch (within_trans (by decide) w)

theorem execCaptureTrigger_touch {m s0 a0 a1 s} (w : Within 0x400220028000 m) (h : Touch m s0 s) : OutTouch m s0 (execCaptureTrigger a0 a1 s) := by
  unfold execCaptureTrigger
  refine outTouch ?_
  repeat' first
    | with_reducible assumption
    | with_reducible apply captureTrigger_touch (within_trans (by decide) w)
    | split

theorem execCaptureFilled_touch {m s0 a0 a1 s} (w : Within 0x400220028000 m) (h : Touch m s0 s) : OutTouch m s0 (execCaptureFilled a0 a1 s) := by
  unfold execCaptureFilled
  refine outTouch ?_
  repeat' first
    | with_reducible assumption
    | with_reducible apply diagEnd_touch (within_trans (by decide) w)
    | with_reducible apply diagStep_touch (within_trans (by decide) w)
    | with_reducible apply writeMem_touch (within_trans (by decide) w)
    | with_reducible apply capHeader_touch (within_trans (by decide) w)
    | with_reducible apply storeWrite_touch (within_trans (by decide) w)
    | split

theorem execCaptureTimeout_touch {m s0 a0 s} (w : Within 0x400220028000 m) (h : Touch m s0 s) : OutTouch m s0 (execCaptureTimeout a0 s) := by
  unfold execCaptureTimeout
  refine outTouch ?_
  repeat' first
    | with_reducible assumption
    | with_reducible apply diagEnd_touch (within_trans (by decide) w)
    | with_reducible apply capHeader_touch (within_trans (by decide) w)
    | split

theorem diagBegin_touch {m s0 a0 s} (w : Within 0x400220028000 m) (h : Touch m s0 s) : Touch m s0 (diagBegin a0 s) := by
  unfold diagBegin
  repeat' first
    | with_reducible assumption
    | with_reducible apply runBegin_touch (within_trans (by decide) w)
    | with_reducible apply modRun_touch (within_trans (by decide) w)
    | with_reducible apply diagEnd_touch (within_trans (by decide) w)
    | with_reducible apply diagStep_touch (within_trans (by decide) w)
    | with_reducible apply capHeader_touch (within_trans (by decide) w)
    | with_reducible apply storeWrite_touch (within_trans (by decide) w)
    | with_reducible apply captureTrigger_touch (within_trans (by decide) w)
    | split

theorem execDiagBegin_touch {m s0 a0 s} (w : Within 0x400220028000 m) (h : Touch m s0 s) : OutTouch m s0 (execDiagBegin a0 s) := by
  unfold execDiagBegin
  refine outTouch ?_
  repeat' first
    | with_reducible assumption
    | with_reducible apply diagEnd_touch (within_trans (by decide) w)
    | with_reducible apply diagBegin_touch (within_trans (by decide) w)
    | split

theorem calGetPlan_touch {m a0 a1 s} (w : Within 0x0 m) : PlanTouch m (calGetPlan a0 a1 s) := by
  unfold calGetPlan
  repeat' first
    | with_reducible assumption
    | with_reducible apply firstOf_touch
    | with_reducible apply checksT_cons
    | with_reducible exact checksT_nil
    | with_reducible exact bad_touch
    | with_reducible exact done_id_touch

theorem opCalRecordGet_touch {m} (w : Within 0x0 m) : OpTouch m opCalRecordGet := ⟨fun c r s => calGetPlan_touch w (a0 := c) (a1 := r) (s := s)⟩

theorem execCalRecordGet_touch {m s0 a0 s} (w : Within 0x6a2800207800 m) (h : Touch m s0 s) : OutTouch m s0 (execCalRecordGet a0 s) :=
  runOpcode_touch (within_trans (by decide) w) (opCalRecordGet_touch (within_trans (by decide) w)) h

theorem calPutPlan_touch {m a0 a1 s} (w : Within 0x100840000000 m) : PlanTouch m (calPutPlan a0 a1 s) := by
  unfold calPutPlan
  repeat' first
    | with_reducible assumption
    | with_reducible apply firstOf_touch
    | with_reducible apply checksT_cons
    | with_reducible exact checksT_nil
    | with_reducible apply chk_touch
    | with_reducible exact bad_touch
    | with_reducible exact busyIf_touch (within_trans (by decide) w)
    | with_reducible apply done_touch
    | with_reducible refine evGRail_touch (within_trans (by decide) w) ?_
    | with_reducible refine evGBit_touch (within_trans (by decide) w) ?_
    | with_reducible refine evG_touch (within_trans (by decide) w) ?_
    | with_reducible refine evG_touchAll (within_trans (by decide) w) ?_
    | with_reducible apply modTarget_touch (within_trans (by decide) w)
    | split
    | intro _

theorem opCalRecordPut_touch {m} (w : Within 0x100840000000 m) :
    OpTouch m opCalRecordPut := ⟨fun c r s => calPutPlan_touch w (a0 := c) (a1 := r) (s := s)⟩

theorem execCalRecordPut_touch {m s0 a0 s} (w : Within 0x7a2840207800 m) (h : Touch m s0 s) : OutTouch m s0 (execCalRecordPut a0 s) :=
  runOpcode_touch (within_trans (by decide) w) (opCalRecordPut_touch (within_trans (by decide) w)) h

theorem calCommitPlan_touch {m a0 a1 s} (w : Within 0xd088da028000 m) : PlanTouch m (calCommitPlan a0 a1 s) := by
  unfold calCommitPlan
  repeat' first
    | with_reducible assumption
    | with_reducible apply firstOf_touch
    | with_reducible apply checksT_cons
    | with_reducible exact checksT_nil
    | with_reducible exact bad_touch
    | with_reducible exact gated_touch
    | with_reducible exact inAudit_touch (within_trans (by decide) w)
    | with_reducible exact busyIf_touch (within_trans (by decide) w)
    | with_reducible apply some_touch
    | with_reducible exact none_touch
    | with_reducible apply done_touch
    | with_reducible apply modTarget_touch (within_trans (by decide) w)
    | split
    | intro _

theorem opCalCommit_touch {m} (w : Within 0xd088da028000 m) :
    OpTouch m opCalCommit := ⟨fun c r s => calCommitPlan_touch w (a0 := c) (a1 := r) (s := s)⟩

theorem execCalCommit_touch {m s0 a0 s} (w : Within 0xfaa8da22f800 m) (h : Touch m s0 s) : OutTouch m s0 (execCalCommit a0 s) :=
  runOpcode_touch (within_trans (by decide) w) (opCalCommit_touch (within_trans (by decide) w)) h

theorem commitDueCal_touch {m s0 a0 s} (w : Within 0x900040000000 m) (h : Touch m s0 s) : Touch m s0 (commitDueCal a0 s) := by
  unfold commitDueCal
  repeat' first
    | with_reducible assumption
    | with_reducible apply commitRecord_touch (within_trans (by decide) w)
    | split

theorem execCalCommitApply_touch {m s0 a0 s} (w : Within 0x900040000000 m) (h : Touch m s0 s) : OutTouch m s0 (execCalCommitApply a0 s) := by
  unfold execCalCommitApply
  refine outTouch ?_
  repeat' first
    | with_reducible assumption
    | with_reducible apply commitDueCal_touch (within_trans (by decide) w)

theorem modCalRun_touch {m s0 a0 a1 s} (w : Within 0x40000000 m) (h : Touch m s0 s) : Touch m s0 (modCalRun a0 a1 s) := by
  unfold modCalRun
  repeat' first
    | with_reducible assumption
    | with_reducible apply modCal_touch (within_trans (by decide) w)

theorem calRunPlan_touch {m a0 a1 s} (w : Within 0xd088da038000 m) : PlanTouch m (calRunPlan a0 a1 s) := by
  unfold calRunPlan
  repeat' first
    | with_reducible assumption
    | with_reducible apply firstOf_touch
    | with_reducible apply checksT_cons
    | with_reducible exact checksT_nil
    | with_reducible apply chk_touch
    | with_reducible exact bad_touch
    | with_reducible exact gated_touch
    | with_reducible exact inAudit_touch (within_trans (by decide) w)
    | with_reducible exact busyIf_touch (within_trans (by decide) w)
    | with_reducible apply checksT_append
    | with_reducible exact done_id_touch
    | with_reducible apply done_touch
    | with_reducible apply Plan_long_touch (within_trans (by decide) w)
    | with_reducible refine wrFldP_touch (within_trans (by decide) w) ?_
    | with_reducible refine wrFldL_touch (within_trans (by decide) w) ?_
    | with_reducible refine wrFldC_touch (by decide) (by decide) (within_trans (by decide) w) ?_
    | with_reducible refine wrFld_touch (within_trans (by decide) w) ?_
    | with_reducible refine wrFld_touchAll (within_trans (by decide) w) ?_
    | with_reducible apply modCal_touch (within_trans (by decide) w)
    | split
    | intro _

theorem opCalRun_touch {m} (w : Within 0xd088da038000 m) : OpTouch m opCalRun := ⟨fun c r s => calRunPlan_touch w (a0 := c) (a1 := r) (s := s)⟩

theorem execCalRun_touch {m s0 a0 s} (w : Within 0xfaa8da23f800 m) (h : Touch m s0 s) : OutTouch m s0 (execCalRun a0 s) :=
  runOpcode_touch (within_trans (by decide) w) (opCalRun_touch (within_trans (by decide) w)) h

theorem calOutcome_touch {m s0 a0 a1 a2 s} (w : Within 0x400040028000 m) (h : Touch m s0 s) : Touch m s0 (calOutcome a0 a1 a2 s) := by
  unfold calOutcome
  repeat' first
    | with_reducible assumption
    | with_reducible apply modCalRun_touch (within_trans (by decide) w)
    | with_reducible apply opItem_touch (within_trans (by decide) w)
    | with_reducible apply forL_touch
    | split
    | intro _

theorem calResume_touch {m s0 a0 s} (w : Within 0xc0884a028000 m) (h : Touch m s0 s) : Touch m s0 (calResume a0 s) := by
  unfold calResume
  repeat' first
    | with_reducible assumption
    | with_reducible apply laneGo_touch (within_trans (by decide) w)
    | with_reducible apply modLane_touch (within_trans (by decide) w)
    | with_reducible apply modCalRun_touch (within_trans (by decide) w)
    | with_reducible apply wrP_touch (within_trans (by decide) w)
    | with_reducible apply modPort_touch (within_trans (by decide) w)
    | with_reducible apply startAn_touch (within_trans (by decide) w)
    | split
    | intro _
    | dsimp only

theorem calEnd_touch {m s0 a0 a1 s} (w : Within 0xd0884a028000 m) (h : Touch m s0 s) : Touch m s0 (calEnd a0 a1 s) := by
  unfold calEnd
  repeat' first
    | with_reducible assumption
    | with_reducible apply calResume_touch (within_trans (by decide) w)
    | with_reducible apply modCal_touch (within_trans (by decide) w)
    | with_reducible apply endOpWith_touch (within_trans (by decide) w)
    | with_reducible refine wrFldP_touch (within_trans (by decide) w) ?_
    | with_reducible refine wrFldL_touch (within_trans (by decide) w) ?_
    | with_reducible refine wrFldC_touch (by decide) (by decide) (within_trans (by decide) w) ?_
    | with_reducible refine wrFld_touch (within_trans (by decide) w) ?_
    | with_reducible refine wrFld_touchAll (within_trans (by decide) w) ?_
    | split

theorem calStale_touch {m s0 a0 a1 s} (w : Within 0xd00002008000 m) (h : Touch m s0 s) : Touch m s0 (calStale a0 a1 s) := by
  unfold calStale
  repeat' first
    | with_reducible assumption
    | with_reducible apply journalEvent_touch (within_trans (by decide) w)
    | with_reducible refine evGRail_touch (within_trans (by decide) w) ?_
    | with_reducible refine evGBit_touch (within_trans (by decide) w) ?_
    | with_reducible refine evG_touch (within_trans (by decide) w) ?_
    | with_reducible refine evG_touchAll (within_trans (by decide) w) ?_
    | with_reducible refine wrFldP_touch (within_trans (by decide) w) ?_
    | with_reducible refine wrFldL_touch (within_trans (by decide) w) ?_
    | with_reducible refine wrFldC_touch (by decide) (by decide) (within_trans (by decide) w) ?_
    | with_reducible refine wrFld_touch (within_trans (by decide) w) ?_
    | with_reducible refine wrFld_touchAll (within_trans (by decide) w) ?_
    | with_reducible apply setReason_touch (within_trans (by decide) w)
    | split

theorem calBusyEnd_touch {m s0 a0 s} (w : Within 0xd0884a028000 m) (h : Touch m s0 s) : Touch m s0 (calBusyEnd a0 s) := by
  unfold calBusyEnd
  repeat' first
    | with_reducible assumption
    | with_reducible apply countDev_touch (within_trans (by decide) w)
    | with_reducible refine evGRail_touch (within_trans (by decide) w) ?_
    | with_reducible refine evGBit_touch (within_trans (by decide) w) ?_
    | with_reducible refine evG_touch (within_trans (by decide) w) ?_
    | with_reducible refine evG_touchAll (within_trans (by decide) w) ?_
    | with_reducible refine wrFldP_touch (within_trans (by decide) w) ?_
    | with_reducible refine wrFldL_touch (within_trans (by decide) w) ?_
    | with_reducible refine wrFldC_touch (by decide) (by decide) (within_trans (by decide) w) ?_
    | with_reducible refine wrFld_touch (within_trans (by decide) w) ?_
    | with_reducible refine wrFld_touchAll (within_trans (by decide) w) ?_
    | with_reducible refine evL_touch (within_trans (by decide) w) ?_
    | with_reducible apply calStale_touch (within_trans (by decide) w)
    | with_reducible apply calEnd_touch (within_trans (by decide) w)
    | with_reducible apply modOp_touch (within_trans (by decide) w)
    | with_reducible apply modCalRun_touch (within_trans (by decide) w)
    | with_reducible apply calResume_touch (within_trans (by decide) w)
    | with_reducible apply whenB_touch
    | split
    | intro _
    | dsimp only

theorem calGoodEnd_touch {m s0 a0 s} (w : Within 0xd0884a028000 m) (h : Touch m s0 s) : Touch m s0 (calGoodEnd a0 s) := by
  unfold calGoodEnd
  repeat' first
    | with_reducible assumption
    | with_reducible refine wrFldP_touch (within_trans (by decide) w) ?_
    | with_reducible refine wrFldL_touch (within_trans (by decide) w) ?_
    | with_reducible refine wrFldC_touch (by decide) (by decide) (within_trans (by decide) w) ?_
    | with_reducible refine wrFld_touch (within_trans (by decide) w) ?_
    | with_reducible refine wrFld_touchAll (within_trans (by decide) w) ?_
    | with_reducible apply setReason_touch (within_trans (by decide) w)
    | with_reducible apply calEnd_touch (within_trans (by decide) w)
    | split

theorem calAttemptEnd_touch {m s0 a0 s} (w : Within 0xd0884a028000 m) (h : Touch m s0 s) : Touch m s0 (calAttemptEnd a0 s) := by
  unfold calAttemptEnd
  repeat' first
    | with_reducible assumption
    | with_reducible apply modCalRun_touch (within_trans (by decide) w)
    | with_reducible apply opProgress_touch (within_trans (by decide) w)
    | with_reducible apply calBusyEnd_touch (within_trans (by decide) w)
    | with_reducible apply calGoodEnd_touch (within_trans (by decide) w)
    | split

theorem calCommitRun_touch {m s0 a0 s} (w : Within 0xd00042000000 m) (h : Touch m s0 s) : Touch m s0 (calCommitRun a0 s) := by
  unfold calCommitRun
  repeat' first
    | with_reducible assumption
    | with_reducible apply modCalRun_touch (within_trans (by decide) w)
    | with_reducible apply commitRecord_touch (within_trans (by decide) w)
    | with_reducible apply modPort_touch (within_trans (by decide) w)
    | with_reducible apply evP_touch (within_trans (by decide) w)
    | with_reducible apply setReason_touch (within_trans (by decide) w)
    | with_reducible apply whenB_touch
    | split
    | intro _

theorem calStep_touch {m s0 a0 s} (w : Within 0x400000028000 m) (h : Touch m s0 s) : Touch m s0 (calStep a0 s) := by
  unfold calStep
  repeat' first
    | with_reducible assumption
    | with_reducible apply opProgress_touch (within_trans (by decide) w)
    | split

theorem calAsk_touch {m s0 a0 a1 a2 s} (w : Within 0xc00046028000 m) (h : Touch m s0 s) : Touch m s0 (calAsk a0 a1 a2 s) := by
  unfold calAsk
  repeat' first
    | with_reducible assumption
    | with_reducible apply calStep_touch (within_trans (by decide) w)
    | with_reducible apply sendFallback_touch (within_trans (by decide) w)
    | with_reducible apply modCalRun_touch (within_trans (by decide) w)

theorem calNext_touch {m s0 a0 s} (w : Within 0xd0884e028000 m) (h : Touch m s0 s) : Touch m s0 (calNext a0 s) := by
  unfold calNext
  repeat' first
    | with_reducible assumption
    | with_reducible apply calAttemptEnd_touch (within_trans (by decide) w)
    | with_reducible apply calAsk_touch (within_trans (by decide) w)
    | split

theorem calQuiet_touch {m s0 a0 a1 a2 s} (w : Within 0x400040028000 m) (h : Touch m s0 s) : Touch m s0 (calQuiet a0 a1 a2 s) := by
  unfold calQuiet
  repeat' first
    | with_reducible assumption
    | with_reducible apply calStep_touch (within_trans (by decide) w)
    | with_reducible apply modCalRun_touch (within_trans (by decide) w)

theorem calTakeDown_touch {m s0 a0 s} (w : Within 0xc08057028000 m) (h : Touch m s0 s) : Touch m s0 (calTakeDown a0 s) := by
  unfold calTakeDown
  repeat' first
    | with_reducible assumption
    | with_reducible apply calQuiet_touch (within_trans (by decide) w)
    | with_reducible apply modPort_touch (within_trans (by decide) w)
    | with_reducible apply clearTrain_touch (within_trans (by decide) w)
    | with_reducible apply portDown_touch (within_trans (by decide) w)
    | split

theorem calWindow_touch {m s0 a0 s} (w : Within 0xd0885f028000 m) (h : Touch m s0 s) : Touch m s0 (calWindow a0 s) := by
  unfold calWindow
  repeat' first
    | with_reducible assumption
    | with_reducible apply countDev_touch (within_trans (by decide) w)
    | with_reducible apply calEnd_touch (within_trans (by decide) w)
    | with_reducible apply calQuiet_touch (within_trans (by decide) w)
    | with_reducible apply modLane_touch (within_trans (by decide) w)
    | with_reducible apply laneSet_touch (within_trans (by decide) w)
    | with_reducible apply wantWake_touch (within_trans (by decide) w)
    | with_reducible apply calAsk_touch (within_trans (by decide) w)
    | with_reducible apply calStep_touch (within_trans (by decide) w)
    | with_reducible apply modCalRun_touch (within_trans (by decide) w)
    | with_reducible apply calGoodEnd_touch (within_trans (by decide) w)
    | with_reducible apply calOutcome_touch (within_trans (by decide) w)
    | with_reducible apply calTakeDown_touch (within_trans (by decide) w)
    | with_reducible apply forL_touch
    | split
    | intro _
    | dsimp only

theorem execCalWindowStart_touch {m s0 a0 s} (w : Within 0xd0885f028000 m) (h : Touch m s0 s) : OutTouch m s0 (execCalWindowStart a0 s) := by
  unfold execCalWindowStart
  refine outTouch ?_
  repeat' first
    | with_reducible assumption
    | with_reducible apply calWindow_touch (within_trans (by decide) w)

theorem execCalRetry_touch {m s0 a0 s} (w : Within 0xd0885f028000 m) (h : Touch m s0 s) : OutTouch m s0 (execCalRetry a0 s) := by
  unfold execCalRetry
  refine outTouch ?_
  repeat' first
    | with_reducible assumption
    | with_reducible apply calWindow_touch (within_trans (by decide) w)
    | with_reducible apply modCalRun_touch (within_trans (by decide) w)
    | split

theorem calBoundary_touch {m s0 a0 s} (w : Within 0xd0884e028000 m) (h : Touch m s0 s) : Touch m s0 (calBoundary a0 s) := by
  unfold calBoundary
  repeat' first
    | with_reducible assumption
    | with_reducible apply modCalRun_touch (within_trans (by decide) w)
    | with_reducible apply sendFallback_touch (within_trans (by decide) w)
    | with_reducible apply calNext_touch (within_trans (by decide) w)
    | with_reducible apply calOutcome_touch (within_trans (by decide) w)
    | with_reducible apply calCommitRun_touch (within_trans (by decide) w)
    | with_reducible apply updateRateReason_touch (within_trans (by decide) w)
    | split
    | intro _
    | dsimp only

theorem calStageResults_touch {m s0 a0 a1 a2 s} (w : Within 0x500040028000 m) (h : Touch m s0 s) : Touch m s0 (calStageResults a0 a1 a2 s) := by
  unfold calStageResults
  repeat' first
    | with_reducible assumption
    | with_reducible apply modTarget_touch (within_trans (by decide) w)
    | with_reducible apply modCalRun_touch (within_trans (by decide) w)
    | with_reducible apply calOutcome_touch (within_trans (by decide) w)
    | with_reducible refine evGRail_touch (within_trans (by decide) w) ?_
    | with_reducible refine evGBit_touch (within_trans (by decide) w) ?_
    | with_reducible refine evG_touch (within_trans (by decide) w) ?_
    | with_reducible refine evG_touchAll (within_trans (by decide) w) ?_
    | with_reducible apply foldl_touch
    | with_reducible apply whenB_touch
    | split
    | intro _

theorem calTake_touch {m s0 a0 a1 a2 s} (w : Within 0x500040028000 m) (h : Touch m s0 s) : Touch m s0 (calTake a0 a1 a2 s) := by
  unfold calTake
  repeat' first
    | with_reducible assumption
    | with_reducible apply calStageResults_touch (within_trans (by decide) w)
    | with_reducible apply calOutcome_touch (within_trans (by decide) w)
    | split

theorem execCalMeasurementDone_touch {m s0 a0 a1 s} (w : Within 0xd0884a028000 m) (h : Touch m s0 s) :
    OutTouch m s0 (execCalMeasurementDone a0 a1 s) := by
  unfold execCalMeasurementDone
  refine outTouch ?_
  repeat' first
    | with_reducible assumption
    | with_reducible apply modCalRun_touch (within_trans (by decide) w)
    | with_reducible apply calTake_touch (within_trans (by decide) w)
    | with_reducible apply calAttemptEnd_touch (within_trans (by decide) w)
    | with_reducible apply calCommitRun_touch (within_trans (by decide) w)
    | with_reducible apply calStep_touch (within_trans (by decide) w)
    | split

theorem execCalInputBusy_touch {m s0 a0 s} (w : Within 0xd0884a028000 m) (h : Touch m s0 s) : OutTouch m s0 (execCalInputBusy a0 s) := by
  unfold execCalInputBusy
  refine outTouch ?_
  repeat' first
    | with_reducible assumption
    | with_reducible apply modCalRun_touch (within_trans (by decide) w)
    | with_reducible apply calOutcome_touch (within_trans (by decide) w)
    | with_reducible apply calAttemptEnd_touch (within_trans (by decide) w)
    | with_reducible apply calCommitRun_touch (within_trans (by decide) w)
    | split

theorem execCalRampStep_touch {m s0 a0 s} (w : Within 0xd0884a028000 m) (h : Touch m s0 s) : OutTouch m s0 (execCalRampStep a0 s) := by
  unfold execCalRampStep
  refine outTouch ?_
  repeat' first
    | with_reducible assumption
    | with_reducible apply modTarget_touch (within_trans (by decide) w)
    | with_reducible refine wrFldP_touch (within_trans (by decide) w) ?_
    | with_reducible refine wrFldL_touch (within_trans (by decide) w) ?_
    | with_reducible refine wrFldC_touch (by decide) (by decide) (within_trans (by decide) w) ?_
    | with_reducible refine wrFld_touch (within_trans (by decide) w) ?_
    | with_reducible refine wrFld_touchAll (within_trans (by decide) w) ?_
    | with_reducible apply calAttemptEnd_touch (within_trans (by decide) w)
    | split
    | intro _
    | dsimp only

theorem calAbort_touch {m s0 a0 s} (w : Within 0xd0884a028000 m) (h : Touch m s0 s) : Touch m s0 (calAbort a0 s) := by
  unfold calAbort
  repeat' first
    | with_reducible assumption
    | with_reducible apply calEnd_touch (within_trans (by decide) w)
    | split

theorem auditBegin_touch {m s0 a0 a1 s} (w : Within 0xd0809f028000 m) (h : Touch m s0 s) : Touch m s0 (auditBegin a0 a1 s) := by
  unfold auditBegin
  repeat' first
    | with_reducible assumption
    | with_reducible apply modAudit_touch (within_trans (by decide) w)
    | with_reducible apply auditShow_touch (within_trans (by decide) w)
    | with_reducible apply journalEvent_touch (within_trans (by decide) w)
    | with_reducible apply portsDown_touch (within_trans (by decide) w)
    | with_reducible apply laneOff_touch (within_trans (by decide) w)
    | with_reducible apply foldl_touch
    | with_reducible apply forL_touch
    | split
    | intro _

theorem auditConfigPlan_touch {m a0 a1 s} (w : Within 0xd0889f028000 m) : PlanTouch m (auditConfigPlan a0 a1 s) := by
  unfold auditConfigPlan
  repeat' first
    | with_reducible assumption
    | with_reducible apply firstOf_touch
    | with_reducible apply checksT_cons
    | with_reducible exact checksT_nil
    | with_reducible exact bad_touch
    | with_reducible exact gated_touch
    | with_reducible exact busyIf_touch (within_trans (by decide) w)
    | with_reducible apply checksT_append
    | with_reducible apply checksT_map
    | with_reducible apply some_touch
    | with_reducible exact none_touch
    | with_reducible apply done_touch
    | with_reducible apply auditBegin_touch (within_trans (by decide) w)
    | with_reducible apply draw_touch (within_trans (by decide) w)
    | with_reducible apply modAudit_touch (within_trans (by decide) w)
    | with_reducible apply auditOver_touch (within_trans (by decide) w)
    | with_reducible apply auditFree_touch (within_trans (by decide) w)
    | with_reducible apply forL_touch
    | split
    | intro _
    | dsimp only

theorem opAuditConfig_touch {m} (w : Within 0xd0889f028000 m) :
    OpTouch m opAuditConfig := ⟨fun c r s => auditConfigPlan_touch w (a0 := c) (a1 := r) (s := s)⟩

theorem execAuditConfig_touch {m s0 a0 s} (w : Within 0xfaa89f22f800 m) (h : Touch m s0 s) : OutTouch m s0 (execAuditConfig a0 s) :=
  runOpcode_touch (within_trans (by decide) w) (opAuditConfig_touch (within_trans (by decide) w)) h

theorem execAuditStart_touch {m s0 s} (w : Within 0xd0809f028000 m) (h : Touch m s0 s) : OutTouch m s0 (execAuditStart s) := by
  unfold execAuditStart
  refine outTouch ?_
  repeat' first
    | with_reducible assumption
    | with_reducible apply auditBegin_touch (within_trans (by decide) w)
    | with_reducible apply modAudit_touch (within_trans (by decide) w)
    | split

theorem opAuditResult_touch {m} : OpTouch m opAuditResult :=
  ⟨fun _ _ _ => firstOf_touch (checksT_cons bad_touch checksT_nil) done_id_touch⟩

theorem execAuditResult_touch {m s0 a0 s} (w : Within 0x6a2800207800 m) (h : Touch m s0 s) : OutTouch m s0 (execAuditResult a0 s) :=
  runOpcode_touch (within_trans (by decide) w) opAuditResult_touch h

theorem addFail_touch {m s0 a0 s} (w : Within 0x80000000 m) (h : Touch m s0 s) : Touch m s0 (addFail a0 s) := by
  unfold addFail
  repeat' first
    | with_reducible assumption
    | with_reducible apply modAudit_touch (within_trans (by decide) w)

theorem memFailure_touch {m s0 a0 s} (w : Within 0x500080008000 m) (h : Touch m s0 s) : Touch m s0 (memFailure a0 s) := by
  unfold memFailure
  repeat' first
    | with_reducible assumption
    | with_reducible apply addFail_touch (within_trans (by decide) w)
    | with_reducible apply modAudit_touch (within_trans (by decide) w)
    | with_reducible apply journalEvent_touch (within_trans (by decide) w)
    | with_reducible refine evGRail_touch (within_trans (by decide) w) ?_
    | with_reducible refine evGBit_touch (within_trans (by decide) w) ?_
    | with_reducible refine evG_touch (within_trans (by decide) w) ?_
    | with_reducible refine evG_touchAll (within_trans (by decide) w) ?_
    | split

theorem auditBlockEnd_touch {m s0 a0 s} (w : Within 0x290000000 m) (h : Touch m s0 s) : Touch m s0 (auditBlockEnd a0 s) := by
  unfold auditBlockEnd
  repeat' first
    | with_reducible assumption
    | with_reducible apply auditWipe_touch (within_trans (by decide) w)
    | with_reducible apply modAudit_touch (within_trans (by decide) w)
    | with_reducible apply modBlock_touch (within_trans (by decide) w)

theorem auditAdvance_touch {m s0 a0 s} (w : Within 0xd08a9a028000 m) (h : Touch m s0 s) : Touch m s0 (auditAdvance a0 s) := by
  unfold auditAdvance
  repeat' first
    | with_reducible assumption
    | with_reducible apply modBlock_touch (within_trans (by decide) w)
    | with_reducible apply modAudit_touch (within_trans (by decide) w)
    | with_reducible apply auditBlockEnd_touch (within_trans (by decide) w)
    | with_reducible apply auditShow_touch (within_trans (by decide) w)
    | with_reducible apply auditFree_touch (within_trans (by decide) w)
    | with_reducible apply auditCut_touch (within_trans (by decide) w)
    | split

theorem sliceEnd_touch {m s0 a0 a1 a2 s} (w : Within 0xd08a9a028000 m) (h : Touch m s0 s) : Touch m s0 (sliceEnd a0 a1 a2 s) := by
  unfold sliceEnd
  repeat' first
    | with_reducible assumption
    | with_reducible apply auditAdvance_touch (within_trans (by decide) w)
    | with_reducible apply countDev_touch (within_trans (by decide) w)
    | with_reducible apply sliceResult_touch (within_trans (by decide) w)

theorem execSliceEnd_touch {m s0 a0 s} (w : Within 0xd08a9a028000 m) (h : Touch m s0 s) : OutTouch m s0 (execSliceEnd a0 s) := by
  unfold execSliceEnd
  refine outTouch ?_
  repeat' first
    | with_reducible assumption
    | with_reducible apply sliceEnd_touch (within_trans (by decide) w)
    | with_reducible apply auditAdvance_touch (within_trans (by decide) w)
    | with_reducible apply memFailure_touch (within_trans (by decide) w)
    | with_reducible apply forL_touch
    | split
    | intro _

theorem execSliceTimeout_touch {m s0 s} (w : Within 0xd08a9a028000 m) (h : Touch m s0 s) : OutTouch m s0 (execSliceTimeout s) := by
  unfold execSliceTimeout
  refine outTouch ?_
  repeat' first
    | with_reducible assumption
    | with_reducible apply sliceEnd_touch (within_trans (by decide) w)
    | with_reducible apply auditAdvance_touch (within_trans (by decide) w)
    | split

theorem execAuditServiceRequest_touch {m s0 a0 s} (w : Within 0xd0889a028000 m) (h : Touch m s0 s) :
    OutTouch m s0 (execAuditServiceRequest a0 s) := by
  unfold execAuditServiceRequest
  refine outTouch ?_
  repeat' first
    | with_reducible assumption
    | with_reducible apply auditRequest_touch (within_trans (by decide) w)
    | split

theorem execAuditEnd_touch {m s0 s} (w : Within 0x500080008000 m) (h : Touch m s0 s) : OutTouch m s0 (execAuditEnd s) := by
  unfold execAuditEnd
  refine outTouch ?_
  repeat' first
    | with_reducible assumption
    | with_reducible apply modAudit_touch (within_trans (by decide) w)
    | with_reducible apply auditOver_touch (within_trans (by decide) w)
    | with_reducible refine evGRail_touch (within_trans (by decide) w) ?_
    | with_reducible refine evGBit_touch (within_trans (by decide) w) ?_
    | with_reducible refine evG_touch (within_trans (by decide) w) ?_
    | with_reducible refine evG_touchAll (within_trans (by decide) w) ?_
    | with_reducible apply journalEvent_touch (within_trans (by decide) w)
    | split

theorem auditWarn_touch {m s0 s} (w : Within 0xd08a9a028000 m) (h : Touch m s0 s) : Touch m s0 (auditWarn s) := by
  unfold auditWarn
  repeat' first
    | with_reducible assumption
    | with_reducible apply sliceEnd_touch (within_trans (by decide) w)
    | with_reducible apply auditAdvance_touch (within_trans (by decide) w)
    | with_reducible apply modAudit_touch (within_trans (by decide) w)
    | split

theorem auditWarnEnd_touch {m s0 s} (w : Within 0x80000000 m) (h : Touch m s0 s) : Touch m s0 (auditWarnEnd s) := by
  unfold auditWarnEnd
  repeat' first
    | with_reducible assumption
    | with_reducible apply modAudit_touch (within_trans (by decide) w)
    | split

theorem pmEnable_touch {m s0 a0 a1 a2 s} (w : Within 0x200000000000 m) (h : Touch m s0 s) : Touch m s0 (pmEnable a0 a1 a2 s) := by
  unfold pmEnable
  repeat' first
    | with_reducible assumption
    | with_reducible refine wrRegP_touch (within_trans (by decide) w) ?_
    | with_reducible refine wrRegPm0_touch (within_trans (by decide) w) ?_
    | with_reducible refine wrReg_touch (within_trans (by decide) w) ?_
    | with_reducible refine wrReg_touchAll (within_trans (by decide) w) ?_
    | with_reducible apply forL_touch
    | split
    | intro _

theorem pmClear_touch {m s0 a0 a1 s} (w : Within 0x200000000000 m) (h : Touch m s0 s) : Touch m s0 (pmClear a0 a1 s) := by
  unfold pmClear
  repeat' first
    | with_reducible assumption
    | with_reducible refine wrRegP_touch (within_trans (by decide) w) ?_
    | with_reducible refine wrRegPm_touch (by decide) (within_trans (by decide) w) ?_
    | with_reducible refine wrRegPm0_touch (within_trans (by decide) w) ?_
    | with_reducible refine wrReg_touch (within_trans (by decide) w) ?_
    | with_reducible refine wrReg_touchAll (within_trans (by decide) w) ?_
    | with_reducible apply forL_touch
    | split
    | intro _

theorem pmConfigure_touch {m s0 a0 s} (w : Within 0x200000000000 m) (h : Touch m s0 s) : Touch m s0 (pmConfigure a0 s) := by
  unfold pmConfigure
  repeat' first
    | with_reducible assumption
    | with_reducible refine wrRegP_touch (within_trans (by decide) w) ?_
    | with_reducible refine wrRegPm_touch (by decide) (within_trans (by decide) w) ?_
    | with_reducible refine wrRegPm0_touch (within_trans (by decide) w) ?_
    | with_reducible refine wrReg_touch (within_trans (by decide) w) ?_
    | with_reducible refine wrReg_touchAll (within_trans (by decide) w) ?_
    | with_reducible apply pmClear_touch (within_trans (by decide) w)
    | with_reducible apply forL_touch
    | split
    | intro _

theorem pmNoStart_touch {m s0 a0 a1 s} (w : Within 0x100000000 m) (h : Touch m s0 s) : Touch m s0 (pmNoStart a0 a1 s) := by
  unfold pmNoStart
  repeat' first
    | with_reducible assumption
    | with_reducible apply modPerf_touch (within_trans (by decide) w)

theorem pmAct_touch {m s0 a0 s} (w : Within 0x200100000000 m) (h : Touch m s0 s) : Touch m s0 (pmAct a0 s) := by
  unfold pmAct
  repeat' first
    | with_reducible assumption
    | with_reducible apply pmNoStart_touch (within_trans (by decide) w)
    | with_reducible apply pmConfigure_touch (within_trans (by decide) w)
    | with_reducible apply pmEnable_touch (within_trans (by decide) w)
    | with_reducible apply modPerf_touch (within_trans (by decide) w)
    | with_reducible apply pmClear_touch (within_trans (by decide) w)
    | split

theorem counterConfigPlan_touch {m a0 a1 s} (w : Within 0x200100000000 m) : PlanTouch m (counterConfigPlan a0 a1 s) := by
  unfold counterConfigPlan
  repeat' first
    | with_reducible assumption
    | with_reducible apply firstOf_touch
    | with_reducible apply checksT_cons
    | with_reducible exact checksT_nil
    | with_reducible exact bad_touch
    | with_reducible exact gated_touch
    | with_reducible apply checksT_append
    | with_reducible apply done_touch
    | with_reducible apply pmAct_touch (within_trans (by decide) w)
    | split
    | intro _

theorem opCounterConfig_touch {m} (w : Within 0x200100000000 m) :
    OpTouch m opCounterConfig := ⟨fun c r s => counterConfigPlan_touch w (a0 := c) (a1 := r) (s := s)⟩

theorem execCounterConfig_touch {m s0 a0 s} (w : Within 0x6a2900207800 m) (h : Touch m s0 s) : OutTouch m s0 (execCounterConfig a0 s) :=
  runOpcode_touch (within_trans (by decide) w) (opCounterConfig_touch (within_trans (by decide) w)) h

theorem execCounterStart_touch {m s0 s} (w : Within 0x200100000000 m) (h : Touch m s0 s) : OutTouch m s0 (execCounterStart s) := by
  unfold execCounterStart
  refine outTouch ?_
  repeat' first
    | with_reducible assumption
    | with_reducible apply modPerf_touch (within_trans (by decide) w)
    | with_reducible apply pmEnable_touch (within_trans (by decide) w)
    | with_reducible apply forL_touch
    | split
    | intro _

theorem pmSample_touch {m s0 a0 s} (w : Within 0x200000000000 m) (h : Touch m s0 s) : Touch m s0 (pmSample a0 s) := by
  unfold pmSample
  repeat' first
    | with_reducible assumption
    | with_reducible refine addCnt48Pm_touch (within_trans (by decide) w) ?_
    | with_reducible apply forN_touch
    | with_reducible apply forL_touch
    | split
    | intro _

theorem execPmSampleTick_touch {m k s0 s} (w : Within 0x610400400000 m) (h : Touch m s0 s) : OutTouch m s0 (execPmSampleTick k s) := by
  have h1 : Touch m s0 { pmSample k s with tick := s.tick + k } :=
    touchUpd (a := 0x400000000) (within_trans (by decide) w) (pmSample_touch (a0 := k) (within_trans (by decide) w) h) (by rfl) (by rfl) (by rfl)
        (by rfl) (by rfl)
      (fun q e => by cases q <;> first | exact absurd e (by decide) | rfl | exact fun _ _ => rfl)
  refine outTouch ?_
  repeat' first
    | exact h
    | exact h1
    | with_reducible apply countDev_touch (within_trans (by decide) w)
    | with_reducible apply runClock_touch (within_trans (by decide) w)
    | split

theorem samplerAct_touch {m s0 a0 s} (w : Within 0x400300000000 m) (h : Touch m s0 s) : Touch m s0 (samplerAct a0 s) := by
  unfold samplerAct
  repeat' first
    | with_reducible assumption
    | with_reducible refine wrGRail_touch (within_trans (by decide) w) ?_
    | with_reducible refine wrG_touch (within_trans (by decide) w) ?_
    | with_reducible refine wrG_touchAll (within_trans (by decide) w) ?_
    | with_reducible apply modPerf_touch (within_trans (by decide) w)
    | with_reducible apply clearMem_touch (within_trans (by decide) w)
    | split

theorem samplerConfigPlan_touch {m a0 a1 s} (w : Within 0x400300000000 m) : PlanTouch m (samplerConfigPlan a0 a1 s) := by
  unfold samplerConfigPlan
  repeat' first
    | with_reducible assumption
    | with_reducible apply firstOf_touch
    | with_reducible apply checksT_cons
    | with_reducible exact checksT_nil
    | with_reducible exact bad_touch
    | with_reducible exact gated_touch
    | with_reducible apply done_touch
    | with_reducible apply samplerAct_touch (within_trans (by decide) w)
    | split
    | intro _

theorem opSamplerConfig_touch {m} (w : Within 0x400300000000 m) :
    OpTouch m opSamplerConfig := ⟨fun c r s => samplerConfigPlan_touch w (a0 := c) (a1 := r) (s := s)⟩

theorem execSamplerConfig_touch {m s0 a0 s} (w : Within 0x6a2b00207800 m) (h : Touch m s0 s) : OutTouch m s0 (execSamplerConfig a0 s) :=
  runOpcode_touch (within_trans (by decide) w) (opSamplerConfig_touch (within_trans (by decide) w)) h

theorem samplerWrite_touch {m s0 a0 s} (w : Within 0x400200000000 m) (h : Touch m s0 s) : Touch m s0 (samplerWrite a0 s) := by
  unfold samplerWrite
  repeat' first
    | with_reducible assumption
    | with_reducible refine wrGRail_touch (within_trans (by decide) w) ?_
    | with_reducible refine wrG_touch (within_trans (by decide) w) ?_
    | with_reducible refine wrG_touchAll (within_trans (by decide) w) ?_
    | with_reducible apply writeMem_touch (within_trans (by decide) w)
    | with_reducible apply countDev_touch (within_trans (by decide) w)
    | split
    | intro _
    | dsimp only

theorem execSamplerRecord_touch {m s0 a0 s} (w : Within 0x400300000000 m) (h : Touch m s0 s) : OutTouch m s0 (execSamplerRecord a0 s) := by
  unfold execSamplerRecord
  refine outTouch ?_
  repeat' first
    | with_reducible assumption
    | with_reducible apply modPerf_touch (within_trans (by decide) w)
    | with_reducible apply samplerWrite_touch (within_trans (by decide) w)
    | with_reducible apply countDev_touch (within_trans (by decide) w)
    | split
    | intro _
    | dsimp only

theorem execTempNowUpdate_touch {m s0 a0 s} (w : Within 0x2000000000 m) (h : Touch m s0 s) : OutTouch m s0 (execTempNowUpdate a0 s) := by
  unfold execTempNowUpdate
  refine outTouch ?_
  repeat' first
    | with_reducible assumption
    | with_reducible refine wrGRail_touch (within_trans (by decide) w) ?_
    | with_reducible refine wrG_touch (within_trans (by decide) w) ?_
    | with_reducible refine wrG_touchAll (within_trans (by decide) w) ?_
    | with_reducible apply foldl_touch
    | split

theorem execBoundaryScanInstruction_touch {m s0 a0 s} (w : Within 0xc0801f128000 m) (h : Touch m s0 s) :
    OutTouch m s0 (execBoundaryScanInstruction a0 s) := by
  unfold execBoundaryScanInstruction
  refine outTouch ?_
  repeat' first
    | with_reducible assumption
    | with_reducible apply modClk_touch (within_trans (by decide) w)
    | with_reducible apply laneOff_touch (within_trans (by decide) w)
    | with_reducible apply portsDown_touch (within_trans (by decide) w)
    | with_reducible apply forL_touch
    | split
    | intro _

theorem execBoundaryScanExit_touch {m s0 s} (w : Within 0xc0880a128000 m) (h : Touch m s0 s) : OutTouch m s0 (execBoundaryScanExit s) := by
  unfold execBoundaryScanExit
  refine outTouch ?_
  repeat' first
    | with_reducible assumption
    | with_reducible apply modClk_touch (within_trans (by decide) w)
    | with_reducible apply wakePorts_touch (within_trans (by decide) w)
    | with_reducible apply laneAuto_touch (within_trans (by decide) w)
    | with_reducible apply forL_touch
    | split
    | intro _

theorem setVolt_touch {m s0 a0 a1 s} (w : Within 0x200000 m) (h : Touch m s0 s) : Touch m s0 (setVolt a0 a1 s) := by
  unfold setVolt
  repeat' first
    | with_reducible assumption
    | with_reducible apply modPower_touch (within_trans (by decide) w)

theorem setLevel_touch {m s0 a0 a1 s} (w : Within 0x480000000000 m) (h : Touch m s0 s) : Touch m s0 (setLevel a0 a1 s) := by
  unfold setLevel
  repeat' first
    | with_reducible assumption
    | with_reducible apply countDev_touch (within_trans (by decide) w)
    | with_reducible refine wrRegP_touch (within_trans (by decide) w) ?_
    | with_reducible refine wrRegPm0_touch (within_trans (by decide) w) ?_
    | with_reducible refine wrReg_touch (within_trans (by decide) w) ?_

theorem modLevel_touch {m s0 a0 s} (w : Within 0x200000 m) (h : Touch m s0 s) : Touch m s0 (modLevel a0 s) := by
  unfold modLevel
  repeat' first
    | with_reducible assumption
    | with_reducible apply modPower_touch (within_trans (by decide) w)

theorem pllOff_touch {m s0 a0 a1 s} (w : Within 0x40000200000 m) (h : Touch m s0 s) : Touch m s0 (pllOff a0 a1 s) := by
  unfold pllOff
  repeat' first
    | with_reducible assumption
    | with_reducible refine wrBitG_touch (within_trans (by decide) w) ?_
    | with_reducible refine wrBitP_touch (within_trans (by decide) w) ?_
    | with_reducible refine wrBitL_touch (within_trans (by decide) w) ?_
    | with_reducible refine wrBit_touchAll (within_trans (by decide) w) ?_
    | with_reducible apply setDsp_touch (within_trans (by decide) w)

theorem pllOn_touch {m s0 a0 a1 s} (w : Within 0x40000200000 m) (h : Touch m s0 s) : Touch m s0 (pllOn a0 a1 s) := by
  unfold pllOn
  repeat' first
    | with_reducible assumption
    | with_reducible apply setDsp_touch (within_trans (by decide) w)
    | with_reducible refine wrBitG_touch (within_trans (by decide) w) ?_

theorem levelSwitch_touch {m s0 a0 a1 s} (w : Within 0x4c0000200000 m) (h : Touch m s0 s) : Touch m s0 (levelSwitch a0 a1 s) := by
  unfold levelSwitch
  repeat' first
    | with_reducible assumption
    | with_reducible apply setLevel_touch (within_trans (by decide) w)
    | with_reducible apply pllOff_touch (within_trans (by decide) w)
    | with_reducible refine wrBitG_touch (within_trans (by decide) w) ?_

theorem levelItems_touch {m s0 a0 a1 s} (w : Within 0x400000028000 m) (h : Touch m s0 s) : Touch m s0 (levelItems a0 a1 s) := by
  unfold levelItems
  repeat' first
    | with_reducible assumption
    | with_reducible apply opItem_touch (within_trans (by decide) w)
    | with_reducible apply forL_touch
    | split
    | intro _

theorem levelOver_touch {m s0 a0 s} (w : Within 0x4c0000228000 m) (h : Touch m s0 s) : Touch m s0 (levelOver a0 s) := by
  unfold levelOver
  repeat' first
    | with_reducible assumption
    | with_reducible apply pllOff_touch (within_trans (by decide) w)
    | with_reducible apply endOp_touch (within_trans (by decide) w)
    | with_reducible refine wrGRail_touch (within_trans (by decide) w) ?_
    | with_reducible refine wrG_touch (within_trans (by decide) w) ?_
    | with_reducible refine wrG_touchAll (within_trans (by decide) w) ?_
    | with_reducible apply modPower_touch (within_trans (by decide) w)
    | with_reducible apply forL_touch
    | split
    | intro _

theorem levelDone_touch {m s0 s} (w : Within 0x4c0000228000 m) (h : Touch m s0 s) : Touch m s0 (levelDone s) := by
  unfold levelDone
  repeat' first
    | with_reducible assumption
    | with_reducible apply levelOver_touch (within_trans (by decide) w)
    | with_reducible apply opProgress_touch (within_trans (by decide) w)
    | split

theorem raiseVolt_touch {m s0 s} (w : Within 0x4c0000228000 m) (h : Touch m s0 s) : Touch m s0 (raiseVolt s) := by
  unfold raiseVolt
  repeat' first
    | with_reducible assumption
    | with_reducible apply avsWrite_touch (within_trans (by decide) w)
    | with_reducible apply levelDone_touch (within_trans (by decide) w)
    | with_reducible apply levelItems_touch (within_trans (by decide) w)
    | with_reducible apply setVolt_touch (within_trans (by decide) w)
    | with_reducible apply modLevel_touch (within_trans (by decide) w)
    | with_reducible apply forL_touch
    | split
    | intro _
    | dsimp only

theorem lowerVolt_touch {m s0 s} (w : Within 0x4c0000228000 m) (h : Touch m s0 s) : Touch m s0 (lowerVolt s) := by
  unfold lowerVolt
  repeat' first
    | with_reducible assumption
    | with_reducible apply avsWrite_touch (within_trans (by decide) w)
    | with_reducible apply levelDone_touch (within_trans (by decide) w)
    | with_reducible apply levelItems_touch (within_trans (by decide) w)
    | with_reducible apply modLevel_touch (within_trans (by decide) w)
    | split
    | intro _
    | dsimp only

theorem levelVolts_touch {m s0 s} (w : Within 0x4c0000228000 m) (h : Touch m s0 s) : Touch m s0 (levelVolts s) := by
  unfold levelVolts
  repeat' first
    | with_reducible assumption
    | with_reducible apply lowerVolt_touch (within_trans (by decide) w)
    | with_reducible apply raiseVolt_touch (within_trans (by decide) w)

theorem levelStart_touch {m s0 s} (w : Within 0xcc8817228000 m) (h : Touch m s0 s) : Touch m s0 (levelStart s) := by
  unfold levelStart
  repeat' first
    | with_reducible assumption
    | with_reducible refine wrGRail_touch (within_trans (by decide) w) ?_
    | with_reducible refine wrG_touch (within_trans (by decide) w) ?_
    | with_reducible refine wrG_touchAll (within_trans (by decide) w) ?_
    | with_reducible apply modLevel_touch (within_trans (by decide) w)
    | with_reducible apply pllOn_touch (within_trans (by decide) w)
    | with_reducible apply downRestart_touch (within_trans (by decide) w)
    | with_reducible apply levelOver_touch (within_trans (by decide) w)
    | with_reducible apply levelVolts_touch (within_trans (by decide) w)
    | with_reducible apply foldl_touch
    | with_reducible apply forL_touch
    | split
    | intro _

theorem powerLevelPlan_touch {m a0 a1 s} (w : Within 0xdc889f238000 m) : PlanTouch m (powerLevelPlan a0 a1 s) := by
  unfold powerLevelPlan
  repeat' first
    | with_reducible assumption
    | with_reducible apply firstOf_touch
    | with_reducible apply checksT_cons
    | with_reducible exact checksT_nil
    | with_reducible exact bad_touch
    | with_reducible exact gated_touch
    | with_reducible exact inAudit_touch (within_trans (by decide) w)
    | with_reducible exact busyIf_touch (within_trans (by decide) w)
    | with_reducible apply checksT_append
    | with_reducible apply checksT_map
    | with_reducible exact done_id_touch
    | with_reducible apply some_touch
    | with_reducible exact none_touch
    | with_reducible apply done_touch
    | with_reducible apply Plan_long_touch (within_trans (by decide) w)
    | with_reducible apply levelStart_touch (within_trans (by decide) w)
    | with_reducible apply modPower_touch (within_trans (by decide) w)
    | split
    | intro _

theorem opPowerLevel_touch {m} (w : Within 0xdc889f238000 m) :
    OpTouch m opPowerLevel := ⟨fun c r s => powerLevelPlan_touch w (a0 := c) (a1 := r) (s := s)⟩

theorem execPowerLevel_touch {m s0 a0 s} (w : Within 0xfea89f23f800 m) (h : Touch m s0 s) : OutTouch m s0 (execPowerLevel a0 s) :=
  runOpcode_touch (within_trans (by decide) w) (opPowerLevel_touch (within_trans (by decide) w)) h

theorem execLevelRaiseSwitch_touch {m s0 s} (w : Within 0x4c0000228000 m) (h : Touch m s0 s) : OutTouch m s0 (execLevelRaiseSwitch s) := by
  unfold execLevelRaiseSwitch
  refine outTouch ?_
  repeat' first
    | with_reducible assumption
    | with_reducible apply levelDone_touch (within_trans (by decide) w)
    | with_reducible apply modLevel_touch (within_trans (by decide) w)
    | with_reducible apply levelItems_touch (within_trans (by decide) w)
    | with_reducible apply levelSwitch_touch (within_trans (by decide) w)
    | with_reducible apply forL_touch
    | split
    | intro _

theorem execLevelLowerSwitch_touch {m s0 s} (w : Within 0x4c0000228000 m) (h : Touch m s0 s) : OutTouch m s0 (execLevelLowerSwitch s) := by
  unfold execLevelLowerSwitch
  refine outTouch ?_
  repeat' first
    | with_reducible assumption
    | with_reducible apply levelItems_touch (within_trans (by decide) w)
    | with_reducible apply levelSwitch_touch (within_trans (by decide) w)
    | with_reducible apply levelVolts_touch (within_trans (by decide) w)
    | with_reducible apply opProgress_touch (within_trans (by decide) w)
    | with_reducible apply setVolt_touch (within_trans (by decide) w)
    | with_reducible apply modLevel_touch (within_trans (by decide) w)
    | with_reducible apply forL_touch
    | split
    | intro _
    | dsimp only

theorem levelFail_touch {m s0 s} (w : Within 0x4c0000228000 m) (h : Touch m s0 s) : Touch m s0 (levelFail s) := by
  unfold levelFail
  repeat' first
    | with_reducible assumption
    | with_reducible apply setVolt_touch (within_trans (by decide) w)
    | with_reducible apply setLevel_touch (within_trans (by decide) w)
    | with_reducible apply setDsp_touch (within_trans (by decide) w)
    | with_reducible apply levelOver_touch (within_trans (by decide) w)
    | with_reducible refine evGRail_touch (within_trans (by decide) w) ?_
    | with_reducible refine evGBit_touch (within_trans (by decide) w) ?_
    | with_reducible refine evG_touch (within_trans (by decide) w) ?_
    | with_reducible refine evG_touchAll (within_trans (by decide) w) ?_
    | with_reducible apply forL_touch
    | split
    | intro _

theorem execLevelFail_touch {m s0 s} (w : Within 0x4c0000228000 m) (h : Touch m s0 s) : OutTouch m s0 (execLevelFail s) := by
  unfold execLevelFail
  refine outTouch ?_
  repeat' first
    | with_reducible assumption
    | with_reducible apply levelFail_touch (within_trans (by decide) w)
    | split

theorem execAvsReadback_touch {m s0 a0 a1 s} (w : Within 0x4c0000228000 m) (h : Touch m s0 s) : OutTouch m s0 (execAvsReadback a0 a1 s) := by
  unfold execAvsReadback
  refine outTouch ?_
  repeat' first
    | with_reducible assumption
    | with_reducible refine evGRail_touch (within_trans (by decide) w) ?_
    | with_reducible refine evGBit_touch (within_trans (by decide) w) ?_
    | with_reducible refine evG_touch (within_trans (by decide) w) ?_
    | with_reducible refine evG_touchAll (within_trans (by decide) w) ?_
    | with_reducible refine wrGRail_touch (within_trans (by decide) w) ?_
    | with_reducible refine wrG_touch (within_trans (by decide) w) ?_
    | with_reducible refine wrG_touchAll (within_trans (by decide) w) ?_
    | with_reducible apply levelVolts_touch (within_trans (by decide) w)
    | with_reducible apply modPower_touch (within_trans (by decide) w)
    | split

theorem execAvsFail_touch {m s0 s} (w : Within 0x4c0000228000 m) (h : Touch m s0 s) : OutTouch m s0 (execAvsFail s) := by
  unfold execAvsFail
  refine outTouch ?_
  repeat' first
    | with_reducible assumption
    | with_reducible apply levelFail_touch (within_trans (by decide) w)
    | with_reducible refine evGRail_touch (within_trans (by decide) w) ?_
    | with_reducible refine evGBit_touch (within_trans (by decide) w) ?_
    | with_reducible refine evG_touch (within_trans (by decide) w) ?_
    | with_reducible refine evG_touchAll (within_trans (by decide) w) ?_
    | with_reducible refine wrGRail_touch (within_trans (by decide) w) ?_
    | with_reducible refine wrG_touch (within_trans (by decide) w) ?_
    | with_reducible refine wrG_touchAll (within_trans (by decide) w) ?_
    | with_reducible apply modPower_touch (within_trans (by decide) w)
    | split

theorem levelAbort_touch {m s0 s} (w : Within 0x4c0000228000 m) (h : Touch m s0 s) : Touch m s0 (levelAbort s) := by
  unfold levelAbort
  repeat' first
    | with_reducible assumption
    | with_reducible apply levelOver_touch (within_trans (by decide) w)

theorem diagStop_touch {m s0 s} (w : Within 0x400220028000 m) (h : Touch m s0 s) : Touch m s0 (diagStop s) := by
  unfold diagStop
  repeat' first
    | with_reducible assumption
    | with_reducible apply captureCut_touch (within_trans (by decide) w)
    | with_reducible apply diagEnd_touch (within_trans (by decide) w)
    | with_reducible apply forL_touch
    | split
    | intro _

theorem stopBlock_touch {m s0 a0 a1 s} (w : Within 0xc0823f628000 m) (h : Touch m s0 s) : Touch m s0 (stopBlock a0 a1 s) := by
  unfold stopBlock
  repeat' first
    | with_reducible assumption
    | with_reducible apply diagStop_touch (within_trans (by decide) w)
    | with_reducible apply portsDown_touch (within_trans (by decide) w)
    | with_reducible apply modPower_touch (within_trans (by decide) w)
    | with_reducible apply blockStop_touch (within_trans (by decide) w)
    | split

theorem restartBlock_touch {m s0 a0 a1 s} (w : Within 0xc1880a628000 m) (h : Touch m s0 s) : Touch m s0 (restartBlock a0 a1 s) := by
  unfold restartBlock
  repeat' first
    | with_reducible assumption
    | with_reducible apply modPower_touch (within_trans (by decide) w)
    | with_reducible apply laneGo_touch (within_trans (by decide) w)
    | with_reducible apply blockStart_touch (within_trans (by decide) w)
    | split
    | intro _
    | dsimp only

theorem sleepCancel_touch {m s0 a0 a1 s} (w : Within 0xc9880a628000 m) (h : Touch m s0 s) : Touch m s0 (sleepCancel a0 a1 s) := by
  unfold sleepCancel
  repeat' first
    | with_reducible assumption
    | with_reducible apply restartBlock_touch (within_trans (by decide) w)
    | with_reducible apply endOp_touch (within_trans (by decide) w)
    | with_reducible refine wrGRail_touch (within_trans (by decide) w) ?_
    | with_reducible refine wrG_touch (within_trans (by decide) w) ?_
    | with_reducible refine wrG_touchAll (within_trans (by decide) w) ?_
    | with_reducible apply modPower_touch (within_trans (by decide) w)
    | with_reducible apply forL_touch
    | split
    | intro _

theorem wakeBegin_touch {m s0 a0 a1 a2 a3 s} (w : Within 0x80000200000 m) (h : Touch m s0 s) : Touch m s0 (wakeBegin a0 a1 a2 a3 s) := by
  unfold wakeBegin
  repeat' first
    | with_reducible assumption
    | with_reducible refine wrGRail_touch (within_trans (by decide) w) ?_
    | with_reducible refine wrG_touch (within_trans (by decide) w) ?_
    | with_reducible refine wrG_touchAll (within_trans (by decide) w) ?_
    | with_reducible apply modPower_touch (within_trans (by decide) w)
    | with_reducible refine evGRail_touch (within_trans (by decide) w) ?_
    | with_reducible refine evGBit_touch (within_trans (by decide) w) ?_
    | with_reducible refine evG_touch (within_trans (by decide) w) ?_
    | with_reducible refine evG_touchAll (within_trans (by decide) w) ?_
    | split

theorem dozeEnter_touch {m s0 a0 s} (w : Within 0x480000228000 m) (h : Touch m s0 s) : Touch m s0 (dozeEnter a0 s) := by
  unfold dozeEnter
  repeat' first
    | with_reducible assumption
    | with_reducible apply endOp_touch (within_trans (by decide) w)
    | with_reducible refine wrGRail_touch (within_trans (by decide) w) ?_
    | with_reducible refine wrG_touch (within_trans (by decide) w) ?_
    | with_reducible refine wrG_touchAll (within_trans (by decide) w) ?_
    | with_reducible apply wakeDoze_touch (within_trans (by decide) w)
    | with_reducible apply modPower_touch (within_trans (by decide) w)
    | with_reducible refine evGRail_touch (within_trans (by decide) w) ?_
    | with_reducible refine evGBit_touch (within_trans (by decide) w) ?_
    | with_reducible refine evG_touch (within_trans (by decide) w) ?_
    | with_reducible refine evG_touchAll (within_trans (by decide) w) ?_
    | split

theorem clocksOff_touch {m s0 s} (w : Within 0x40000000000 m) (h : Touch m s0 s) : Touch m s0 (clocksOff s) := by
  unfold clocksOff
  repeat' first
    | with_reducible assumption
    | with_reducible refine wrGRail_touch (within_trans (by decide) w) ?_
    | with_reducible refine wrG_touch (within_trans (by decide) w) ?_

theorem retainEnter_touch {m o s0 s} (w : Within 0x4c0000328040 m) (h : Touch m s0 s) : Touch m s0 (retainEnter o s) := by
  unfold retainEnter
  have key : ∀ t, Touch m s0 t → Touch m s0 (match s.power.wakeLatch with
      | some (src, bus, n) => wakeBegin src bus n true { t with stage := .stopped }
      | none => { t with stage := .stopped }) := by
    intro t ht
    split
    · exact wakeBegin_touch (within_trans (by decide) w) (stage_touch (within_trans (by decide) w) ht)
    · exact stage_touch (within_trans (by decide) w) ht
  exact key _ (wrG_touch (within_trans (by decide) w) (clocksOff_touch (within_trans (by decide) w) (countDev_touch (within_trans (by decide) w)
      (endOp_touch (within_trans (by decide) w) (modPower_touch (within_trans (by decide) w) (avsWrite_touch (within_trans (by decide) w)
    (wrG_touch (within_trans (by decide) w) (modClk_touch (within_trans (by decide) w) (modPower_touch (within_trans (by decide) w) h)))))))))

theorem execSleepBlockStop_touch {m s0 s} (w : Within 0xcd8a3f728040 m) (h : Touch m s0 s) : OutTouch m s0 (execSleepBlockStop s) := by
  unfold execSleepBlockStop
  refine outTouch ?_
  repeat' first
    | with_reducible assumption
    | with_reducible refine evGRail_touch (within_trans (by decide) w) ?_
    | with_reducible refine evGBit_touch (within_trans (by decide) w) ?_
    | with_reducible refine evG_touch (within_trans (by decide) w) ?_
    | with_reducible refine evG_touchAll (within_trans (by decide) w) ?_
    | with_reducible apply sleepCancel_touch (within_trans (by decide) w)
    | with_reducible apply opItem_touch (within_trans (by decide) w)
    | with_reducible apply stopBlock_touch (within_trans (by decide) w)
    | with_reducible apply retainEnter_touch (within_trans (by decide) w)
    | with_reducible apply dozeEnter_touch (within_trans (by decide) w)
    | with_reducible apply opProgress_touch (within_trans (by decide) w)
    | split

theorem sleepPlan_touch {m a0 a1 s} (w : Within 0x480800238000 m) : PlanTouch m (sleepPlan a0 a1 s) := by
  unfold sleepPlan
  repeat' first
    | with_reducible assumption
    | with_reducible apply firstOf_touch
    | with_reducible apply checksT_cons
    | with_reducible exact checksT_nil
    | with_reducible exact bad_touch
    | with_reducible exact busyIf_touch (within_trans (by decide) w)
    | with_reducible apply some_touch
    | with_reducible exact none_touch
    | with_reducible apply Plan_long_touch (within_trans (by decide) w)
    | with_reducible refine wrGRail_touch (within_trans (by decide) w) ?_
    | with_reducible refine wrG_touch (within_trans (by decide) w) ?_
    | with_reducible refine wrG_touchAll (within_trans (by decide) w) ?_
    | with_reducible apply modPower_touch (within_trans (by decide) w)
    | split
    | intro _

theorem opSleep_touch {m} (w : Within 0x480800238000 m) : OpTouch m opSleep := ⟨fun c r s => sleepPlan_touch w (a0 := c) (a1 := r) (s := s)⟩

theorem execSleep_touch {m s0 a0 s} (w : Within 0x6a280023f800 m) (h : Touch m s0 s) : OutTouch m s0 (execSleep a0 s) :=
  runOpcode_touch (within_trans (by decide) w) (opSleep_touch (within_trans (by decide) w)) h

theorem execDozeWake_touch {m s0 s} (w : Within 0x480000200000 m) (h : Touch m s0 s) : OutTouch m s0 (execDozeWake s) := by
  unfold execDozeWake
  refine outTouch ?_
  repeat' first
    | with_reducible assumption
    | with_reducible apply wakeDoze_touch (within_trans (by decide) w)

theorem execRetainWake_touch {m s0 a0 s} (w : Within 0x80000201000 m) (h : Touch m s0 s) : OutTouch m s0 (execRetainWake a0 s) := by
  unfold execRetainWake
  refine outTouch ?_
  repeat' first
    | with_reducible assumption
    | with_reducible apply wakeBegin_touch (within_trans (by decide) w)
    | with_reducible apply setDropped_touch (within_trans (by decide) w)
    | with_reducible refine wrGRail_touch (within_trans (by decide) w) ?_
    | with_reducible refine wrG_touch (within_trans (by decide) w) ?_
    | with_reducible refine wrG_touchAll (within_trans (by decide) w) ?_
    | with_reducible apply modPower_touch (within_trans (by decide) w)
    | split

theorem powerBlocks_touch {m s0 a0 s} (w : Within 0xc1880a628000 m) (h : Touch m s0 s) : Touch m s0 (powerBlocks a0 s) := by
  unfold powerBlocks
  repeat' first
    | with_reducible assumption
    | with_reducible apply settle_touch (within_trans (by decide) w)
    | with_reducible apply modPower_touch (within_trans (by decide) w)

theorem execWakePllRelock_touch {m s0 s} (w : Within 0xfff88a7ae040 m) (h : Touch m s0 s) : OutTouch m s0 (execWakePllRelock s) := by
  unfold execWakePllRelock
  refine outTouch ?_
  repeat' first
    | with_reducible assumption
    | with_reducible apply pllReady_touch (within_trans (by decide) w)
    | with_reducible apply powerBlocks_touch (within_trans (by decide) w)
    | with_reducible apply modPower_touch (within_trans (by decide) w)
    | with_reducible apply avsWrite_touch (within_trans (by decide) w)
    | with_reducible apply forL_touch
    | split
    | intro _

theorem execWakeDomainsPowered_touch {m s0 s} (w : Within 0xc9880a628000 m) (h : Touch m s0 s) : OutTouch m s0 (execWakeDomainsPowered s) := by
  unfold execWakeDomainsPowered
  refine outTouch ?_
  repeat' first
    | with_reducible assumption
    | with_reducible apply settle_touch (within_trans (by decide) w)
    | with_reducible refine wrGRail_touch (within_trans (by decide) w) ?_
    | with_reducible refine wrG_touch (within_trans (by decide) w) ?_
    | with_reducible refine wrG_touchAll (within_trans (by decide) w) ?_
    | with_reducible apply modPower_touch (within_trans (by decide) w)
    | split

theorem padRelease_touch {m s0 a0 s} (w : Within 0xc8880a328000 m) (h : Touch m s0 s) : Touch m s0 (padRelease a0 s) := by
  unfold padRelease
  repeat' first
    | with_reducible assumption
    | with_reducible refine wrGRail_touch (within_trans (by decide) w) ?_
    | with_reducible refine wrG_touch (within_trans (by decide) w) ?_
    | with_reducible refine wrG_touchAll (within_trans (by decide) w) ?_
    | with_reducible apply modPower_touch (within_trans (by decide) w)
    | with_reducible apply modClk_touch (within_trans (by decide) w)
    | with_reducible apply laneAuto_touch (within_trans (by decide) w)
    | with_reducible apply wakePorts_touch (within_trans (by decide) w)
    | with_reducible apply forL_touch
    | split
    | intro _

theorem opPadRelease_touch {m} (w : Within 0xc8880a328000 m) : OpTouch m opPadRelease := by
  refine ⟨fun c r s => ?_⟩
  show PlanTouch m (_ : Plan)
  unfold opPadRelease
  dsimp only
  repeat' first
    | with_reducible apply firstOf_touch
    | with_reducible apply checksT_cons
    | with_reducible exact checksT_nil
    | with_reducible apply chk_touch
    | with_reducible exact bad_touch
    | with_reducible apply some_touch
    | with_reducible exact none_touch
    | with_reducible apply done_touch
    | with_reducible exact retryIn_touch
    | with_reducible apply firstOf_touch
    | with_reducible apply padRelease_touch (within_trans (by decide) w)
    | split
    | intro _

theorem execPadRelease_touch {m s0 a0 s} (w : Within 0xeaa80a32f800 m) (h : Touch m s0 s) : OutTouch m s0 (execPadRelease a0 s) :=
  runOpcode_touch (within_trans (by decide) w) (opPadRelease_touch (within_trans (by decide) w)) h

theorem xferLeft_touch {m s0 a0 a1 a2 s} (w : Within 0xc80220828000 m) (h : Touch m s0 s) : Touch m s0 (xferLeft a0 a1 a2 s) := by
  unfold xferLeft
  repeat' first
    | with_reducible assumption
    | with_reducible refine addCntG_touch (within_trans (by decide) w) ?_
    | with_reducible refine addCntP_touch (within_trans (by decide) w) ?_
    | with_reducible refine addCntL_touch (within_trans (by decide) w) ?_
    | with_reducible refine addCnt_touchAll (within_trans (by decide) w) ?_
    | with_reducible apply modCtx_touch (within_trans (by decide) w)
    | with_reducible apply captureCut_touch (within_trans (by decide) w)
    | split

theorem execTransferAbort_touch {m s0 a0 a1 a2 s} (w : Within 0xc80220828000 m) (h : Touch m s0 s) :
    OutTouch m s0 (execTransferAbort a0 a1 a2 s) := by
  unfold execTransferAbort
  refine outTouch ?_
  repeat' first
    | with_reducible assumption
    | with_reducible refine evGRail_touch (within_trans (by decide) w) ?_
    | with_reducible refine evGBit_touch (within_trans (by decide) w) ?_
    | with_reducible refine evG_touch (within_trans (by decide) w) ?_
    | with_reducible refine evG_touchAll (within_trans (by decide) w) ?_
    | with_reducible apply countDev_touch (within_trans (by decide) w)
    | with_reducible apply journalEvent_touch (within_trans (by decide) w)
    | with_reducible apply xferLeft_touch (within_trans (by decide) w)
    | split

theorem hardReset_touch {m k s0 s} (w : Within 0xffffffffbff0 m) (h : Touch m s0 s) : Touch m s0 (hardReset k s) := by
  refine Touch.after w (?_ : Touch 0xffffffffbff0 s _) h
  have w : Within 0xffffffffbff0 0xffffffffbff0 := by decide
  unfold hardReset
  refine wrG_touch (within_trans (by decide) w) ?_
  dsimp only
  have key : ∀ t : State, t.pending = s.pending → t.part = s.part → t.mem = [] → t.regs = [] → t.vault.fuses = s.vault.fuses →
      t.straps = s.straps → t.strapReq = s.strapReq → t.ledger = (auditAbort true s).ledger → Touch 0xffffffffbff0 s t := by
    intro t h1 h2 h3 h4 h5 h6 h7 h8
    have h9 := h8.trans ((auditAbort_touch (m := 0xd0889a028000) (a0 := true) (by decide) (Touch.refl _ s)).same .ledger (by decide))
    refine ⟨⟨h1, h2, fun _ => by rw [h3]; rfl, fun _ => by rw [h4]; rfl, fun a => by rw [h5]; simp⟩, fun q e => ?_⟩
    cases q <;> first | exact absurd e (by decide) | assumption
  split
  · refine wrReg_touch (within_trans (by decide) w) (wrG_touch (within_trans (by decide) w) (wrG_touch (within_trans (by decide) w) (wrG_touch
        (within_trans (by decide) w) (key _ ?_ ?_ ?_ ?_ ?_ ?_ ?_ ?_)))) <;> rfl
  · refine wrG_touch (within_trans (by decide) w) (wrG_touch (within_trans (by decide) w) (wrG_touch (within_trans (by decide) w) (key _ ?_ ?_ ?_
        ?_ ?_ ?_ ?_ ?_))) <;> rfl

theorem hardRelease_touch {m s0 a0 a1 s} (w : Within 0x66288018e07c m) (h : Touch m s0 s) : Touch m s0 (hardRelease a0 a1 s) := by
  unfold hardRelease
  repeat' first
    | with_reducible assumption
    | with_reducible apply modClk_touch (within_trans (by decide) w)
    | with_reducible apply mgmtGo_touch (within_trans (by decide) w)
    | with_reducible refine wrGRail_touch (within_trans (by decide) w) ?_
    | with_reducible refine wrG_touch (within_trans (by decide) w) ?_
    | with_reducible refine wrG_touchAll (within_trans (by decide) w) ?_
    | exact touchUpd w h (by rfl) (by rfl) (by rfl) (by rfl) (by rfl)
        (fun q e => by cases q <;> first | exact absurd e (by decide) | rfl | exact fun _ _ => rfl)
    | split

theorem execPowerOnReset_touch {m s0 s} (w : Within 0xffffffffbff0 m) (h : Touch m s0 s) : OutTouch m s0 (execPowerOnReset s) := by
  unfold execPowerOnReset
  refine outTouch ?_
  repeat' first
    | with_reducible assumption
    | with_reducible apply hardReset_touch (within_trans (by decide) w)

theorem execPowerOnResetRelease_touch {m s0 a0 s} (w : Within 0x66288018e07c m) (h : Touch m s0 s) :
    OutTouch m s0 (execPowerOnResetRelease a0 s) := by
  unfold execPowerOnResetRelease
  refine outTouch ?_
  repeat' first
    | with_reducible assumption
    | with_reducible apply hardRelease_touch (within_trans (by decide) w)

theorem execResetNAssert_touch {m s0 s} (w : Within 0xffffffffbff0 m) (h : Touch m s0 s) : OutTouch m s0 (execResetNAssert s) := by
  unfold execResetNAssert
  refine outTouch ?_
  repeat' first
    | with_reducible assumption
    | with_reducible apply hardReset_touch (within_trans (by decide) w)

theorem execResetNRelease_touch {m s0 a0 s} (w : Within 0x66288018e07c m) (h : Touch m s0 s) : OutTouch m s0 (execResetNRelease a0 s) := by
  unfold execResetNRelease
  refine outTouch ?_
  repeat' first
    | with_reducible assumption
    | with_reducible apply hardRelease_touch (within_trans (by decide) w)

theorem warmRegs_touch {m s0 s} (w : Within 0xfff000000000 m) (h : Touch m s0 s) : Touch m s0 (warmRegs s) := by
  unfold warmRegs
  repeat' first
    | with_reducible assumption
    | with_reducible apply clearRegs_touch (within_trans (by decide) w)
    | with_reducible refine wrGRail_touch (within_trans (by decide) w) ?_
    | with_reducible refine wrG_touch (within_trans (by decide) w) ?_
    | with_reducible refine wrG_touchAll (within_trans (by decide) w) ?_
    | with_reducible apply wrP_touch (within_trans (by decide) w)
    | with_reducible refine wrFldP_touch (within_trans (by decide) w) ?_
    | with_reducible refine wrFldL_touch (within_trans (by decide) w) ?_
    | with_reducible refine wrFldC_touch (by decide) (by decide) (within_trans (by decide) w) ?_
    | with_reducible refine wrFld_touch (within_trans (by decide) w) ?_
    | with_reducible refine wrFld_touchAll (within_trans (by decide) w) ?_
    | with_reducible apply showActive_touch (within_trans (by decide) w)
    | with_reducible apply forL_touch
    | split
    | intro _

theorem warmBank_touch {m s0 s} (w : Within 0x10000000 m) (h : Touch m s0 s) : Touch m s0 (warmBank s) := by
  unfold warmBank
  repeat' first
    | with_reducible assumption
    | with_reducible apply mapLots_touch (within_trans (by decide) w)
    | with_reducible apply modCh_touch (within_trans (by decide) w)

theorem warmMem_touch {m s0 s} (w : Within 0x200000000 m) (h : Touch m s0 s) : Touch m s0 (warmMem s) := by
  unfold warmMem
  repeat' first
    | with_reducible assumption
    | with_reducible apply clearMem_touch (within_trans (by decide) w)

theorem warmState_touch {m s0 s} (w : Within 0x16ffe3fa0 m) (h : Touch m s0 s) : Touch m s0 (warmState s) := by
  refine Touch.after w (s := s) (t := warmState s) ⟨⟨rfl, rfl, id, id, fun a => by simp [warmState]⟩, fun q e => ?_⟩ h
  cases q <;> first | exact absurd e (by decide) | rfl | exact fun _ _ => rfl

theorem warmReset_touch {m c s0 s} (w : Within 0xfffbfffeffe0 m) (h : Touch m s0 s) : Touch m s0 (warmReset c s) := by
  unfold warmReset
  refine safeLate_touch (within_trans (by decide) w) (auditRebuild_touch (within_trans (by decide) w) (applyRepairs_touch (within_trans (by decide)
      w) (startEntries_touch (within_trans (by decide) w) (stage_touch (within_trans (by decide) w) (wrG_touch (within_trans (by decide) w) ?_)))))
  have h4 := wrG_touch (f := F.RESET_STATUS_LAST_CAUSE) (x := c) (within_trans (by decide) w) (wrG_touch (f := F.RESET_STATUS_LAST_KIND) (x := 3)
      (within_trans (by decide) w)
    (warmMem_touch (within_trans (by decide) w) (warmBank_touch (within_trans (by decide) w) (warmRegs_touch (within_trans (by decide) w)
        (warmState_touch (within_trans (by decide) w) (forL_touch (l := allPorts (forL (allLanes s) laneOff
      (portsDown (fun _ => true) 5 (auditAbort true s)))) (f := chDormant) (forL_touch (l := allLanes s) (f := laneOff)
        (portsDown_touch (a0 := fun _ => true) (a1 := 5) (within_trans (by decide) w) (auditAbort_touch (a0 := true) (within_trans (by decide) w)
            h)) (fun _ _ ht => laneOff_touch (within_trans (by decide) w) ht))
        (fun _ _ ht => chDormant_touch (within_trans (by decide) w) ht)))))))
  split
  · exact wrG_touch (within_trans (by decide) w) (wrG_touch (within_trans (by decide) w) h4)
  · exact h4

theorem execWarmReset_touch {m s0 s} (w : Within 0xfffbfffeffe0 m) (h : Touch m s0 s) : OutTouch m s0 (execWarmReset s) := by
  unfold execWarmReset
  refine outTouch ?_
  repeat' first
    | with_reducible assumption
    | with_reducible apply warmReset_touch (within_trans (by decide) w)
    | split

theorem execLockstepFault_touch {m s0 s} (w : Within 0xfffbfffeffe0 m) (h : Touch m s0 s) : OutTouch m s0 (execLockstepFault s) := by
  unfold execLockstepFault
  refine outTouch ?_
  repeat' first
    | with_reducible assumption
    | with_reducible apply warmReset_touch (within_trans (by decide) w)
    | split

theorem execWatchdogExpiry_touch {m s0 s} (w : Within 0xfffbfffeffe0 m) (h : Touch m s0 s) : OutTouch m s0 (execWatchdogExpiry s) := by
  unfold execWatchdogExpiry
  refine outTouch ?_
  repeat' first
    | with_reducible assumption
    | with_reducible apply warmReset_touch (within_trans (by decide) w)
    | split

theorem takeReset_touch {m s0 a0 s} (w : Within 0x100000 m) (h : Touch m s0 s) : Touch m s0 (takeReset a0 s) := by
  unfold takeReset
  repeat' first
    | with_reducible assumption
    | with_reducible apply modClk_touch (within_trans (by decide) w)

theorem resetNote_touch {m s0 a0 a1 s} (w : Within 0x440000008000 m) (h : Touch m s0 s) : Touch m s0 (resetNote a0 a1 s) := by
  unfold resetNote
  repeat' first
    | with_reducible assumption
    | with_reducible apply journalReset_touch (within_trans (by decide) w)
    | with_reducible refine wrGRail_touch (within_trans (by decide) w) ?_
    | with_reducible refine wrG_touch (within_trans (by decide) w) ?_

theorem latchForget_touch {m s0 a0 s} (w : Within 0x380 m) (h : Touch m s0 s) : Touch m s0 (latchForget a0 s) := by
  unfold latchForget
  repeat' first
    | with_reducible assumption
    | exact touchUpd w h (by rfl) (by rfl) (by rfl) (by rfl) (by rfl)
        (fun q e => by cases q <;> first | exact absurd e (by decide) | rfl | exact fun _ _ => rfl)

theorem portRegsReset_touch {m s0 a0 s} (w : Within 0xfff000000000 m) (h : Touch m s0 s) : Touch m s0 (portRegsReset a0 s) := by
  unfold portRegsReset
  repeat' first
    | with_reducible assumption
    | with_reducible apply wrP_touch (within_trans (by decide) w)
    | with_reducible apply clearRegs_touch (within_trans (by decide) w)

theorem portReset_touch {m s0 a0 s} (w : Within 0xfff837828380 m) (h : Touch m s0 s) : Touch m s0 (portReset a0 s) := by
  unfold portReset
  repeat' first
    | with_reducible assumption
    | with_reducible apply diagLeft_touch (within_trans (by decide) w)
    | with_reducible apply portDown_touch (within_trans (by decide) w)
    | with_reducible apply modDiag_touch (within_trans (by decide) w)
    | with_reducible apply modCtx_touch (within_trans (by decide) w)
    | with_reducible apply modHost_touch (within_trans (by decide) w)
    | with_reducible apply restoreModes_touch (within_trans (by decide) w)
    | with_reducible apply latchForget_touch (within_trans (by decide) w)
    | with_reducible apply portRegsReset_touch (within_trans (by decide) w)
    | with_reducible apply resetNote_touch (within_trans (by decide) w)
    | with_reducible apply wakePort_touch (within_trans (by decide) w)
    | with_reducible apply forL_touch
    | split
    | intro _

theorem execPerPortReset_touch {m s0 a0 s} (w : Within 0xfff837928380 m) (h : Touch m s0 s) : OutTouch m s0 (execPerPortReset a0 s) := by
  unfold execPerPortReset
  refine outTouch ?_
  repeat' first
    | with_reducible assumption
    | with_reducible apply portReset_touch (within_trans (by decide) w)
    | with_reducible apply takeReset_touch (within_trans (by decide) w)
    | split

theorem flagsClear_touch {m s0 a0 a1 s} (w : Within 0xfff000000000 m) (h : Touch m s0 s) : Touch m s0 (flagsClear a0 a1 s) := by
  unfold flagsClear
  repeat' first
    | with_reducible assumption
    | with_reducible refine wrFldP_touch (within_trans (by decide) w) ?_
    | with_reducible refine wrFldL_touch (within_trans (by decide) w) ?_
    | with_reducible refine wrFld_touch (within_trans (by decide) w) ?_
    | with_reducible refine wrFld_touchAll (within_trans (by decide) w) ?_
    | with_reducible apply forL_touch
    | split
    | intro _

theorem groupReset_touch {m s0 a0 s} (w : Within 0xfff817000000 m) (h : Touch m s0 s) : Touch m s0 (groupReset a0 s) := by
  unfold groupReset
  repeat' first
    | with_reducible assumption
    | with_reducible apply flagsClear_touch (within_trans (by decide) w)
    | with_reducible apply downRestart_touch (within_trans (by decide) w)
    | with_reducible apply portDown_touch (within_trans (by decide) w)
    | with_reducible apply forL_touch
    | split
    | intro _
    | dsimp only

theorem chReset_touch {m s0 s} (w : Within 0xfff010028000 m) (h : Touch m s0 s) : Touch m s0 (chReset s) := by
  unfold chReset
  repeat' first
    | with_reducible assumption
    | with_reducible apply surveyEnd_touch (within_trans (by decide) w)
    | with_reducible apply modCh_touch (within_trans (by decide) w)
    | with_reducible apply dropStaged_touch (within_trans (by decide) w)
    | with_reducible apply flagsClear_touch (within_trans (by decide) w)

theorem monitorReset_touch {m s0 s} (w : Within 0xfff100000000 m) (h : Touch m s0 s) : Touch m s0 (monitorReset s) := by
  unfold monitorReset
  repeat' first
    | with_reducible assumption
    | with_reducible apply modPerf_touch (within_trans (by decide) w)
    | with_reducible apply clearRegs_touch (within_trans (by decide) w)

theorem blockReset_touch {m s0 a0 s} (w : Within 0xfffb3f028000 m) (h : Touch m s0 s) : Touch m s0 (blockReset a0 s) := by
  unfold blockReset
  repeat' first
    | with_reducible assumption
    | with_reducible apply groupReset_touch (within_trans (by decide) w)
    | with_reducible apply chReset_touch (within_trans (by decide) w)
    | with_reducible apply laneGo_touch (within_trans (by decide) w)
    | with_reducible apply flagsClear_touch (within_trans (by decide) w)
    | with_reducible apply monitorReset_touch (within_trans (by decide) w)
    | with_reducible apply diagStop_touch (within_trans (by decide) w)
    | with_reducible apply resetNote_touch (within_trans (by decide) w)
    | split

theorem execSoftReset_touch {m s0 a0 s} (w : Within 0xfffb3f128000 m) (h : Touch m s0 s) : OutTouch m s0 (execSoftReset a0 s) := by
  unfold execSoftReset
  refine outTouch ?_
  repeat' first
    | with_reducible assumption
    | with_reducible apply blockReset_touch (within_trans (by decide) w)
    | with_reducible apply takeReset_touch (within_trans (by decide) w)
    | split

theorem warnBegin_touch {m s0 a0 s} (w : Within 0x6a0000004000 m) (h : Touch m s0 s) : Touch m s0 (warnBegin a0 s) := by
  unfold warnBegin
  repeat' first
    | with_reducible assumption
    | with_reducible refine wrGRail_touch (within_trans (by decide) w) ?_
    | with_reducible refine wrG_touch (within_trans (by decide) w) ?_
    | with_reducible refine wrG_touchAll (within_trans (by decide) w) ?_
    | with_reducible refine evGRail_touch (within_trans (by decide) w) ?_
    | with_reducible refine evGBit_touch (within_trans (by decide) w) ?_
    | with_reducible refine evG_touch (within_trans (by decide) w) ?_
    | with_reducible refine evG_touchAll (within_trans (by decide) w) ?_
    | with_reducible apply ledgerDevice_touch (within_trans (by decide) w)
    | split

theorem coreWarning_touch {m s0 s} (w : Within 0xfa8a9a0ac000 m) (h : Touch m s0 s) : Touch m s0 (coreWarning s) := by
  unfold coreWarning
  repeat' first
    | with_reducible assumption
    | with_reducible apply auditWarn_touch (within_trans (by decide) w)
    | with_reducible apply burnStop_touch (within_trans (by decide) w)
    | with_reducible apply countDev_touch (within_trans (by decide) w)
    | with_reducible refine addCntG_touch (within_trans (by decide) w) ?_
    | with_reducible refine addCntP_touch (within_trans (by decide) w) ?_
    | with_reducible refine addCntL_touch (within_trans (by decide) w) ?_
    | with_reducible refine addCnt_touchAll (within_trans (by decide) w) ?_
    | with_reducible refine wrGRail_touch (within_trans (by decide) w) ?_
    | with_reducible refine wrG_touch (within_trans (by decide) w) ?_
    | with_reducible refine wrG_touchAll (within_trans (by decide) w) ?_
    | with_reducible apply warnBegin_touch (within_trans (by decide) w)
    | split

theorem execVddCoreWarning_touch {m s0 s} (w : Within 0xfa8a9a0ac000 m) (h : Touch m s0 s) : OutTouch m s0 (execVddCoreWarning s) := by
  unfold execVddCoreWarning
  refine outTouch ?_
  repeat' first
    | with_reducible assumption
    | with_reducible apply coreWarning_touch (within_trans (by decide) w)
    | split

theorem execRailWarning_touch {m s0 a0 s} (w : Within 0xfa8a9a0ac000 m) (h : Touch m s0 s) : OutTouch m s0 (execRailWarning a0 s) := by
  unfold execRailWarning
  refine outTouch ?_
  repeat' first
    | with_reducible assumption
    | with_reducible apply coreWarning_touch (within_trans (by decide) w)
    | with_reducible apply warnBegin_touch (within_trans (by decide) w)
    | split

theorem railResume_touch {m s0 a0 s} (w : Within 0xc0880a228000 m) (h : Touch m s0 s) : Touch m s0 (railResume a0 s) := by
  unfold railResume
  repeat' first
    | with_reducible assumption
    | with_reducible apply modPower_touch (within_trans (by decide) w)
    | with_reducible apply wakePorts_touch (within_trans (by decide) w)
    | with_reducible apply laneAuto_touch (within_trans (by decide) w)
    | with_reducible apply forL_touch
    | split
    | intro _

theorem execWarningEnd_touch {m s0 a0 s} (w : Within 0xcc888a228000 m) (h : Touch m s0 s) : OutTouch m s0 (execWarningEnd a0 s) := by
  unfold execWarningEnd
  refine outTouch ?_
  repeat' first
    | with_reducible assumption
    | with_reducible refine wrGRail_touch (within_trans (by decide) w) ?_
    | with_reducible refine wrG_touch (within_trans (by decide) w) ?_
    | with_reducible refine wrG_touchAll (within_trans (by decide) w) ?_
    | with_reducible apply railResume_touch (within_trans (by decide) w)
    | with_reducible apply auditWarnEnd_touch (within_trans (by decide) w)
    | with_reducible apply levelVolts_touch (within_trans (by decide) w)
    | split

theorem aonLoss_touch {m s0 s} (w : Within 0xfffffffffff0 m) (h : Touch m s0 s) : Touch m s0 (aonLoss s) := by
  unfold aonLoss
  refine modClk_touch (within_trans (by decide) w) ?_
  have ht : Touch m s0 { s with journal := Journal.init, ledger := Ledger.init, nextOp := 1, sec := Sec.init } :=
    touchUpd (a := 0x1E000) (within_trans (by decide) w) h rfl rfl rfl rfl rfl
      (fun q e => by cases q <;> first | exact absurd e (by decide) | rfl | exact fun _ _ => rfl)
  have key : ∀ t, Touch m s0 t → Touch m s0 { t with journal := Journal.init, sec := Sec.init } := fun t ht =>
    touchUpd (a := 0xA000) (within_trans (by decide) w) ht rfl rfl rfl rfl rfl
      (fun q e => by cases q <;> first | exact absurd e (by decide) | rfl | exact fun _ _ => rfl)
  exact key _ (hardReset_touch (within_trans (by decide) w) (modAudit_touch (a := fun _ => Audit.init) (within_trans (by decide) w) ht))

theorem execVddAonLoss_touch {m s0 s} (w : Within 0xfffffffffff0 m) (h : Touch m s0 s) : OutTouch m s0 (execVddAonLoss s) := by
  unfold execVddAonLoss
  refine outTouch ?_
  repeat' first
    | with_reducible assumption
    | with_reducible apply aonLoss_touch (within_trans (by decide) w)

theorem execRailResetLevel_touch {m s0 a0 s} (w : Within 0xfffffffffff0 m) (h : Touch m s0 s) : OutTouch m s0 (execRailResetLevel a0 s) := by
  unfold execRailResetLevel
  refine outTouch ?_
  repeat' first
    | with_reducible assumption
    | with_reducible apply modPower_touch (within_trans (by decide) w)
    | with_reducible apply hardReset_touch (within_trans (by decide) w)
    | with_reducible apply aonLoss_touch (within_trans (by decide) w)
    | with_reducible apply laneOff_touch (within_trans (by decide) w)
    | with_reducible apply pllUnlock_touch (within_trans (by decide) w)
    | with_reducible apply portsDown_touch (within_trans (by decide) w)
    | with_reducible apply forL_touch
    | split
    | intro _

end Sys2Proof.Machine
end

