-- ==== Sys2Proof/Laws/TouchHost.lean ====
section
/-!
SUPPORT. What every operation can change (Touch.lean), one lemma for each.
Register accesses, PORT_CONFIG, the superframe boundary, every command, a step.
-/
namespace Sys2Proof.Machine

theorem modLatches_touch {m s0 a0 a1 s} (w : Within 0x380 m) (h : Touch m s0 s) : Touch m s0 (modLatches a0 a1 s) := by
  unfold modLatches
  repeat' first
    | with_reducible assumption
    | exact touchUpd w h (by rfl) (by rfl) (by rfl) (by rfl) (by rfl)
        (fun q e => by cases q <;> first | exact absurd e (by decide) | rfl | exact fun _ _ => rfl)
    | split

theorem latchRead_touch {m s0 a0 a1 s} (w : Within 0x380 m) (h : Touch m s0 s) : Touch m s0 (latchRead a0 a1 s) := by
  unfold latchRead
  repeat' first
    | with_reducible assumption
    | with_reducible apply modLatches_touch (within_trans (by decide) w)

theorem rearm_touch {m s0 a0 s} (w : Within 0x2000000 m) (h : Touch m s0 s) : Touch m s0 (rearm a0 s) := by
  unfold rearm
  repeat' first
    | with_reducible assumption
    | with_reducible apply modPort_touch (within_trans (by decide) w)
    | split

theorem afterRead_touch {m s0 a0 a1 s} (w : Within 0x802000380 m) (h : Touch m s0 s) : Touch m s0 (afterRead a0 a1 s) := by
  unfold afterRead
  repeat' first
    | with_reducible assumption
    | with_reducible apply draw_touch (within_trans (by decide) w)
    | with_reducible apply rearm_touch (within_trans (by decide) w)
    | with_reducible apply latchRead_touch (within_trans (by decide) w)
    | with_reducible apply whenB_touch
    | split
    | intro _

theorem storeWord_touch {m s0 a0 a1 s} (w : Within 0xfff000000000 m) (h : Touch m s0 s) : Touch m s0 (storeWord a0 a1 s) := by
  unfold storeWord
  repeat' first
    | with_reducible assumption
    | with_reducible refine wrRegP_touch (within_trans (by decide) w) ?_
    | with_reducible refine wrRegPm0_touch (within_trans (by decide) w) ?_
    | with_reducible refine wrReg_touch (within_trans (by decide) w) ?_
    | with_reducible refine wrReg_touchAll (within_trans (by decide) w) ?_

theorem portEnable_touch {m s0 a0 s} (w : Within 0xc00822028000 m) (h : Touch m s0 s) : Touch m s0 (portEnable a0 s) := by
  unfold portEnable
  repeat' first
    | with_reducible assumption
    | with_reducible apply wakePort_touch (within_trans (by decide) w)
    | with_reducible apply diagLeft_touch (within_trans (by decide) w)
    | with_reducible apply wrP_touch (within_trans (by decide) w)

theorem portDisable_touch {m s0 a0 s} (w : Within 0xc08037028000 m) (h : Touch m s0 s) : Touch m s0 (portDisable a0 s) := by
  unfold portDisable
  repeat' first
    | with_reducible assumption
    | with_reducible apply diagLeft_touch (within_trans (by decide) w)
    | with_reducible apply portDown_touch (within_trans (by decide) w)

theorem enableChange_touch {m s0 a0 a1 s} (w : Within 0xc08837028000 m) (h : Touch m s0 s) : Touch m s0 (enableChange a0 a1 s) := by
  unfold enableChange
  repeat' first
    | with_reducible assumption
    | with_reducible apply portDisable_touch (within_trans (by decide) w)
    | with_reducible apply portEnable_touch (within_trans (by decide) w)
    | split

theorem restartPort_touch {m s0 a0 s} (w : Within 0xc08817000000 m) (h : Touch m s0 s) : Touch m s0 (restartPort a0 s) := by
  unfold restartPort
  repeat' first
    | with_reducible assumption
    | with_reducible apply retrainPort_touch (within_trans (by decide) w)
    | split

theorem tsPop_touch {m s0 a0 s} (w : Within 0x800004000000 m) (h : Touch m s0 s) : Touch m s0 (tsPop a0 s) := by
  unfold tsPop
  repeat' first
    | with_reducible assumption
    | with_reducible apply wrP_touch (within_trans (by decide) w)
    | with_reducible apply modHost_touch (within_trans (by decide) w)

theorem portActs_touch {m s0 a0 a1 a2 s s4} (w : Within 0xfff837828380 m) (h : Touch m s0 s) (h4 : Touch m s0 s4) :
    Touch m s0 (portActs a0 a1 a2 s s4) := by
  unfold portActs
  repeat' first
    | with_reducible assumption
    | with_reducible apply enableChange_touch (within_trans (by decide) w)
    | with_reducible apply portReset_touch (within_trans (by decide) w)
    | with_reducible apply evP_touch (within_trans (by decide) w)
    | with_reducible apply portDown_touch (within_trans (by decide) w)
    | with_reducible apply restartPort_touch (within_trans (by decide) w)
    | with_reducible apply tsPop_touch (within_trans (by decide) w)
    | with_reducible apply updateRateReason_touch (within_trans (by decide) w)
    | with_reducible apply whenB_touch
    | split
    | intro _

theorem laneActs_touch {m s0 a0 a1 s s3} (w : Within 0xc08008028000 m) (h : Touch m s0 s) (h3 : Touch m s0 s3) :
    Touch m s0 (laneActs a0 a1 s s3) := by
  unfold laneActs
  repeat' first
    | with_reducible assumption
    | with_reducible refine evL_touch (within_trans (by decide) w) ?_
    | with_reducible apply laneOff_touch (within_trans (by decide) w)
    | with_reducible apply laneAuto_touch (within_trans (by decide) w)
    | with_reducible apply whenB_touch
    | split
    | intro _
    | dsimp only

theorem pmActs_touch {m s0 a0 s} (w : Within 0x400000000000 m) (h : Touch m s0 s) : Touch m s0 (pmActs a0 s) := by
  unfold pmActs
  repeat' first
    | with_reducible assumption
    | with_reducible refine evGRail_touch (within_trans (by decide) w) ?_
    | with_reducible refine evGBit_touch (within_trans (by decide) w) ?_
    | with_reducible refine evG_touch (within_trans (by decide) w) ?_
    | with_reducible refine evG_touchAll (within_trans (by decide) w) ?_
    | with_reducible apply whenB_touch
    | intro _

theorem trimWrite_touch {m s0 a0 a1 s} (w : Within 0x900040000000 m) (h : Touch m s0 s) : Touch m s0 (trimWrite a0 a1 s) := by
  unfold trimWrite
  repeat' first
    | with_reducible assumption
    | with_reducible apply showActive_touch (within_trans (by decide) w)
    | with_reducible apply modTarget_touch (within_trans (by decide) w)
    | split

theorem bankWrite_touch {m s0 a0 a1 s} (w : Within 0x200000000 m) (h : Touch m s0 s) : Touch m s0 (bankWrite a0 a1 s) := by
  unfold bankWrite
  repeat' first
    | with_reducible assumption
    | with_reducible apply writeMem_touch (within_trans (by decide) w)
    | split

theorem softResets_touch {m s0 a0 s} (w : Within 0xfffb3f028000 m) (h : Touch m s0 s) : Touch m s0 (softResets a0 s) := by
  unfold softResets
  repeat' first
    | with_reducible assumption
    | with_reducible apply blockReset_touch (within_trans (by decide) w)
    | with_reducible apply forL_touch
    | intro _

theorem putWord_touch {m s0 a0 a1 s} (w : Within 0xfffbffdae3c0 m) (h : Touch m s0 s) : Touch m s0 (putWord a0 a1 s) := by
  unfold putWord
  repeat' first
    | with_reducible assumption
    | with_reducible apply portActs_touch (within_trans (by decide) w)
    | with_reducible apply storeWord_touch (within_trans (by decide) w)
    | with_reducible apply bankWrite_touch (within_trans (by decide) w)
    | with_reducible apply trimWrite_touch (within_trans (by decide) w)
    | with_reducible apply clkEnWrite_touch (within_trans (by decide) w)
    | with_reducible apply clkSwitch_touch (within_trans (by decide) w)
    | with_reducible apply clkoutChange_touch (within_trans (by decide) w)
    | with_reducible apply softResets_touch (within_trans (by decide) w)
    | with_reducible apply releaseWrite_touch (within_trans (by decide) w)
    | with_reducible apply laneActs_touch (within_trans (by decide) w)
    | with_reducible apply pmActs_touch (within_trans (by decide) w)
    | with_reducible apply whenB_touch
    | split
    | intro _

theorem commitHeld_touch {m s0 a0 a1 s} (w : Within 0xfffbffdae3c0 m) (h : Touch m s0 s) : Touch m s0 (commitHeld a0 a1 s) := by
  unfold commitHeld
  repeat' first
    | with_reducible assumption
    | with_reducible apply modLatches_touch (within_trans (by decide) w)
    | with_reducible apply putWord_touch (within_trans (by decide) w)
    | with_reducible apply forL_touch
    | split
    | intro _

theorem pathWrite_touch {m s0 a0 a1 a2 s} (w : Within 0xfffbffdae3c0 m) (h : Touch m s0 s) : Touch m s0 (pathWrite a0 a1 a2 s) := by
  unfold pathWrite
  repeat' first
    | with_reducible assumption
    | with_reducible apply modLatches_touch (within_trans (by decide) w)
    | with_reducible apply putWord_touch (within_trans (by decide) w)
    | with_reducible apply commitHeld_touch (within_trans (by decide) w)
    | split

theorem gatedNote_touch {m s0 a0 a1 s} (w : Within 0x600000000000 m) (h : Touch m s0 s) : Touch m s0 (gatedNote a0 a1 s) := by
  unfold gatedNote
  repeat' first
    | with_reducible assumption
    | with_reducible apply pmEv_touch (within_trans (by decide) w)
    | with_reducible apply countDev_touch (within_trans (by decide) w)

theorem accessGates_touch {m s as} (w : Within 0xf0889a028000 m) : ChecksTouch m (accessGates s as) := by
  unfold accessGates
  refine checksT_cons ⟨fun p hp => ?_⟩ (checksT_cons ⟨fun p hp => ?_⟩ checksT_nil)
  · obtain ⟨a, _, rfl⟩ := Option.map_eq_some_iff.mp hp
    exact ⟨fun _ _ h => gatedNote_touch (within_trans (by decide) w) h⟩
  · obtain ⟨a, _, rfl⟩ := Option.map_eq_some_iff.mp hp
    exact Plan_selftest_touch (within_trans (by decide) w)

theorem cpReadWord_touch {m s0 a0 a1 s} (w : Within 0x200802000380 m) (h : Touch m s0 s) : Touch m s0 (cpReadWord a0 a1 s) := by
  unfold cpReadWord
  repeat' first
    | with_reducible assumption
    | with_reducible apply pmEv_touch (within_trans (by decide) w)
    | with_reducible apply afterRead_touch (within_trans (by decide) w)

theorem cpReadWords_touch {m r l s0 s} (w : Within 0x200802000380 m) (h : Touch m s0 s) : Touch m s0 (cpReadWords r l s).2 := by
  induction l generalizing s with
  | nil => exact h
  | cons a l ih => exact ih (cpReadWord_touch (within_trans (by decide) w) h)

theorem readRegPlan_touch {m a0 a1 s} (w : Within 0xf0889a028380 m) : PlanTouch m (readRegPlan a0 a1 s) := by
  unfold readRegPlan
  repeat' first
    | with_reducible assumption
    | with_reducible apply firstOf_touch
    | with_reducible apply checksT_cons
    | with_reducible exact checksT_nil
    | with_reducible exact bad_touch
    | with_reducible exact accessGates_touch (within_trans (by decide) w)
    | with_reducible apply done_touch
    | with_reducible apply cpReadWords_touch (within_trans (by decide) w)
    | intro _

theorem opReadReg_touch {m} (w : Within 0xf0889a028380 m) : OpTouch m opReadReg := ⟨fun c r s => readRegPlan_touch w (a0 := c) (a1 := r) (s := s)⟩

theorem execReadReg_touch {m s0 a0 s} (w : Within 0xfaa89a22fb80 m) (h : Touch m s0 s) : OutTouch m s0 (execReadReg a0 s) :=
  runOpcode_touch (within_trans (by decide) w) (opReadReg_touch (within_trans (by decide) w)) h

theorem cpWriteWord_touch {m s0 a0 a1 s} (w : Within 0xfffbffdae3c0 m) (h : Touch m s0 s) : Touch m s0 (cpWriteWord a0 a1 s) := by
  unfold cpWriteWord
  repeat' first
    | with_reducible assumption
    | with_reducible apply pmEv_touch (within_trans (by decide) w)
    | with_reducible apply pathWrite_touch (within_trans (by decide) w)
    | with_reducible apply modSec_touch (within_trans (by decide) w)
    | with_reducible apply whenB_touch
    | intro _

theorem writeRegPlan_touch {m a0 a1 s} (w : Within 0xfffbffdae3c0 m) : PlanTouch m (writeRegPlan a0 a1 s) := by
  unfold writeRegPlan
  repeat' first
    | with_reducible assumption
    | with_reducible apply firstOf_touch
    | with_reducible apply checksT_cons
    | with_reducible exact checksT_nil
    | with_reducible apply chk_touch
    | with_reducible exact bad_touch
    | with_reducible apply checksT_append
    | with_reducible exact accessGates_touch (within_trans (by decide) w)
    | with_reducible exact done_id_touch
    | with_reducible apply done_touch
    | with_reducible apply cpWriteWord_touch (within_trans (by decide) w)
    | with_reducible apply forL_touch
    | split
    | intro _

theorem opWriteReg_touch {m} (w : Within 0xfffbffdae3c0 m) : OpTouch m opWriteReg := ⟨fun c r s => writeRegPlan_touch w (a0 := c) (a1 := r) (s := s)⟩

theorem execWriteReg_touch {m s0 a0 s} (w : Within 0xfffbfffafbc0 m) (h : Touch m s0 s) : OutTouch m s0 (execWriteReg a0 s) :=
  runOpcode_touch (within_trans (by decide) w) (opWriteReg_touch (within_trans (by decide) w)) h

theorem readBlockPlan_touch {m a0 a1 s} (w : Within 0xf0889a028000 m) : PlanTouch m (readBlockPlan a0 a1 s) := by
  unfold readBlockPlan
  repeat' first
    | with_reducible assumption
    | with_reducible apply firstOf_touch
    | with_reducible apply checksT_cons
    | with_reducible exact checksT_nil
    | with_reducible exact bad_touch
    | with_reducible apply checksT_map
    | with_reducible exact accessGates_touch (within_trans (by decide) w)
    | with_reducible apply done_touch
    | with_reducible apply draw_touch (within_trans (by decide) w)
    | with_reducible apply whenB_touch
    | split
    | intro _

theorem opReadBlock_touch {m} (w : Within 0xf0889a028000 m) :
    OpTouch m opReadBlock := ⟨fun c r s => readBlockPlan_touch w (a0 := c) (a1 := r) (s := s)⟩

theorem execReadBlock_touch {m s0 a0 s} (w : Within 0xfaa89a22f800 m) (h : Touch m s0 s) : OutTouch m s0 (execReadBlock a0 s) :=
  runOpcode_touch (within_trans (by decide) w) (opReadBlock_touch (within_trans (by decide) w)) h

theorem setMdioReg_touch {m s0 a0 a1 a2 a3 s} (w : Within 0x400 m) (h : Touch m s0 s) : Touch m s0 (setMdioReg a0 a1 a2 a3 s) := by
  unfold setMdioReg
  repeat' first
    | with_reducible assumption
    | exact touchUpd w h (by rfl) (by rfl) (by rfl) (by rfl) (by rfl)
        (fun q e => by cases q <;> first | exact absurd e (by decide) | rfl | exact fun _ _ => rfl)

theorem mdioDrive_touch {m s0 a0 s} (w : Within 0x400 m) (h : Touch m s0 s) : Touch m s0 (mdioDrive a0 s) := by
  unfold mdioDrive
  repeat' first
    | with_reducible assumption
    | exact touchUpd w h (by rfl) (by rfl) (by rfl) (by rfl) (by rfl)
        (fun q e => by cases q <;> first | exact absurd e (by decide) | rfl | exact fun _ _ => rfl)

theorem mdioRefused_touch {m s0 a0 a1 s} (w : Within 0xfff000000000 m) (h : Touch m s0 s) : Touch m s0 (mdioRefused a0 a1 s) := by
  unfold mdioRefused
  repeat' first
    | with_reducible assumption
    | with_reducible refine addCntG_touch (within_trans (by decide) w) ?_
    | with_reducible refine addCntP_touch (within_trans (by decide) w) ?_
    | with_reducible refine addCntL_touch (within_trans (by decide) w) ?_
    | with_reducible refine addCnt_touchAll (within_trans (by decide) w) ?_
    | with_reducible refine evGRail_touch (within_trans (by decide) w) ?_
    | with_reducible refine evGBit_touch (within_trans (by decide) w) ?_
    | with_reducible refine evG_touch (within_trans (by decide) w) ?_
    | with_reducible refine evG_touchAll (within_trans (by decide) w) ?_

theorem mdioStop_touch {m b a x s0 s t} (w : Within 0xfff89a028000 m) (h : Touch m s0 s) (e : mdioStop b a x s = some t) :
    Touch m s0 t := by
  unfold mdioStop at e
  split at e
  · cases e; exact mdioRefused_touch (within_trans (by decide) w) (gatedNote_touch (within_trans (by decide) w) h)
  · split at e
    · cases e
      exact whenB_touch (mdioRefused_touch (within_trans (by decide) w) h) (fun _ h => auditRequest_touch (within_trans (by decide) w) h)
    · cases e

theorem mdioViolation_touch {m s0 a0 a1 a2 a3 s} (w : Within 0x602000000000 m) (h : Touch m s0 s) : Touch m s0 (mdioViolation a0 a1 a2 a3 s) := by
  unfold mdioViolation
  repeat' first
    | with_reducible assumption
    | with_reducible refine wrGRail_touch (within_trans (by decide) w) ?_
    | with_reducible refine wrG_touch (within_trans (by decide) w) ?_
    | with_reducible refine wrG_touchAll (within_trans (by decide) w) ?_
    | with_reducible refine addCntG_touch (within_trans (by decide) w) ?_
    | with_reducible refine addCntP_touch (within_trans (by decide) w) ?_
    | with_reducible refine addCntL_touch (within_trans (by decide) w) ?_
    | with_reducible refine addCnt_touchAll (within_trans (by decide) w) ?_
    | with_reducible refine evGRail_touch (within_trans (by decide) w) ?_
    | with_reducible refine evGBit_touch (within_trans (by decide) w) ?_
    | with_reducible refine evG_touch (within_trans (by decide) w) ?_
    | with_reducible refine evG_touchAll (within_trans (by decide) w) ?_
    | with_reducible apply pmEv_touch (within_trans (by decide) w)
    | with_reducible apply countDev_touch (within_trans (by decide) w)

theorem mdioReadReg_touch {m s0 a0 a1 a2 a3 s} (w : Within 0xfff89a028380 m) (h : Touch m s0 s) : Touch m s0 (mdioReadReg a0 a1 a2 a3 s).2 := by
  unfold mdioReadReg
  repeat' first
    | with_reducible assumption
    | with_reducible refine mdioStop_touch (within_trans (by decide) w) ?_ (by assumption)
    | with_reducible apply pmEv_touch (within_trans (by decide) w)
    | with_reducible apply afterRead_touch (within_trans (by decide) w)
    | split

theorem mdioRead_touch {m s0 a0 a1 a2 s} (w : Within 0xfff89a028780 m) (h : Touch m s0 s) : Touch m s0 (mdioRead a0 a1 a2 s) := by
  unfold mdioRead
  repeat' first
    | with_reducible assumption
    | with_reducible apply mdioDrive_touch (within_trans (by decide) w)
    | with_reducible apply mdioReadReg_touch (within_trans (by decide) w)
    | with_reducible refine pair_touch ?_ (by assumption)
    | with_reducible refine triple_touch ?_ (by assumption)
    | with_reducible apply countDev_touch (within_trans (by decide) w)
    | with_reducible apply forLPair_touch
    | with_reducible apply foldlPair_touch
    | split

theorem mdioWrite_touch {m s0 a0 a1 a2 a3 s} (w : Within 0xfffbfffae7c0 m) (h : Touch m s0 s) : Touch m s0 (mdioWrite a0 a1 a2 a3 s) := by
  unfold mdioWrite
  repeat' first
    | with_reducible assumption
    | with_reducible apply mdioDrive_touch (within_trans (by decide) w)
    | with_reducible apply wakeDoze_touch (within_trans (by decide) w)
    | with_reducible apply countDev_touch (within_trans (by decide) w)
    | with_reducible apply mdioViolation_touch (within_trans (by decide) w)
    | with_reducible refine mdioStop_touch (within_trans (by decide) w) ?_ (by assumption)
    | with_reducible apply pmEv_touch (within_trans (by decide) w)
    | with_reducible apply pathWrite_touch (within_trans (by decide) w)
    | split
    | intro _
    | dsimp only

theorem execMdioAddress_touch {m s0 a0 a1 a2 a3 s} (w : Within 0x400000000400 m) (h : Touch m s0 s) :
    OutTouch m s0 (execMdioAddress a0 a1 a2 a3 s) := by
  unfold execMdioAddress
  refine outTouch ?_
  repeat' first
    | with_reducible assumption
    | with_reducible apply mdioDrive_touch (within_trans (by decide) w)
    | with_reducible apply setMdioReg_touch (within_trans (by decide) w)
    | with_reducible apply countDev_touch (within_trans (by decide) w)
    | split

theorem execMdioRead_touch {m s0 a0 a1 a2 s} (w : Within 0xfff89a028780 m) (h : Touch m s0 s) : OutTouch m s0 (execMdioRead a0 a1 a2 s) := by
  unfold execMdioRead
  refine outTouch ?_
  repeat' first
    | with_reducible assumption
    | with_reducible apply mdioRead_touch (within_trans (by decide) w)

theorem execPostReadIncrementAddress_touch {m s0 a0 a1 a2 s} (w : Within 0xfff89a028780 m) (h : Touch m s0 s) :
    OutTouch m s0 (execPostReadIncrementAddress a0 a1 a2 s) := by
  unfold execPostReadIncrementAddress
  refine outTouch ?_
  repeat' first
    | with_reducible assumption
    | with_reducible apply mdioDrive_touch (within_trans (by decide) w)
    | with_reducible apply setMdioReg_touch (within_trans (by decide) w)
    | with_reducible apply mdioRead_touch (within_trans (by decide) w)
    | split

theorem windowRead_touch {m s0 a0 s} (w : Within 0x200802000380 m) (h : Touch m s0 s) : Touch m s0 (windowRead a0 s) := by
  unfold windowRead
  repeat' first
    | with_reducible assumption
    | with_reducible apply cpReadWord_touch (within_trans (by decide) w)
    | split

theorem windowWrite_touch {m s0 a0 a1 s} (w : Within 0xfffbffdae3c0 m) (h : Touch m s0 s) : Touch m s0 (windowWrite a0 a1 s) := by
  unfold windowWrite
  repeat' first
    | with_reducible assumption
    | with_reducible apply pmEv_touch (within_trans (by decide) w)
    | with_reducible apply pathWrite_touch (within_trans (by decide) w)
    | split

theorem readAccess_touch {m s0 a0 s} (w : Within 0xfff89a028780 m) (h : Touch m s0 s) : Touch m s0 (readAccess a0 s) := by
  unfold readAccess
  repeat' first
    | with_reducible assumption
    | with_reducible apply windowRead_touch (within_trans (by decide) w)
    | with_reducible apply mdioRead_touch (within_trans (by decide) w)
    | split

theorem writeAccess_touch {m s0 a0 a1 s} (w : Within 0xfffbfffae7c0 m) (h : Touch m s0 s) : Touch m s0 (writeAccess a0 a1 s) := by
  unfold writeAccess
  repeat' first
    | with_reducible assumption
    | with_reducible apply windowWrite_touch (within_trans (by decide) w)
    | with_reducible apply mdioWrite_touch (within_trans (by decide) w)
    | split

theorem execRegisterWrite_touch {m s0 a0 a1 s} (w : Within 0xfffbfffae7c0 m) (h : Touch m s0 s) : OutTouch m s0 (execRegisterWrite a0 a1 s) := by
  unfold execRegisterWrite
  refine outTouch ?_
  repeat' first
    | with_reducible assumption
    | with_reducible apply writeAccess_touch (within_trans (by decide) w)

theorem execLatchingRead_touch {m s0 a0 s} (w : Within 0xfff89a028780 m) (h : Touch m s0 s) : OutTouch m s0 (execLatchingRead a0 s) := by
  unfold execLatchingRead
  refine outTouch ?_
  repeat' first
    | with_reducible assumption
    | with_reducible apply readAccess_touch (within_trans (by decide) w)

theorem execMultiwordWriteCommit_touch {m s0 a0 a1 s} (w : Within 0xfffbfffae7c0 m) (h : Touch m s0 s) :
    OutTouch m s0 (execMultiwordWriteCommit a0 a1 s) := by
  unfold execMultiwordWriteCommit
  refine outTouch ?_
  repeat' first
    | with_reducible assumption
    | with_reducible apply writeAccess_touch (within_trans (by decide) w)

theorem execLinkStatusRead_touch {m s0 a0 s} (w : Within 0xfff89a028780 m) (h : Touch m s0 s) : OutTouch m s0 (execLinkStatusRead a0 s) := by
  unfold execLinkStatusRead
  refine outTouch ?_
  repeat' first
    | with_reducible assumption
    | with_reducible apply readAccess_touch (within_trans (by decide) w)

theorem execPortLowPower_touch {m s0 a0 a1 a2 s} (w : Within 0xfffbffdae3c0 m) (h : Touch m s0 s) : OutTouch m s0 (execPortLowPower a0 a1 a2 s) := by
  unfold execPortLowPower
  refine outTouch ?_
  repeat' first
    | with_reducible assumption
    | with_reducible apply windowWrite_touch (within_trans (by decide) w)

theorem execRestartAutoNegotiation_touch {m s0 a0 s} (w : Within 0xfffbffdae3c0 m) (h : Touch m s0 s) :
    OutTouch m s0 (execRestartAutoNegotiation a0 s) := by
  unfold execRestartAutoNegotiation
  refine outTouch ?_
  repeat' first
    | with_reducible assumption
    | with_reducible apply windowWrite_touch (within_trans (by decide) w)

theorem execTsPop_touch {m s0 a0 s} (w : Within 0xfffbffdae3c0 m) (h : Touch m s0 s) : OutTouch m s0 (execTsPop a0 s) := by
  unfold execTsPop
  refine outTouch ?_
  repeat' first
    | with_reducible assumption
    | with_reducible apply windowWrite_touch (within_trans (by decide) w)

theorem execHlCtrlEnableWrite_touch {m s0 a0 a1 s} (w : Within 0xfffbffdae3c0 m) (h : Touch m s0 s) :
    OutTouch m s0 (execHlCtrlEnableWrite a0 a1 s) := by
  unfold execHlCtrlEnableWrite
  refine outTouch ?_
  repeat' first
    | with_reducible assumption
    | with_reducible apply windowWrite_touch (within_trans (by decide) w)

theorem putItem_touch {m s0 a0 a1 s} (w : Within 0x800000000000 m) (h : Touch m s0 s) : Touch m s0 (putItem a0 a1 s) := by
  unfold putItem
  repeat' first
    | with_reducible assumption
    | with_reducible refine wrRegP_touch (within_trans (by decide) w) ?_

theorem notchClear_touch {m s0 a0 a1 s} (w : Within 0x800802000000 m) (h : Touch m s0 s) : Touch m s0 (notchClear a0 a1 s) := by
  unfold notchClear
  repeat' first
    | with_reducible assumption
    | with_reducible apply sendMsg_touch (within_trans (by decide) w)
    | with_reducible apply addNeed_touch (within_trans (by decide) w)
    | with_reducible apply whenB_touch
    | split
    | intro _
    | dsimp only

theorem cfgAction_touch {m s0 a0 a1 s} (w : Within 0x800000000000 m) (h : Touch m s0 s) : Touch m s0 (cfgAction a0 a1 s) := by
  unfold cfgAction
  repeat' first
    | with_reducible assumption
    | with_reducible apply wrP_touch (within_trans (by decide) w)
    | split

theorem applyCfg_touch {m s0 a0 a1 s} (w : Within 0xc08837028000 m) (h : Touch m s0 s) : Touch m s0 (applyCfg a0 a1 s) := by
  unfold applyCfg
  repeat' first
    | with_reducible assumption
    | with_reducible apply putItem_touch (within_trans (by decide) w)
    | with_reducible apply restoreModes_touch (within_trans (by decide) w)
    | with_reducible apply rateCheck_touch (within_trans (by decide) w)
    | with_reducible apply updateRateReason_touch (within_trans (by decide) w)
    | with_reducible apply notchClear_touch (within_trans (by decide) w)
    | with_reducible apply enableChange_touch (within_trans (by decide) w)
    | with_reducible apply cfgAction_touch (within_trans (by decide) w)
    | with_reducible apply retrainPort_touch (within_trans (by decide) w)
    | with_reducible apply forL_touch
    | with_reducible apply whenB_touch
    | split
    | intro _

theorem cfgDue_touch {m s0 a0 s} (w : Within 0xc08837028000 m) (h : Touch m s0 s) : Touch m s0 (cfgDue a0 s) := by
  unfold cfgDue
  repeat' first
    | with_reducible assumption
    | with_reducible apply applyCfg_touch (within_trans (by decide) w)
    | with_reducible apply modPort_touch (within_trans (by decide) w)
    | with_reducible apply forL_touch
    | intro _

theorem portConfigPlan_touch {m a0 a1 s} (w : Within 0xd088bf028000 m) : PlanTouch m (portConfigPlan a0 a1 s) := by
  unfold portConfigPlan
  repeat' first
    | with_reducible assumption
    | with_reducible apply firstOf_touch
    | with_reducible apply checksT_cons
    | with_reducible exact checksT_nil
    | with_reducible apply chk_touch
    | with_reducible exact bad_touch
    | with_reducible exact gated_touch
    | with_reducible exact inAudit_touch (within_trans (by decide) w)
    | with_reducible exact busyIf_touch (within_trans (by decide) w)
    | with_reducible apply checksT_append
    | with_reducible exact done_id_touch
    | with_reducible apply done_touch
    | with_reducible apply cfgDue_touch (within_trans (by decide) w)
    | with_reducible apply askCaps_touch (within_trans (by decide) w)
    | with_reducible apply modPort_touch (within_trans (by decide) w)
    | split
    | intro _

theorem opPortConfig_touch {m} (w : Within 0xd088bf028000 m) :
    OpTouch m opPortConfig := ⟨fun c r s => portConfigPlan_touch w (a0 := c) (a1 := r) (s := s)⟩

theorem execPortConfig_touch {m s0 a0 s} (w : Within 0xfaa8bf22f800 m) (h : Touch m s0 s) : OutTouch m s0 (execPortConfig a0 s) :=
  runOpcode_touch (within_trans (by decide) w) (opPortConfig_touch (within_trans (by decide) w)) h

theorem execPortConfigApply_touch {m s0 a0 s} (w : Within 0xc08837028000 m) (h : Touch m s0 s) : OutTouch m s0 (execPortConfigApply a0 s) := by
  unfold execPortConfigApply
  refine outTouch ?_
  repeat' first
    | with_reducible assumption
    | with_reducible apply cfgDue_touch (within_trans (by decide) w)

theorem portStatePlan_touch {m a0 a1 s} (w : Within 0xd0889a028000 m) : PlanTouch m (portStatePlan a0 a1 s) := by
  unfold portStatePlan
  repeat' first
    | with_reducible assumption
    | with_reducible apply firstOf_touch
    | with_reducible apply checksT_cons
    | with_reducible exact checksT_nil
    | with_reducible exact bad_touch
    | with_reducible exact gated_touch
    | with_reducible exact inAudit_touch (within_trans (by decide) w)
    | with_reducible exact done_id_touch

theorem opPortState_touch {m} (w : Within 0xd0889a028000 m) :
    OpTouch m opPortState := ⟨fun c r s => portStatePlan_touch w (a0 := c) (a1 := r) (s := s)⟩

theorem execPortState_touch {m s0 a0 s} (w : Within 0xfaa89a22f800 m) (h : Touch m s0 s) : OutTouch m s0 (execPortState a0 s) :=
  runOpcode_touch (within_trans (by decide) w) (opPortState_touch (within_trans (by decide) w)) h

theorem applyRetrain_touch {m s0 a0 a1 s} (w : Within 0xc08817028000 m) (h : Touch m s0 s) : Touch m s0 (applyRetrain a0 a1 s) := by
  unfold applyRetrain
  repeat' first
    | with_reducible assumption
    | with_reducible apply restoreModes_touch (within_trans (by decide) w)
    | with_reducible apply endRetrain_touch (within_trans (by decide) w)
    | with_reducible apply retrainPort_touch (within_trans (by decide) w)
    | with_reducible apply modPort_touch (within_trans (by decide) w)
    | with_reducible apply endOp_touch (within_trans (by decide) w)
    | split
    | intro _
    | dsimp only

theorem retrainDue_touch {m s0 a0 s} (w : Within 0xc08817028000 m) (h : Touch m s0 s) : Touch m s0 (retrainDue a0 s) := by
  unfold retrainDue
  repeat' first
    | with_reducible assumption
    | with_reducible apply applyRetrain_touch (within_trans (by decide) w)
    | with_reducible apply modPort_touch (within_trans (by decide) w)
    | with_reducible apply forL_touch
    | split
    | intro _

theorem portRetrainPlan_touch {m a0 a1 s} (w : Within 0xd0889f038000 m) : PlanTouch m (portRetrainPlan a0 a1 s) := by
  unfold portRetrainPlan
  repeat' first
    | with_reducible assumption
    | with_reducible apply firstOf_touch
    | with_reducible apply checksT_cons
    | with_reducible exact checksT_nil
    | with_reducible apply chk_touch
    | with_reducible exact bad_touch
    | with_reducible exact gated_touch
    | with_reducible exact inAudit_touch (within_trans (by decide) w)
    | with_reducible apply checksT_append
    | with_reducible exact done_id_touch
    | with_reducible apply done_touch
    | with_reducible apply Plan_long_touch (within_trans (by decide) w)
    | with_reducible apply retrainDue_touch (within_trans (by decide) w)
    | with_reducible apply modPort_touch (within_trans (by decide) w)
    | split
    | intro _

theorem opPortRetrain_touch {m} (w : Within 0xd0889f038000 m) :
    OpTouch m opPortRetrain := ⟨fun c r s => portRetrainPlan_touch w (a0 := c) (a1 := r) (s := s)⟩

theorem execPortRetrain_touch {m s0 a0 s} (w : Within 0xfaa89f23f800 m) (h : Touch m s0 s) : OutTouch m s0 (execPortRetrain a0 s) :=
  runOpcode_touch (within_trans (by decide) w) (opPortRetrain_touch (within_trans (by decide) w)) h

theorem retrainAbort_touch {m s0 a0 s} (w : Within 0x400002028000 m) (h : Touch m s0 s) : Touch m s0 (retrainAbort a0 s) := by
  unfold retrainAbort
  repeat' first
    | with_reducible assumption
    | with_reducible apply modPort_touch (within_trans (by decide) w)
    | with_reducible apply endOp_touch (within_trans (by decide) w)
    | with_reducible apply forL_touch
    | split
    | intro _

theorem diagAbort_touch {m s0 a0 s} (w : Within 0x400220028000 m) (h : Touch m s0 s) : Touch m s0 (diagAbort a0 s) := by
  unfold diagAbort
  repeat' first
    | with_reducible assumption
    | with_reducible apply captureCut_touch (within_trans (by decide) w)
    | with_reducible apply diagEnd_touch (within_trans (by decide) w)
    | split

theorem laneTrainAbort_touch {m s0 a0 s} (w : Within 0x400008028000 m) (h : Touch m s0 s) : Touch m s0 (laneTrainAbort a0 s) := by
  unfold laneTrainAbort
  repeat' first
    | with_reducible assumption
    | with_reducible apply modLane_touch (within_trans (by decide) w)
    | with_reducible apply endOp_touch (within_trans (by decide) w)
    | with_reducible apply forL_touch
    | split
    | intro _

theorem abortNow_touch {m s0 a0 s} (w : Within 0xfffa7a628000 m) (h : Touch m s0 s) : Touch m s0 (abortNow a0 s) := by
  unfold abortNow
  repeat' first
    | with_reducible assumption
    | with_reducible apply retrainAbort_touch (within_trans (by decide) w)
    | with_reducible apply surveyAbort_touch (within_trans (by decide) w)
    | with_reducible apply diagAbort_touch (within_trans (by decide) w)
    | with_reducible apply calAbort_touch (within_trans (by decide) w)
    | with_reducible apply levelAbort_touch (within_trans (by decide) w)
    | with_reducible apply sleepCancel_touch (within_trans (by decide) w)
    | with_reducible apply laneTrainAbort_touch (within_trans (by decide) w)
    | split

theorem opAbortPlan_touch {m a0 a1 s} (w : Within 0xfffa7a628000 m) : PlanTouch m (opAbortPlan a0 a1 s) := by
  unfold opAbortPlan
  repeat' first
    | with_reducible assumption
    | with_reducible apply firstOf_touch
    | with_reducible apply checksT_cons
    | with_reducible exact checksT_nil
    | with_reducible apply chk_touch
    | with_reducible exact bad_touch
    | with_reducible exact done_id_touch
    | with_reducible apply done_touch
    | with_reducible exact refuse_touch
    | with_reducible apply abortNow_touch (within_trans (by decide) w)
    | with_reducible apply modOp_touch (within_trans (by decide) w)
    | split
    | intro _

theorem opOpAbort_touch {m} (w : Within 0xfffa7a628000 m) : OpTouch m opOpAbort := ⟨fun c r s => opAbortPlan_touch w (a0 := c) (a1 := r) (s := s)⟩

theorem execOpAbort_touch {m s0 a0 s} (w : Within 0xfffa7a62f800 m) (h : Touch m s0 s) : OutTouch m s0 (execOpAbort a0 s) :=
  runOpcode_touch (within_trans (by decide) w) (opOpAbort_touch (within_trans (by decide) w)) h

theorem execTellerResync_touch {m s0 s} (w : Within 0x2800000800 m) (h : Touch m s0 s) : OutTouch m s0 (execTellerResync s) := by
  unfold execTellerResync
  refine outTouch ?_
  repeat' first
    | with_reducible assumption
    | with_reducible apply tellerCheck_touch (within_trans (by decide) w)
    | with_reducible apply forL_touch
    | split
    | intro _

theorem execTimeCompare_touch {m s0 a0 s} (w : Within 0xfc8877228000 m) (h : Touch m s0 s) : OutTouch m s0 (execTimeCompare a0 s) := by
  unfold execTimeCompare
  refine outTouch ?_
  repeat' first
    | with_reducible assumption
    | with_reducible apply levelStart_touch (within_trans (by decide) w)
    | with_reducible apply commitDueCal_touch (within_trans (by decide) w)
    | with_reducible apply substDue_touch (within_trans (by decide) w)
    | with_reducible apply retrainDue_touch (within_trans (by decide) w)
    | with_reducible apply cfgDue_touch (within_trans (by decide) w)

theorem boundaryTick_touch {m s0 s} (w : Within 0x400002400000 m) (h : Touch m s0 s) : Touch m s0 (boundaryTick s) := by
  unfold boundaryTick
  repeat' first
    | with_reducible assumption
    | with_reducible apply countDev_touch (within_trans (by decide) w)
    | exact touchUpd w h (by rfl) (by rfl) (by rfl) (by rfl) (by rfl)
        (fun q e => by cases q <;> first | exact absurd e (by decide) | rfl | exact fun _ _ => rfl)

theorem boundaryPort_touch {m s0 a0 s} (w : Within 0xc1c837428000 m) (h : Touch m s0 s) : Touch m s0 (boundaryPort a0 s) := by
  unfold boundaryPort
  repeat' first
    | with_reducible assumption
    | with_reducible apply phaseDue_touch (within_trans (by decide) w)
    | with_reducible apply phaseStep_touch (within_trans (by decide) w)
    | with_reducible apply modTr_touch (within_trans (by decide) w)
    | with_reducible apply retrainDue_touch (within_trans (by decide) w)
    | with_reducible apply cfgDue_touch (within_trans (by decide) w)
    | split

theorem stage1_touch {m s0 a0 a1} (w : Within 0xf08a4e028000 m) (h : Touch m s0 a1.2) : Touch m s0 (stage1 a0 a1).2 := by
  unfold stage1
  repeat' first
    | with_reducible assumption
    | with_reducible apply fallbackStage_touch (within_trans (by decide) w)
    | with_reducible refine pair_touch ?_ (by assumption)
    | with_reducible refine triple_touch ?_ (by assumption)
    | with_reducible apply driftRevert_touch (within_trans (by decide) w)
    | with_reducible apply commitDueCal_touch (within_trans (by decide) w)
    | with_reducible apply calBoundary_touch (within_trans (by decide) w)
    | with_reducible apply substDue_touch (within_trans (by decide) w)

theorem stage4_touch {m s0 s} (w : Within 0xe04012028000 m) (h : Touch m s0 s) : Touch m s0 (stage4 s) := by
  unfold stage4
  repeat' first
    | with_reducible assumption
    | with_reducible apply commitDue_touch (within_trans (by decide) w)
    | with_reducible apply chDormant_touch (within_trans (by decide) w)
    | with_reducible apply forL_touch
    | intro _

theorem stage5_touch {m s0 a0 a1} (w : Within 0xc08202028000 m) (h : Touch m s0 a1.2) : Touch m s0 (stage5 a0 a1).2 := by
  unfold stage5
  repeat' first
    | with_reducible assumption
    | with_reducible apply loadingStage_touch (within_trans (by decide) w)
    | with_reducible refine pair_touch ?_ (by assumption)
    | with_reducible refine triple_touch ?_ (by assumption)
    | with_reducible apply serviceDue_touch (within_trans (by decide) w)

theorem boundaryEnd_touch {m s0 a0 s} (w : Within 0xc00802000000 m) (h : Touch m s0 s) : Touch m s0 (boundaryEnd a0 s) := by
  unfold boundaryEnd
  repeat' first
    | with_reducible assumption
    | with_reducible apply shutterDue_touch (within_trans (by decide) w)
    | with_reducible apply answerNext_touch (within_trans (by decide) w)
    | with_reducible apply rateCheck_touch (within_trans (by decide) w)

theorem surveyRoll_touch {m s0 s} (w : Within 0x404010028000 m) (h : Touch m s0 s) : Touch m s0 (surveyRoll s) := by
  unfold surveyRoll
  repeat' first
    | with_reducible assumption
    | with_reducible apply surveyStep_touch (within_trans (by decide) w)
    | split

theorem boundary_touch {m s0 a0 s} (w : Within 0xfdca7f628000 m) (h : Touch m s0 s) : Touch m s0 (boundary a0 s) := by
  unfold boundary
  repeat' first
    | with_reducible assumption
    | with_reducible apply surveyRoll_touch (within_trans (by decide) w)
    | with_reducible apply boundaryPort_touch (within_trans (by decide) w)
    | with_reducible apply boundaryTick_touch (within_trans (by decide) w)
    | with_reducible apply stage1_touch (within_trans (by decide) w)
    | with_reducible refine pair_touch ?_ (by assumption)
    | with_reducible refine triple_touch ?_ (by assumption)
    | with_reducible apply commitDue_touch (within_trans (by decide) w)
    | with_reducible apply stage5_touch (within_trans (by decide) w)
    | with_reducible apply stage4_touch (within_trans (by decide) w)
    | with_reducible apply takeMeas_touch (within_trans (by decide) w)
    | with_reducible apply rateSteps_touch (within_trans (by decide) w)
    | with_reducible apply levelStart_touch (within_trans (by decide) w)
    | with_reducible apply boundaryEnd_touch (within_trans (by decide) w)
    | with_reducible apply forLPair_touch
    | with_reducible apply foldlPair_touch
    | with_reducible apply forL_touch
    | intro _

theorem execSuperframeBoundary_touch {m s0 a0 s} (w : Within 0xfdca7f628000 m) (h : Touch m s0 s) : OutTouch m s0 (execSuperframeBoundary a0 s) := by
  unfold execSuperframeBoundary
  refine outTouch ?_
  repeat' first
    | with_reducible assumption
    | with_reducible apply boundary_touch (within_trans (by decide) w)
    | split

theorem State_withFetchWord_touch {m s0 s a1 a2} (w : Within 0x1 m) (h : Touch m s0 s) : Touch m s0 (State.withFetchWord s a1 a2) := by
  unfold State.withFetchWord
  repeat' first
    | with_reducible assumption
    | exact touchUpd w h (by rfl) (by rfl) (by rfl) (by rfl) (by rfl)
        (fun q e => by cases q <;> first | exact absurd e (by decide) | rfl | exact fun _ _ => rfl)

/-- A command changes at most the parts that `changes` names. -/
theorem exec_touch {i s0 s} (h : Touch (pieceMask (changes i)) s0 s) : OutTouch (pieceMask (changes i)) s0 (exec i s) := by
  cases i with
  | powerOnReset => exact execPowerOnReset_touch (by dsimp only [changes]; decide) h
  | powerOnResetRelease _ => exact execPowerOnResetRelease_touch (by dsimp only [changes]; decide) h
  | resetNAssert => exact execResetNAssert_touch (by dsimp only [changes]; decide) h
  | resetNRelease _ => exact execResetNRelease_touch (by dsimp only [changes]; decide) h
  | warmReset => exact execWarmReset_touch (by dsimp only [changes]; decide) h
  | lockstepFault => exact execLockstepFault_touch (by dsimp only [changes]; decide) h
  | watchdogExpiry => exact execWatchdogExpiry_touch (by dsimp only [changes]; decide) h
  | perPortReset _ => exact execPerPortReset_touch (by dsimp only [changes]; decide) h
  | softReset _ => exact execSoftReset_touch (by dsimp only [changes]; decide) h
  | iroValid => exact execIroValid_touch (by dsimp only [changes]; decide) h
  | refclkValid => exact execRefclkValid_touch (by dsimp only [changes]; decide) h
  | iroMeasured _ => exact execIroMeasured_touch (by dsimp only [changes]; decide) h
  | pllReady _ => exact execPllReady_touch (by dsimp only [changes]; decide) h
  | powerupCalibration _ _ _ => exact execPowerupCalibration_touch (by dsimp only [changes]; decide) h
  | refclkLost => exact execRefclkLost_touch (by dsimp only [changes]; decide) h
  | refclkRange => exact execRefclkRange_touch (by dsimp only [changes]; decide) h
  | iroRange => exact execIroRange_touch (by dsimp only [changes]; decide) h
  | pllUnlock _ _ => exact execPllUnlock_touch (by dsimp only [changes]; decide) h
  | safeRelease => exact execSafeRelease_touch (by dsimp only [changes]; decide) h
  | release => exact execRelease_touch (by dsimp only [changes]; decide) h
  | clkSwitchGo _ => exact execClkSwitchGo_touch (by dsimp only [changes]; decide) h
  | oldClockDead => exact execOldClockDead_touch (by dsimp only [changes]; decide) h
  | clkEnWrite _ => exact execClkEnWrite_touch (by dsimp only [changes]; decide) h
  | clkoutChange _ => exact execClkoutChange_touch (by dsimp only [changes]; decide) h
  | vddCoreWarning => exact execVddCoreWarning_touch (by dsimp only [changes]; decide) h
  | railWarning _ => exact execRailWarning_touch (by dsimp only [changes]; decide) h
  | warningEnd _ => exact execWarningEnd_touch (by dsimp only [changes]; decide) h
  | railResetLevel _ => exact execRailResetLevel_touch (by dsimp only [changes]; decide) h
  | vddAonLoss => exact execVddAonLoss_touch (by dsimp only [changes]; decide) h
  | write _ => exact execWrite_touch (by dsimp only [changes]; decide) h
  | read _ => exact execRead_touch (by dsimp only [changes]; decide) h
  | poll => exact execPoll_touch (by dsimp only [changes]; decide) h
  | transactionIgnored _ => exact execTransactionIgnored_touch (by dsimp only [changes]; decide) h
  | hello _ => exact execHello_touch (by dsimp only [changes]; decide) h
  | sessionOpen _ => exact execSessionOpen_touch (by dsimp only [changes]; decide) h
  | sessionClose _ => exact execSessionClose_touch (by dsimp only [changes]; decide) h
  | sessionIdleTimeout _ => exact execSessionIdleTimeout_touch (by dsimp only [changes]; decide) h
  | provisionalHandleExpiry => exact execProvisionalHandleExpiry_touch (by dsimp only [changes]; decide) h
  | holdoffExpiry _ => exact execHoldoffExpiry_touch (by dsimp only [changes]; decide) h
  | readReg _ => exact execReadReg_touch (by dsimp only [changes]; decide) h
  | writeReg _ => exact execWriteReg_touch (by dsimp only [changes]; decide) h
  | readBlock _ => exact execReadBlock_touch (by dsimp only [changes]; decide) h
  | portConfig _ => exact execPortConfig_touch (by dsimp only [changes]; decide) h
  | portConfigApply _ => exact execPortConfigApply_touch (by dsimp only [changes]; decide) h
  | portState _ => exact execPortState_touch (by dsimp only [changes]; decide) h
  | portRetrain _ => exact execPortRetrain_touch (by dsimp only [changes]; decide) h
  | portRate _ => exact execPortRate_touch (by dsimp only [changes]; decide) h
  | surveyStart _ => exact execSurveyStart_touch (by dsimp only [changes]; decide) h
  | bankStatus _ => exact execBankStatus_touch (by dsimp only [changes]; decide) h
  | bankPolicy _ => exact execBankPolicy_touch (by dsimp only [changes]; decide) h
  | diagStart _ => exact execDiagStart_touch (by dsimp only [changes]; decide) h
  | diagResult _ => exact execDiagResult_touch (by dsimp only [changes]; decide) h
  | calRun _ => exact execCalRun_touch (by dsimp only [changes]; decide) h
  | calRecordGet _ => exact execCalRecordGet_touch (by dsimp only [changes]; decide) h
  | calRecordPut _ => exact execCalRecordPut_touch (by dsimp only [changes]; decide) h
  | calCommit _ => exact execCalCommit_touch (by dsimp only [changes]; decide) h
  | auditConfig _ => exact execAuditConfig_touch (by dsimp only [changes]; decide) h
  | auditResult _ => exact execAuditResult_touch (by dsimp only [changes]; decide) h
  | timeAdjust _ => exact execTimeAdjust_touch (by dsimp only [changes]; decide) h
  | timeAck _ => exact execTimeAck_touch (by dsimp only [changes]; decide) h
  | launchCtxSet _ => exact execLaunchCtxSet_touch (by dsimp only [changes]; decide) h
  | powerLevel _ => exact execPowerLevel_touch (by dsimp only [changes]; decide) h
  | sleep _ => exact execSleep_touch (by dsimp only [changes]; decide) h
  | padRelease _ => exact execPadRelease_touch (by dsimp only [changes]; decide) h
  | clockSelect _ => exact execClockSelect_touch (by dsimp only [changes]; decide) h
  | counterConfig _ => exact execCounterConfig_touch (by dsimp only [changes]; decide) h
  | samplerConfig _ => exact execSamplerConfig_touch (by dsimp only [changes]; decide) h
  | ledgerRead _ => exact execLedgerRead_touch (by dsimp only [changes]; decide) h
  | ledgerDrainAck _ => exact execLedgerDrainAck_touch (by dsimp only [changes]; decide) h
  | opQuery _ => exact execOpQuery_touch (by dsimp only [changes]; decide) h
  | opAbort _ => exact execOpAbort_touch (by dsimp only [changes]; decide) h
  | imageLoad _ => exact execImageLoad_touch (by dsimp only [changes]; decide) h
  | imageActivate _ => exact execImageActivate_touch (by dsimp only [changes]; decide) h
  | signatureVerified => exact execSignatureVerified_touch (by dsimp only [changes]; decide) h
  | imageStart => exact execImageStart_touch (by dsimp only [changes]; decide) h
  | laneTrain _ => exact execLaneTrain_touch (by dsimp only [changes]; decide) h
  | laneTest _ => exact execLaneTest_touch (by dsimp only [changes]; decide) h
  | deviceReset _ => exact execDeviceReset_touch (by dsimp only [changes]; decide) h
  | profileSelect _ => exact execProfileSelect_touch (by dsimp only [changes]; decide) h
  | vaultProgram _ => exact execVaultProgram_touch (by dsimp only [changes]; decide) h
  | vaultWordBurn _ => exact execVaultWordBurn_touch (by dsimp only [changes]; decide) h
  | scanEn => exact execScanEn_touch (by dsimp only [changes]; decide) h
  | boundaryScanInstruction _ => exact execBoundaryScanInstruction_touch (by dsimp only [changes]; decide) h
  | boundaryScanExit => exact execBoundaryScanExit_touch (by dsimp only [changes]; decide) h
  | tellerResync => exact execTellerResync_touch (by dsimp only [changes]; decide) h
  | registerWrite _ _ => exact execRegisterWrite_touch (by dsimp only [changes]; decide) h
  | latchingRead _ => exact execLatchingRead_touch (by dsimp only [changes]; decide) h
  | multiwordWriteCommit _ _ => exact execMultiwordWriteCommit_touch (by dsimp only [changes]; decide) h
  | linkStatusRead _ => exact execLinkStatusRead_touch (by dsimp only [changes]; decide) h
  | mdioAddress _ _ _ _ => exact execMdioAddress_touch (by dsimp only [changes]; decide) h
  | postReadIncrementAddress _ _ _ => exact execPostReadIncrementAddress_touch (by dsimp only [changes]; decide) h
  | portLowPower _ _ _ => exact execPortLowPower_touch (by dsimp only [changes]; decide) h
  | restartAutoNegotiation _ => exact execRestartAutoNegotiation_touch (by dsimp only [changes]; decide) h
  | tsPop _ => exact execTsPop_touch (by dsimp only [changes]; decide) h
  | hlCtrlEnableWrite _ _ => exact execHlCtrlEnableWrite_touch (by dsimp only [changes]; decide) h
  | anPage _ _ => exact execAnPage_touch (by dsimp only [changes]; decide) h
  | flpBurstSend _ => exact execFlpBurstSend_touch (by dsimp only [changes]; decide) h
  | anComplete _ _ => exact execAnComplete_touch (by dsimp only [changes]; decide) h
  | linkFailInhibitExpiry _ => exact execLinkFailInhibitExpiry_touch (by dsimp only [changes]; decide) h
  | noLineEnergy _ => exact execNoLineEnergy_touch (by dsimp only [changes]; decide) h
  | pcsLinkDown _ _ => exact execPcsLinkDown_touch (by dsimp only [changes]; decide) h
  | handshakeDetectorFire _ _ _ => exact execHandshakeDetectorFire_touch (by dsimp only [changes]; decide) h
  | handshakeConfirmTimeout _ _ _ => exact execHandshakeConfirmTimeout_touch (by dsimp only [changes]; decide) h
  | handshakeBurst _ _ => exact execHandshakeBurst_touch (by dsimp only [changes]; decide) h
  | slaveBurst _ => exact execSlaveBurst_touch (by dsimp only [changes]; decide) h
  | partnerSilent _ => exact execPartnerSilent_touch (by dsimp only [changes]; decide) h
  | firstBurstTimeout _ => exact execFirstBurstTimeout_touch (by dsimp only [changes]; decide) h
  | listenWindow _ => exact execListenWindow_touch (by dsimp only [changes]; decide) h
  | listenTdr _ _ _ => exact execListenTdr_touch (by dsimp only [changes]; decide) h
  | phaseLimit _ => exact execPhaseLimit_touch (by dsimp only [changes]; decide) h
  | phaseMismatch _ => exact execPhaseMismatch_touch (by dsimp only [changes]; decide) h
  | trainingDeadline _ => exact execTrainingDeadline_touch (by dsimp only [changes]; decide) h
  | trainingPhaseChange _ => exact execTrainingPhaseChange_touch (by dsimp only [changes]; decide) h
  | cancellerConverged _ => exact execCancellerConverged_touch (by dsimp only [changes]; decide) h
  | tParams _ _ _ _ _ _ => exact execTParams_touch (by dsimp only [changes]; decide) h
  | tAlign _ _ _ _ => exact execTAlign_touch (by dsimp only [changes]; decide) h
  | tReady _ _ _ => exact execTReady_touch (by dsimp only [changes]; decide) h
  | tNext _ _ _ _ => exact execTNext_touch (by dsimp only [changes]; decide) h
  | tPairs _ _ _ => exact execTPairs_touch (by dsimp only [changes]; decide) h
  | tLoading _ _ _ => exact execTLoading_touch (by dsimp only [changes]; decide) h
  | tConfirm _ _ => exact execTConfirm_touch (by dsimp only [changes]; decide) h
  | tGo _ _ _ => exact execTGo_touch (by dsimp only [changes]; decide) h
  | tAbort _ _ => exact execTAbort_touch (by dsimp only [changes]; decide) h
  | discoveryMeasured _ _ => exact execDiscoveryMeasured_touch (by dsimp only [changes]; decide) h
  | pairCheckRetry _ _ => exact execPairCheckRetry_touch (by dsimp only [changes]; decide) h
  | joinRampStep _ => exact execJoinRampStep_touch (by dsimp only [changes]; decide) h
  | joinLate _ => exact execJoinLate_touch (by dsimp only [changes]; decide) h
  | loadingMeasured _ _ => exact execLoadingMeasured_touch (by dsimp only [changes]; decide) h
  | loadingRemeasure _ _ => exact execLoadingRemeasure_touch (by dsimp only [changes]; decide) h
  | serviceEntry _ => exact execServiceEntry_touch (by dsimp only [changes]; decide) h
  | superframeBoundary _ => exact execSuperframeBoundary_touch (by dsimp only [changes]; decide) h
  | dtuSlot _ _ => exact execDtuSlot_touch (by dsimp only [changes]; decide) h
  | dtuReceived _ _ _ => exact execDtuReceived_touch (by dsimp only [changes]; decide) h
  | dtuLost _ _ => exact execDtuLost_touch (by dsimp only [changes]; decide) h
  | escrowDiscard _ _ => exact execEscrowDiscard_touch (by dsimp only [changes]; decide) h
  | eocBlock _ _ _ => exact execEocBlock_touch (by dsimp only [changes]; decide) h
  | msgAck _ _ _ => exact execMsgAck_touch (by dsimp only [changes]; decide) h
  | messageResend _ _ _ => exact execMessageResend_touch (by dsimp only [changes]; decide) h
  | version _ _ _ _ x4 x5 x6 x7 => exact execVersion_touch (a4 := x4) (a5 := x5) (a6 := x6) (a7 := x7) (by dsimp only [changes]; decide) h
  | feStatus _ _ => exact execFeStatus_touch (by dsimp only [changes]; decide) h
  | feStatusSend _ _ => exact execFeStatusSend_touch (by dsimp only [changes]; decide) h
  | loadingRequest _ _ _ => exact execLoadingRequest_touch (by dsimp only [changes]; decide) h
  | loadingConfirm _ _ _ _ => exact execLoadingConfirm_touch (by dsimp only [changes]; decide) h
  | loadingConfirmRepeat _ => exact execLoadingConfirmRepeat_touch (by dsimp only [changes]; decide) h
  | loadingReject _ _ _ x3 => exact execLoadingReject_touch (a3 := x3) (by dsimp only [changes]; decide) h
  | loadingNeed _ _ _ _ _ => exact execLoadingNeed_touch (by dsimp only [changes]; decide) h
  | rateNotice _ _ _ _ _ => exact execRateNotice_touch (by dsimp only [changes]; decide) h
  | loadingChangeApply _ => exact execLoadingChangeApply_touch (by dsimp only [changes]; decide) h
  | loadingTrial _ _ _ => exact execLoadingTrial_touch (by dsimp only [changes]; decide) h
  | pairFallback _ _ _ _ _ _ _ => exact execPairFallback_touch (by dsimp only [changes]; decide) h
  | pairFallbackApply _ => exact execPairFallbackApply_touch (by dsimp only [changes]; decide) h
  | shutter _ _ _ _ x4 => exact execShutter_touch (a4 := x4) (by dsimp only [changes]; decide) h
  | feedbackSet _ _ _ _ => exact execFeedbackSet_touch (by dsimp only [changes]; decide) h
  | feedback _ _ x2 _ _ x5 x6 => exact execFeedback_touch (a2 := x2) (a5 := x5) (a6 := x6) (by dsimp only [changes]; decide) h
  | timeMark _ x1 _ _ _ x5 _ _ x8 _ _ => exact execTimeMark_touch (a1 := x1) (a5 := x5) (a8 := x8) (by dsimp only [changes]; decide) h
  | timeMarkSend _ _ _ => exact execTimeMarkSend_touch (by dsimp only [changes]; decide) h
  | timeReport _ x1 _ x3 _ => exact execTimeReport_touch (a1 := x1) (a3 := x3) (by dsimp only [changes]; decide) h
  | ttLost _ => exact execTtLost_touch (by dsimp only [changes]; decide) h
  | seamlessSwap _ _ => exact execSeamlessSwap_touch (by dsimp only [changes]; decide) h
  | stepDown _ _ => exact execStepDown_touch (by dsimp only [changes]; decide) h
  | stepUp _ _ => exact execStepUp_touch (by dsimp only [changes]; decide) h
  | standbyTableSend _ _ _ => exact execStandbyTableSend_touch (by dsimp only [changes]; decide) h
  | fallbackTrigger _ => exact execFallbackTrigger_touch (by dsimp only [changes]; decide) h
  | pairBreak _ _ => exact execPairBreak_touch (by dsimp only [changes]; decide) h
  | fallbackReturn _ => exact execFallbackReturn_touch (by dsimp only [changes]; decide) h
  | elementRetire _ _ _ _ _ => exact execElementRetire_touch (by dsimp only [changes]; decide) h
  | spareSubstitution _ => exact execSpareSubstitution_touch (by dsimp only [changes]; decide) h
  | driftFence _ _ _ _ => exact execDriftFence_touch (by dsimp only [changes]; decide) h
  | driftRevert _ => exact execDriftRevert_touch (by dsimp only [changes]; decide) h
  | degradeHoldExpiry _ => exact execDegradeHoldExpiry_touch (by dsimp only [changes]; decide) h
  | partnerBlockTimeout _ => exact execPartnerBlockTimeout_touch (by dsimp only [changes]; decide) h
  | shutterRequestTrigger _ => exact execShutterRequestTrigger_touch (by dsimp only [changes]; decide) h
  | shutterEntry _ => exact execShutterEntry_touch (by dsimp only [changes]; decide) h
  | refresh _ _ => exact execRefresh_touch (by dsimp only [changes]; decide) h
  | knock _ _ => exact execKnock_touch (by dsimp only [changes]; decide) h
  | knockDetectorFire _ _ _ _ => exact execKnockDetectorFire_touch (by dsimp only [changes]; decide) h
  | knockConfirm _ _ _ _ => exact execKnockConfirm_touch (by dsimp only [changes]; decide) h
  | falseKnock _ _ _ x3 => exact execFalseKnock_touch (a3 := x3) (by dsimp only [changes]; decide) h
  | answer _ _ => exact execAnswer_touch (by dsimp only [changes]; decide) h
  | shutterResume _ _ => exact execShutterResume_touch (by dsimp only [changes]; decide) h
  | knockRetry _ _ => exact execKnockRetry_touch (by dsimp only [changes]; decide) h
  | scheduledWake _ _ => exact execScheduledWake_touch (by dsimp only [changes]; decide) h
  | lpi _ _ => exact execLpi_touch (by dsimp only [changes]; decide) h
  | chWindowEnd _ => exact execChWindowEnd_touch (by dsimp only [changes]; decide) h
  | shadowReady _ _ _ => exact execShadowReady_touch (by dsimp only [changes]; decide) h
  | surveyCommit _ => exact execSurveyCommit_touch (by dsimp only [changes]; decide) h
  | lendingCommit _ => exact execLendingCommit_touch (by dsimp only [changes]; decide) h
  | commitSweep _ => exact execCommitSweep_touch (by dsimp only [changes]; decide) h
  | stagedExpiry _ => exact execStagedExpiry_touch (by dsimp only [changes]; decide) h
  | dormantHoldExpiry _ => exact execDormantHoldExpiry_touch (by dsimp only [changes]; decide) h
  | feedbackTimeout _ => exact execFeedbackTimeout_touch (by dsimp only [changes]; decide) h
  | joinMeasured _ _ => exact execJoinMeasured_touch (by dsimp only [changes]; decide) h
  | bandCheck _ => exact execBandCheck_touch (by dsimp only [changes]; decide) h
  | surveyBatch _ _ => exact execSurveyBatch_touch (by dsimp only [changes]; decide) h
  | surveyRelease => exact execSurveyRelease_touch (by dsimp only [changes]; decide) h
  | diagBegin _ => exact execDiagBegin_touch (by dsimp only [changes]; decide) h
  | activeAcquisition _ _ _ => exact execActiveAcquisition_touch (by dsimp only [changes]; decide) h
  | inputBusy _ => exact execInputBusy_touch (by dsimp only [changes]; decide) h
  | passiveCopy _ _ => exact execPassiveCopy_touch (by dsimp only [changes]; decide) h
  | noiseFloorWindowEnd _ _ _ => exact execNoiseFloorWindowEnd_touch (by dsimp only [changes]; decide) h
  | captureTrigger _ _ => exact execCaptureTrigger_touch (by dsimp only [changes]; decide) h
  | captureFilled _ _ => exact execCaptureFilled_touch (by dsimp only [changes]; decide) h
  | captureTimeout _ => exact execCaptureTimeout_touch (by dsimp only [changes]; decide) h
  | calWindowStart _ => exact execCalWindowStart_touch (by dsimp only [changes]; decide) h
  | calMeasurementDone _ _ => exact execCalMeasurementDone_touch (by dsimp only [changes]; decide) h
  | calInputBusy _ => exact execCalInputBusy_touch (by dsimp only [changes]; decide) h
  | calRetry _ => exact execCalRetry_touch (by dsimp only [changes]; decide) h
  | calCommitApply _ => exact execCalCommitApply_touch (by dsimp only [changes]; decide) h
  | calRampStep _ => exact execCalRampStep_touch (by dsimp only [changes]; decide) h
  | auditStart => exact execAuditStart_touch (by dsimp only [changes]; decide) h
  | sliceEnd _ => exact execSliceEnd_touch (by dsimp only [changes]; decide) h
  | sliceTimeout => exact execSliceTimeout_touch (by dsimp only [changes]; decide) h
  | auditServiceRequest _ => exact execAuditServiceRequest_touch (by dsimp only [changes]; decide) h
  | auditEnd => exact execAuditEnd_touch (by dsimp only [changes]; decide) h
  | levelRaiseSwitch => exact execLevelRaiseSwitch_touch (by dsimp only [changes]; decide) h
  | levelLowerSwitch => exact execLevelLowerSwitch_touch (by dsimp only [changes]; decide) h
  | levelFail => exact execLevelFail_touch (by dsimp only [changes]; decide) h
  | avsReadback _ _ => exact execAvsReadback_touch (by dsimp only [changes]; decide) h
  | avsFail => exact execAvsFail_touch (by dsimp only [changes]; decide) h
  | sleepBlockStop => exact execSleepBlockStop_touch (by dsimp only [changes]; decide) h
  | transferAbort _ _ _ => exact execTransferAbort_touch (by dsimp only [changes]; decide) h
  | dozeWake => exact execDozeWake_touch (by dsimp only [changes]; decide) h
  | retainWake _ => exact execRetainWake_touch (by dsimp only [changes]; decide) h
  | wakePllRelock => exact execWakePllRelock_touch (by dsimp only [changes]; decide) h
  | wakeDomainsPowered => exact execWakeDomainsPowered_touch (by dsimp only [changes]; decide) h
  | anchor => exact execAnchor_touch (by dsimp only [changes]; decide) h
  | slewEnd => exact execSlewEnd_touch (by dsimp only [changes]; decide) h
  | gridRamp _ => exact execGridRamp_touch (by dsimp only [changes]; decide) h
  | timeCompare _ => exact execTimeCompare_touch (by dsimp only [changes]; decide) h
  | launch _ _ _ => exact execLaunch_touch (by dsimp only [changes]; decide) h
  | htxStripe _ => exact execHtxStripe_touch (by dsimp only [changes]; decide) h
  | hrxStripe _ _ => exact execHrxStripe_touch (by dsimp only [changes]; decide) h
  | laneLockLost _ _ => exact execLaneLockLost_touch (by dsimp only [changes]; decide) h
  | hrxControlStripe _ _ => exact execHrxControlStripe_touch (by dsimp only [changes]; decide) h
  | hrxRecord _ _ _ _ => exact execHrxRecord_touch (by dsimp only [changes]; decide) h
  | pauseRepeat _ => exact execPauseRepeat_touch (by dsimp only [changes]; decide) h
  | lineFrame _ _ _ _ _ => exact execLineFrame_touch (by dsimp only [changes]; decide) h
  | noticeTimeout _ => exact execNoticeTimeout_touch (by dsimp only [changes]; decide) h
  | trainFrame _ _ _ => exact execTrainFrame_touch (by dsimp only [changes]; decide) h
  | hrxClockDetect _ => exact execHrxClockDetect_touch (by dsimp only [changes]; decide) h
  | trainFail _ => exact execTrainFail_touch (by dsimp only [changes]; decide) h
  | trainRetry _ => exact execTrainRetry_touch (by dsimp only [changes]; decide) h
  | prbsSync _ _ => exact execPrbsSync_touch (by dsimp only [changes]; decide) h
  | errorInjection _ => exact execErrorInjection_touch (by dsimp only [changes]; decide) h
  | laneTestEnd _ _ _ => exact execLaneTestEnd_touch (by dsimp only [changes]; decide) h
  | counterStart => exact execCounterStart_touch (by dsimp only [changes]; decide) h
  | samplerRecord _ => exact execSamplerRecord_touch (by dsimp only [changes]; decide) h
  | pcsLinkUp _ => exact execPcsLinkUp_touch (by dsimp only [changes]; decide) h
  | fastRetrain _ => exact execFastRetrain_touch (by dsimp only [changes]; decide) h
  | mdioRead _ _ _ => exact execMdioRead_touch (by dsimp only [changes]; decide) h
  | vddFuseChange _ => exact execVddFuseChange_touch (by dsimp only [changes]; decide) h
  | tempNowUpdate _ => exact execTempNowUpdate_touch (by dsimp only [changes]; decide) h
  | pmSampleTick _ => exact execPmSampleTick_touch (by dsimp only [changes]; decide) h

theorem exec_keeps {i : Instr} {s : State} : ∃ t, exec i s = .next t ∧ Keeps s t := by
  obtain ⟨t, e, h⟩ := exec_touch (i := i) (Touch.refl _ s)
  exact ⟨t, e, h.keeps⟩

theorem exec_same {i : Instr} {s t : State} {p : Piece} (e : exec i s = .next t) (hp : p ∉ changes i) : p.same s t := by
  obtain ⟨u, e', h⟩ := exec_touch (i := i) (Touch.refl _ s)
  rw [e'] at e
  cases e
  exact h.same p (by rw [pieceMask_testBit]; exact decide_eq_false hp)

theorem step_keeps {s : State} : ∃ t, step s = .next t ∧ Keeps { s with pending := s.pending.tail } t := by
  unfold step
  cases e : s.pending with
  | nil => exact ⟨s, rfl, by
      have : { s with pending := ([] : List Instr).tail } = s := by rw [List.tail_nil, ← e]
      rw [this]; exact Keeps.refl s⟩
  | cons c rest => exact exec_keeps

end Sys2Proof.Machine
end

