-- ==== Sys2Proof/WellFormed.lean ====
section
/-!
DEFINITION. Well-formed commands: the lengths that the layouts of spec/ give the lists that a command carries. A meaning is total, and answers
an ill-formed command as well; this file says which commands the hardware can bring.
-/
namespace Sys2Proof

/-- LENGTH of a packet is two bytes (R509). -/
def packetOk (c : Packet) : Bool := decide (c.params.length < 65536)

/-- A frame has at least 64 bytes, and at most `n` (R414). -/
def frameOk (n : Nat) (f : List Byte) : Bool := decide (64 ≤ f.length ∧ f.length ≤ n)

/-- Runs of SNR cover at most tones 1..4095 (R219). -/
def snrOk (l : List SnrRun) : Bool := decide ((l.map (·.count)).sum ≤ 4095)

/-- The items of a loading lie within tones 0..4095 (R166). -/
def loadOk (r : LoadReq) : Bool := r.items.all (fun i => decide (i.start.toNat + i.entries.length ≤ 4096))

/-- COUNT of a LOADING_NEED is one byte (R166). -/
def bandsOk (l : List Band) : Bool := decide (l.length < 256)

/-- Four curves of 4,096 bytes (R381). -/
def curvesOk (l : List (List Byte)) : Bool := l.length == 4 && l.all (fun c => c.length == 4096)

/-- A command that the hardware can bring. -/
def Instr.wf : Instr → Bool
  | .powerOnReset => true
  | .powerOnResetRelease _ => true
  | .resetNAssert => true
  | .resetNRelease _ => true
  | .warmReset => true
  | .lockstepFault => true
  | .watchdogExpiry => true
  | .perPortReset _ => true
  | .softReset _ => true
  | .iroValid => true
  | .refclkValid => true
  | .iroMeasured _ => true
  | .pllReady _ => true
  | .powerupCalibration _ _ _ => true
  | .refclkLost => true
  | .refclkRange => true
  | .iroRange => true
  | .pllUnlock _ _ => true
  | .safeRelease => true
  | .release => true
  | .clkSwitchGo _ => true
  | .oldClockDead => true
  | .clkEnWrite _ => true
  | .clkoutChange _ => true
  | .vddCoreWarning => true
  | .railWarning _ => true
  | .warningEnd _ => true
  | .railResetLevel _ => true
  | .vddAonLoss => true
  | .write _ => true
  | .read _ => true
  | .poll => true
  | .transactionIgnored _ => true
  | .hello c => packetOk c
  | .sessionOpen c => packetOk c
  | .sessionClose c => packetOk c
  | .sessionIdleTimeout _ => true
  | .provisionalHandleExpiry => true
  | .holdoffExpiry _ => true
  | .readReg c => packetOk c
  | .writeReg c => packetOk c
  | .readBlock c => packetOk c
  | .portConfig c => packetOk c
  | .portConfigApply _ => true
  | .portState c => packetOk c
  | .portRetrain c => packetOk c
  | .portRate c => packetOk c
  | .surveyStart c => packetOk c
  | .bankStatus c => packetOk c
  | .bankPolicy c => packetOk c
  | .diagStart c => packetOk c
  | .diagResult c => packetOk c
  | .calRun c => packetOk c
  | .calRecordGet c => packetOk c
  | .calRecordPut c => packetOk c
  | .calCommit c => packetOk c
  | .auditConfig c => packetOk c
  | .auditResult c => packetOk c
  | .timeAdjust c => packetOk c
  | .timeAck c => packetOk c
  | .launchCtxSet c => packetOk c
  | .powerLevel c => packetOk c
  | .sleep c => packetOk c
  | .padRelease c => packetOk c
  | .clockSelect c => packetOk c
  | .counterConfig c => packetOk c
  | .samplerConfig c => packetOk c
  | .ledgerRead c => packetOk c
  | .ledgerDrainAck c => packetOk c
  | .opQuery c => packetOk c
  | .opAbort c => packetOk c
  | .imageLoad c => packetOk c
  | .imageActivate c => packetOk c
  | .signatureVerified => true
  | .imageStart => true
  | .laneTrain c => packetOk c
  | .laneTest c => packetOk c
  | .deviceReset c => packetOk c
  | .profileSelect c => packetOk c
  | .vaultProgram c => packetOk c
  | .vaultWordBurn _ => true
  | .scanEn => true
  | .boundaryScanInstruction _ => true
  | .boundaryScanExit => true
  | .tellerResync => true
  | .registerWrite _ _ => true
  | .latchingRead _ => true
  | .multiwordWriteCommit _ _ => true
  | .linkStatusRead _ => true
  | .mdioAddress _ _ _ _ => true
  | .postReadIncrementAddress _ _ _ => true
  | .portLowPower _ _ _ => true
  | .restartAutoNegotiation _ => true
  | .tsPop _ => true
  | .hlCtrlEnableWrite _ _ => true
  | .anPage _ _ => true
  | .flpBurstSend _ => true
  | .anComplete _ _ => true
  | .linkFailInhibitExpiry _ => true
  | .noLineEnergy _ => true
  | .pcsLinkDown _ _ => true
  | .handshakeDetectorFire _ _ _ => true
  | .handshakeConfirmTimeout _ _ _ => true
  | .handshakeBurst _ _ => true
  | .slaveBurst _ => true
  | .partnerSilent _ => true
  | .firstBurstTimeout _ => true
  | .listenWindow _ => true
  | .listenTdr _ _ res => res.length == 4
  | .phaseLimit _ => true
  | .phaseMismatch _ => true
  | .trainingDeadline _ => true
  | .trainingPhaseChange _ => true
  | .cancellerConverged _ => true
  | .tParams _ _ _ _ _ _ => true
  | .tAlign _ _ _ _ => true
  | .tReady _ _ _ => true
  | .tNext _ _ _ _ => true
  | .tPairs _ _ _ => true
  | .tLoading _ _ r => loadOk r
  | .tConfirm _ _ => true
  | .tGo _ _ _ => true
  | .tAbort _ _ => true
  | .discoveryMeasured _ _ => true
  | .pairCheckRetry _ _ => true
  | .joinRampStep _ => true
  | .joinLate _ => true
  | .loadingMeasured _ snr => snrOk snr
  | .loadingRemeasure _ snr => snrOk snr
  | .serviceEntry _ => true
  | .superframeBoundary m => m.all (fun x => x.margins.length == 4)
  | .dtuSlot _ _ => true
  | .dtuReceived _ _ _ => true
  | .dtuLost _ _ => true
  | .escrowDiscard _ _ => true
  | .eocBlock _ _ b => b.length == 128
  | .msgAck _ _ _ => true
  | .messageResend _ _ _ => true
  | .version _ _ _ _ _ _ _ _ => true
  | .feStatus _ body => body.length == 30
  | .feStatusSend _ counts => counts.length == 4
  | .loadingRequest _ _ r => loadOk r
  | .loadingConfirm _ _ _ _ => true
  | .loadingConfirmRepeat _ => true
  | .loadingReject _ _ _ _ => true
  | .loadingNeed _ _ _ bands snr => bandsOk bands && snrOk snr
  | .rateNotice _ _ _ _ snr => snrOk snr
  | .loadingChangeApply _ => true
  | .loadingTrial _ _ _ => true
  | .pairFallback _ _ _ _ _ _ _ => true
  | .pairFallbackApply _ => true
  | .shutter _ _ _ _ _ => true
  | .feedbackSet _ _ _ _ => true
  | .feedback _ _ _ _ _ _ _ => true
  | .timeMark _ _ _ _ _ _ _ _ _ _ _ => true
  | .timeMarkSend _ _ skew => skew.length == 3
  | .timeReport _ _ _ skew _ => skew.length == 3
  | .ttLost _ => true
  | .seamlessSwap _ _ => true
  | .stepDown _ snr => snrOk snr
  | .stepUp _ snr => snrOk snr
  | .standbyTableSend _ _ snr => snrOk snr
  | .fallbackTrigger _ => true
  | .pairBreak _ _ => true
  | .fallbackReturn _ => true
  | .elementRetire _ _ _ _ _ => true
  | .spareSubstitution _ => true
  | .driftFence _ _ _ _ => true
  | .driftRevert _ => true
  | .degradeHoldExpiry _ => true
  | .partnerBlockTimeout _ => true
  | .shutterRequestTrigger _ => true
  | .shutterEntry _ => true
  | .refresh _ _ => true
  | .knock _ _ => true
  | .knockDetectorFire _ _ _ _ => true
  | .knockConfirm _ _ _ _ => true
  | .falseKnock _ _ _ _ => true
  | .answer _ _ => true
  | .shutterResume _ _ => true
  | .knockRetry _ _ => true
  | .scheduledWake _ _ => true
  | .lpi _ _ => true
  | .chWindowEnd ms => ms.all (fun x => x.near.length == 2048 && x.far.length == 2048 && x.foreign.length == 16)
  | .shadowReady _ _ _ => true
  | .surveyCommit _ => true
  | .lendingCommit _ => true
  | .commitSweep _ => true
  | .stagedExpiry _ => true
  | .dormantHoldExpiry _ => true
  | .feedbackTimeout _ => true
  | .joinMeasured _ _ => true
  | .bandCheck ms => ms.all (fun x => x.excess.length == 28)
  | .surveyBatch _ _ => true
  | .surveyRelease => true
  | .diagBegin _ => true
  | .activeAcquisition _ _ _ => true
  | .inputBusy _ => true
  | .passiveCopy _ echoes => echoes.length == 4
  | .noiseFloorWindowEnd _ total unexpl => curvesOk total && curvesOk unexpl
  | .captureTrigger _ _ => true
  | .captureFilled _ _ => true
  | .captureTimeout _ => true
  | .calWindowStart _ => true
  | .calMeasurementDone _ _ => true
  | .calInputBusy _ => true
  | .calRetry _ => true
  | .calCommitApply _ => true
  | .calRampStep _ => true
  | .auditStart => true
  | .sliceEnd _ => true
  | .sliceTimeout => true
  | .auditServiceRequest _ => true
  | .auditEnd => true
  | .levelRaiseSwitch => true
  | .levelLowerSwitch => true
  | .levelFail => true
  | .avsReadback _ _ => true
  | .avsFail => true
  | .sleepBlockStop => true
  | .transferAbort _ _ _ => true
  | .dozeWake => true
  | .retainWake _ => true
  | .wakePllRelock => true
  | .wakeDomainsPowered => true
  | .anchor => true
  | .slewEnd => true
  | .gridRamp _ => true
  | .timeCompare _ => true
  | .launch _ _ _ => true
  | .htxStripe _ => true
  | .hrxStripe _ x => x.body.length == 992
  | .laneLockLost _ _ => true
  | .hrxControlStripe _ body => body.length == 992
  | .hrxRecord _ _ frame _ => frameOk 10240 frame
  | .pauseRepeat _ => true
  | .lineFrame _ frame _ ns eighth => frameOk 16000 frame && decide (ns < 1000000000) && decide (eighth < 8)
  | .noticeTimeout _ => true
  | .trainFrame _ body _ => body.length == 124
  | .hrxClockDetect _ => true
  | .trainFail _ => true
  | .trainRetry _ => true
  | .prbsSync _ _ => true
  | .errorInjection _ => true
  | .laneTestEnd _ bits errs => bits.length == 8 && errs.length == 8
  | .counterStart => true
  | .samplerRecord _ => true
  | .pcsLinkUp _ => true
  | .fastRetrain _ => true
  | .mdioRead _ _ _ => true
  | .vddFuseChange _ => true
  | .tempNowUpdate rs => rs.length == 8
  | .pmSampleTick _ => true

end Sys2Proof
end

