-- ==== Sys2Proof/Tests/Slice0.lean ====
section
/-!
SUPPORT. Tests on fixed values: ill-formed commands, the worked examples of spec/, and states that meet the hypotheses of the statements.
-/
namespace Sys2Proof.Tests
open Sys2Proof.Machine Sys2Proof.Claims

/-! ## Ill-formed commands -/

/-- A run of SNR with a number of tones. -/
def snrRun (k : Nat) : SnrRun := ⟨k, 0, 0, 0, 0⟩

/-- A loading request with one item from a tone on. -/
def oneItem (start : BitVec 12) : LoadReq := ⟨0, 0, true, false, 0, 0, 0, 0, [⟨0, start, [LoadEntry.none, LoadEntry.none]⟩]⟩

/-- A packet with a number of parameter bytes. -/
def packet (k : Nat) : Packet := ⟨0, 0, 0, 0, 0, 0, List.replicate k 0, 0⟩

theorem test_wf_packet_length (k : Nat) : Instr.wf (.hello (packet k)) = decide (k < 65536) := by
  simp only [Instr.wf, packetOk, packet, List.length_replicate]
theorem test_wf_frame_short : Instr.wf (.hrxRecord 0 0 (List.replicate 63 0) false) = false := by decide +kernel
theorem test_wf_snr_long : Instr.wf (.stepUp 0 [snrRun 4096]) = false ∧ Instr.wf (.stepUp 0 [snrRun 4095]) = true := by decide +kernel
theorem test_wf_loading_past_4095 : Instr.wf (.loadingRequest 0 0 (oneItem 4095)) = false ∧ Instr.wf (.loadingRequest 0 0 (oneItem 4094)) = true := by decide +kernel
theorem test_wf_bands : Instr.wf (.loadingNeed 0 0 0 (List.replicate 256 ⟨1, 2⟩) []) = false := by decide +kernel
theorem test_wf_curves : Instr.wf (.noiseFloorWindowEnd 0 [[]] [[]]) = false := by decide +kernel
theorem test_wf_listen : Instr.wf (.listenTdr 0 false [none]) = false := by decide +kernel
theorem test_wf_block : Instr.wf (.eocBlock 0 0 []) = false := by decide +kernel
theorem test_wf_status : Instr.wf (.feStatus 0 []) = false := by decide +kernel
theorem test_wf_skew : Instr.wf (.timeMarkSend 0 0 []) = false ∧ Instr.wf (.timeReport 0 0 0 [] 0) = false := by decide +kernel
theorem test_wf_time : Instr.wf (.lineFrame 0 (List.replicate 64 0) 0 1000000000 0) = false := by decide +kernel
theorem test_wf_lanes : Instr.wf (.laneTestEnd 0 [] []) = false ∧ Instr.wf (.trainFrame 0 [] none) = false := by decide +kernel
theorem test_wf_measured : Instr.wf (.tempNowUpdate []) = false ∧ Instr.wf (.chWindowEnd [⟨0, [], [], [], false⟩]) = false := by decide +kernel

/-! ## The worked example of the coding chapter (R108 to R111) -/

/-- A bit string of the worked example. -/
def exampleBits : List Bool := [1, 0, 1, 1, 0, 1, 0, 1, 1, 0, 1, 1, 0].map (fun (x : Nat) => x == 1)

theorem test_worked_labels : (toneLabels [4, 3, 2, 5] Trellis.init exampleBits).1 = [10, 5, 2, 12] := by decide +kernel
theorem test_worked_points : List.zipWith point [4, 3, 2, 5] [10, 5, 2, 12] = [(-1, 1), (-3, -1), (-1, 1), (5, -3)] := by decide +kernel

end Sys2Proof.Tests
end

section
/-!
The scope chapter: what every command keeps of the Vault.
-/
namespace Sys2Proof.Proofs
open Sys2Proof.Machine Sys2Proof.Claims

/-- Settles O4: every command completes and keeps what `Keeps` lists (`exec_keeps`, by cases on the command), and a programmed fuse is one
of the things kept (R17, R579): `burnBytes`, which alone writes fuses, joins the new bits to the old ones. -/
theorem noCommandClearsAFuse : Obligations.NoCommandClearsAFuse := by
  intro c s
  obtain ⟨t, hexec, hkeeps⟩ := exec_keeps (i := c) (s := s)
  have hfuses : fusesKept s.vault t.vault := hkeeps.fuses
  exact ⟨t, hexec, hfuses⟩

end Sys2Proof.Proofs
end

section
/-!
The chapter of line modes and negotiation: timing mastership (R61). One lemma for each branch of the rule, then what the two ends make of it.
-/
namespace Sys2Proof.Proofs
open Sys2Proof.Machine Sys2Proof.Claims

/-! ## The branches of R61 -/

/-- The two preferences cannot both be met: both ends force master, or both force slave. -/
abbrev PrefsClash (own peer : Nat) : Prop := (own = 1 ∧ peer = 1) ∨ (own = 2 ∧ peer = 2)

/-- A preference asks that this end lead: it forces master, or its partner forces slave. Read from the partner's end,
`PrefsLead peer own` asks that this end follow. -/
abbrev PrefsLead (own peer : Nat) : Prop := own = 1 ∨ peer = 2

/-- What the seeds alone decide, the last lines of R61. -/
def bySeed (seed peerSeed : Nat) : Mastership :=
  if peerSeed < seed then .master else if seed < peerSeed then .slave else .tie

theorem bySeed_of_gt {seed peerSeed : Nat} (h : peerSeed < seed) : bySeed seed peerSeed = .master :=
  if_pos h

theorem bySeed_of_lt {seed peerSeed : Nat} (h : seed < peerSeed) : bySeed seed peerSeed = .slave := by
  rw [bySeed, if_neg h.not_gt, if_pos h]

theorem bySeed_self (seed : Nat) : bySeed seed seed = .tie := by
  simp [bySeed]

section Branches
variable {own peer seed peerSeed : Nat} {multi : Bool}

theorem mastership_fault_of_clash (hclash : PrefsClash own peer) : mastership own peer multi seed peerSeed = .fault :=
  if_pos hclash

theorem mastership_master_of_lead (hclash : ¬ PrefsClash own peer) (hlead : PrefsLead own peer) :
    mastership own peer multi seed peerSeed = .master := by
  rw [mastership, if_neg hclash, if_pos hlead]

/-- Without a clash the preferences do not ask each end to lead, so the order of R61's two forced branches does not matter. -/
theorem not_prefsLead_of_peer_lead (hclash : ¬ PrefsClash own peer) (hpeer : PrefsLead peer own) : ¬ PrefsLead own peer := by
  omega

theorem mastership_slave_of_peer_lead (hclash : ¬ PrefsClash own peer) (hpeer : PrefsLead peer own) :
    mastership own peer multi seed peerSeed = .slave := by
  have hlead := not_prefsLead_of_peer_lead hclash hpeer
  rw [mastership, if_neg hclash, if_neg hlead, if_pos hpeer.symm]

/-- Where no preference decides, the partner's MULTIPORT does, and then the seeds. -/
theorem mastership_of_no_lead (hlead : ¬ PrefsLead own peer) (hpeer : ¬ PrefsLead peer own) :
    mastership own peer multi seed peerSeed = if multi = false then .master else bySeed seed peerSeed := by
  have hclash : ¬ PrefsClash own peer := by omega
  rw [mastership, if_neg hclash, if_neg hlead, if_neg (mt Or.symm hpeer), bySeed]

theorem mastership_auto_of_single : mastership 0 0 false seed peerSeed = .master :=
  mastership_of_no_lead (by decide) (by decide)

theorem mastership_auto_of_multi : mastership 0 0 true seed peerSeed = bySeed seed peerSeed :=
  mastership_of_no_lead (by decide) (by decide)

end Branches

/-! ## The two ends -/

/-- The result that the far end must reach for the two to agree. -/
def farResult : Mastership → Mastership
  | .master => .slave
  | .slave => .master
  | .fault => .fault
  | .tie => .tie

@[simp] theorem farResult_eq_slave {r : Mastership} : farResult r = .slave ↔ r = .master := by
  cases r <;> decide

@[simp] theorem farResult_eq_fault {r : Mastership} : farResult r = .fault ↔ r = .fault := by
  cases r <;> decide

@[simp] theorem farResult_eq_tie {r : Mastership} : farResult r = .tie ↔ r = .tie := by
  cases r <;> decide

theorem bySeed_far_end (seed peerSeed : Nat) : bySeed peerSeed seed = farResult (bySeed seed peerSeed) := by
  obtain hlt | rfl | hgt := Nat.lt_trichotomy seed peerSeed
  · rw [bySeed_of_lt hlt, bySeed_of_gt hlt, farResult]
  · rw [bySeed_self, farResult]
  · rw [bySeed_of_gt hgt, bySeed_of_lt hgt, farResult]

/-- Two ends that both send MULTIPORT 1 reach complementary results: a clash is seen by both, what leads here follows there, and the order
of the seeds is reversed. -/
theorem mastership_far_end (own peer seed peerSeed : Nat) :
    mastership peer own true peerSeed seed = farResult (mastership own peer true seed peerSeed) := by
  by_cases hclash : PrefsClash own peer
  · have hfar : PrefsClash peer own := hclash.imp And.symm And.symm
    rw [mastership_fault_of_clash hclash, mastership_fault_of_clash hfar, farResult]
  · have hfar : ¬ PrefsClash peer own := mt (Or.imp And.symm And.symm) hclash
    by_cases hlead : PrefsLead own peer
    · rw [mastership_master_of_lead hclash hlead, mastership_slave_of_peer_lead hfar hlead, farResult]
    · by_cases hpeer : PrefsLead peer own
      · rw [mastership_slave_of_peer_lead hclash hpeer, mastership_master_of_lead hfar hpeer, farResult]
      · rw [mastership_of_no_lead hlead hpeer, mastership_of_no_lead hpeer hlead]
        exact bySeed_far_end seed peerSeed

/-- Settles O30: each clause on one end is a branch of R61, and the clauses on two ends follow from `mastership_far_end`. -/
theorem mastershipIsResolvedAsR61Says : Obligations.MastershipIsResolvedAsR61Says := by
  refine ⟨fun own peer multi seed peerSeed _ _ => ?oneEnd, fun own peer seed peerSeed _ _ => ?twoEnds⟩
  case oneEnd =>
    refine ⟨mastership_fault_of_clash, mastership_master_of_lead, fun hclash _ hpeer => mastership_slave_of_peer_lead hclash hpeer.symm,
      ?single, ?higher, ?lower, ?tie⟩
    case single =>
      rintro ⟨rfl, rfl⟩ rfl
      exact mastership_auto_of_single
    case higher =>
      rintro ⟨rfl, rfl⟩ rfl hgt
      exact mastership_auto_of_multi.trans (bySeed_of_gt hgt)
    case lower =>
      rintro ⟨rfl, rfl⟩ rfl hlt
      exact mastership_auto_of_multi.trans (bySeed_of_lt hlt)
    case tie =>
      rintro ⟨rfl, rfl⟩ rfl rfl
      exact mastership_auto_of_multi.trans (bySeed_self seed)
  case twoEnds => simp [mastership_far_end own peer seed peerSeed]

end Sys2Proof.Proofs
end

section
/-!
The chapter of framing, the Escrow and the channel: how a transmitter reads a received block (R144). The two tests of the model measure
distances on the circle of 65,536 SEQs; each is first brought into the form of the rule, which names SEQs by their offset from ACK_BASE.
-/
namespace Sys2Proof.Proofs
open Sys2Proof.Machine Sys2Proof.Claims

/-! ## Fields of a block -/

theorem beNat_concat (bs : List Byte) (x : Byte) : beNat (bs ++ [x]) = beNat bs * 256 + x.toNat := by
  simp [beNat]

theorem beNat_lt (bs : List Byte) : beNat bs < 256 ^ bs.length := by
  induction bs using List.reverseRecOn with
  | nil => exact Nat.one_pos
  | append_singleton bs x ih =>
    have hx : x.toNat < 256 := x.isLt
    rw [beNat_concat, List.length_append, List.length_singleton, pow_succ]
    omega

theorem beAt_lt (b : List Byte) (i n : Nat) : beAt b i n < 256 ^ n :=
  calc beNat (slice b i n) < 256 ^ (slice b i n).length := beNat_lt _
    _ ≤ 256 ^ n := Nat.pow_le_pow_right (by decide) (List.length_take_le n _)

theorem bitsOf_self_eq_zero_iff {v i : Nat} : bitsOf v i i = 0 ↔ bitsOf v i i ≠ 1 := by
  have hbit : bitsOf v i i < 2 := by simpa [bitsOf] using Nat.mod_lt (v / 2 ^ i) two_pos
  omega

/-! ## Distances between SEQs (R140) -/

section Circle
variable {seq base d : Nat}

theorem seqDist_eq_iff (hseq : seq < 65536) (hbase : base < 65536) (hd : d < 65536) :
    seqDist seq base = d ↔ seq = (base + d) % 65536 := by
  rw [seqDist]
  omega

/-- A SEQ fewer than `n` places after `base` is `base` plus one of those places, and its distance says which. -/
theorem seqDist_lt_and_iff {n : Nat} {p : Nat → Prop} (hseq : seq < 65536) (hbase : base < 65536) (hn : n ≤ 65536) :
    (seqDist seq base < n ∧ p (seqDist seq base)) ↔ ∃ d, d < n ∧ seq = (base + d) % 65536 ∧ p d := by
  constructor
  · rintro ⟨hlt, hp⟩
    exact ⟨_, hlt, (seqDist_eq_iff hseq hbase (by omega)).mp rfl, hp⟩
  · rintro ⟨d, hlt, hat, hp⟩
    have hdist : seqDist seq base = d := (seqDist_eq_iff hseq hbase (by omega)).mpr hat
    rw [hdist]
    exact ⟨hlt, hp⟩

/-- What lies before `base` lies more than 32,767 places after it, going round. -/
theorem lt_seqDist_of_seqAfter (hseq : seq < 65536) (hbase : base < 65536) (hbefore : seqAfter base seq = true) :
    32767 < seqDist seq base := by
  rw [seqAfter, decide_eq_true_eq] at hbefore
  rw [seqDist]
  omega

end Circle

/-! ## The two tests in the form of R144 -/

section Reading
variable {b : List Byte} {seq : Nat}

/-- `seq` is the DTU of bit `i` of ACK_MAP. -/
def AtMapBit (b : List Byte) (seq i : Nat) : Prop := i < 64 ∧ seq = (beAt b 2 2 + beAt b 4 2 + i) % 65536

/-- `seq` is one of ACK_BASE to ACK_BASE + GAP_LEN − 1. -/
def InGap (b : List Byte) (seq : Nat) : Prop := ∃ k, k < beAt b 4 2 ∧ seq = (beAt b 2 2 + k) % 65536

theorem inGap_iff (hseq : seq < 65536) : InGap b seq ↔ seqDist seq (beAt b 2 2) < beAt b 4 2 := by
  have hgap : beAt b 4 2 ≤ 65536 := (beAt_lt b 4 2).le
  simpa [InGap] using (seqDist_lt_and_iff (p := fun _ => True) hseq (beAt_lt b 2 2) hgap).symm

/-- The model finds the bit of ACK_MAP by the distance from the SEQ after the gap. -/
theorem exists_atMapBit_iff {p : Nat → Prop} (hseq : seq < 65536) :
    (∃ i, AtMapBit b seq i ∧ p i) ↔
      seqDist seq ((beAt b 2 2 + beAt b 4 2) % 65536) < 64 ∧ p (seqDist seq ((beAt b 2 2 + beAt b 4 2) % 65536)) := by
  rw [seqDist_lt_and_iff hseq (Nat.mod_lt _ (by decide)) (by decide)]
  simp [AtMapBit, and_assoc]

theorem ackedBy_iff (hseq : seq < 65536) :
    ackedBy b seq = true ↔ seqAfter (beAt b 2 2) seq = true ∨ ∃ i, AtMapBit b seq i ∧ bitsOf (beAt b 8 8) i i = 1 := by
  rw [exists_atMapBit_iff hseq]
  simp [ackedBy]

theorem missingBy_iff (hseq : seq < 65536) :
    missingBy b seq = true ↔
      InGap b seq ∨ ∃ i, AtMapBit b seq i ∧ bitsOf (beAt b 8 8) i i ≠ 1 ∧ seqAfter seq (beAt b 6 2) = false := by
  rw [exists_atMapBit_iff hseq, inGap_iff hseq]
  simp [missingBy, bitsOf_self_eq_zero_iff, and_assoc]

/-- A gap of at most 32,767 DTUs reaches no SEQ before ACK_BASE. -/
theorem not_inGap_of_before (hseq : seq < 65536) (hgap : beAt b 4 2 ≤ 32767) (hbefore : seqAfter (beAt b 2 2) seq = true) :
    ¬ InGap b seq := by
  have hfar := lt_seqDist_of_seqAfter hseq (beAt_lt b 2 2) hbefore
  rw [inGap_iff hseq]
  omega

end Reading

/-- Settles O36: `ackedBy_iff` and `missingBy_iff` state the model's two tests in the words of R144, and each clause is one direction of them. -/
theorem anAcknowledgementIsReadAsR144Says : Obligations.AnAcknowledgementIsReadAsR144Says := by
  intro b seq hseq base gap last one
  refine ⟨?before, ?inGap, ?atBit, ?neither, ?noneBoth⟩
  case before => exact fun hbefore => (ackedBy_iff hseq).mpr (.inl hbefore)
  case inGap => exact fun k hk hat => (missingBy_iff hseq).mpr (.inl ⟨k, hk, hat⟩)
  case atBit =>
    intro i hi hat
    exact ⟨fun hone => (ackedBy_iff hseq).mpr (.inr ⟨i, ⟨hi, hat⟩, hone⟩),
      fun hzero hlast => (missingBy_iff hseq).mpr (.inr ⟨i, ⟨hi, hat⟩, hzero, hlast⟩)⟩
  case neither =>
    intro hbefore hgap hmap
    rw [Bool.eq_false_iff, Bool.eq_false_iff, ne_eq, ne_eq, ackedBy_iff hseq, missingBy_iff hseq]
    constructor
    · rintro (hbase | ⟨i, ⟨hi, hat⟩, hone⟩)
      · exact Bool.eq_false_iff.mp hbefore hbase
      · exact (hmap i hi hat).1 hone
    · rintro (⟨k, hk, hat⟩ | ⟨i, ⟨hi, hat⟩, -, hlast⟩)
      · exact hgap k hk hat
      · exact Bool.eq_false_iff.mp hlast (hmap i hi hat).2
  case noneBoth =>
    intro hgap
    rw [or_iff_not_imp_left, Bool.not_eq_false]
    exact fun hbefore k hk hat => not_inGap_of_before hseq hgap hbefore ⟨k, hk, hat⟩

end Sys2Proof.Proofs
end

section
/-!
The step as a whole: which command it runs, what every step keeps, and the frame of every command.
-/
namespace Sys2Proof.Proofs
open Sys2Proof.Machine Sys2Proof.Claims

theorem step_cons {c : Instr} {rest : List Instr} {s : State} (hqueue : s.pending = c :: rest) :
    step s = exec c { s with pending := rest } := by
  rw [step, hqueue]

theorem step_nil {s : State} (hqueue : s.pending = []) : step s = .next s := by
  rw [step, hqueue]

/-- Settles O1: the two branches of `step`. -/
theorem stepRunsTheFrontCommand : Obligations.StepRunsTheFrontCommand :=
  ⟨fun _ _ _ => step_cons, fun _ => step_nil⟩

/-- Settles O2: after reset both stores list nothing. -/
theorem resetHoldsTheInvariant : Obligations.ResetHoldsTheInvariant := by
  have hmem : State.reset.mem = [] := rfl
  have hregs : State.reset.regs = [] := rfl
  refine ⟨?_, ?_⟩
  · rw [hmem, memWf, SMap.wf]
  · rw [hregs, SMap.wf]

theorem inv_of_keeps {s t : State} (hkeeps : Keeps s t) (hinv : Inv s) : Inv t :=
  ⟨hkeeps.mem hinv.1, hkeeps.regs hinv.2⟩

/-- Settles O3: a step keeps everything in `Keeps` of the state whose queue is the rest (`step_keeps`, by cases on the command), and taking
a command from the queue leaves memory and registers as they are. -/
theorem everyStepKeepsTheInvariant : Obligations.EveryStepKeepsTheInvariant := by
  intro s hinv
  obtain ⟨t, hstep, hkeeps⟩ := step_keeps (s := s)
  have hrest : Inv { s with pending := s.pending.tail } := hinv
  exact ⟨t, hstep, inv_of_keeps hkeeps hrest, hkeeps.part, hkeeps.pending⟩

/-- Settles O5: by cases on the command (`exec_touch`), the meaning touches only the pieces of its list, and a piece outside the list reads
as before (`exec_same`). -/
theorem everyCommandHasItsFrame : Obligations.EveryCommandHasItsFrame :=
  fun _ _ _ _ hexec hpiece => exec_same hexec hpiece

end Sys2Proof.Proofs
end

section
/-!
Rules that the chapters below share: how a piece of the state is read off a `Touch` lemma, and what a stored value of a mapped table is.
-/
namespace Sys2Proof.Proofs
open Sys2Proof.Machine Sys2Proof.Claims

/-- Every piece but one. -/
abbrev allExcept (p : Piece) : Nat := 0xFFFFFFFFFFFF ^^^ 2 ^ p.idx

/-- A piece that an operation's lemma in Laws/ does not name is the same after it. -/
theorem same_of_touch (p : Piece) {s t : State} (h : Touch (allExcept p) s t) : p.same s t :=
  h.same p (by cases p <;> decide)

/-- A device-global field reads as before an operation that touches other areas. -/
theorem rdG_of_touch {f : Fld} {p : Piece} {s t : State} (harea : areaOf f.reg = p) (h : Touch (allExcept p) s t) : rdG t f = rdG s f :=
  rdG_same (harea ▸ same_of_touch p h)

/-- Every word reads as before an operation that touches no register. -/
theorem rdReg_of_touch {s t : State} (h : Touch 0xFFFFFFFFF s t) (a : Nat) : rdReg t a = rdReg s a := by
  have hidx := areaOf_idx a
  refine area_same (h.same _ ?_)
  generalize areaOf a = p at hidx
  revert hidx
  cases p <;> decide

/-- A value of a mapped table is the default or the image of some value. -/
theorem get_mapVals_cases {α : Type} [DecidableEq α] (d : α) (f : Nat → α → α) (m : SMap α) (k : Nat) :
    SMap.get (mapVals d f m) d k = d ∨ ∃ j v, SMap.get (mapVals d f m) d k = f j v := by
  induction m with
  | nil => exact .inl rfl
  | cons e m ih =>
    obtain ⟨i, v⟩ := e
    by_cases hdrop : f i v = d
    · have hmap : mapVals d f ((i, v) :: m) = mapVals d f m := by simp [mapVals, hdrop]
      rwa [hmap]
    · have hmap : mapVals d f ((i, v) :: m) = (i, f i v) :: mapVals d f m := by simp [mapVals, hdrop]
      rw [hmap, SMap.get]
      split
      · exact .inr ⟨i, v, rfl⟩
      · exact ih

end Sys2Proof.Proofs
end

section
/-!
The resets (chapter 14): the release of a reset, the warm reset, and the resets of a port and of a block.
-/
namespace Sys2Proof.Proofs
open Sys2Proof.Machine Sys2Proof.Claims

/-! ## The release of power-on reset and of RESET_N (R7, R593, R656, R772) -/

/-- The state from which the management domain starts once a reset is released with the straps sampled. -/
abbrev strapsSampled (st : Straps) (s : State) : State :=
  wrG F.DEV_ID_PROFILE 1 (wrG F.DEV_ID_PROFILE_REQ (st.profile.val + 1)
    { s with straps := st, strapReq := st.profile.val + 1, profileSel := 0, profileNew := false, clk := { s.clk with resetHeld := false } })

theorem hardRelease_of_held {kind : Nat} {st : Straps} {s : State} (hheld : s.clk.resetHeld = true)
    (hkind : rdG s F.RESET_STATUS_LAST_KIND = kind) : hardRelease kind st s = mgmtGo (strapsSampled st s) := by
  rw [hardRelease, if_pos (by simp [hheld, hkind])]
  rfl

theorem hardRelease_of_not_held {kind : Nat} {st : Straps} {s : State} (hheld : s.clk.resetHeld = false) : hardRelease kind st s = s := by
  rw [hardRelease, if_neg (by simp [hheld])]

theorem mgmtGo_straps (s : State) : (mgmtGo s).straps = s.straps :=
  same_of_touch .straps (mgmtGo_touch (by decide) (Touch.refl _ s))

/-- Settles O7: while the reset of its kind is held each event is `hardRelease` in its first branch, and the start of the cores keeps the
straps. -/
theorem resetReleaseSamplesTheStraps : Obligations.ResetReleaseSamplesTheStraps := by
  intro st s u
  have hstraps : (mgmtGo u).straps = st := mgmtGo_straps u
  exact ⟨fun hheld hkind => ⟨congrArg _ (hardRelease_of_held hheld hkind), hstraps⟩,
    fun hheld hkind => ⟨congrArg _ (hardRelease_of_held hheld hkind), hstraps⟩,
    fun hheld => ⟨congrArg _ (hardRelease_of_not_held hheld), congrArg _ (hardRelease_of_not_held hheld)⟩⟩

/-! ## The warm reset (R646, R647, R651) -/

/-- What a warm reset takes down first: the audit, every port, every lane group, and the ports' lots. -/
def warmDown (s : State) : State :=
  let s1 := forL (allLanes s) laneOff (portsDown (fun _ => true) 5 (auditAbort true s))
  forL (allPorts s1) chDormant s1

/-- What the cores do at the start after a warm reset. -/
def warmStart (profile : Option Nat) (s : State) : State :=
  safeLate (auditRebuild (applyRepairs (startEntries profile s)))

/-- The registers that a warm reset shows: the kind and the cause of the reset, the profile and the hold-off. -/
def warmShown (cause : Nat) (before s : State) : State :=
  let s1 := wrG F.RESET_STATUS_LAST_CAUSE cause (wrG F.RESET_STATUS_LAST_KIND 3 s)
  let req := nextProfile before before.profileSel
  let s2 := if before.profileNew then wrG F.DEV_ID_PROFILE (profileFor req) (wrG F.DEV_ID_PROFILE_REQ req s1) else s1
  wrG F.LEDGER_EVENTS_BACKOFF (bit (before.sec.oper.held || before.sec.inst.held || before.sec.maker.held)) s2

theorem warmReset_eq (cause : Nat) (s : State) :
    warmReset cause s = warmStart (if s.profileNew then some (profileFor (nextProfile s s.profileSel)) else none)
      { warmShown cause s (warmMem (warmBank (warmRegs (warmState (warmDown s))))) with stage := .rom } := rfl

theorem warmDown_same {p : Piece} (hp : Within 0xd0889f028000 (allExcept p)) (s : State) : p.same s (warmDown s) := by
  have hw {m : Nat} (h : Within m 0xd0889f028000) : Within m (allExcept p) := within_trans h hp
  have haudit := auditAbort_touch (a0 := true) (hw (by decide)) (Touch.refl _ s)
  have hports := portsDown_touch (a0 := fun _ => true) (a1 := 5) (hw (by decide)) haudit
  have hlanes := forL_touch (l := allLanes s) (f := laneOff) hports fun _ _ => laneOff_touch (hw (by decide))
  exact same_of_touch p (forL_touch hlanes fun _ _ => chDormant_touch (hw (by decide)))

theorem ledger_sec (e : LedgerEntry) (s : State) : (ledger e s).sec = s.sec :=
  same_of_touch .sec (ledger_touch (by decide) (Touch.refl _ s))

theorem ledgerEnds_sec (cause : Nat) (s : State) : (ledgerEnds cause s).sec = { s.sec with ended := [] } := by
  have hends : (forL s.sec.ended (fun e s => ledgerEnd e.1 e.2 cause s) s).sec = s.sec :=
    same_of_touch .sec (forL_touch (Touch.refl _ s) fun _ _ => ledgerEnd_touch (by decide))
  rw [ledgerEnds, modSec, hends]

theorem startEntries_sec (profile : Option Nat) (s : State) : (startEntries profile s).sec = { s.sec with ended := [] } := by
  have hgenesis : (ledgerDevice 5 (rdG s F.RESET_STATUS_LAST_KIND * 65536) (genesis s)).sec = s.sec :=
    same_of_touch .sec (ledgerDevice_touch (by decide) (genesis_touch (by decide) (Touch.refl _ s)))
  have htail (t : State) (kind cause : Nat) : (endCutAudit (cutOpen 0 (journalReset kind cause t))).sec = t.sec :=
    same_of_touch .sec (endCutAudit_touch (by decide) (cutOpen_touch (by decide) (journalReset_touch (by decide) (Touch.refl _ t))))
  have hends := ledgerEnds_sec 3 (ledgerDevice 5 (rdG s F.RESET_STATUS_LAST_KIND * 65536) (genesis s))
  rw [hgenesis] at hends
  cases profile with
  | none => exact (htail _ _ _).trans hends
  | some p => exact (htail _ _ _).trans ((ledger_sec _ _).trans hends)

theorem warmStart_sec (profile : Option Nat) (s : State) : (warmStart profile s).sec = { s.sec with ended := [] } := by
  have htail (t : State) : (safeLate (auditRebuild (applyRepairs t))).sec = t.sec :=
    same_of_touch .sec (safeLate_touch (by decide) (auditRebuild_touch (by decide) (applyRepairs_touch (by decide) (Touch.refl _ t))))
  exact (htail _).trans (startEntries_sec profile s)

theorem warmStart_same {p : Piece} (hp : Within 0x66088010e000 (allExcept p)) (profile : Option Nat) (s : State) :
    p.same s (warmStart profile s) := by
  have hw {m : Nat} (h : Within m 0x66088010e000) : Within m (allExcept p) := within_trans h hp
  exact same_of_touch p (safeLate_touch (hw (by decide)) (auditRebuild_touch (hw (by decide)) (applyRepairs_touch (hw (by decide))
    (startEntries_touch (hw (by decide)) (Touch.refl _ s)))))

/-- Of the clock registers the start writes only the number of repairs. -/
theorem warmStart_rdG (profile : Option Nat) (s : State) {f : Fld} (hf : f.Fits) (hrepairs : F.START_STATUS_REPAIRS.Apart f)
    (harea : areaOf f.reg = .rClocks) : rdG (warmStart profile s) f = rdG s f := by
  have hentries (t : State) : rdG (startEntries profile t) f = rdG t f :=
    rdG_of_touch harea (startEntries_touch (by decide) (Touch.refl _ t))
  have hrebuild (t : State) : rdG (safeLate (auditRebuild t)) f = rdG t f :=
    rdG_of_touch harea (safeLate_touch (by decide) (auditRebuild_touch (by decide) (Touch.refl _ t)))
  have happly (t : State) : rdG (applyRepairs t) f = rdG t f := rdG_wrG_other ⟨by decide, hf, hrepairs⟩
  exact (hrebuild _).trans ((happly _).trans (hentries s))

theorem warmShown_same {p : Piece} (hp : Within 0x62000000000 (allExcept p)) (cause : Nat) (before s : State) :
    p.same s (warmShown cause before s) := by
  have hw {m : Nat} (h : Within m 0x62000000000) : Within m (allExcept p) := within_trans h hp
  refine same_of_touch p (wrG_touch (hw (by decide)) ?_)
  have hstatus := wrG_touch (f := F.RESET_STATUS_LAST_CAUSE) (x := cause) (hw (by decide))
    (wrG_touch (f := F.RESET_STATUS_LAST_KIND) (x := 3) (hw (by decide)) (Touch.refl _ s))
  split
  · exact wrG_touch (hw (by decide)) (wrG_touch (hw (by decide)) hstatus)
  · exact hstatus

/-- Fields of RESET_STATUS and CLK_EN share no bit with the identity and Ledger words that the reset writes after them. -/
theorem warmShown_rdG (cause : Nat) (before s : State) {f : Fld} (hf : f.Fits) (hreg : f.reg = 0x20028 ∨ f.reg = 0x2000C) :
    rdG (warmShown cause before s) f = rdG (wrG F.RESET_STATUS_LAST_CAUSE cause (wrG F.RESET_STATUS_LAST_KIND 3 s)) f := by
  have hother {g : Fld} (hg : g.Fits ∧ g.reg < 0x20000) (x : Nat) (t : State) :
      rdG (wrG g x t) f = rdG t f :=
    rdG_wrG_other ⟨hg.1, hf, .inl (by omega)⟩
  rw [warmShown, hother (by decide)]
  split
  · rw [hother (by decide), hother (by decide)]
  · rfl

theorem warmShown_lastKind (cause : Nat) (before s : State) : rdG (warmShown cause before s) F.RESET_STATUS_LAST_KIND = 3 := by
  rw [warmShown_rdG cause before s (by decide) (.inl rfl), rdG_wrG_other (by decide), rdG_wrG_self (by decide) (by decide)]

theorem warmShown_lastCause {cause : Nat} (hcause : cause < 256) (before s : State) :
    rdG (warmShown cause before s) F.RESET_STATUS_LAST_CAUSE = cause := by
  exact (warmShown_rdG cause before s (by decide) (.inl rfl)).trans (rdG_wrG_self (by decide) hcause)

/-- A warm reset clears CLK_EN: what it keeps or writes again in the clock registers is the safe state. -/
theorem warmRegs_clkEn (s : State) : rdG (warmRegs s) F.CLK_EN = 0 := by
  let s2 := wrG F.SAFE_STATUS_WAITING (rdG s F.SAFE_STATUS_WAITING) (wrG F.SAFE_STATUS_PG_HELD (rdG s F.SAFE_STATUS_PG_HELD)
    (wrG F.SAFE_STATUS_LANES_HELD (rdG s F.SAFE_STATUS_LANES_HELD) (wrG F.SAFE_STATUS_ACTIVE (rdG s F.SAFE_STATUS_ACTIVE)
      (clearRegs (fun a => !warmKeeps a) s))))
  have hcleared : rdG s2 F.CLK_EN = 0 := by
    rw [rdG_wrG_other (by decide), rdG_wrG_other (by decide), rdG_wrG_other (by decide), rdG_wrG_other (by decide), rdG, rdFld, rdReg_clearRegs, if_pos (by decide)]
    decide
  have hports : Touch (allExcept .rClocks) s2
      (forL (allPorts s) (fun n t => if rdP s n F.CH_PORT_CH_STATE = 3 then wrP n F.CH_PORT_CH_STATE 3 t else t) s2) :=
    forL_touch (Touch.refl _ s2) fun n t h => by
      split
      · exact wrP_touch (by decide) h
      · exact h
  have hall : Touch (allExcept .rClocks) s2 (warmRegs s) :=
    forL_touch hports fun t x h => showActive_touch (by decide) (wrFldC_touch (by decide) (by decide) (by decide)
      (wrFldC_touch (by decide) (by decide) (by decide) (wrFldC_touch (by decide) (by decide) (by decide) h)))
  exact (rdG_of_touch (by decide) hall).trans hcleared

theorem warmBody_same {p : Piece} (hp : Within 0xfff210000000 (allExcept p)) (s : State) : p.same s (warmMem (warmBank (warmRegs s))) := by
  have hw {m : Nat} (h : Within m 0xfff210000000) : Within m (allExcept p) := within_trans h hp
  exact same_of_touch p (warmMem_touch (hw (by decide)) (warmBank_touch (hw (by decide)) (warmRegs_touch (hw (by decide)) (Touch.refl _ s))))

theorem warmState_port_idle (s : State) (n : Nat) : (port (warmState s) n).st = .idle := by
  obtain hdef | ⟨j, v, himage⟩ := get_mapVals_cases PortState.init (fun _ p => { PortState.init with sparesOut := p.sparesOut }) s.ports n
  · exact congrArg PortState.st hdef
  · exact congrArg PortState.st himage

/-- A piece that neither the registers, the Bank and the memory after a warm reset, nor the start, write is the one of `warmState`. -/
theorem warmReset_same {p : Piece} (hp : Within 0xfffa9010e040 (allExcept p)) (cause : Nat) (s : State) :
    p.same (warmState (warmDown s)) (warmReset cause s) := by
  have hw {m : Nat} (h : Within m 0xfffa9010e040) : Within m (allExcept p) := within_trans h hp
  have hshown := Piece.same_trans (warmBody_same (hw (by decide)) (warmState (warmDown s))) (warmShown_same (hw (by decide)) cause s _)
  have hrom (t : State) : p.same t { t with stage := .rom } := same_of_touch p (stage_touch (hw (by decide)) (Touch.refl _ t))
  rw [warmReset_eq]
  exact Piece.same_trans hshown (Piece.same_trans (hrom _) (warmStart_same (hw (by decide)) _ _))

theorem warmReset_sec (cause : Nat) (s : State) :
    (warmReset cause s).sec = { secAfter (warmDown s) with scanOpen := (warmDown s).sec.scanOpen, ended := [] } := by
  have hbody : (warmMem (warmBank (warmRegs (warmState (warmDown s))))).sec = (warmState (warmDown s)).sec :=
    warmBody_same (p := .sec) (by decide) _
  have hshown (t : State) : (warmShown cause s t).sec = t.sec := warmShown_same (p := .sec) (by decide) cause s t
  rw [warmReset_eq, warmStart_sec, hshown, hbody]
  rfl

theorem warmReset_stage (cause : Nat) (s : State) : (warmReset cause s).stage = .rom := by
  rw [warmReset_eq]
  exact warmStart_same (p := .stage) (by decide) _ _

theorem warmReset_rdG (cause : Nat) (s : State) {f : Fld} (hf : f.Fits) (hrepairs : F.START_STATUS_REPAIRS.Apart f)
    (harea : areaOf f.reg = .rClocks) :
    rdG (warmReset cause s) f = rdG (warmShown cause s (warmMem (warmBank (warmRegs (warmState (warmDown s)))))) f := by
  rw [warmReset_eq, warmStart_rdG _ _ hf hrepairs harea]
  rfl

theorem warmReset_clkEn (cause : Nat) (s : State) : rdG (warmReset cause s) F.CLK_EN = 0 := by
  rw [warmReset_rdG cause s (by decide) (by decide) (by decide), warmShown_rdG cause s _ (by decide) (.inr rfl), rdG_wrG_other (by decide),
    rdG_wrG_other (by decide)]
  have hbank (t : State) : rdG (warmMem (warmBank t)) F.CLK_EN = rdG t F.CLK_EN :=
    rdG_of_touch (p := .rClocks) (by decide) (warmMem_touch (by decide) (warmBank_touch (by decide) (Touch.refl _ t)))
  exact (hbank _).trans (warmRegs_clkEn _)

/-- What every warm reset leaves, whatever its cause. -/
theorem warmReset_leaves {cause : Nat} (hcause : cause < 256) (s : State) : WarmResetLeaves cause s (warmReset cause s) := by
  have hstraps : (warmDown s).straps = s.straps := warmDown_same (p := .straps) (by decide) s
  have hnextOp : (warmDown s).nextOp = s.nextOp := warmDown_same (p := .nextOp) (by decide) s
  have hvault : (warmDown s).vault = s.vault := warmDown_same (p := .vault) (by decide) s
  have himages : (warmDown s).images = s.images := warmDown_same (p := .images) (by decide) s
  have hsec : (warmDown s).sec = s.sec := warmDown_same (p := .sec) (by decide) s
  have hvault' : (warmReset cause s).vault = { (warmDown s).vault with burn := none } := warmReset_same (p := .vault) (by decide) cause s
  have himages' : (warmReset cause s).images =
      { (warmDown s).images with fwVersion := 0, activating := none, verified := false, romStart := true } :=
    warmReset_same (p := .images) (by decide) cause s
  have hdiag' : (warmReset cause s).diag = ⟨[], [], none, (warmDown s).diag.gen⟩ := warmReset_same (p := .diag) (by decide) cause s
  have hports : (warmReset cause s).ports = (warmState (warmDown s)).ports := warmReset_same (p := .ports) (by decide) cause s
  have hsec' := warmReset_sec cause s
  refine ⟨⟨?straps, ?nextOp, ?fuses, ?active, ?staging, ?oper, ?inst, ?maker⟩, ⟨warmReset_stage cause s, ?romStart, ?sessions, ?cp, ?ops, ?time,
    ?lanes, ?ctxs, ?results, ?ports⟩, ?lastKind, ?lastCause, warmReset_clkEn cause s⟩
  case straps => exact (warmReset_same (p := .straps) (by decide) cause s).trans hstraps
  case nextOp => exact (warmReset_same (p := .nextOp) (by decide) cause s).trans hnextOp
  case fuses => rw [hvault', hvault]
  case active => rw [himages', himages]
  case staging => rw [himages', himages]
  case oper => rw [hsec', ← hsec]; rfl
  case inst => rw [hsec', ← hsec]; rfl
  case maker => rw [hsec', ← hsec]; rfl
  case romStart => rw [himages']
  case sessions => rw [hsec']; rfl
  case cp => exact warmReset_same (p := .cp) (by decide) cause s
  case ops => exact warmReset_same (p := .ops) (by decide) cause s
  case time => exact warmReset_same (p := .time) (by decide) cause s
  case lanes => exact warmReset_same (p := .lanes) (by decide) cause s
  case ctxs => exact warmReset_same (p := .ctxs) (by decide) cause s
  case results => rw [hdiag']
  case ports =>
    intro n
    rw [port, hports]
    exact warmState_port_idle _ n
  case lastKind => rw [warmReset_rdG cause s (by decide) (by decide) (by decide), warmShown_lastKind]
  case lastCause => rw [warmReset_rdG cause s (by decide) (by decide) (by decide), warmShown_lastCause hcause]

/-- Settles O8: each event is `warmReset` with its cause where its condition holds. -/
theorem warmResetKeepsAndClears : Obligations.WarmResetKeepsAndClears := by
  intro s
  refine ⟨fun hrun hreq => ⟨warmReset 1 s, ?_, warmReset_leaves (by decide) s⟩, fun hrun => ⟨warmReset 2 s, ?_, warmReset_leaves (by decide) s⟩,
    fun hrun hstage => ⟨warmReset 3 s, ?_, warmReset_leaves (by decide) s⟩, fun hstage => ?_⟩
  · rw [exec, execWarmReset, if_pos (by simp only [hrun, hreq, Bool.and_self])]
  · rw [exec, execLockstepFault, if_pos (by simpa using hrun)]
  · rw [exec, execWatchdogExpiry, if_pos (by simp [hrun, hstage])]
  · rw [exec, execWatchdogExpiry, if_neg (by simp [hstage])]

/-! ## The resets of a port and of a block (R649, R652 to R654) -/

theorem takeReset_resetReq (r : ResetReq) (s : State) : (takeReset r s).clk.resetReq = s.clk.resetReq.filter (· != r) := rfl

/-- A reset that is noted shows its kind and argument, and its RESET entry is the last of the Journal. -/
theorem resetNote_shows {kind arg : Nat} (hkind : kind < 256) (harg : arg < 256) (s : State) :
    rdG (resetNote kind arg s) F.RESET_STATUS_LAST_KIND = kind ∧ rdG (resetNote kind arg s) F.RESET_STATUS_LAST_CAUSE = arg
      ∧ EndsWithResetEntry kind arg (resetNote kind arg s) := by
  let t := wrG F.RESET_STATUS_LAST_CAUSE arg (wrG F.RESET_STATUS_LAST_KIND kind s)
  have hjournal {f : Fld} (harea : areaOf f.reg = .rClocks) : rdG (resetNote kind arg s) f = rdG t f :=
    rdG_of_touch harea (journalReset_touch (by decide) (Touch.refl _ t))
  refine ⟨?_, ?_, t.journal, nowSec t, nowNs t, ?_⟩
  · rw [hjournal (by decide), rdG_wrG_other (by decide), rdG_wrG_self (by decide) hkind]
  · rw [hjournal (by decide), rdG_wrG_self (by decide) harg]
  · exact same_of_touch .journal (countDev_touch (by decide) (Touch.refl _ _))

theorem portReset_clk (n : Nat) (s : State) : (portReset n s).clk = s.clk := same_of_touch .clk (portReset_touch (by decide) (Touch.refl _ s))

theorem blockReset_clk (b : Nat) (s : State) : (blockReset b s).clk = s.clk := same_of_touch .clk (blockReset_touch (by decide) (Touch.refl _ s))

/-- Settles O9: an event whose reset was asked for is the reset of its port or block, and both end with `resetNote`. -/
theorem portAndBlockResetsAreRecorded : Obligations.PortAndBlockResetsAreRecorded := by
  intro s
  refine ⟨fun n hreq => ?port, fun b hreq => ?block, fun n hreq => ?noPort, fun b hreq => ?noBlock⟩
  case port =>
    have hexec : exec (.perPortReset n) s = .next (portReset n.val (takeReset (.port n.val) s)) := by rw [exec, execPerPortReset, if_pos hreq]
    obtain ⟨hkind, hcause, hentry⟩ := resetNote_shows (kind := 4) (arg := n.val) (by decide) (by omega) _
    exact ⟨_, hexec, congrArg Clk.resetReq (portReset_clk _ _), rfl, hkind, hcause, hentry⟩
  case block =>
    have hexec : exec (.softReset b) s = .next (blockReset b.val (takeReset (.block b.val) s)) := by rw [exec, execSoftReset, if_pos hreq]
    obtain ⟨hkind, hcause, hentry⟩ := resetNote_shows (kind := 5) (arg := b.val) (by decide) (by omega) _
    exact ⟨_, hexec, congrArg Clk.resetReq (blockReset_clk _ _), rfl, hkind, hcause, hentry⟩
  case noPort => rw [exec, execPerPortReset, if_neg (by simpa using hreq)]
  case noBlock => rw [exec, execSoftReset, if_neg (by simpa using hreq)]

end Sys2Proof.Proofs
end

section
/-!
The clocks (chapter 14): sources that become valid or fail, the safe state and its release, clock switches and gating; and the supplies
(chapter 15).
-/
namespace Sys2Proof.Proofs
open Sys2Proof.Machine Sys2Proof.Claims

/-! ## What a write of fields leaves -/

theorem onlyWords_refl (l : List Nat) (s : State) : OnlyWords l s s := ⟨rfl, fun _ _ => rfl⟩

/-- A write of a device-global field in a word of the list. -/
theorem onlyWords_wrG {l : List Nat} {f : Fld} {x : Nat} {s t : State} (hmem : f.reg ∈ l) (h : OnlyWords l s t) :
    OnlyWords l s (wrG f x t) := by
  obtain ⟨hrest, hwords⟩ := h
  refine ⟨hrest, fun a ha => ?_⟩
  have hne : a ≠ 0 + f.reg := by
    rintro rfl
    rw [Nat.zero_add] at ha
    exact ha hmem
  exact (rdReg_wrFld_other t f x hne).trans (hwords a ha)

/-! ## The management domain starts or resumes (R630, R656) -/

theorem mgmtFallback_rdG (s : State) {f : Fld} (hf : f.Fits) (hreg : f.reg = 0x20000) : rdG (mgmtFallback s) f = rdG s f := by
  have hother {g : Fld} (hg : g.Fits ∧ g.reg ≠ 0x20000) (x : Nat) (t : State) : rdG (wrG g x t) f = rdG t f :=
    rdG_wrG_other ⟨hg.1, hf, .inl (by omega)⟩
  rw [mgmtFallback]
  split
  · rfl
  · split
    · exact (hother (by decide) _ _).trans ((hother (by decide) _ _).trans (hother (by decide) _ _))
    · rfl

theorem romStart_rdG (s : State) {f : Fld} (hf : f.Fits) (hreg : f.reg = 0x20000) : rdG (romStart s) f = rdG s f := by
  have harea : areaOf f.reg = .rClocks := by rw [hreg]; rfl
  have hload (t : State) : rdG (if rdG s F.VAULT_STATUS_READ_LOCK = 1 then t else loadShadow t) f = rdG t f := by
    split
    · rfl
    · exact rdG_of_touch harea (loadShadow_touch (by decide) (Touch.refl _ t))
  have hapart : F.START_STATUS_REPAIRS.Apart f := .inl (by rw [hreg]; decide)
  exact (warmStart_rdG none _ hf hapart harea).trans (hload _)

/-- The start or the fallback of the management domain changes no ready flag. -/
theorem mgmtGo_ready (s : State) {f : Fld} (hf : f.Fits) (hreg : f.reg = 0x20000) : rdG (mgmtGo s) f = rdG s f := by
  have harea : areaOf f.reg = .rClocks := by rw [hreg]; rfl
  have hlate (t : State) : rdG (safeLate t) f = rdG t f := rdG_of_touch harea (safeLate_touch (by decide) (Touch.refl _ t))
  rw [mgmtGo]
  split
  · rw [romStart_rdG _ hf hreg, mgmtFallback_rdG s hf hreg]
  · rw [hlate, mgmtFallback_rdG s hf hreg]

/-! ## Sources come ready (R621, R622, R639, R704, R705) -/

theorem iroValid_of_running {s : State} (hheld : s.clk.resetHeld = false) (hstage : s.stage ≠ .stopped) (hwake : s.power.wakeStep ≠ 1) :
    iroValid s = mgmtGo (wrG F.CLK_READY_IRO_VALID 1 s) := by
  have hcores : wakeCores (wrG F.CLK_READY_IRO_VALID 1 s) = wrG F.CLK_READY_IRO_VALID 1 s := by
    rw [wakeCores, if_neg]
    exact hwake
  rw [iroValid, if_neg (by simp [hheld, hstage]), hcores]

theorem refclkValid_of_running {s : State} (hheld : s.clk.resetHeld = false) (hstage : s.stage ≠ .stopped) :
    refclkValid s = mgmtGo (wrG F.CLK_READY_REFCLK_VALID 1
      { s with clk := { s.clk with safeNow := { s.clk.safeNow with refclk := false } } }) := by
  rw [refclkValid, if_neg (by simp [hheld, hstage])]
  rfl

theorem powerupCal_of_plausible {b : CalBlock} {codes : List Byte} {s : State} (hturn : calTurn s b = true) (hfew : s.cal.finished.length < 4) :
    powerupCal b true codes s = wrFld 0 (calBlockFld b) 1
      { s with cal := { s.cal with finished := b :: s.cal.finished, codes := SMap.set s.cal.codes [] (calBlockCode b) codes } } := by
  have hfinish : calFinish b codes s =
      { s with cal := { s.cal with finished := b :: s.cal.finished, codes := SMap.set s.cal.codes [] (calBlockCode b) codes } } := by
    rw [calFinish, if_neg]
    · rfl
    · simp only [modCal, List.length_cons]
      omega
  rw [powerupCal, if_neg (by simp [hturn]), if_pos rfl, hfinish]

theorem powerupCal_of_first_bad {b : CalBlock} {codes : List Byte} {s : State} (hturn : calTurn s b = true)
    (hfirst : s.cal.firstBad.contains b = false) :
    powerupCal b false codes s = { s with cal := { s.cal with firstBad := b :: s.cal.firstBad } } := by
  rw [powerupCal, if_neg (by simp [hturn]), if_neg (by decide), if_neg (by rw [hfirst]; decide)]
  rfl

/-- Settles O10: each event in its running branch; a ready flag that is set outlives the start of the cores (`mgmtGo_ready`). -/
theorem clockSourcesComeReady : Obligations.ClockSourcesComeReady := by
  intro s
  refine ⟨fun hheld hstage hwake => ⟨congrArg _ (iroValid_of_running hheld hstage hwake), ?iro⟩, fun hheld hstage => ?refclk,
    fun f hiro href => ?measured, fun p hmay => congrArg _ (if_pos hmay), fun b codes hturn hfew => congrArg _ (powerupCal_of_plausible hturn hfew),
    fun b codes hturn hfirst => congrArg _ (powerupCal_of_first_bad hturn hfirst)⟩
  case iro => rw [mgmtGo_ready _ (by decide) rfl, rdG_wrG_self (by decide) (by decide)]
  case refclk =>
    refine ⟨congrArg _ (refclkValid_of_running hheld hstage), ?_⟩
    rw [mgmtGo_ready _ (by decide) rfl, rdG_wrG_self (by decide) (by decide)]
  case measured =>
    refine ⟨wrG F.CLK_READY_IRO_MEASURED 1 (wrG F.IRO_FREQ f.toNat s), ?_, ?_, rdG_wrG_self (by decide) (by decide),
      onlyWords_wrG (by decide) (onlyWords_wrG (by decide) (onlyWords_refl _ s))⟩
    · rw [exec, execIroMeasured, if_pos ⟨hiro, href⟩]
    · rw [rdG_wrG_other (by decide), rdG_wrG_self (by decide) f.isLt]

/-! ## Clocks fail (R623 to R626, R630) -/

/-- A valid REFCLK that fails under a cause flag, while no reset is held and the device is not in Retain. -/
theorem refclkFail_of_valid {f : Fld} {s : State} (hheld : s.clk.resetHeld = false) (hstage : s.stage ≠ .stopped)
    (hvalid : rdG s F.CLK_READY_REFCLK_VALID = 1) :
    refclkFail f s = mgmtGo (safeEnter failAll (wrG F.CLK_READY_REFCLK_VALID 0 (evG f
      { s with clk := { s.clk with safeNow := { s.clk.safeNow with refclk := true } } }))) := by
  rw [refclkFail, if_neg (by simp [hheld, hstage, hvalid])]
  rfl

theorem iroRange_of_valid {s : State} (hvalid : rdG s F.CLK_READY_IRO_VALID = 1) :
    iroRange s =
      let u := wrG F.CLK_READY_IRO_VALID 0 (evG F.SAFE_CAUSE_IRO_RANGE s)
      mgmtGo (if rdG s F.CLK_READY_REFCLK_VALID = 1 then u else safeEnter failAll u) := by
  rw [iroRange, if_neg (by omega)]

/-- A ready PLL that a cause flag stands for loses lock. -/
theorem pllUnlock_of_ready {p : Pll} {near : Bool} {f : Fld} {s : State} (hready : rdFld s 0 (pllFld p) ≠ 0) (hcause : unlockFld s p = some f) :
    pllUnlock p near s = mgmtGo (safeEnter (fun x => unlockHold p (settle s x)) (countDev 0x34 1
      (if near && s.clk.safeNow.refclk then wrFld 0 (pllFld p) 0 s else evG f (wrFld 0 (pllFld p) 0 s)))) := by
  rw [pllUnlock, if_neg hready, hcause]

/-- Settles O11: the branches of `refclkFail`, `iroRange` and `pllUnlock`. -/
theorem clockFailuresMakeOutputsSafe : Obligations.ClockFailuresMakeOutputsSafe := by
  intro s
  refine ⟨fun hheld hstage hvalid => ⟨congrArg _ (refclkFail_of_valid hheld hstage hvalid), congrArg _ (refclkFail_of_valid hheld hstage hvalid)⟩,
    fun hiro href => ?iroAlone, fun hiro href => ?iroLast, fun p near f hready hcause hfar => ?unlock, fun p f hready hcause hfail => ?unlockNear,
    fun p near hready => congrArg _ (if_pos hready)⟩
  case iroAlone => exact congrArg _ ((iroRange_of_valid hiro).trans (congrArg mgmtGo (if_pos href)))
  case iroLast => exact congrArg _ ((iroRange_of_valid hiro).trans (congrArg mgmtGo (if_neg href)))
  case unlock =>
    have hfar' : ¬ (near && s.clk.safeNow.refclk) = true := by simpa using (by rintro rfl; simpa using hfar)
    exact congrArg _ ((pllUnlock_of_ready hready hcause).trans (by rw [if_neg hfar']))
  case unlockNear => exact congrArg _ ((pllUnlock_of_ready hready hcause).trans (by rw [if_pos (by simp [hfail])]))

/-! ## The safe state is released (R628, R629) -/

/-- Settles O12: a release acts only where an output is held and every condition has cleared. -/
theorem safeStateIsReleased : Obligations.SafeStateIsReleased := by
  intro s u
  have hidle (hnot : ¬ (safeHeldAny s && safeClear s) = true) : exec .safeRelease s = .next s ∧ exec .release s = .next s :=
    ⟨congrArg _ (if_neg hnot), congrArg _ (if_neg hnot)⟩
  refine ⟨fun hany hclear hauto => ?auto, fun hany hclear hauto => ?waiting, fun hany hclear => ?release, fun hclear => hidle (by simp [hclear]),
    fun hany => hidle (by simp [hany])⟩
  case auto =>
    rw [exec, execSafeRelease, safeRelease, if_pos (by simp [hany, hclear]), if_pos hauto]
    rfl
  case waiting =>
    refine ⟨wrG F.SAFE_STATUS_WAITING 1 s, ?_, rdG_wrG_self (by decide) (by decide), onlyWords_wrG (by decide) (onlyWords_refl _ s)⟩
    rw [exec, execSafeRelease, safeRelease, if_pos (by simp [hany, hclear]), if_neg hauto]
  case release =>
    rw [exec, execRelease, releaseWrite, if_pos (by simp [hany, hclear])]
    rfl

/-! ## Clock switches (R633 to R644) -/

theorem oldClockDead_of_waiting {d src : Nat} {s : State} (hwait : s.clk.switchWait = some (d, src)) :
    oldClockDead s = switchTo d src { s with clk := { s.clk with switchWait := none } } := by
  rw [oldClockDead, hwait]
  rfl

theorem oldClockDead_of_none {s : State} (hwait : s.clk.switchWait = none) : oldClockDead s = s := by
  rw [oldClockDead, hwait]

/-- Settles O13: one clause for each branch of `clkSwitch`, then the other writes of the clock registers. -/
theorem clockSwitchesFollowTheRules : Obligations.ClockSwitchesFollowTheRules := by
  refine ⟨fun v s => ?write, fun d src s hwait => congrArg _ (oldClockDead_of_waiting hwait),
    fun s hwait => congrArg _ (oldClockDead_of_none hwait), fun v s => rfl, fun v s => rfl⟩
  intro d src u
  rw [exec, execClkSwitchGo, clkSwitch]
  refine ⟨fun hgo => ?noGo, fun hgo hnamed => ?unnamed, fun hgo hnamed hbad => ?refused, fun hgo hnamed hready hlock hold => ?switch,
    fun hgo hnamed hready hlock hold => ?wait⟩
  case noGo => rw [if_pos hgo]
  case unnamed => rw [if_neg hgo, if_pos (by simp [d, src, hnamed])]
  case refused => rw [if_neg hgo, if_neg (by simp [d, src, hnamed]), if_pos (by simpa [d, src] using hbad)]
  case switch => rw [if_neg hgo, if_neg (by simp [d, src, hnamed]), if_neg (by simp [d, src, hready, hlock]), if_pos hold]
  case wait =>
    rw [if_neg hgo, if_neg (by simp [d, src, hnamed]), if_neg (by simp [d, src, hready, hlock]), if_neg (by simp [d, hold])]
    rfl

/-! ## Supplies (R696 to R700) -/

theorem warnBegin_of_ne_core {r : Rail} (hr : r ≠ .core) (s : State) : warnBegin r s = ledgerDevice 3 (railNo r * 65536)
    (wrG (railBit F.SUPPLY_STATUS_WARN_NOW r) 1 (evG (railBit F.SUPPLY_EVENTS_WARN r) s)) := by
  rw [warnBegin, if_neg hr]

theorem railIgnored_core (s : State) : railIgnored s .core = false := by
  rw [railIgnored, Bool.and_eq_false_iff]
  exact .inr rfl

theorem auditAbort_ledger (reset : Bool) (s : State) : (auditAbort reset s).ledger = s.ledger :=
  same_of_touch .ledger (auditAbort_touch (by decide) (Touch.refl _ s))

/-- Settles O14: the branches of each rail's events; after `aonLoss` the fields are those that `hardReset` keeps of an emptied state. -/
theorem supplyWarningsAndResetLevels : Obligations.SupplyWarningsAndResetLevels := by
  refine ⟨fun s hheld hnow => ⟨?coreWarn, ?coreRail⟩, fun r s hr hheld hign hnow => ?rail, fun r s hnone => ?noWarn, fun r s => ?warnEnd,
    fun s => ⟨rfl, rfl, rfl⟩, fun s => ?aon, fun r s hign hlow => ?low⟩
  case coreWarn => rw [exec, execVddCoreWarning, if_neg (by simp [hheld]), coreWarning, if_neg (by simp [hnow])]
  case coreRail =>
    rw [exec, exec, execRailWarning, execVddCoreWarning, if_neg (by simp [hheld, hnow, railIgnored_core]), if_pos rfl, if_neg (by simp [hheld])]
  case rail =>
    rw [exec, execRailWarning, if_neg (by simp [hheld, hign, hnow]), if_neg hr, warnBegin_of_ne_core hr]
  case noWarn => rw [exec, execRailWarning, if_pos (by simpa [or_assoc] using hnone)]
  case warnEnd =>
    intro u w
    rw [exec, execWarningEnd]
    exact ⟨fun hnow hr => congrArg _ (if_pos ⟨hr, hnow⟩), fun hr => congrArg _ (if_neg fun h => hr h.1),
      rdG_wrG_self (by cases r <;> decide) (Nat.two_pow_pos _)⟩
  case aon =>
    refine ⟨aonLoss s, rfl, rfl, auditAbort_ledger _ _, rfl, rfl, rfl, rfl, rfl, rfl, rfl⟩
  case low =>
    intro u
    have hlow' : ¬ (railIgnored s r || s.power.lowRails.contains r) = true := by simp [hign, hlow]
    refine ⟨fun hr => ?lanesOff, fun hr => ?pllsLost, fun hr => ?portsOff⟩
    case lanesOff =>
      subst hr
      rw [exec, execRailResetLevel, if_neg (by decide), if_neg (by decide), if_neg hlow']
      rfl
    case pllsLost =>
      subst hr
      rw [exec, execRailResetLevel, if_neg (by decide), if_neg (by decide), if_neg hlow']
      rfl
    case portsOff =>
      obtain rfl | rfl := hr
      all_goals
        rw [exec, execRailResetLevel, if_neg (by decide), if_neg (by decide), if_neg hlow']
        · rfl
        all_goals nofun

end Sys2Proof.Proofs
end

section
/-!
The Command Port (chapter 11): how a command that is in hand comes to its plan (R517), what completing it leaves (R507, R510, R512), and the
transactions (R504 to R507).
-/
namespace Sys2Proof.Proofs
open Sys2Proof.Machine Sys2Proof.Claims

/-! ## The checks of a plan, in order -/

@[simp] theorem firstOf_nil (d : Plan) : firstOf [] d = d := rfl

@[simp] theorem firstOf_none_cons (l : List (Option Plan)) (d : Plan) : firstOf (none :: l) d = firstOf l d := rfl

@[simp] theorem firstOf_some_cons (p : Plan) (l : List (Option Plan)) (d : Plan) : firstOf (some p :: l) d = p := rfl

@[simp] theorem chk_true (p : Plan) : chk true p = some p := rfl

@[simp] theorem chk_false (p : Plan) : chk false p = none := rfl

@[simp] theorem bad_false : bad false = none := rfl

theorem chk_of_false {b : Bool} (hb : b = false) (p : Plan) : chk b p = none := by rw [hb, chk_false]

theorem chk_of_true {b : Bool} (hb : b = true) (p : Plan) : chk b p = some p := by rw [hb, chk_true]

theorem bad_of_false {b : Bool} (hb : b = false) : bad b = none := chk_of_false hb _

theorem busyIf_of_false {b : Bool} (hb : b = false) (s : State) : busyIf s b = none := chk_of_false hb _

theorem gated_of_run {s : State} {b : Nat} (hrun : clkRun s b = true) : gated s b = none := chk_of_false (by simp [hrun]) _

theorem inAudit_of_free {s : State} {b : Nat} (hfree : b ∉ s.audit.held) : inAudit s b = none := chk_of_false (by simp [hfree]) _

/-- A long command that finds fewer than 16 operations running is accepted with the next operation ID (R526, R528). -/
theorem long_of_room {s : State} (hroom : (runningOps s).length < 16) (opcode : Nat) (role : Option Role) (n : Nat) (effect : Nat → State → State) :
    Plan.long s opcode role n effect =
      ⟨.accepted, natBE 4 s.nextOp ++ natBE 4 (Config.estimate opcode s.draws).toNat ++ natBE 1 n, 0, true, s.nextOp,
        fun s' => effect s.nextOp (startOp opcode role n (draw s'))⟩ := by
  rw [Plan.long, if_neg (by omega)]

/-! ## The checks 4 to 7 (R517, R519, R523, R807) -/

section Checks
variable {o : Opcode} {c : Packet} {s : State}

/-- The test of check 4. -/
def versionFails (o : Opcode) (c : Packet) (s : State) : Bool :=
  decide (o.code ≠ 0x01) && (match s.cp.helloVersion with | some v => v != c.proto.toNat | none => true)

/-- The test of check 5. -/
def romFails (o : Opcode) (s : State) : Bool := s.stage == .rom && !o.rom

/-- The test of check 6. -/
def roleFails (o : Opcode) (c : Packet) (s : State) : Bool :=
  unknownSession s c || !atLeast (roleOf s c) (if s.stage = .rom then none else o.least) || (o.change && roleOf s c == some .operator)
    || (keylessMaker s c && o.change && o.code != 0x11 && o.code != 0xF0) || o.denied c (roleOf s c) s

/-- The plan that the checks 4 to 7 and the opcode's own make, before the Ledger's room is asked for. -/
def checkedPlan (o : Opcode) (c : Packet) (s : State) : Plan :=
  firstOf [chk (versionFails o c s) (Plan.refuse .version 0), chk (romFails o s) (Plan.refuse .notReady 0),
    chk (roleFails o c s) (Plan.refuse .denied 0), bad (!headerOk c)] (o.plan c (roleOf s c) s)

theorem planOf_eq : planOf o c s =
    if (checkedPlan o c s).executed && o.change && atLeast (roleOf s c) (some .installer) && ledgerFull s then Plan.refuse .ledgerFull 0
    else checkedPlan o c s := rfl

theorem planOf_of_refused {st : Status} (hplan : checkedPlan o c s = Plan.refuse st 0) : planOf o c s = Plan.refuse st 0 := by
  rw [planOf_eq, hplan, if_neg (by simp [Plan.refuse])]

theorem versionFails_eq_false (hversion : o.code = 1 ∨ s.cp.helloVersion = some c.proto.toNat) : versionFails o c s = false := by
  obtain hcode | hhello := hversion
  · simp [versionFails, hcode]
  · simp [versionFails, hhello]

theorem versionFails_eq_true (hcode : o.code ≠ 1) (hhello : s.cp.helloVersion ≠ some c.proto.toNat) : versionFails o c s = true := by
  rw [versionFails, decide_eq_true hcode, Bool.true_and]
  split
  · next v hv => simpa using fun heq : v = c.proto.toNat => hhello (hv.trans (congrArg some heq))
  · rfl

theorem romFails_eq_false (hrom : s.stage = .rom → o.rom = true) : romFails o s = false := by
  simpa [romFails] using hrom

theorem roleFails_of_ready (h : Ready o c s) : roleFails o c s = false := by
  obtain ⟨-, -, -, -, hsession, hrole, hchange, hdenied, -⟩ := h
  cases hch : o.change with
  | false => simp [roleFails, hsession, hrole, hdenied, hch]
  | true =>
    obtain ⟨hoper, -, hkey⟩ := hchange hch
    have hkey' : keylessMaker s c = true → ¬ o.code = 0x11 → o.code = 0xF0 := fun hmaker hcode => (hkey hmaker).resolve_left hcode
    simpa [roleFails, hsession, hrole, hdenied, hch, hoper] using hkey'

theorem planOf_of_ready (h : Ready o c s) : planOf o c s = o.plan c (roleOf s c) s := by
  have hroles := roleFails_of_ready h
  obtain ⟨-, -, hversion, hrom, -, -, hchange, -, hheader⟩ := h
  have hplan : checkedPlan o c s = o.plan c (roleOf s c) s := by
    rw [checkedPlan, versionFails_eq_false hversion, romFails_eq_false hrom, hroles, hheader]
    rfl
  have hledger : ¬ ((o.plan c (roleOf s c) s).executed && o.change && atLeast (roleOf s c) (some .installer) && ledgerFull s) = true := by
    cases hch : o.change with
    | false => simp
    | true => simp [(hchange hch).2.1]
  rw [planOf_eq, hplan, if_neg hledger]

theorem runOpcode_in_hand (hhand : s.cp.current = some c) (hcode : c.opcode.toNat = o.code) : runOpcode o c s = carryOut o c (planOf o c s) s := by
  rw [runOpcode, if_pos hhand, process, if_pos ⟨hhand, hcode⟩]

/-- A command that is ready is carried out under the plan of its opcode. -/
theorem runOpcode_of_ready (h : Ready o c s) : runOpcode o c s = carryOut o c (o.plan c (roleOf s c) s) s := by
  rw [runOpcode_in_hand h.1 h.2.1, planOf_of_ready h]

/-- A command that is ready and whose plan executes has the outcome that the plan names. -/
theorem executes_of_plan {st : Status} {results : List Byte} {effect : State → State} {i : Instr} (h : Ready o c s)
    (hexec : exec i s = .next (runOpcode o c s)) (hplan : o.plan c (roleOf s c) s = Plan.done st results effect) :
    Executes o c s st results effect i := by
  rw [Executes, hexec, runOpcode_of_ready h, hplan]
  rfl

/-- A command that is ready and whose plan is a long operation starts it. -/
theorem starts_of_plan {n : Nat} {effect : Nat → State → State} {i : Instr} (h : Ready o c s) (hroom : (runningOps s).length < 16)
    (hexec : exec i s = .next (runOpcode o c s)) (hplan : o.plan c (roleOf s c) s = Plan.long s o.code (roleOf s c) n effect) :
    Starts o c s n effect i := by
  refine ⟨(Config.estimate o.code s.draws).toNat, ?_⟩
  rw [hexec, runOpcode_of_ready h, hplan, long_of_room hroom]
  rfl

/-- A command that fails check 4, 5 or 6 is counted and answered, and has no effect. -/
theorem runOpcode_of_refused {st : Status} (hhand : s.cp.current = some c) (hcode : c.opcode.toNat = o.code)
    (hplan : checkedPlan o c s = Plan.refuse st 0) (hst : st ≠ .locked) :
    runOpcode o c s = complete c st 0 [] (pmEv 0x18 2 (commandAttr (roleOf s c) c)
      (modSession c.session (fun x => { x with aliveTick := s.tick }) s)) := by
  have hbefore : beforeEffect o c (Plan.refuse st 0) s =
      pmEv 0x18 2 (commandAttr (roleOf s c) c) (modSession c.session (fun x => { x with aliveTick := s.tick }) s) := by
    simp [beforeEffect, Plan.refuse, hst]
  rw [runOpcode_in_hand hhand hcode, planOf_of_refused hplan, carryOut, hbefore]
  rfl

theorem runOpcode_of_other (hhand : s.cp.current = some c) (hcode : c.opcode.toNat ≠ o.code) : runOpcode o c s = s := by
  rw [runOpcode, if_pos hhand, process, if_neg (fun h => hcode h.2)]

end Checks

/-! ## Completing a command (R507, R510, R512) -/

theorem findSession_modSession (h : BitVec 32) {f : Session → Session} (hf : ∀ x, (f x).handle = x.handle) (s : State) :
    findSession (modSession h f s) h = (findSession s h).map f := by
  have hmap (l : List Session) : (l.map (fun x => if x.handle = h then f x else x)).find? (fun x => x.handle == h)
      = (l.find? (fun x => x.handle == h)).map f := by
    induction l with
    | nil => rfl
    | cons x l ih => by_cases hx : x.handle = h <;> simp [hx, hf, ih]
  exact hmap s.sec.sessions

theorem modSession_sec_of_none {h : BitVec 32} {s : State} (hnone : findSession s h = none) (f : Session → Session) : (modSession h f s).sec = s.sec := by
  have hhandles : ∀ x ∈ s.sec.sessions, x.handle ≠ h := by simpa [findSession] using hnone
  have hmap : s.sec.sessions.map (fun x => if x.handle = h then f x else x) = s.sec.sessions :=
    (List.map_congr_left fun x hx => if_neg (hhandles x hx)).trans (List.map_id' _)
  simp [modSession, modSec, hmap]

theorem complete_of_session_zero {c : Packet} (hzero : c.session = 0) (st : Status) (retry : Nat) (results : List Byte) (s : State) :
    complete c st retry results s = holdReply (replyBytes c st retry results)
      (modCp (fun p => { p with stored0 := some ⟨c.seq, retryFreeCrc c, replyBytes c st retry results⟩ }) s) := by
  rw [complete, storeReply, if_pos hzero]

theorem complete_of_session {c : Packet} (hsession : c.session ≠ 0) (st : Status) (retry : Nat) (results : List Byte) (s : State) :
    complete c st retry results s = holdReply (replyBytes c st retry results)
      (modSession c.session (fun y => { y with stored := some ⟨c.seq, retryFreeCrc c, replyBytes c st retry results⟩ }) s) := by
  rw [complete, storeReply, if_neg hsession]

/-- Settles O16: a completion is `holdReply` after `storeReply`, and a command in hand that fails a check has the plan of the first check that
it fails. -/
theorem everyCommandIsAnsweredInTheSameWay : Obligations.EveryCommandIsAnsweredInTheSameWay := by
  refine ⟨?complete, ?checks, fun o c s hhand hcode => runOpcode_of_other hhand hcode⟩
  case complete =>
    intro c st retry results s t x
    by_cases hzero : c.session = 0
    · have ht : t = _ := complete_of_session_zero hzero st retry results s
      rw [ht]
      exact ⟨rfl, rfl, rfl, fun _ => ⟨rfl, rfl⟩, fun h => absurd hzero h, fun h => absurd hzero h, (if_pos hzero).symm, rfl⟩
    · have ht : t = _ := complete_of_session hzero st retry results s
      rw [ht]
      refine ⟨rfl, rfl, rfl, fun h => absurd h hzero, fun _ hopen => ?_, fun _ hnone => modSession_sec_of_none hnone _, (if_neg hzero).symm, rfl⟩
      obtain ⟨y, hy⟩ := Option.ne_none_iff_exists'.mp hopen
      have hfind := findSession_modSession c.session (f := fun y => { y with stored := some x }) (fun _ => rfl) s
      rw [hy] at hfind
      exact (if_neg hzero).trans (congrArg (fun z => z.bind (·.stored)) hfind)
  case checks =>
    intro o c s hhand hcode t
    refine ⟨fun hone hhello => ?version, fun hversion hstage hrom => ?notReady, fun hversion hrom hwhy => ?denied⟩
    case version =>
      refine runOpcode_of_refused hhand hcode ?_ (by decide)
      rw [checkedPlan, versionFails_eq_true hone hhello, chk_true, firstOf_some_cons]
    case notReady =>
      have hfails : romFails o s = true := by simp [romFails, hstage, hrom]
      refine runOpcode_of_refused hhand hcode ?_ (by decide)
      rw [checkedPlan, versionFails_eq_false hversion, hfails, chk_false, firstOf_none_cons, chk_true, firstOf_some_cons]
    case denied =>
      have hfails : roleFails o c s = true := by
        obtain hsession | hrole | ⟨hchange, hoper⟩ | hdenied := hwhy
        · simp [roleFails, hsession]
        · simp [roleFails, hrole]
        · simp [roleFails, hchange, hoper]
        · simp [roleFails, hdenied]
      refine runOpcode_of_refused hhand hcode ?_ (by decide)
      rw [checkedPlan, versionFails_eq_false hversion, romFails_eq_false hrom, hfails]
      rfl

/-! ## Transactions (R504 to R507, R511, R512, R688) -/

section Transactions
variable {s : State} {b : List Byte} {c : Packet}

/-- The state in which a WRITE is judged: nothing driven, and the held reply gone. -/
abbrev writeBegun (s : State) : State := modCp (fun p => { p with out := [], reply := none, replyRead := 0 }) s

theorem cpWrite_of_answering (hanswers : cpAnswers s = true) (b : List Byte) :
    cpWrite b s = arrive b (modCp (fun p => { p with out := [] }) s) := by
  have hstage : s.stage ≠ .stopped := by
    rintro hstop
    simp [cpAnswers, hstop] at hanswers
  rw [cpWrite, if_neg hstage]
  exact if_pos hanswers

theorem cpWrite_of_free (hanswers : cpAnswers s = true) (hrun : coresRun s = true) (hfree : s.cp.current = none) (b : List Byte) :
    cpWrite b s = match parsePacket b with
      | some c => if crcOk c && decide (plen c ≤ 4352) then judge c (writeBegun s) else discardBad (writeBegun s)
      | none => discardBad (writeBegun s) := by
  have hgo : ¬ (!coresRun (writeBegun s) || (writeBegun s).cp.current.isSome) = true := by
    have hrun' : coresRun (writeBegun s) = true := hrun
    have hfree' : (writeBegun s).cp.current = none := hfree
    simp [hrun', hfree']
  rw [cpWrite_of_answering hanswers]
  exact if_neg hgo

theorem cpWrite_of_busy (hanswers : cpAnswers s = true) (hbusy : s.cp.current ≠ none) (b : List Byte) :
    cpWrite b s = discardPacket (writeBegun s) := by
  have hstop : (!coresRun (writeBegun s) || (writeBegun s).cp.current.isSome) = true := by
    have hbusy' : (writeBegun s).cp.current.isSome = true := Option.isSome_iff_ne_none.mpr hbusy
    simp [hbusy']
  rw [cpWrite_of_answering hanswers]
  exact if_pos hstop

theorem judge_of_new (hnew : ∀ x, storedFor s c.session = some x → x.seq ≠ c.seq) :
    judge c s = if c.opcode.toNat ∈ assignedOpcodes then modCp (fun p => { p with current := some c }) s else complete c .badParam 0 [] s := by
  rw [judge]
  split
  · next x hx => rw [if_neg (hnew x hx), List.contains_eq_mem]; simp
  · rw [List.contains_eq_mem]; simp

theorem judge_of_stored {x : Stored} (hstored : storedFor s c.session = some x) (hseq : x.seq = c.seq) :
    judge c s = if x.crc = retryFreeCrc c then addCnt 0 F.CP_RETRIES 1 (holdReply x.reply s) else holdReply (replyBytes c .badParam 0 []) s := by
  rw [judge, hstored]
  exact if_pos hseq

end Transactions

/-- Settles O15: a WRITE is `arrive`, whose packet is judged, dropped or discarded; the other transactions by their branches. -/
theorem commandPortTransactions : Obligations.CommandPortTransactions := by
  refine ⟨?write, fun b s hstop => ?retain, fun k s hanswers => ?read, fun s hanswers => congrArg _ (if_pos hanswers),
    fun k s hquiet => ⟨?quietRead, ?quietPoll⟩, fun code s h1 h2 h3 hanswers => ?other⟩
  case write =>
    intro b s hanswers hrun u
    refine ⟨fun c hfree hparse hcrc hlen => ?packet, fun hfree hbad => ?malformed, fun hbusy => congrArg _ (cpWrite_of_busy hanswers hbusy b)⟩
    case packet =>
      have hjudge : exec (.write b) s = .next (judge c u) := by
        rw [exec, execWrite, cpWrite_of_free hanswers hrun hfree, hparse]
        exact congrArg _ (if_pos (by simp [hcrc, hlen]))
      rw [hjudge]
      refine ⟨fun hnew hop => congrArg _ ((judge_of_new (s := u) hnew).trans (if_pos hop)),
        fun hnew hop => congrArg _ ((judge_of_new (s := u) hnew).trans (if_neg hop)), fun x hstored hseq hcrc' => ?retry, fun x hstored hseq hcrc' => ?clash⟩
      case retry => exact congrArg _ ((judge_of_stored (s := u) hstored hseq).trans (if_pos hcrc'))
      case clash => exact congrArg _ ((judge_of_stored (s := u) hstored hseq).trans (if_neg hcrc'))
    case malformed =>
      rw [exec, execWrite, cpWrite_of_free hanswers hrun hfree]
      split
      · next c hparse =>
        have hfails : ¬ (crcOk c && decide (plen c ≤ 4352)) = true := by
          obtain hcrc | hlen := hbad c hparse
          · simp [hcrc]
          · simp [hlen.not_ge]
        exact congrArg _ (if_neg hfails)
      · rfl
  case retain =>
    rw [exec, execWrite, cpWrite, if_pos hstop]
    rfl
  case read =>
    refine ⟨cpRead k s, rfl, ?_⟩
    rw [cpRead, if_pos hanswers]
    exact ⟨rfl, rfl, fun hk => by simp [modCp, hk.ne'], fun hk => by simp [modCp, hk], rfl⟩
  case quietRead => exact congrArg _ (if_neg (by simp [hquiet]))
  case quietPoll => exact congrArg _ (if_neg (by simp [hquiet]))
  case other =>
    have hcode : ¬ (code = 0xC1 ∨ code = 0xC2 ∨ code = 0xC3 ∨ cpAnswers s = false) := by simpa [hanswers] using ⟨h1, h2, h3⟩
    exact congrArg _ (if_neg hcode)

end Sys2Proof.Proofs
end

section
/-!
The commands of sessions, of the Ledger and of operation records (chapters 11 and 12): the plan of each, and the timers of sessions.
-/
namespace Sys2Proof.Proofs
open Sys2Proof.Machine Sys2Proof.Claims

/-! ## HELLO, PROFILE_SELECT and SESSION_CLOSE (R522 to R525, R563) -/

section
variable {c : Packet} {role : Option Role} {s : State}

theorem helloPlan_of_ok (hlen : plen c = 4) (hzeros : zeros c 1 3 = true) :
    helloPlan c role s = if pb c 0 % 2 = 1 then Plan.done .ok (helloBytes s 1) helloDone else Plan.done .version (helloBytes s 0) id := by
  rw [helloPlan, bad_of_false (by simp [hlen, hzeros]), firstOf_none_cons, firstOf_nil]

theorem profilePlan_of_ok (hlen : plen c = 4) (hzeros : zeros c 1 3 = true) (hprofile : pb c 0 ≤ 4) :
    profilePlan c role s = Plan.done .ok (natBE 1 (if pb c 0 = 0 then s.strapReq else pb c 0) ++ [1])
      (fun s' => { s' with profileSel := pb c 0, profileNew := true }) := by
  have hone : natBE 1 1 = [1] := by decide
  rw [profilePlan, bad_of_false (by simp [hlen, hzeros, hprofile]), firstOf_none_cons, firstOf_nil, profileFor, hone, nextProfile]

/-! ## SESSION_OPEN (R556 to R562) -/

theorem sessionOpenPlan_of_ok {r : Role} {ph : Nat} (hphase : pb c 0 = ph) (hph : ph = 1 ∧ plen c = 20 ∨ ph = 2 ∧ plen c = 40)
    (hzero : c.session = 0) (hrole : roleOfCode (pb c 1) = some r) (hslot : pb c 2 ≤ 1) (hthird : pb c 3 = 0) :
    sessionOpenPlan c role s = if ph = 1 then openPhase1 c r (pb c 2) s else openPhase2 c r (pb c 2) s := by
  have hbad : (decide (c.session ≠ 0) || (decide (ph ≠ 1) && decide (ph ≠ 2)) || decide (plen c ≠ if ph = 1 then 20 else 40)
      || decide (pb c 2 > 1) || decide (pb c 3 ≠ 0)) = false := by
    obtain ⟨rfl, hlen⟩ | ⟨rfl, hlen⟩ := hph <;> simp [hzero, hlen, hslot, hthird]
  rw [sessionOpenPlan, hrole, hphase]
  dsimp only
  rw [bad_of_false hbad, firstOf_none_cons, firstOf_nil]

theorem openPhase1_of_free {r : Role} {slot : Nat} (hroom : sessionFull s r = false) (hlock : rdG s F.VAULT_STATUS_READ_LOCK = 1 → r = .operator)
    (hheld : (guardOf s r).held = false) (hkey : keylessOpen s r slot = false) :
    openPhase1 c r slot s = Plan.done .ok (natBE 4 (drawHandle s).toNat ++ natBE 16 (Config.nonce s.draws).toNat ++ vSerial s)
      (fun s' => modSec (fun k => { k with prov := some ⟨drawHandle s, r, slot, slice c.params 4 16, natBE 16 (Config.nonce s.draws).toNat⟩ })
        (draw s')) := by
  rw [openPhase1, chk_of_false hroom, chk_of_false (by simpa using hlock), chk_of_false hheld, chk_of_false hkey, firstOf_none_cons,
    firstOf_none_cons, firstOf_none_cons, firstOf_none_cons, firstOf_nil]

/-- The proof that phase 2 asks for. -/
def proofRight (c : Packet) (r : Role) (s : State) (p : Provisional) (k : List Byte) : Prop :=
  let g := BitVec.ofNat 32 (pf c 4 4)
  p.handle = g ∧ p.role = r ∧ p.slot = pb c 2
    ∧ slice c.params 8 32 = hmac k (labelQns1 ++ authM s r (pb c 2) g p.devNonce p.hostNonce)

theorem openPhase2_of_room {r : Role} {p : Provisional} {k : List Byte} (hroom : sessionFull s r = false)
    (hlock : rdG s F.VAULT_STATUS_READ_LOCK = 1 → r = .operator) (hprov : s.sec.prov = some p) (hkey : roleKey s r (pb c 2) = some k) :
    let g := BitVec.ofNat 32 (pf c 4 4)
    let m := authM s r (pb c 2) g p.devNonce p.hostNonce
    (proofRight c r s p k → openPhase2 c r (pb c 2) s =
      Plan.done .ok (natBE 4 g.toNat ++ hmac k (labelQnd1 ++ m) ++ natBE 2 (idleLimit s))
        (fun s' => openSession c ⟨g, r, pb c 2, hmac k (labelQnk1 ++ m), false, none, s'.tick⟩ s'))
    ∧ (¬ proofRight c r s p k → openPhase2 c r (pb c 2) s = Plan.done .denied [] (authFail c r)) := by
  have hready : ¬ (rdG s F.VAULT_STATUS_READ_LOCK = 1 ∧ r ≠ .operator) := fun h => h.2 (hlock h.1)
  intro g m
  rw [openPhase2, if_neg hready, if_neg (by simp [hroom]), hprov, hkey]
  exact ⟨fun hright => if_pos hright, fun hwrong => if_neg hwrong⟩

end

/-! ## The timers (R558, R562, R563) -/

theorem sessionIdle_of_open {h : BitVec 32} {x : Session} {s : State} (hopen : findSession s h = some x) :
    sessionIdle h s =
      if idleLimit s ≠ 0 ∧ s.stage ≠ .stopped ∧ x.aliveTick + idleLimit s * 100000000 ≤ s.tick then endSession h 2 s else s := by
  rw [sessionIdle, hopen]

theorem guardOf_modGuard_same (r : Role) (f : RoleGuard → RoleGuard) (s : State) : guardOf (modGuard r f s) r = f (guardOf s r) := by
  cases r <;> rfl

theorem guardOf_modGuard_other {q r : Role} (hne : q ≠ r) (f : RoleGuard → RoleGuard) (s : State) : guardOf (modGuard r f s) q = guardOf s q := by
  cases q <;> cases r <;> simp [guardOf, modGuard, modSec] at hne ⊢

theorem modGuard_sessions (r : Role) (f : RoleGuard → RoleGuard) (s : State) : (modGuard r f s).sec.sessions = s.sec.sessions := by
  cases r <;> rfl

/-- Settles O17: each command by its plan, each timer by its branches. -/
theorem sessionCommandsTakeEffect : Obligations.SessionCommandsTakeEffect := by
  refine ⟨fun c s hready hlen hzeros => ?hello, fun c r s hready hzero hrole hslot hthird hroom hlock => ?opens, fun c s hready hlen => ?close,
    fun c s hready hlen hzeros hprofile => executes_of_plan hready rfl (profilePlan_of_ok (role := roleOf s c) hlen hzeros hprofile),
    fun h x s hopen hlimit hstage => ⟨fun hlong => ?idle, fun hshort => ?alive⟩, fun s => rfl, fun r s => ?holdoff⟩
  case hello =>
    have hplan := helloPlan_of_ok (role := roleOf s c) (s := s) hlen hzeros
    refine ⟨fun hodd => executes_of_plan hready rfl (hplan.trans (if_pos hodd)), fun heven => executes_of_plan hready rfl (hplan.trans (if_neg ?_))⟩
    omega
  case opens =>
    intro h
    refine ⟨fun hphase hlen hheld hkey => executes_of_plan hready rfl ?first, fun p k hphase hlen hprov hkey => ?second⟩
    case first =>
      exact (sessionOpenPlan_of_ok (role := roleOf s c) hphase (.inl ⟨rfl, hlen⟩) hzero hrole hslot hthird).trans (openPhase1_of_free hroom hlock hheld hkey)
    case second =>
      have hplan := sessionOpenPlan_of_ok (role := roleOf s c) (s := s) hphase (.inr ⟨rfl, hlen⟩) hzero hrole hslot hthird
      obtain ⟨hright, hwrong⟩ := openPhase2_of_room (c := c) hroom hlock hprov hkey
      intro g m
      refine ⟨fun hhandle hr hs hproof => executes_of_plan hready rfl (hplan.trans (hright ⟨hhandle, hr, hs, hproof⟩)),
        fun hbad => executes_of_plan hready rfl (hplan.trans (hwrong ?_))⟩
      rintro ⟨hhandle, hr, hs, hproof⟩
      simp only [g, m, hhandle, hr, hs, hproof, ne_eq, not_true_eq_false, or_self] at hbad
  case close =>
    refine executes_of_plan hready rfl ?_
    exact (congrArg (fun x => firstOf [x] _) (bad_of_false (by simp [hlen])))
  case idle => exact congrArg _ ((sessionIdle_of_open hopen).trans (if_pos ⟨hlimit, hstage, hlong⟩))
  case alive => exact congrArg _ ((sessionIdle_of_open hopen).trans (if_neg fun h => by omega))
  case holdoff =>
    refine ⟨modGuard r (fun g => { g with held := false }) s, rfl, ?_, ?_, fun q hq => guardOf_modGuard_other hq _ s, modGuard_sessions r _ s, rfl⟩
    · rw [guardOf_modGuard_same]
    · rw [guardOf_modGuard_same]

/-! ## The Ledger's commands and OP_QUERY (R530, R573, R574) -/

section
variable {c : Packet} {role : Option Role} {s : State}

theorem ledgerReadPlan_of_ok (hlen : plen c = 8) (hzeros : zeros c 5 3 = true) (hone : 1 ≤ pb c 4) (hmany : pb c 4 ≤ 64)
    (hin : ledgerIn s.ledger (pf c 0 4) = true) :
    let k := min (pb c 4) (indexRun (pf c 0 4) s.ledger.head)
    ledgerReadPlan c role s = Plan.done .ok (natBE 4 s.ledger.head ++ natBE 4 s.ledger.tail ++ natBE 1 k ++ [0, 0, 0]
      ++ (indexFrom k (pf c 0 4)).flatMap (fun j => ledgerSlot s (j % 4096))) id := by
  intro k
  rw [ledgerReadPlan, bad_of_false (by simp [hlen, hzeros, hmany, hin]; omega), firstOf_none_cons, firstOf_nil]

theorem ledgerDrainPlan_of_ok {e : LedgerEntry} (hlen : plen c = 8) (hin : ledgerIn s.ledger (pf c 0 4) = true)
    (hslot : SMap.get s.ledger.slots none (pf c 0 4 % 4096) = some e) :
    ledgerDrainPlan c role s =
      if pf c 4 4 = e.check.toNat then Plan.done .ok [] (ledgerDrain c role (pf c 0 4)) else Plan.done .recordBad [] id := by
  rw [ledgerDrainPlan, hslot]
  dsimp only
  rw [bad_of_false (by simp [hlen, hin]), firstOf_none_cons]
  by_cases hcheck : pf c 4 4 = e.check.toNat
  · rw [if_pos hcheck, chk_of_false (by simp [hcheck]), firstOf_none_cons, firstOf_nil]
  · rw [if_neg hcheck, chk_of_true (by simpa using Ne.symm hcheck), firstOf_some_cons]

theorem opQueryPlan_of_found {o : Op} (hlen : plen c = 4) (hid : pf c 0 4 ≠ 0xFFFFFFFF) (hfound : findOp s (pf c 0 4) = some o) :
    opQueryPlan c role s = Plan.done .ok (opRecord s o)
      (fun s' => if o.st = .done then modOp o.id (fun o => { o with collected := true }) s' else draw s') := by
  rw [opQueryPlan, if_neg hid, hfound]
  dsimp only
  rw [bad_of_false (by simp [hlen]), firstOf_none_cons, firstOf_nil]

theorem opQueryPlan_of_none_pending (hlen : plen c = 4) (hid : pf c 0 4 = 0xFFFFFFFF) (hnone : completionPending s = false) :
    opQueryPlan c role s = Plan.done .ok (List.replicate 24 0) (fun s' => s') := by
  have hfind : s.ops.find? (fun o => o.st == .done && !o.collected) = none := by simpa [completionPending] using hnone
  rw [opQueryPlan, if_pos hid, hfind]
  dsimp only
  rw [bad_of_false (by simp [hlen, hid]), firstOf_none_cons, firstOf_nil]

/-! ## DEVICE_RESET (R650) -/

theorem hasPort_of_part {t : State} (hpart : t.part = s.part) (n : Nat) : hasPort t n = hasPort s n := by rw [hasPort, hasPort, hpart]

theorem hasGroup_of_part {t : State} (hpart : t.part = s.part) : hasGroup t = hasGroup s := by
  funext g
  rw [hasGroup, hasGroup, hpart]

theorem hasLane_of_part {t : State} (hpart : t.part = s.part) : hasLane t = hasLane s := by
  funext g
  rw [hasLane, hasLane, hpart]

theorem blockCodes_of_part {t : State} (hpart : t.part = s.part) : blockCodes t = blockCodes s := by
  rw [blockCodes, blockCodes, hasGroup_of_part hpart, hasLane_of_part hpart]

theorem resetNamed_of_part {t : State} (hpart : t.part = s.part) (kind tgt : Nat) : resetNamed t kind tgt = resetNamed s kind tgt := by
  rw [resetNamed, resetNamed, hasPort_of_part hpart, blockCodes_of_part hpart]

/-- A reset that R650 allows is asked for, whatever precedes the effect. -/
theorem deviceResetPlan_of_named {q : ResetReq} (hlen : plen c = 4) (hzeros : zeros c 2 2 = true) (hnamed : resetNamed s (pb c 0) (pb c 1) = some q) :
    ∃ effect, deviceResetPlan c role s = Plan.done .ok [] effect
      ∧ ∀ t : State, t.part = s.part → effect t = modClk (fun k => { k with resetReq := k.resetReq ++ [q] }) t := by
  rw [deviceResetPlan, bad_of_false (by simp [hlen, hzeros, hnamed]), firstOf_none_cons, firstOf_nil]
  refine ⟨_, rfl, fun t hpart => ?_⟩
  rw [resetNamed_of_part hpart, hnamed]

end

theorem complete_clk (c : Packet) (st : Status) (retry : Nat) (results : List Byte) (s : State) : (complete c st retry results s).clk = s.clk :=
  same_of_touch .clk (complete_touch (by decide) (Touch.refl _ s))

theorem complete_reply (c : Packet) (st : Status) (retry : Nat) (results : List Byte) (s : State) :
    (complete c st retry results s).cp.reply = some (replyBytes c st retry results) := rfl

theorem beforeEffect_clk (o : Opcode) (c : Packet) (p : Plan) (s : State) : (beforeEffect o c p s).clk = s.clk :=
  same_of_touch .clk (beforeEffect_touch (by decide) (Touch.refl _ s))

theorem beforeEffect_part (o : Opcode) (c : Packet) (p : Plan) (s : State) : (beforeEffect o c p s).part = s.part :=
  same_of_touch .part (beforeEffect_touch (by decide) (Touch.refl _ s))

/-- Settles O18: each command by its plan; what precedes a reset request changes neither the part nor the clock state. -/
theorem ledgerAndOperationCommandsTakeEffect : Obligations.LedgerAndOperationCommandsTakeEffect := by
  refine ⟨fun c s hready hlen hzeros hone hmany hin => executes_of_plan hready rfl (ledgerReadPlan_of_ok (role := roleOf s c) hlen hzeros hone hmany hin),
    fun c e s hready hlen hin hslot => ?drain, fun c s hready hlen => ⟨fun o hid hfound => ?query, fun hid hnone => ?queryNone⟩,
    fun c q s hready hlen hzeros hnamed => ?reset⟩
  case drain =>
    have hplan := ledgerDrainPlan_of_ok (role := roleOf s c) hlen hin hslot
    exact ⟨fun hcheck => executes_of_plan hready rfl (hplan.trans (if_pos hcheck)), fun hcheck => executes_of_plan hready rfl (hplan.trans (if_neg hcheck))⟩
  case query =>
    have hplan := opQueryPlan_of_found (role := roleOf s c) hlen hid hfound
    refine ⟨fun hdone => executes_of_plan hready rfl (hplan.trans ?_), fun hdone => executes_of_plan hready rfl (hplan.trans ?_)⟩
    · simp only [hdone, if_true]
    · simp only [hdone, if_false]
  case queryNone => exact executes_of_plan hready rfl (opQueryPlan_of_none_pending (role := roleOf s c) hlen hid hnone)
  case reset =>
    obtain ⟨effect, hplan, heffect⟩ := deviceResetPlan_of_named (role := roleOf s c) hlen hzeros hnamed
    have hexec := executes_of_plan hready (i := .deviceReset c) rfl hplan
    refine ⟨_, hexec, complete_reply _ _ _ _ _, ?_⟩
    rw [complete_clk, heffect _ (beforeEffect_part _ _ _ _)]
    exact congrArg (fun k : Clk => { k with resetReq := k.resetReq ++ [q] }) (beforeEffect_clk _ _ _ _)

end Sys2Proof.Proofs
end

section
/-!
The register map (chapter 13): its fields form a layout, and a word takes a write under the types of its fields.
-/
namespace Sys2Proof.Proofs
open Sys2Proof.Machine Sys2Proof.Claims

/-! ## The layout (R590, R592) -/

/-- Two fields that lie in different words, or in one word without a common bit. -/
abbrev ApartInWord (f g : Fld) : Prop := f.reg = g.reg → g.hi < f.lo ∨ f.hi < g.lo

/-- A group of fields: each lies in its word, and those of one word share no bit. -/
abbrev IsLayout (l : List Fld) : Prop := (∀ f ∈ l, fits f) ∧ l.Pairwise ApartInWord

theorem globalFields_isLayout : IsLayout globalFields := by decide +kernel

theorem portFields_isLayout : IsLayout portFields := by decide +kernel

theorem laneFields_isLayout : IsLayout laneFields := by decide +kernel

theorem pmFields_isLayout : IsLayout pmFields := by decide +kernel

/-- The fields of one word. -/
abbrev IsWord (l : List Fld) : Prop := (∀ f ∈ l, fits f) ∧ l.Pairwise (fun f g => g.hi < f.lo ∨ f.hi < g.lo)

theorem IsLayout.word {l : List Fld} (h : IsLayout l) (r : Nat) : IsWord (l.filter (fun f => f.reg == r)) := by
  obtain ⟨hfits, hapart⟩ := h
  have hmem {f : Fld} (hf : f ∈ l.filter (fun f => f.reg == r)) : f ∈ l ∧ f.reg = r := by simpa using hf
  refine ⟨fun f hf => hfits f (hmem hf).1, (hapart.filter _).imp_of_mem fun hf hg hdisj => hdisj ?_⟩
  rw [(hmem hf).2, (hmem hg).2]

theorem ite_isWord {p : Prop} [Decidable p] {l k : List Fld} (hl : IsWord l) (hk : IsWord k) : IsWord (if p then l else k) := by
  split
  · exact hl
  · exact hk

theorem fieldsAt_isWord (a : Nat) : IsWord (fieldsAt a) := by
  have hport : IsWord (
      if 0x3000 ≤ a % 0x100000 ∧ a % 0x100000 < 0x3100 then [F.BP_VALID, F.BP_TONE, F.BP_LEVEL]
      else if 0x3100 ≤ a % 0x100000 ∧ a % 0x100000 < 0x3140 then [F.NT_VALID, F.NT_START, F.NT_END]
      else portFields.filter (fun f => f.reg == a % 0x100000)) :=
    ite_isWord (by decide) (ite_isWord (by decide) (portFields_isLayout.word _))
  have hpm : IsWord (if pmUnits.contains ((a - 0x40000) / 0x100) then pmFields.filter (fun f => f.reg == 0x40000 + a % 0x20) else []) :=
    ite_isWord (pmFields_isLayout.word _) (by decide)
  have hcount : IsWord (if a % 8 = 0 then [F.DEV_CNT_LO] else [F.DEV_CNT_HI]) := ite_isWord (by decide) (by decide)
  exact ite_isWord hport (ite_isWord (laneFields_isLayout.word _) (ite_isWord (by decide) (ite_isWord (by decide)
    (ite_isWord hpm (ite_isWord hcount (globalFields_isLayout.word _))))))

/-- Settles O19: each group of fields is a layout, and the fields at an address are those of one word of a group. -/
theorem fieldsOfAWordShareNoBit : Obligations.FieldsOfAWordShareNoBit := fieldsAt_isWord

/-! ## A word takes a write (R15, R599) -/

theorem fieldWrite_getLsbD_outside (v w : Word) {f : Fld} {i : Nat} (hf : f.lo ≤ f.hi) (hi : i < f.lo ∨ f.hi < i) :
    (fieldWrite v w f).getLsbD i = w.getLsbD i := by
  have hout : ¬ (f.lo ≤ i ∧ i ≤ f.hi) := by omega
  have hout' : (decide (f.lo ≤ i) && decide (i ≤ f.hi)) = false := by simpa using hout
  rw [fieldWrite]
  split
  case h_1 | h_2 => rfl
  case h_3 | h_4 => rw [setBits_getLsbD hf, if_neg hout]
  case h_5 =>
    rw [BitVec.getLsbD_and, BitVec.getLsbD_not, BitVec.getLsbD_and, maskOf_getLsbD hf, Bool.and_assoc (decide (i < 32)), hout']
    by_cases h32 : i < 32
    · simp [h32]
    · simp [BitVec.getLsbD_of_ge w i (by omega)]

/-- A bit inside a field after the field takes the write. -/
theorem fieldWrite_getLsbD_inside (v w : Word) {f : Fld} {i : Nat} (hf : fits f) (hlo : f.lo ≤ i) (hhi : i ≤ f.hi) :
    (fieldWrite v w f).getLsbD i = match f.ty with
      | .ro | .go => w.getLsbD i
      | .rw | .cnt => v.getLsbD i
      | .w1c => w.getLsbD i && !v.getLsbD i := by
  have h32 : i < 32 := Nat.lt_of_le_of_lt hhi hf.2
  have hload : (setBits w f.hi f.lo (wordBits v f.hi f.lo)).getLsbD i = v.getLsbD i := by
    rw [setBits_getLsbD hf.1, if_pos ⟨hlo, hhi⟩, wordBits_testBit, Nat.add_sub_cancel' hlo]
    simp [h32]
    omega
  have hclear : (w &&& ~~~ (v &&& maskOf f.hi f.lo)).getLsbD i = (w.getLsbD i && !v.getLsbD i) := by
    rw [BitVec.getLsbD_and, BitVec.getLsbD_not, BitVec.getLsbD_and, maskOf_getLsbD hf.1]
    simp [h32, hlo, hhi]
  cases hty : f.ty <;> simp only [fieldWrite, hty, hload, hclear]

theorem foldl_fieldWrite_getLsbD_outside (v : Word) {l : List Fld} {i : Nat} (hfits : ∀ f ∈ l, fits f) (hout : ∀ f ∈ l, i < f.lo ∨ f.hi < i)
    (w : Word) : (l.foldl (fieldWrite v) w).getLsbD i = w.getLsbD i := by
  induction l generalizing w with
  | nil => rfl
  | cons f l ih =>
    rw [List.forall_mem_cons] at hfits hout
    rw [List.foldl_cons, ih hfits.2 hout.2, fieldWrite_getLsbD_outside v w hfits.1.1 hout.1]

/-- A bit of one of the fields of a word is written by that field alone. -/
theorem foldl_fieldWrite_getLsbD_inside (v : Word) {l : List Fld} (h : IsWord l) {f : Fld} (hf : f ∈ l) {i : Nat} (hlo : f.lo ≤ i) (hhi : i ≤ f.hi)
    (w : Word) : (l.foldl (fieldWrite v) w).getLsbD i = (fieldWrite v w f).getLsbD i := by
  obtain ⟨hfits, hapart⟩ := h
  induction l generalizing w with
  | nil => cases hf
  | cons g l ih =>
    obtain ⟨hg, hrest⟩ := List.forall_mem_cons.mp hfits
    obtain ⟨hgl, hll⟩ := List.pairwise_cons.mp hapart
    rw [List.foldl_cons]
    obtain rfl | hmem := List.mem_cons.mp hf
    · exact foldl_fieldWrite_getLsbD_outside v hrest (fun k hk => by have := hgl k hk; omega) _
    · have hout : i < g.lo ∨ g.hi < i := by have := hgl f hmem; omega
      have hbit : (fieldWrite v w g).getLsbD i = w.getLsbD i := fieldWrite_getLsbD_outside v w hg.1 hout
      rw [ih hmem _ hrest hll, fieldWrite_getLsbD_inside v _ (hfits f hf) hlo hhi, fieldWrite_getLsbD_inside v w (hfits f hf) hlo hhi, hbit]

theorem wordBits_congr {v w : Word} {hi lo : Nat} (h : ∀ i, lo ≤ i → i ≤ hi → v.getLsbD i = w.getLsbD i) (hle : lo ≤ hi) :
    wordBits v hi lo = wordBits w hi lo := by
  apply Nat.eq_of_testBit_eq
  intro i
  rw [wordBits_testBit, wordBits_testBit]
  by_cases hi' : i < hi - lo + 1
  · rw [h (lo + i) (by omega) (by omega)]
  · simp [hi']

theorem rdReg_storeWord (a : Nat) (v : Word) (s : State) : rdReg (storeWord a v s) a = (fieldsAt a).foldl (fieldWrite v) (rdReg s a) :=
  rdReg_wrReg_self s a _

/-- Settles O20: each bit of a field is written by that field alone (`foldl_fieldWrite_getLsbD_inside`), and under its type. -/
theorem aWordTakesAWriteUnderItsFieldTypes : Obligations.AWordTakesAWriteUnderItsFieldTypes := by
  intro a v s t
  have hword := rdReg_storeWord a v s
  have hbit {f : Fld} (hf : f ∈ fieldsAt a) {i : Nat} (hlo : f.lo ≤ i) (hhi : i ≤ f.hi) :=
    (congrArg (fun w : Word => w.getLsbD i) hword).trans ((foldl_fieldWrite_getLsbD_inside v (fieldsAt_isWord a) hf hlo hhi (rdReg s a)).trans
      (fieldWrite_getLsbD_inside v (rdReg s a) ((fieldsAt_isWord a).1 f hf) hlo hhi))
  refine ⟨fun f hf => ⟨fun hty => ?load, fun hty => ?keep, fun hty i hlo hhi => ?clear⟩, fun i hout => ?outside, rfl, fun b hb => ?words⟩
  case load =>
    refine wordBits_congr (fun i hlo hhi => (hbit hf hlo hhi).trans ?_) ((fieldsAt_isWord a).1 f hf).1
    obtain hty | hty := hty <;> rw [hty]
  case keep =>
    refine wordBits_congr (fun i hlo hhi => (hbit hf hlo hhi).trans ?_) ((fieldsAt_isWord a).1 f hf).1
    obtain hty | hty := hty <;> rw [hty]
  case clear => exact (hbit hf hlo hhi).trans (by rw [hty])
  case outside =>
    exact (congrArg (fun w : Word => w.getLsbD i) hword).trans (foldl_fieldWrite_getLsbD_outside v (fieldsAt_isWord a).1 hout _)
  case words => exact rdReg_wrReg_other s _ (by simpa using hb)

end Sys2Proof.Proofs
end

section
/-!
The paths to the registers (chapter 13): what a read leaves, the register commands, MDIO frames, and the writes of one bit.
-/
namespace Sys2Proof.Proofs
open Sys2Proof.Machine Sys2Proof.Claims

/-! ## What a read leaves (R605, R613) -/

theorem latchesOf_modLatches_same (p : Path) (f : Latches → Latches) (s : State) : latchesOf (modLatches p f s) p = f (latchesOf s p) := by
  cases p <;> rfl

theorem latchesOf_modLatches_other {p q : Path} (hne : q ≠ p) (f : Latches → Latches) (s : State) : latchesOf (modLatches p f s) q = latchesOf s q := by
  cases p <;> cases q <;> simp [latchesOf, modLatches] at hne ⊢

theorem latchesOf_congr {s t : State} (hcp : t.latchCp = s.latchCp) (h0 : t.latch0 = s.latch0) (h1 : t.latch1 = s.latch1) (p : Path) :
    latchesOf t p = latchesOf s p := by
  cases p
  · exact hcp
  · exact h0
  · exact h1

/-- The words of a list take their values, and every other word keeps its own. -/
theorem get_foldl_set {α : Type} [DecidableEq α] (d : α) (g : Nat → α) (l : List Nat) (m : SMap α) (x : Nat) :
    SMap.get (l.foldl (fun m y => SMap.set m d y (g y)) m) d x = if x ∈ l then g x else SMap.get m d x := by
  induction l generalizing m with
  | nil => simp
  | cons y l ih =>
    rw [List.foldl_cons, ih]
    by_cases hxy : x = y
    · subst hxy
      by_cases hmem : x ∈ l <;> simp [hmem]
    · rw [SMap.get_set_other _ _ _ _ _ _ hxy]
      simp [hxy]

/-- The state after the latching part of a read: the same state where the word latches nothing. -/
abbrev latchedState (p : Path) (a : Nat) (s : State) : State := if (latchedBy a).isEmpty then s else latchRead p a s

theorem latchedState_rd (p : Path) (a : Nat) (s : State) (x : Nat) : SMap.get (latchesOf (latchedState p a s) p).rd none x =
    if x ∈ latchedBy a then some (liveWord s x) else SMap.get (latchesOf s p).rd none x := by
  rw [latchedState]
  split
  · next hempty => simp [List.isEmpty_iff.mp hempty]
  · rw [latchRead, latchesOf_modLatches_same]
    exact get_foldl_set none (fun x => some (liveWord s x)) (latchedBy a) _ x

theorem latchedState_wr (p : Path) (a : Nat) (s : State) : (latchesOf (latchedState p a s) p).wr = (latchesOf s p).wr := by
  rw [latchedState]
  split
  · rfl
  · rw [latchRead, latchesOf_modLatches_same]

theorem latchedState_other {p q : Path} (hne : q ≠ p) (a : Nat) (s : State) : latchesOf (latchedState p a s) q = latchesOf s q := by
  rw [latchedState]
  split
  · rfl
  · rw [latchRead, latchesOf_modLatches_other hne]

theorem latchedState_port (p : Path) (a : Nat) (s : State) (n : Nat) : port (latchedState p a s) n = port s n := by
  rw [latchedState]
  split
  · rfl
  · cases p <;> rfl

theorem latchedState_part (p : Path) (a : Nat) (s : State) : (latchedState p a s).part = s.part := by
  rw [latchedState]
  split
  · rfl
  · cases p <;> rfl

theorem afterRead_eq (p : Path) (a : Nat) (s : State) : afterRead p a s = whenB (freeByte a) draw (rearm a (latchedState p a s)) := rfl

/-- A draw and the re-arming of a link-status bit leave the latches of every path. -/
theorem latchesOf_afterRead (p q : Path) (a : Nat) (s : State) : latchesOf (afterRead p a s) q = latchesOf (latchedState p a s) q := by
  let t := latchedState p a s
  have hdraw (u : State) : latchesOf (whenB (freeByte a) draw u) q = latchesOf u q := by
    rw [whenB]
    split
    · cases q <;> rfl
    · rfl
  have hrearm : latchesOf (rearm a t) q = latchesOf t q :=
    latchesOf_congr (same_of_touch .latchCp (rearm_touch (by decide) (Touch.refl _ t))) (same_of_touch .latch0 (rearm_touch (by decide) (Touch.refl _ t)))
      (same_of_touch .latch1 (rearm_touch (by decide) (Touch.refl _ t))) q
  rw [afterRead_eq, hdraw, hrearm]

theorem afterRead_port (p : Path) (a : Nat) (s : State) (m : Nat) : port (afterRead p a s) m = port (rearm a (latchedState p a s)) m := by
  rw [afterRead_eq, whenB]
  split <;> rfl

theorem rearm_of_link {a n i : Nat} {s : State} (hport : windowPort a = some n) (hbit : linkBit (a % 0x100000) = some i) (hhas : hasPort s n = true) :
    rearm a s = modPort n (fun p => { p with latchLow := p.latchLow &&& ~~~ ((1 : BitVec 3) <<< i) }) s := by
  rw [rearm, hport, hbit]
  exact if_pos hhas

theorem linkBit_lt {r i : Nat} (hbit : linkBit r = some i) : i < 3 := by
  rw [linkBit] at hbit
  split at hbit
  · cases hbit
    decide
  · split at hbit
    · cases hbit
      decide
    · split at hbit <;> cases hbit
      decide

/-- A latch-low bit that is re-armed no longer hides that the link is up. -/
theorem getLsbD_and_not_shift (v : BitVec 3) {i : Nat} (hi : i < 3) : (v &&& ~~~ ((1 : BitVec 3) <<< i)).getLsbD i = false := by
  simp [hi]

/-- Settles O23: the latching part writes the path's own latches, and the re-arming its port's bit. -/
theorem readsLatchOtherWordsAndReArmLinkStatus : Obligations.ReadsLatchOtherWordsAndReArmLinkStatus := by
  intro p a s t
  have hown : latchesOf t p = latchesOf (latchedState p a s) p := latchesOf_afterRead p p a s
  refine ⟨fun x hx => ?latched, fun x hx => ?notLatched, ?write, fun q hq => ?other, fun n i hport hhas hbit => ?link, fun b => ?regs, ?mem⟩
  case latched => rw [hown, latchedState_rd, if_pos hx]
  case notLatched => rw [hown, latchedState_rd, if_neg hx]
  case write => rw [hown, latchedState_wr]
  case other => exact (latchesOf_afterRead p q a s).trans (latchedState_other hq a s)
  case link =>
    have hhas' : hasPort (latchedState p a s) n = true := (hasPort_of_part (latchedState_part p a s) n).trans hhas
    have hports (m : Nat) : port t m = if m = n then
        { port s n with latchLow := (port s n).latchLow &&& ~~~ ((1 : BitVec 3) <<< i) } else port s m := by
      rw [afterRead_port, rearm_of_link hport hbit hhas', port_modPort, latchedState_port, latchedState_port]
    have hlow : (port t n).latchLow = (port s n).latchLow &&& ~~~ ((1 : BitVec 3) <<< i) := by rw [hports, if_pos rfl]
    refine ⟨hlow, fun m hm => (hports m).trans (if_neg hm), ?_⟩
    rw [linkStatus, hlow, getLsbD_and_not_shift _ (linkBit_lt hbit), Bool.not_false, Bool.and_true]
  case regs => exact rdReg_of_touch (afterRead_touch (by decide) (Touch.refl _ s)) b
  case mem => exact same_of_touch .mem (afterRead_touch (by decide) (Touch.refl _ s))

/-! ## READ_REG, WRITE_REG and READ_BLOCK (R540, R608, R609) -/

section
variable {c : Packet} {role : Option Role} {s : State}

/-- No word is gated or in the audit. -/
abbrev WordsFree (s : State) (l : List Nat) : Prop := ∀ a ∈ l, gatedAt s a = false ∧ auditAt s .cp a = none

theorem accessGates_of_free {l : List Nat} (hfree : WordsFree s l) : accessGates s l = [none, none] := by
  have hgated : l.find? (gatedAt s) = none := List.find?_eq_none.mpr fun a ha => by simp [(hfree a ha).1]
  have haudit : l.findSome? (auditAt s .cp) = none := List.findSome?_eq_none_iff.mpr fun a ha => (hfree a ha).2
  rw [accessGates, hgated, haudit]
  rfl

theorem readRegPlan_of_free (hlen : plen c = 5) (hwords : wordsBad c = false) (hfree : WordsFree s (namedWords c)) :
    readRegPlan c role s = Plan.done .ok (cpReadWords (roleCode role) (namedWords c) s).1
      (fun s' => (cpReadWords (roleCode role) (namedWords c) s').2) := by
  rw [readRegPlan, bad_of_false (by simp [hlen, hwords]), accessGates_of_free hfree]
  rfl

theorem readRegPlan_of_gated {a : Nat} (hlen : plen c = 5) (hwords : wordsBad c = false) (hgated : (namedWords c).find? (gatedAt s) = some a) :
    readRegPlan c role s = ⟨.gated, [], 0, false, 0, gatedNote .cp a⟩ := by
  rw [readRegPlan, bad_of_false (by simp [hlen, hwords]), accessGates, hgated]
  rfl

theorem writeRegPlan_of_free (hlen : plen c = 8 + 4 * pb c 4) (hzeros : zeros c 5 3 = true) (hwords : wordsBad c = false)
    (hfree : WordsFree s (namedWords c)) :
    writeRegPlan c role s = if scanTooSoon s c = true then Plan.done .notReady [] id
      else Plan.done .ok [] (forL (wordWrites c) (cpWriteWord (roleCode role))) := by
  rw [writeRegPlan, bad_of_false (by simp [hlen, hzeros, hwords]), accessGates_of_free hfree]
  cases scanTooSoon s c <;> rfl

theorem readBlockPlan_of_free (hlen : plen c = 6) (haddr : pf c 0 4 % 4 = 0) (hcount : pf c 4 2 % 4 = 0) (hfew : 4 ≤ pf c 4 2) (hmany : pf c 4 2 ≤ 4096)
    (hblock : ∀ i, i < pf c 4 2 → isBlock (pf c 0 4 + i) = true) (hfree : WordsFree s (blockWords c)) :
    readBlockPlan c role s = Plan.done .ok ((List.range (pf c 4 2)).map (fun i => areaByte s (pf c 0 4 + i)))
      (whenB ((blockWords c).any freeByte) draw) := by
  have hall : (List.range (pf c 4 2)).all (fun i => isBlock (pf c 0 4 + i)) = true := by simpa using hblock
  rw [readBlockPlan, bad_of_false (by rw [hall]; simp [hlen, haddr, hcount, hfew, hmany]), accessGates_of_free hfree]
  rfl

end

/-- Settles O21: each command by its plan, each single access by its one test. -/
theorem registerCommandsReadAndWrite : Obligations.RegisterCommandsReadAndWrite := by
  refine ⟨fun c s hready hlen hwords => ⟨fun hfree => executes_of_plan hready rfl (readRegPlan_of_free (role := roleOf s c) hlen hwords hfree),
      fun a hgated => ?gated⟩, fun c s hready hlen hzeros hwords hfree => ?write,
    fun c s hready hlen haddr hcount hfew hmany hblock hfree =>
      executes_of_plan hready rfl (readBlockPlan_of_free (role := roleOf s c) hlen haddr hcount hfew hmany hblock hfree), fun x v s => ?single⟩
  case gated =>
    have hrun := runOpcode_of_ready hready
    rw [show opReadReg.plan c (roleOf s c) s = _ from readRegPlan_of_gated hlen hwords hgated] at hrun
    exact congrArg _ hrun
  case write =>
    have hplan := writeRegPlan_of_free (role := roleOf s c) hlen hzeros hwords hfree
    exact ⟨fun hscan => executes_of_plan hready rfl (hplan.trans (if_neg (by simp [hscan]))),
      fun hscan => executes_of_plan hready rfl (hplan.trans (if_pos hscan))⟩
  case single =>
    intro a
    refine ⟨fun hgo => ?_, fun hstop => ⟨congrArg _ (if_pos hstop), congrArg _ (if_pos hstop), congrArg _ (if_pos hstop), congrArg _ (if_pos hstop)⟩⟩
    have hgo' : ¬ windowStopped s a = true := by simp [hgo]
    exact ⟨congrArg _ (if_neg hgo'), congrArg _ (if_neg hgo'), congrArg _ (if_neg hgo'), congrArg _ (if_neg hgo')⟩

/-! ## MDIO frames (R593 to R598, R603, R609) -/

section
variable {bus prtad devad : Nat} {s : State}

theorem mdioReg_setMdioReg (a : Nat) : mdioReg (setMdioReg bus prtad devad a s) bus prtad devad = a % 65536 := by
  rw [mdioReg, setMdioReg, SMap.get_set_self, BitVec.toNat_ofNat]

theorem setMdioReg_other (a : Nat) {k : Nat} (hk : k ≠ mdioKey bus prtad devad) :
    SMap.get (setMdioReg bus prtad devad a s).mdio.addr 0 k = SMap.get s.mdio.addr 0 k :=
  SMap.get_set_other _ _ _ _ _ _ hk

theorem countDev_mdio (i k : Nat) : (countDev i k s).mdio = s.mdio := same_of_touch .mdio (countDev_touch (by decide) (Touch.refl _ s))

/-- A frame for one of the device's own ports reads the register that the address register names. -/
theorem mdioRead_of_frame {n : Nat} (hframe : frameFor s bus prtad = some n) :
    mdioRead bus prtad devad s =
      let r := mdioReadReg bus n devad (mdioReg s bus prtad devad) (countDev 0x2A 1 s)
      mdioDrive (some r.1) r.2 := by
  rw [mdioRead, hframe]

theorem mdioRead_of_no_frame (hframe : frameFor s bus prtad = none) : mdioRead bus prtad devad s = mdioDrive none s := by
  rw [mdioRead, hframe]

theorem mdioRead_addr : (mdioRead bus prtad devad s).mdio.addr = s.mdio.addr := by
  cases hframe : frameFor s bus prtad with
  | none => rw [mdioRead_of_no_frame hframe]; rfl
  | some n =>
    let u := countDev 0x2A 1 s
    have hread : (mdioReadReg bus n devad (mdioReg s bus prtad devad) u).2.mdio = u.mdio :=
      same_of_touch .mdio (mdioReadReg_touch (by decide) (Touch.refl _ u))
    rw [mdioRead_of_frame hframe]
    exact (congrArg Mdio.addr hread).trans (congrArg Mdio.addr (countDev_mdio _ _))

theorem mdioReadReg_of_unassigned {n a : Nat} (haddr : mmdAddr n devad a = none) : mdioReadReg bus n devad a s = (0, s) := by
  rw [mdioReadReg, haddr]

theorem mdioReadReg_of_stopped {n a w : Nat} {t : State} (haddr : mmdAddr n devad a = some w) (hstop : mdioStop bus w false s = some t) :
    mdioReadReg bus n devad a s = (0, t) := by
  rw [mdioReadReg, haddr]
  dsimp only
  rw [hstop]

theorem mdioReadReg_of_free {n a w : Nat} (haddr : mmdAddr n devad a = some w) (hstop : mdioStop bus w false s = none) :
    mdioReadReg bus n devad a s =
      ((seenWord (busPath bus) s w).setWidth 16, pmEv 0x18 3 (accessAttr (busPath bus) 0 w) (afterRead (busPath bus) w s)) := by
  rw [mdioReadReg, haddr]
  dsimp only
  rw [hstop]

theorem mdioStop_of_gated {w : Nat} {write : Bool} (hgated : gatedAt s w = true) :
    mdioStop bus w write s = some (mdioRefused bus gatedFlags (gatedNote (busPath bus) w s)) := by
  rw [mdioStop, if_pos hgated]

theorem mdioStop_of_audit {w b : Nat} {write : Bool} (hgated : gatedAt s w = false) (haudit : auditAt s (busPath bus) w = some b) :
    mdioStop bus w write s = some (whenB write (auditRequest b) (mdioRefused bus selftestFlags s)) := by
  rw [mdioStop, if_neg (by simp [hgated]), haudit]

theorem mdioStop_of_free {w : Nat} {write : Bool} (hgated : gatedAt s w = false) (haudit : auditAt s (busPath bus) w = none) :
    mdioStop bus w write s = none := by
  rw [mdioStop, if_neg (by simp [hgated]), haudit]

theorem mdioWrite_of_no_frame (v : BitVec 16) (hframe : frameFor s bus prtad = none) : mdioWrite bus prtad devad v s = mdioDrive none s := by
  rw [mdioWrite, hframe]

theorem mdioWrite_of_free {n w : Nat} (v : BitVec 16) (hframe : frameFor s bus prtad = some n)
    (haddr : mmdAddr n devad (mdioReg s bus prtad devad) = some w)
    (hreserved : ¬ (devad = 31 ∧ 0x0700 ≤ mdioReg s bus prtad devad ∧ mdioReg s bus prtad devad ≤ 0x07FF)) :
    let t := mdioDrive none (wakeDoze (countDev 0x2A 1 s))
    gatedAt t w = false → auditAt t (busPath bus) w = none →
      mdioWrite bus prtad devad v s = pmEv 0x18 4 (accessAttr (busPath bus) 0 w) (pathWrite (busPath bus) w (v.setWidth 32) t) := by
  intro t hgated haudit
  rw [mdioWrite, hframe]
  dsimp only
  rw [haddr]
  dsimp only
  rw [if_neg hreserved, mdioStop_of_free hgated haudit]

theorem mmdAddr_reserved {n a : Nat} (ha : a ≤ 0x07FF) : mmdAddr n 31 a = some (0x10000 + 4 * a) := by
  rw [mmdAddr, if_neg (by omega)]

theorem mdioWrite_of_reserved {n : Nat} (v : BitVec 16) (hframe : frameFor s bus prtad = some n) (hdevad : devad = 31)
    (hlo : 0x0700 ≤ mdioReg s bus prtad devad) (hhi : mdioReg s bus prtad devad ≤ 0x07FF) :
    mdioWrite bus prtad devad v s = mdioViolation bus n 31 (mdioReg s bus prtad devad) (mdioDrive none (wakeDoze (countDev 0x2A 1 s))) := by
  subst hdevad
  rw [mdioWrite, hframe]
  dsimp only
  rw [mmdAddr_reserved hhi]
  exact if_pos ⟨rfl, hlo, hhi⟩

end

/-- Settles O22: one lemma for each kind of frame, in the branches of R594, R598 and R609. -/
theorem mdioFramesDoWhatClause45Says : Obligations.MdioFramesDoWhatClause45Says := by
  intro bus prtad devad s key reg out
  refine ⟨fun hframe a v => ⟨?noAddress, congrArg _ (mdioRead_of_no_frame hframe), ?noPostRead, congrArg _ (mdioWrite_of_no_frame _ hframe)⟩,
    fun n hframe => ⟨fun a => ?address, ?postRead, ?read, ?write, fun v hdevad hlo hhi => congrArg _ (mdioWrite_of_reserved _ hframe hdevad hlo hhi)⟩⟩
  case noAddress =>
    rw [exec, execMdioAddress, hframe]
    rfl
  case noPostRead =>
    rw [exec, execPostReadIncrementAddress, hframe]
    rfl
  case address =>
    let t := mdioDrive none (countDev 0x2A 1 s)
    have haddr : t.mdio.addr = s.mdio.addr := by
      change (countDev 0x2A 1 s).mdio.addr = _
      rw [countDev_mdio]
    refine ⟨setMdioReg bus.val prtad.val devad.val a.toNat t, ?_, rfl, ?_, fun k hk => ?_⟩
    · rw [exec, execMdioAddress, hframe]
    · rw [mdioReg_setMdioReg, Nat.mod_eq_of_lt a.isLt]
    · rw [setMdioReg_other _ hk, haddr]
  case postRead =>
    refine ⟨mdioRead bus.val prtad.val devad.val s, setMdioReg bus.val prtad.val devad.val (reg + 1) (mdioRead bus.val prtad.val devad.val s), rfl, ?_,
      rfl, mdioReg_setMdioReg _, mdioRead_addr⟩
    rw [exec, execPostReadIncrementAddress, hframe]
  case read =>
    intro s1
    have hread : exec (.mdioRead bus prtad devad) s = _ := congrArg Host.Outcome.next (mdioRead_of_frame (devad := devad.val) hframe)
    refine ⟨fun haddr => ?unassigned, fun w haddr => ⟨fun hgated => ?gated, fun b hgated haudit => ?audit, fun hgated haudit => ⟨?free, rfl, rfl⟩⟩⟩
    case unassigned =>
      rw [mdioReadReg_of_unassigned haddr] at hread
      exact hread
    case gated =>
      rw [mdioReadReg_of_stopped haddr (mdioStop_of_gated hgated)] at hread
      exact hread
    case audit =>
      rw [mdioReadReg_of_stopped haddr (mdioStop_of_audit hgated haudit)] at hread
      exact hread
    case free =>
      rw [mdioReadReg_of_free haddr (mdioStop_of_free hgated haudit)] at hread
      exact hread
  case write =>
    intro s2 w v haddr hreserved hgated haudit
    exact congrArg _ (mdioWrite_of_free _ hframe haddr hreserved hgated haudit)

/-! ## Writes of one bit (R400, R441, R479, R597) -/

/-- A RW field of a word that is stored reads as the value has it. -/
theorem storeWord_rw {a : Nat} {f : Fld} (hmem : f ∈ fieldsAt a) (hty : f.ty = .rw) (v : Word) (s : State) :
    wordBits (rdReg (storeWord a v s) a) f.hi f.lo = wordBits v f.hi f.lo :=
  ((aWordTakesAWriteUnderItsFieldTypes a v s).1 f hmem).1 (.inl hty)

theorem windowWrite_of_running {s : State} {a : Nat} (hrun : windowStopped s a = false) (v : Word) :
    windowWrite a v s = pmEv 0x18 4 (accessAttr .cp 0 a) (pathWrite .cp a v s) := by
  rw [windowWrite, if_neg (by simp [hrun])]

/-- A word that stands alone is written at once. -/
theorem pathWrite_of_alone {p : Path} {a : Nat} {s : State} (hcommit : commitsAt a = none) (hlatch : latchedBy a = []) (v : Word) :
    pathWrite p a v s = putWord a v s := by
  rw [pathWrite, hcommit, commitHeld, hlatch]
  rfl

section PortWindow
variable {n r : Nat}

theorem windowPort_portBase (hn : n < 48) (hr : r < 0x100000) : windowPort (portBase n + r) = some n := by
  have hin : inR (portBase n + r) 0x1000000 0x3FFFFFF = true := by
    rw [inR, decide_eq_true_eq, portBase]
    omega
  have hdiv : (portBase n + r - 0x1000000) / 0x100000 = n := by
    rw [portBase]
    omega
  rw [windowPort, if_pos hin, hdiv]

theorem portBase_mod (hr : r < 0x100000) : (portBase n + r) % 0x100000 = r := by
  rw [portBase]
  omega

theorem commitsAt_portBase : commitsAt (portBase n + r) = none := by
  have hne {k : Nat} (hk : k < 0x1000000) : portBase n + r ≠ k := by
    rw [portBase]
    omega
  have hout {lo hi : Nat} (hhi : hi < 0x1000000) : inR (portBase n + r) lo hi = false := by
    rw [inR, decide_eq_false_iff_not, portBase]
    omega
  simp [commitsAt, hne, hout]

theorem fieldsAt_portBase (hn : n < 48) (hr : 0x3140 ≤ r ∧ r < 0x100000) :
    fieldsAt (portBase n + r) = portFields.filter (fun f => f.reg == r) := by
  have hin : 0x1000000 ≤ portBase n + r ∧ portBase n + r < 0x4000000 := by
    rw [portBase]
    omega
  rw [fieldsAt, if_pos hin, portBase_mod hr.2, if_neg (by omega), if_neg (by omega)]

theorem latchedBy_portBase (hn : n < 48) (hr : r < 0x100000) (h1 : r ≠ 0x70994) (h2 : r ≠ 0x7099C) : latchedBy (portBase n + r) = [] := by
  have hne {k : Nat} (hk : k < 0x1000000) : portBase n + r = k → False := by
    rw [portBase]
    omega
  rw [latchedBy, windowPort_portBase hn hr, portBase_mod hr]
  · dsimp only
    rw [if_neg h1, if_neg h2]
  all_goals exact hne (by decide)

/-- A write over the Command Port to a register of a port, where the port's block runs and the word stands alone. -/
theorem windowWrite_port {s : State} (hn : n < 48) (hhas : hasPort s n = true) (hr : 0x3140 ≤ r ∧ r < 0x100000) (h1 : r ≠ 0x70994) (h2 : r ≠ 0x7099C)
    (hfields : (portFields.filter (fun f => f.reg == r)).isEmpty = false) (hrun : windowStopped s (portBase n + r) = false) (v : Word) :
    windowWrite (portBase n + r) v s = pmEv 0x18 4 (accessAttr .cp 0 (portBase n + r)) (portActs n r v s (storeWord (portBase n + r) v s)) := by
  rw [windowWrite_of_running hrun, pathWrite_of_alone commitsAt_portBase (latchedBy_portBase hn hr.2 h1 h2), putWord, windowPort_portBase hn hr.2]
  dsimp only
  rw [fieldsAt_portBase hn hr, hfields, hhas, portBase_mod hr.2]
  rfl

end PortWindow

theorem wordBits_setBits_bit {w : Word} {i : Nat} (hi : i < 32) (v : Bool) : wordBits (setBits w i i (bit v)) i i = bit v := by
  rw [wordBits_setBits_self (Nat.le_refl i) hi]
  cases v <;> simp [bit]

/-- Where 7.0.12 keeps its value the write of 7.0.9 is the restart alone. -/
theorem portActs_restart {n : Nat} {w : Word} {s t : State} (hkeep : rdP t n F.AN_ENABLE = rdP s n F.AN_ENABLE) (hbit : wordBits w 9 9 = 1) :
    portActs n 0x60000 w s t = restartPort n t := by
  have hoff : (rdP s n F.AN_ENABLE == 1 && rdP t n F.AN_ENABLE == 0 && forcedMode t n == 0) = false := by
    rw [hkeep]
    cases h : rdP s n F.AN_ENABLE == 1 with
    | false => rfl
    | true => simp [beq_iff_eq.mp h]
  rw [portActs, if_neg (by decide), if_pos rfl, hoff]
  exact if_pos hbit

theorem portActs_lowPower {n r : Nat} {w : Word} {s t : State} (hr : r = 0x40000 ∨ r = 0x50000) (hbit : wordBits w 15 15 = 0) :
    portActs n r w s t = enableChange n (enabled s n) t := by
  rw [portActs, if_pos hr, if_neg (by omega)]

theorem portActs_tsPop {n : Nat} {w : Word} {s t : State} (hbit : wordBits w 10 10 = 1) : portActs n 0x709B4 w s t = tsPop n t := by
  rw [portActs, if_neg (by decide), if_neg (by decide), if_pos rfl, if_pos hbit]

theorem hostPort_congr {s t : State} (h : t.hostPorts = s.hostPorts) (m : Nat) : hostPort t m = hostPort s m := by rw [hostPort, hostPort, h]

theorem storeWord_hostPorts {a : Nat} {v : Word} {s : State} : (storeWord a v s).hostPorts = s.hostPorts := wrReg_hostPorts

theorem tsPop_hostPort (n m : Nat) (s : State) :
    hostPort (tsPop n s) m = if m = n then { hostPort s n with fifo := (hostPort s n).fifo.drop 1 } else hostPort s m := by
  rw [tsPop, hostPort_congr wrP_hostPorts, hostPort_modHost]

/-- The three fields of HL_CTRL whose codes may be reserved hold codes that are not. -/
def laneCodesOk (s : State) (g : Nat) : Prop :=
  rdL s g F.HL_CTRL_CTLE_MODE ≠ 3 ∧ rdL s g F.HL_CTRL_TX_SWING < 5 ∧ rdL s g F.HL_CTRL_TX_DEEMPH ≠ 7

theorem laneActs_enable {g : Nat} {s t : State} {v : Bool} (hcodes : laneCodesOk t g) (henable : rdL t g F.HL_CTRL_ENABLE = bit v)
    (hwas : rdL s g F.HL_CTRL_ENABLE < 2) :
    laneActs g 0 s t = if rdL s g F.HL_CTRL_ENABLE = bit v then t else if v then laneAuto g t else laneOff g t := by
  obtain ⟨hctle, hswing, hdeemph⟩ := hcodes
  have hbad : (rdL t g F.HL_CTRL_CTLE_MODE == 3 || decide (5 ≤ rdL t g F.HL_CTRL_TX_SWING) || rdL t g F.HL_CTRL_TX_DEEMPH == 7) = false := by
    simp [hctle, hswing, hdeemph]
  rw [laneActs, if_pos rfl, hbad, henable]
  obtain hwas | hwas : rdL s g F.HL_CTRL_ENABLE = 0 ∨ rdL s g F.HL_CTRL_ENABLE = 1 := by omega
  all_goals cases v <;> simp [hwas, bit, whenB]

/-- The place of HL_CTRL of a lane group in the window: a word of the group's registers that stands alone. -/
structure IsLaneCtrl (g a : Nat) : Prop where
  alone : commitsAt a = none ∧ latchedBy a = []
  place : windowPort a = none ∧ (a - 0x11400) / 0x80 = g ∧ a % 0x80 = 0 ∧ inR a 0x11400 0x115FF = true
  fields : (fieldsAt a).isEmpty = false
  noArea : (bankLot a).isSome = false ∧ inR a 0x32000 0x3FFFF = false
  noClock : a ≠ 0x2000C ∧ a ≠ 0x20014 ∧ a ≠ 0x20020 ∧ a ≠ 0x2002C ∧ a ≠ 0x20008

theorem laneCtrl_place (g : Lane) : IsLaneCtrl g.val (0x11400 + laneBase g.val) := by
  constructor <;> revert g <;> decide +kernel

theorem pathWrite_laneCtrl {g a : Nat} (ha : IsLaneCtrl g a) {s : State} (hhas : hasLane s g = true) (hheld : laneHeld s g = false) (v : Word) :
    pathWrite .cp a v s = laneActs g 0 s (storeWord a v s) := by
  obtain ⟨⟨hcommit, hlatch⟩, ⟨hport, hgroup, hoffset, hin⟩, hfields, ⟨hbank, htrim⟩, h1, h2, h3, h4, h5⟩ := ha
  rw [pathWrite_of_alone hcommit hlatch, putWord, hport]
  dsimp only
  rw [hbank, htrim, hfields, if_neg (by decide), if_neg (by decide), if_neg (by decide), if_neg h1, if_neg h2, if_neg h3, if_neg h4, if_neg h5,
    if_pos hin, hgroup, hoffset, hhas, hheld]
  rfl

theorem laneCtrl_fields (g : Lane) : ∀ f ∈ [F.HL_CTRL_ENABLE, F.HL_CTRL_CTLE_MODE, F.HL_CTRL_TX_SWING, F.HL_CTRL_TX_DEEMPH],
    f ∈ fieldsAt (0x11400 + laneBase g.val) := by
  revert g
  decide +kernel

/-- Settles O24: each row is one write over the Command Port to a word that stands alone, and acts by the branch for its word. -/
theorem singleBitWritesActAtOnce : Obligations.SingleBitWritesActAtOnce := by
  refine ⟨fun n s hhas => ⟨fun pcs v => ?lowPower, ?restart, ?pop⟩, fun g v s hhas hheld hctle hswing hdeemph => ?laneEnable⟩
  case lowPower =>
    intro a w hrun hreset
    have hreset' : wordBits w 15 15 = 0 := (wordBits_setBits_other (by decide) (by decide) (by decide)).trans hreset
    have hbit : wordBits w 11 11 = bit v := wordBits_setBits_bit (by decide) v
    have hr : (if pcs then 0x50000 else 0x40000) = 0x40000 ∨ (if pcs then 0x50000 else 0x40000) = 0x50000 := by cases pcs <;> decide
    obtain ⟨f, hf, hty, hhi, hlo⟩ : ∃ f ∈ portFields.filter (fun f => f.reg == if pcs then 0x50000 else 0x40000), f.ty = .rw ∧ f.hi = 11 ∧ f.lo = 11 := by
      cases pcs <;> decide +kernel
    rw [← fieldsAt_portBase n.isLt (by cases pcs <;> decide)] at hf
    refine ⟨congrArg _ ((windowWrite_port n.isLt hhas (by cases pcs <;> decide) (by cases pcs <;> decide) (by cases pcs <;> decide)
      (by cases pcs <;> decide +kernel) hrun w).trans ?_), ?_⟩
    · rw [portActs_lowPower hr hreset']
    · have hstored := storeWord_rw hf hty w s
      rw [hhi, hlo] at hstored
      exact hstored.trans hbit
  case restart =>
    intro a u hrun
    have hmem : F.AN_ENABLE ∈ fieldsAt a := by rw [fieldsAt_portBase n.isLt (by decide)]; decide +kernel
    have hkeep : rdP u n.val F.AN_ENABLE = rdP s n.val F.AN_ENABLE :=
      (storeWord_rw hmem rfl _ s).trans (wordBits_setBits_other (by decide) (by decide) (by decide))
    refine congrArg _ ((windowWrite_port n.isLt hhas (by decide) (by decide) (by decide) (by decide +kernel) hrun _).trans ?_)
    rw [portActs_restart hkeep (wordBits_setBits_self (by decide) (by decide))]
    rfl
  case pop =>
    intro a hrun
    let w := setBits (rdReg s a) 10 10 1
    have hexec : exec (.tsPop n) s = .next (pmEv 0x18 4 (accessAttr .cp 0 a) (tsPop n.val (storeWord a w s))) := by
      refine congrArg _ ((windowWrite_port n.isLt hhas (by decide) (by decide) (by decide) (by decide +kernel) hrun w).trans ?_)
      rw [portActs_tsPop (wordBits_setBits_self (by decide) (by decide))]
    have hframe {p : Piece} (hp : Within 0xFFF000000000 (allExcept p)) (t : State) : p.same t (pmEv 0x18 4 (accessAttr .cp 0 a) t) :=
      same_of_touch p (pmEv_touch (within_trans (by decide) hp) (Touch.refl _ t))
    have hhost (m : Nat) : hostPort (pmEv 0x18 4 (accessAttr .cp 0 a) (tsPop n.val (storeWord a w s))) m = if m = n.val then
        { hostPort s n.val with fifo := (hostPort s n.val).fifo.drop 1 } else hostPort s m := by
      rw [hostPort_congr (hframe (p := .hostPorts) (by decide) _), tsPop_hostPort, hostPort_congr storeWord_hostPorts, hostPort_congr storeWord_hostPorts]
    refine ⟨_, hexec, ?_, fun m hm => (hhost m).trans (if_neg hm), ?_, ?_⟩
    · rw [hhost, if_pos rfl]
    · exact same_of_touch .ports (pmEv_touch (by decide) (tsPop_touch (by decide) (storeWord_touch (by decide) (Touch.refl _ s))))
    · exact same_of_touch .lanes (pmEv_touch (by decide) (tsPop_touch (by decide) (storeWord_touch (by decide) (Touch.refl _ s))))
  case laneEnable =>
    intro a u hrun
    have haddr : a = laneBase g.val + 0x11400 := Nat.add_comm _ _
    have hread {f : Fld} (hf : f ∈ [F.HL_CTRL_ENABLE, F.HL_CTRL_CTLE_MODE, F.HL_CTRL_TX_SWING, F.HL_CTRL_TX_DEEMPH]) (t : State) :
        rdL t g.val f = wordBits (rdReg t a) f.hi f.lo := by
      have hreg : f.reg = 0x11400 := by revert f; decide
      rw [haddr, rdL, rdFld, hreg]
    have hstored {f : Fld} (hf : f ∈ [F.HL_CTRL_ENABLE, F.HL_CTRL_CTLE_MODE, F.HL_CTRL_TX_SWING, F.HL_CTRL_TX_DEEMPH]) :
        rdL u g.val f = wordBits (setBits (rdReg s a) 15 15 (bit v)) f.hi f.lo := by
      have hty : f.ty = .rw := by revert f; decide
      exact (hread hf u).trans (storeWord_rw (laneCtrl_fields g f hf) hty _ s)
    have hkept {f : Fld} (hf : f ∈ [F.HL_CTRL_CTLE_MODE, F.HL_CTRL_TX_SWING, F.HL_CTRL_TX_DEEMPH]) : rdL u g.val f = rdL s g.val f := by
      have hbelow : f.hi < 15 ∧ f.lo ≤ f.hi := by revert f; decide
      rw [hstored (List.mem_cons_of_mem _ hf), hread (List.mem_cons_of_mem _ hf) s]
      exact wordBits_setBits_other (by decide) (.inl hbelow.1) hbelow.2
    have henable : rdL u g.val F.HL_CTRL_ENABLE = bit v := (hstored (by decide)).trans (wordBits_setBits_bit (by decide) v)
    have hcodes : laneCodesOk u g.val := by
      rw [laneCodesOk, hkept (by decide), hkept (by decide), hkept (by decide)]
      exact ⟨hctle, hswing, hdeemph⟩
    have hwas : rdL s g.val F.HL_CTRL_ENABLE < 2 := Nat.mod_lt _ (by decide)
    refine ⟨henable, congrArg _ ((windowWrite_of_running hrun _).trans ?_)⟩
    rw [pathWrite_laneCtrl (laneCtrl_place g) hhas hheld, laneActs_enable hcodes henable hwas]

end Sys2Proof.Proofs
end

section
/-!
The commands on ports and on operations (R532, R541 to R546), and what they schedule (R306, R544, R614).
-/
namespace Sys2Proof.Proofs
open Sys2Proof.Machine Sys2Proof.Claims

section
variable {c : Packet} {role : Option Role} {s : State}

theorem portConfigPlan_of_ok (hlen : plen c = 14 + 12 * pb c 3) (hcount : pb c 3 ≤ 64) (hport : hasPort s (pb c 0) = true) (haction : pb c 1 ≤ 2)
    (hretrain : pb c 2 ≤ 1) (hns : nsOk (pf c 10 4) = true) (hitems : cfgBad s (pb c 0) (cfgItems c) = false) (hup : Up s (groupOf (pb c 0)))
    (hroom : (port s (pb c 0)).pendCfg.length < 4) (hheld : pb c 1 = 1 → portHeld s (pb c 0) = false) :
    portConfigPlan c role s = Plan.done .ok (whenBytes s (pb c 0) (eventWhen s (pb c 0) (pf c 4 6) (pf c 10 4))) (fun s' =>
      cfgDue (pb c 0) (askCaps (pb c 0) (modPort (pb c 0) (fun p => { p with pendCfg := p.pendCfg ++
        [⟨pb c 1, pb c 2 == 1, cfgItems c, eventWhen s (pb c 0) (pf c 4 6) (pf c 10 4)⟩] }) s'))) := by
  rw [portConfigPlan, bad_of_false (by simp [hlen, hcount, hport, haction, hretrain, hns, hitems]), gated_of_run hup.1, inAudit_of_free hup.2,
    busyIf_of_false (by simpa using hroom), chk_of_false (by simpa using hheld)]
  simp only [firstOf_none_cons, firstOf_nil]

theorem portStatePlan_of_ok (hlen : plen c = 1) (hport : hasPort s (pb c 0) = true) (hup : Up s (groupOf (pb c 0))) :
    portStatePlan c role s = Plan.done .ok (portStateBytes s (pb c 0)) id := by
  rw [portStatePlan, bad_of_false (by simp [hlen, hport]), gated_of_run hup.1, inAudit_of_free hup.2]
  simp only [firstOf_none_cons, firstOf_nil]

theorem portRetrainPlan_of_ok (hlen : plen c = 14) (hport : hasPort s (pb c 0) = true) (hzeros : zeros c 1 3 = true)
    (hns : nsOk (pf c 10 4) = true) (hup : Up s (groupOf (pb c 0))) (hon : enabled s (pb c 0) = true) :
    portRetrainPlan c role s = Plan.long s 0x22 role 5 (fun id s' => retrainDue (pb c 0) (modPort (pb c 0)
      (fun p => { p with retrainAt := p.retrainAt ++ [(eventWhen s (pb c 0) (pf c 4 6) (pf c 10 4), id)] }) s')) := by
  rw [portRetrainPlan, bad_of_false (by simp [hlen, hport, hzeros, hns]), gated_of_run hup.1, inAudit_of_free hup.2, chk_of_false (by simp [hon])]
  simp only [firstOf_none_cons, firstOf_nil]

/-- What PORT_RATE does once it passes its checks: in service it asks for the rates, otherwise it keeps the cap. -/
theorem portRatePlan_of_ok (hlen : plen c = 14) (hport : hasPort s (pb c 0) = true) (hcap : pb c 1 ≤ 6) (hbelow : pb c 2 ≤ 7)
    (hauto : pb c 3 ≤ 1) (hns : nsOk (pf c 10 4) = true) (hup : Up s (groupOf (pb c 0))) :
    (inService s (pb c 0) = false → portRatePlan c role s =
      Plan.done .ok (natBE 5 0 ++ natBE 1 (txRate s (pb c 0)) ++ natBE 1 (rxRate s (pb c 0))) (storeRate (pb c 0) (pb c 1) (pb c 2) (pb c 3 == 1)))
    ∧ (inService s (pb c 0) = true → portRatePlan c role s = Plan.done .ok
      (natBE 5 (toLink s (pb c 0) (hostFrame s (pf c 4 6) (pf c 10 4))) ++ natBE 1 (min (txRate s (pb c 0)) (pb c 1))
        ++ natBE 1 (min (rxRate s (pb c 0)) (pb c 1)))
      (fun s' =>
        let r := askRates (pb c 0) ⟨hostFrame s (pf c 4 6) (pf c 10 4), pb c 1, pb c 2, pb c 3 == 1, false, false⟩ s'
        modPort (pb c 0) (fun p => { p with pendRate := p.pendRate ++ [r.1] }) r.2)) := by
  constructor <;> intro hservice
  all_goals
    rw [portRatePlan, bad_of_false (by simp [hlen, hport, hcap, hbelow, hauto, hns]), gated_of_run hup.1, inAudit_of_free hup.2, hservice]
    simp only [firstOf_none_cons, firstOf_nil, if_true, if_false, Bool.false_eq_true]

/-- OP_ABORT of a done operation returns its status; a running one, but a burn's activation, stops where it may. -/
theorem opAbortPlan_of_kept {o : Op} (hlen : plen c = 4) (hop : findOp s (pf c 0 4) = some o) :
    (o.st = .done → opAbortPlan c role s = Plan.done .ok (natBE 1 ((o.final.map Status.code).getD 0)) id)
    ∧ (o.st = .running → o.opcode ≠ 0xB1 → opAbortPlan c role s =
      Plan.done .ok [] (fun s' => abortNow o (modOp o.id (fun x => { x with st := .abortRequested }) s'))) := by
  rw [opAbortPlan, hop]
  dsimp only
  rw [bad_of_false (by simp [hlen])]
  refine ⟨fun hdone => ?_, fun hrun hcode => ?_⟩
  · rw [chk_of_true (by simp [hdone])]
    rfl
  · rw [chk_of_false (by simp [hrun]), chk_of_false (by simpa using hcode)]
    simp only [firstOf_none_cons, firstOf_nil, hrun, if_true]

end

theorem filter_not_of_none {α : Type} {p : α → Bool} {l : List α} (hnone : l.filter p = []) : l.filter (fun x => !p x) = l := by
  rw [List.filter_eq_nil_iff] at hnone
  exact List.filter_eq_self.mpr (fun x hx => by simpa using hnone x hx)

/-- Settles O25: each command by its plan; what is due is applied by the definition of its event. -/
theorem portCommandsTakeEffect : Obligations.PortCommandsTakeEffect := by
  refine ⟨?config, ?state, ?retrain, ?rateDown, ?rateUp, ?abort, ?apply, fun n s => rfl, ?resync⟩
  case config =>
    intro c s hready hlen hcount hport haction hretrain hns hitems hup hroom hheld w
    exact executes_of_plan hready rfl (portConfigPlan_of_ok (role := roleOf s c) hlen hcount hport haction hretrain hns hitems hup hroom hheld)
  case state =>
    intro c s hready hlen hport hup
    exact executes_of_plan hready rfl (portStatePlan_of_ok (role := roleOf s c) hlen hport hup)
  case retrain =>
    intro c s hready hlen hport hzeros hns hup hon hroom
    exact starts_of_plan hready hroom rfl (portRetrainPlan_of_ok hlen hport hzeros hns hup hon)
  case rateDown =>
    intro c s hready hlen hport hcap hbelow hauto hns hup hservice
    exact executes_of_plan hready rfl ((portRatePlan_of_ok (role := roleOf s c) hlen hport hcap hbelow hauto hns hup).1 hservice)
  case rateUp =>
    intro c s hready hlen hport hcap hbelow hauto hns hup hservice
    exact executes_of_plan hready rfl ((portRatePlan_of_ok (role := roleOf s c) hlen hport hcap hbelow hauto hns hup).2 hservice)
  case abort =>
    intro c o s hready hlen hop
    exact ⟨fun hrun hcode => executes_of_plan hready rfl ((opAbortPlan_of_kept (role := roleOf s c) hlen hop).2 hrun hcode),
      fun hdone => executes_of_plan hready rfl ((opAbortPlan_of_kept (role := roleOf s c) hlen hop).1 hdone)⟩
  case apply =>
    refine fun n s => ⟨rfl, fun hnone => ⟨?_, fun m => ?_⟩⟩
    · exact congrArg _ (congrArg (fun due => forL due (applyCfg n.val) _) hnone)
    · by_cases hm : m = n.val
      · rw [hm, port_modPort_self, filter_not_of_none hnone]
      · rw [port_modPort, if_neg hm]
  case resync =>
    exact fun s => ⟨fun hrun => congrArg _ (if_pos hrun), fun hrun => congrArg _ (if_neg hrun)⟩

end Sys2Proof.Proofs
end

section
/-!
Images, the Vault's burns, scan enable and boundary scan (R550 to R552, R583 to R586, R651, R790).
-/
namespace Sys2Proof.Proofs
open Sys2Proof.Machine Sys2Proof.Claims

@[simp] theorem forN_zero {α : Type} (f : Nat → α → α) (a : α) : forN 0 f a = a := rfl

theorem forN_succ {α : Type} (n : Nat) (f : Nat → α → α) (a : α) : forN (n + 1) f a = f n (forN n f a) := by
  simp [forN, List.range_succ]

/-! ## The end of a verification (R550, R651) -/

section
variable {s : State}

theorem signatureVerified_activating {id : Nat} (hopen : s.images.verified = false) (hrun : coresRun s = true)
    (hact : s.images.activating = some id) :
    signatureVerified s = if imageSigned s s.images.staging = false then activationFails id .recordBad s
      else if imageFits s s.images.staging = false then activationFails id .version s
      else opProgress id 2 2 50 (opItem id 0 0 0 0 (modImages (fun m => { m with verified := true }) s)) := by
  simp [signatureVerified, hopen, hrun, hact]

theorem signatureVerified_atBoot (hopen : s.images.verified = false) (hrun : coresRun s = true) (hact : s.images.activating = none)
    (hrom : s.images.romStart = true) :
    signatureVerified s = if imageWhole s.images.active = true ∧ imageSigned s s.images.active = true then modImages (fun m => { m with verified := true }) s
      else journalEvent 0 0x12 0 0 (modImages (fun m => { m with romStart := false }) s) := by
  simp [signatureVerified, hopen, hrun, hact, hrom]

/-! ## The start of an image (R551, R552) -/

theorem imageStart_verified (hstage : s.stage ≠ .restarting) (hverified : s.images.verified = true) (hrun : coresRun s = true) :
    imageStart s = imageStop s := by
  rw [imageStart, if_neg hstage, hverified, hrun]
  rfl

theorem imageStop_images : (imageStop s).images =
    if s.images.activating.isSome then { s.images with active := s.images.staging, staging := s.images.active } else s.images := by
  rw [imageStop]
  split <;> rfl

/-- The state in which the new image starts, before its Ledger and Journal entries. -/
def imageShown (s : State) : State :=
  modImages (fun m => { m with fwVersion := beNat (slotBytes s.images.active 12 4), activating := none, verified := false, romStart := false })
    { s with stage := .firmware, ops := s.ops.filter (fun o => o.id == s.images.activating.getD 0) }

theorem imageRun_keeps {p : Piece} (hp : Within 0x62040002E000 (allExcept p)) : p.same (imageShown s) (imageRun s) :=
  same_of_touch p (cutOpen_touch (within_trans (by decide) hp) (endOp_touch (within_trans (by decide) hp)
    (journalEvent_touch (within_trans (by decide) hp) (ledgerEnds_touch (within_trans (by decide) hp)
      (ledgerDevice_touch (within_trans (by decide) hp) (Touch.refl _ (imageShown s)))))))

/-! ## Burns (R583, R584) -/

theorem wordBurn_failed {b : Burn} (hburn : s.vault.burn = some b) (hspent : b.spentStep = false) :
    wordBurn false s = burnEnd b .incomplete (draw (burnBytes (b.offset + 4 * b.word) (partWord s (slice b.data (4 * b.word) 4)) s)) := by
  simp [wordBurn, hburn, hspent]

/-- A word of a field that verifies: the burn stops where it was asked to, and goes on otherwise. -/
theorem wordBurn_verified {b : Burn} (hburn : s.vault.burn = some b) (hspent : b.spentStep = false) :
    let t := burnBytes (b.offset + 4 * b.word) (slice b.data (4 * b.word) 4) s
    (abortAsked t b.op = true → wordBurn true s = burnEnd b .aborted t)
    ∧ (∀ st, abortAsked t b.op = false → b.stop = some st → wordBurn true s = burnEnd b st t)
    ∧ (abortAsked t b.op = false → b.stop = none → wordBurn true s = if b.data.length ≤ 4 * (b.word + 1) then
        opProgress b.op 3 3 90 (modVault (fun v => { v with burn := some { b with spentStep := true } }) t)
      else opProgress b.op 2 3 (33 + 50 * (b.word + 1) * 4 / b.data.length)
        (modVault (fun v => { v with burn := some { b with word := b.word + 1 } }) t)) := by
  refine ⟨fun hasked => ?_, fun st hasked hstop => ?_, fun hasked hstop => ?_⟩ <;> simp [wordBurn, *]

end

/-- The fuses after the first bytes of a word are burned. -/
theorem fuse_forN_burn (o : Nat) (d : List Byte) (s : State) (n x : Nat) :
    fuse (forN n (fun i s => modVault (fun v => { v with fuses := SMap.set v.fuses 0 (o + i) (SMap.get v.fuses 0 (o + i) ||| d.getD i 0) }) s) s) x =
      if o ≤ x ∧ x < o + n then fuse s x ||| d.getD (x - o) 0 else fuse s x := by
  induction n with
  | zero => simp
  | succ n ih =>
    rw [forN_succ]
    by_cases hx : x = o + n
    · subst hx
      have hold := ih
      rw [if_neg (by omega)] at hold
      rw [if_pos (by omega), ← hold]
      simp [fuse, modVault]
    · rw [fuse, modVault]
      dsimp only
      rw [SMap.get_set_other _ _ _ _ _ _ hx]
      refine ih.trans ?_
      congr 1
      simp only [eq_iff_iff]
      omega

/-- What a requested scan enable leaves (R585). -/
def scanOpened (s : State) : State :=
  wrG F.VAULT_STATUS_READ_LOCK 1 (modVault (fun v => { v with shadow := [] }) (endSessions 6 (safeEnter
    (fun s => holdAll (portsDown (fun _ => true) 5 s)) { s with sec := { s.sec with scanRequested := false, scanOpen := true } })))

theorem scanOpen_requested {s : State} (hasked : s.sec.scanRequested = true) : scanOpen s = scanOpened s := if_pos hasked

theorem scanOpened_shows (s : State) : rdG (scanOpened s) F.VAULT_STATUS_READ_LOCK = 1 ∧ (scanOpened s).vault.shadow = [] :=
  ⟨rdG_wrG_self (by decide) (by decide), rfl⟩

theorem fuse_burnBytes (o : Nat) (d : List Byte) (s : State) (x : Nat) :
    fuse (burnBytes o d s) x = if o ≤ x ∧ x < o + d.length then fuse s x ||| d.getD (x - o) 0 else fuse s x := fuse_forN_burn o d s d.length x

/-! ## The obligation -/

/-- Settles O29: each event by its branches; what the new image keeps by the frames of its entries. -/
theorem imagesVaultAndScanEvents : Obligations.ImagesVaultAndScanEvents := by
  refine ⟨fun s hopen hrun => ⟨fun id hact => ?verified, fun hact hrom => ?atBoot⟩, fun s hstage hverified hrun => ?stop, fun s hstage => ?run,
    fun b s hburn hspent => ?burn, fun o d s => ?fuses, fun s => ?supply, fun s => ?scan, fun i s => ?boundary⟩
  case verified =>
    have hplan := signatureVerified_activating hopen hrun hact
    refine ⟨fun hbad => ?_, fun hgood hmisfit => ?_, fun hgood hfits => ?_⟩
    · exact congrArg _ (hplan.trans (if_pos hbad))
    · exact congrArg _ (hplan.trans ((if_neg (by simp [hgood])).trans (if_pos hmisfit)))
    · exact congrArg _ (hplan.trans ((if_neg (by simp [hgood])).trans (if_neg (by simp [hfits]))))
  case atBoot =>
    have hplan := signatureVerified_atBoot hopen hrun hact hrom
    refine ⟨fun hwhole hsigned => congrArg _ (hplan.trans (if_pos ⟨hwhole, hsigned⟩)), fun hbad => congrArg _ (hplan.trans (if_neg ?_))⟩
    rintro ⟨hwhole, hsigned⟩
    simp [hwhole, hsigned] at hbad
  case stop => exact ⟨imageStop s, congrArg _ (imageStart_verified hstage hverified hrun), rfl, rfl, rfl, rfl, imageStop_images⟩
  case run =>
    have hstages : (imageRun s).stage = .firmware := imageRun_keeps (p := .stage) (by decide)
    have himages : (imageRun s).images = (imageShown s).images := imageRun_keeps (p := .images) (by decide)
    refine ⟨imageRun s, congrArg _ (if_pos hstage), hstages, ?_⟩
    rw [himages]
    exact ⟨rfl, rfl, rfl, rfl⟩
  case burn =>
    intro o d
    obtain ⟨haborted, hstopped, hon⟩ := wordBurn_verified hburn hspent
    exact ⟨⟨_, congrArg _ (wordBurn_failed hburn hspent)⟩, fun st hasked hstop => congrArg _ (hstopped st hasked hstop),
      fun hasked => congrArg _ (haborted hasked), fun hasked hstop hlast => congrArg _ ((hon hasked hstop).trans (if_pos hlast)),
      fun hasked hstop hmore => congrArg _ ((hon hasked hstop).trans (if_neg (by omega)))⟩
  case fuses =>
    refine ⟨fun i hi => ?_, fun x hx => ?_⟩
    · rw [fuse_burnBytes, if_pos (by omega), Nat.add_sub_cancel_left]
    · rw [fuse_burnBytes, if_neg (by omega)]
  case supply =>
    refine ⟨⟨_, rfl, rdG_wrG_self (by decide) (by decide), onlyWords_wrG (by decide) (onlyWords_refl _ s)⟩,
      ⟨_, rfl, rdG_wrG_self (by decide) (by decide), rfl, rfl⟩⟩
  case scan =>
    refine ⟨fun hasked => ⟨scanOpened s, congrArg _ (scanOpen_requested hasked), (scanOpened_shows s).1, (scanOpened_shows s).2, rfl⟩, fun hnot => ?_⟩
    have hidle : scanOpen s = s := if_neg (by simp [hnot])
    exact congrArg _ hidle
  case boundary =>
    intro u
    exact ⟨fun hfree => ⟨congrArg _ (if_neg (by simp [hfree])), congrArg _ (if_neg (by simp [hfree]))⟩,
      fun j hheld => ⟨congrArg _ (if_pos (by simp [hheld])), congrArg _ (if_pos (by simp [hheld]))⟩⟩

end Sys2Proof.Proofs
end

section
/-!
The handshake's detections and bursts, silence, Listen and the limits of training (R184 to R199, R224, R352).
-/
namespace Sys2Proof.Proofs
open Sys2Proof.Machine Sys2Proof.Claims

/-! ## A confirmed burst (R84, R187, R195) -/

/-- A burst that passes R195 on a port. -/
def hsGood (s : State) (n : Nat) (m : HsMsg) : Prop :=
  m.crcOk = true ∧ m.ver.val = (port s n).tr.ver ∧ m.role.val = (if (port s n).tr.master then 2 else 1)
    ∧ m.seed = (port s n).an.peerSeed ∧ m.peerSeed = (port s n).an.seed

/-- The state after a burst has ended the detections and, where it came with a stronger one, has been counted so. -/
def hsHeard (n : Nat) (m : HsMsg) (s : State) : State :=
  let s0 := modTr n (fun t => { t with firing := [] }) s
  if m.stronger then ghostSrc n 1 0 0 (addCnt (portBase n) F.AN_GHOST_ABANDON 1 s0) else s0

section
variable {n : Nat} {m : HsMsg} {s : State}

theorem handshakeBurst_not_sir (hsir : isSir s n = false) : handshakeBurst n m s = s := by simp [handshakeBurst, hsir]

theorem handshakeBurst_ghost {src : Nat} (hsir : isSir s n = true) (hghost : ghostSource s n m.ghostOf = some src) :
    handshakeBurst n m s = ghostSrc n 0 0 src (addCnt (portBase n) F.AN_GHOST_SELF 1 (modTr n (fun t => { t with firing := [] }) s)) := by
  simp [handshakeBurst, hsir, hghost]

theorem handshakeBurst_bad (hsir : isSir s n = true) (hown : ghostSource s n m.ghostOf = none) (hbad : ¬ hsGood s n m) :
    handshakeBurst n m s = addCnt (portBase n) F.SIR_TRAIN_FALSE_HS 1 (hsHeard n m s) := by
  simp only [handshakeBurst, hsir, hown, Bool.not_true, Bool.false_eq_true, if_false]
  rw [if_pos]
  · rfl
  · rw [Bool.not_eq_true', ← Bool.not_eq_true]
    simpa only [hsGood, Bool.and_eq_true, beq_iff_eq, and_assoc] using hbad

theorem handshakeBurst_good (hsir : isSir s n = true) (hown : ghostSource s n m.ghostOf = none) (hgood : hsGood s n m) :
    handshakeBurst n m s = if inPhase s n 1 = true then goodBurst n m (hsHeard n m s)
      else if (channelOpen s n || earlyService s n) = true then restartHandshake n (hsHeard n m s) else downRestart n 2 (hsHeard n m s) := by
  simp only [handshakeBurst, hsir, hown, Bool.not_true, Bool.false_eq_true, if_false]
  rw [if_neg]
  · rfl
  · simpa [hsGood, and_assoc] using hgood

theorem goodBurst_master (hmaster : (port s n).tr.master = true) :
    ((port s n).tr.sEcho ≠ none → goodBurst n m s = s)
    ∧ ((port s n).tr.sEcho = none → goodBurst n m s = draw (modTr n (fun t =>
        { t with confirmed := true, heard := true, peerHeard := m.heard, sEcho := some (s.time.s + 8 + Config.pick s.draws % 2) }) s)) := by
  refine ⟨fun hset => ?_, fun hunset => ?_⟩
  · rw [goodBurst, if_pos hmaster, if_pos (Option.isSome_iff_ne_none.mpr hset)]
  · rw [goodBurst, if_pos hmaster, if_neg (by simp [hunset])]

/-- The superframe that a master names for ECHO is the eighth or the ninth from now. -/
theorem echo_eighth_or_ninth (k d : Nat) : k + 8 + d % 2 = k + 8 ∨ k + 8 + d % 2 = k + 9 := by omega

/-! ## Listen (R224) -/

/-- The quiet time of Listen lies between 250 ms and its limit. -/
theorem quiet_between (d : Nat) {limit : Nat} (hlimit : 250 ≤ limit) : 250 ≤ 250 + d % (limit - 250 + 1) ∧ 250 + d % (limit - 250 + 1) ≤ limit := by
  have hlt : d % (limit - 250 + 1) < limit - 250 + 1 := Nat.mod_lt _ (by omega)
  omega

end

/-- Settles O32: each event by its branches; a confirmed burst by what R84 and R195 make of it. -/
theorem handshakeAndListenEventsDoWhatTheSpecSays : Obligations.HandshakeAndListenEventsDoWhatTheSpecSays := by
  refine fun n s => ⟨fun p d hfree hsir => congrArg _ (if_pos (by simp [hfree, hsir])),
    fun p d => ⟨fun hfiring => congrArg _ (if_pos hfiring), fun hquiet => congrArg _ (if_neg hquiet)⟩, fun m => ?burst,
    fun hphase hslave hconfirmed => congrArg _ (if_pos (by simp [hphase, hslave, hconfirmed])), fun htraining => ?training, fun hnot => ?notTraining,
    fun hphase hunconfirmed => congrArg _ (if_pos (by simp [hphase, hunconfirmed])), fun hopen => congrArg _ (if_pos hopen),
    fun hlisten hlimit htx => ?quiet, fun hlisten htx => ?transmit, fun res hlisten hauto htx htdr hwindow => ?reflect⟩
  case burst =>
    intro s0 good
    refine ⟨fun hsir => congrArg _ (handshakeBurst_not_sir hsir), fun hsir =>
      ⟨fun src hghost => congrArg _ (handshakeBurst_ghost hsir hghost), fun hown => ?_⟩⟩
    intro s1
    refine ⟨fun hbad => congrArg _ (handshakeBurst_bad hsir hown hbad), fun hgood hphase => ?_, fun hgood hphase hopen => ?_, fun hgood hphase hclosed => ?_⟩
    · have hburst : handshakeBurst n.val m s = goodBurst n.val m s1 := (handshakeBurst_good hsir hown hgood).trans (if_pos hphase)
      refine ⟨fun hmaster hunset => ⟨_, echo_eighth_or_ninth _ _, congrArg _ (hburst.trans ((goodBurst_master hmaster).2 hunset))⟩,
        fun hmaster hset => congrArg _ (hburst.trans ((goodBurst_master hmaster).1 hset)), fun hslave => ?_⟩
      exact congrArg _ (hburst.trans (if_neg (by simp [hslave])))
    · exact congrArg _ ((handshakeBurst_good hsir hown hgood).trans ((if_neg (by simp [hphase])).trans (if_pos hopen)))
    · exact congrArg _ ((handshakeBurst_good hsir hown hgood).trans ((if_neg (by simp [hphase])).trans (if_neg (by simp [hclosed]))))
  case training =>
    exact ⟨congrArg _ (if_pos htraining), congrArg _ (if_pos htraining), fun hphase => congrArg _ (if_pos ⟨htraining, hphase⟩)⟩
  case notTraining =>
    exact ⟨congrArg _ (if_neg hnot), congrArg _ (if_neg fun h => hnot h.1),
      fun hservice hawake => congrArg _ ((if_neg hnot).trans (if_pos ⟨hservice, hawake⟩))⟩
  case quiet =>
    obtain ⟨hlow, hhigh⟩ := quiet_between (Config.listenQuiet s.draws) hlimit
    exact ⟨_, hlow, hhigh, congrArg _ ((if_neg (not_not.mpr hlisten)).trans (if_pos htx))⟩
  case transmit => exact congrArg _ ((if_neg (not_not.mpr hlisten)).trans (if_neg (by simp [htx])))
  case reflect =>
    have hgo : ¬ ((port s n.val).st ≠ .listen ∨ rdP s n.val F.SIR_TRAIN_CTRL_AUTO_DIAG = 0 ∨ (port s n.val).tr.listenTx = true
        ∨ (port s n.val).tr.tdrDone = true ∨ (port s n.val).tr.listenWindow < 250) := by
      simp [hlisten, hauto, htx, htdr, hwindow]
    exact ⟨congrArg _ ((if_neg hgo).trans (if_pos rfl)), congrArg _ ((if_neg hgo).trans (if_neg (by decide)))⟩

end Sys2Proof.Proofs
end

section
/-!
The phases of training from HANDSHAKE to the entry into service (R182, R204 to R222).
-/
namespace Sys2Proof.Proofs
open Sys2Proof.Machine Sys2Proof.Claims

theorem port_congr {s t : State} (h : t.ports = s.ports) (n : Nat) : port t n = port s n := by rw [port, port, h]

/-- A port reads as before an operation that touches other pieces. -/
theorem port_of_touch {s t : State} (h : Touch (allExcept .ports) s t) (n : Nat) : port t n = port s n := port_congr (same_of_touch .ports h) n

/-! ## What reporting a link leaves of a port's state -/

/-- A port's state but for its messages, the tick of a held reason and the retraining that reports: what the reports of a link leave. -/
def linkCore (p : PortState) : PortState := { p with txTag := [], outbox := [], sent := [], heldReasons := 0, retrainOp := none }

section
variable {n : Nat} {s : State}

theorem setReason_linkCore (f : Fld) (b : Bool) : linkCore (port (setReason n f b s) n) = linkCore (port s n) := by
  rw [setReason]
  split
  · rfl
  · rw [port_of_touch (updateState_touch (by decide) (Touch.refl _ _)), whenB]
    split
    · rw [port_modPort_self, port_congr wrP_ports]
      rfl
    · rw [port_congr wrP_ports]

theorem updateRateReason_linkCore : linkCore (port (updateRateReason n s) n) = linkCore (port s n) := setReason_linkCore _ _

theorem portUp_linkCore : linkCore (port (portUp n s) n) = linkCore (port s n) := by
  rw [portUp, port_of_touch (updateSplit_touch (by decide) (Touch.refl _ _)), setReason_linkCore, setReason_linkCore, port_modPort_self,
    port_congr wrP_ports, port_congr wrP_ports]
  rfl

theorem sendMsg_linkCore (type : Nat) (reliable : Bool) (body : MsgBody) : linkCore (port (sendMsg n type reliable body s) n) = linkCore (port s n) := by
  rw [sendMsg, port_modPort_self]
  rfl

theorem endRetrain_linkCore (st : Status) (data : List Byte) : linkCore (port (endRetrain n st data s) n) = linkCore (port s n) := by
  rw [endRetrain]
  split
  · rw [port_modPort_self, port_of_touch (endOp_touch (by decide) (Touch.refl _ _))]
    rfl
  · rfl

end

/-! ## The phases (R182, R204, R217) -/

section
variable {n : Nat} {s : State}

theorem phaseDue_of_echo {k : Nat} (hphase : inPhase s n 1 = true) (hecho : (port s n).tr.sEcho = some k) :
    phaseDue n s = if k ≤ s.time.s ∧ ((port s n).tr.master = true ∨ (port s n).tr.peerHeard = true) then enterEcho n s else s := by
  rw [phaseDue, if_pos hphase, hecho]

theorem phaseDue_of_next {ph k : Nat} (hphase : inPhase s n 1 = false) (hopen : channelOpen s n = true) (hnext : (port s n).tr.next = some (ph, k)) :
    phaseDue n s = if k ≤ s.time.s then enterPhase n ph s else s := by
  rw [phaseDue, if_neg (by simp [hphase]), if_pos hopen, hnext]

/-! ## The entry into service (R222, R243) -/

theorem serviceDue_of_named {k : Nat} (hphase : inPhase s n 5 = true) (hs0 : (port s n).tr.s0 = some k) :
    serviceDue n s = if k ≤ s.time.s then enterService n s else s := by
  rw [serviceDue, hs0]
  simp only [hphase, Bool.true_and, decide_eq_true_eq]

/-- The port's state that the tables of training give at the entry into service. -/
def serviceState (s : State) (rx tx : LoadReq) (p : PortState) : PortState :=
  { p.stopped .service with
    tr := p.tr, serviceS := s.time.s, txRate0 := tx.rate.val, rxRate0 := rx.rate.val, idleSince := symNow s 1,
    txLoad := ⟨0, tx.q.toNat, tx.n.toNat, tx.k.toNat⟩, rxLoad := ⟨0, rx.q.toNat, rx.n.toNat, rx.k.toNat⟩
    an := { p.an with failedSir := 0 } }

theorem enterService_linkCore {rx tx : LoadReq} (hrx : (port s n).tr.rxTable = some rx) (htx : (port s n).tr.txTable = some tx) :
    ∃ p, linkCore (port (enterService n s) n) = linkCore (serviceState s rx tx p) := by
  refine ⟨port (writeTable n 1 (requestTable emptyTable rx) (writeTable n 0 (requestTable emptyTable tx) (saveElapsed n s))) n, ?_⟩
  rw [enterService, hrx, htx]
  dsimp only
  rw [retrainDone, endRetrain_linkCore, sendMsg_linkCore, setReason_linkCore, updateRateReason_linkCore, portUp_linkCore, port_congr wrP_ports,
    port_congr wrP_ports, port_congr wrP_ports, port_congr wrP_ports, port_modPort_self, port_of_touch (setPhase_touch (by decide) (Touch.refl _ _)),
    port_modPort_self]
  rfl

end

/-- Settles O34: each event by its branches; the entry into service by what the reports of a link leave of the port. -/
theorem trainingPhasesAdvanceAsTheSpecSays : Obligations.TrainingPhasesAdvanceAsTheSpecSays := by
  intro n s t
  refine ⟨fun k hphase hecho => ?echo, fun ph k hphase hopen hnext => ?next, fun hphase => congrArg _ (if_pos hphase), fun live hphase => ?pairs,
    fun hphase hdone => ?ramp, fun hphase hjoin hlate => congrArg _ (if_neg (by simpa [hphase, hlate] using hjoin)),
    fun hphase hjoin => congrArg _ (if_pos (by simpa [hphase] using hjoin)), fun snr hphase => ?loading, fun k hphase hs0 hearly => ?early,
    fun k rx tx hphase hs0 hcome hrx htx => ?service⟩
  case echo =>
    exact ⟨fun hcome hheard => congrArg _ ((phaseDue_of_echo hphase hecho).trans (if_pos ⟨hcome, hheard⟩)),
      fun hearly => congrArg _ ((phaseDue_of_echo hphase hecho).trans (if_neg (by omega)))⟩
  case next =>
    exact ⟨fun hcome => congrArg _ ((phaseDue_of_next hphase hopen hnext).trans (if_pos hcome)),
      fun hearly => congrArg _ ((phaseDue_of_next hphase hopen hnext).trans (if_neg (by omega)))⟩
  case pairs =>
    exact ⟨congrArg _ (if_pos hphase), fun hopen => congrArg _ (if_pos (by simpa [hphase] using hopen)),
      fun hdecided => congrArg _ (if_neg (by simpa [hphase] using hdecided))⟩
  case ramp =>
    intro left pct u
    have hgo : (inPhase s n.val 4 && (t.joinDone || rdP s n.val F.SIR_TRAIN_STATUS_JOIN_LATE == 1)) = true := by
      rw [hphase, Bool.true_and, Bool.or_eq_true, beq_iff_eq]
      exact hdone
    refine ⟨fun hlast => congrArg _ ((if_pos hgo).trans (if_pos ?_)), fun hmore => congrArg _ ((if_pos hgo).trans (if_neg ?_))⟩
    · exact Nat.sub_eq_zero_of_le hlast
    · exact Nat.sub_ne_zero_of_lt hmore
  case loading =>
    exact ⟨congrArg _ (if_pos hphase), fun hnone => congrArg _ (if_pos (by simpa [hphase] using hnone)),
      fun hsome => congrArg _ (if_neg (by simpa [hphase] using hsome))⟩
  case early => exact congrArg _ ((serviceDue_of_named hphase hs0).trans (if_neg (by omega)))
  case service =>
    obtain ⟨p, hcore⟩ := enterService_linkCore hrx htx
    have hread {α : Type} (f : PortState → α) (hf : ∀ q, f (linkCore q) = f q) : f (port (enterService n.val s) n.val) = f (serviceState s rx tx p) := by
      rw [← hf, hcore, hf]
    exact ⟨enterService n.val s, congrArg _ ((serviceDue_of_named hphase hs0).trans (if_pos hcome)), hread (·.st) fun _ => rfl, hread (·.serviceS) fun _ => rfl,
      hread (·.txLoad) fun _ => rfl, hread (·.rxLoad) fun _ => rfl, hread (·.txRate0) fun _ => rfl, hread (·.rxRate0) fun _ => rfl,
      hread (·.an.failedSir) fun _ => rfl⟩

end Sys2Proof.Proofs
end

section
/-!
The Escrow: DTUs sent, received, lost and discarded, and its blocks (R127 to R155).
-/
namespace Sys2Proof.Proofs
open Sys2Proof.Machine Sys2Proof.Claims

/-- Two changes of a port that agree on the port's state are the same. -/
theorem modPort_congr {n : Nat} {f g : PortState → PortState} {s : State} (h : f (port s n) = g (port s n)) : modPort n f s = modPort n g s := by
  rw [modPort, modPort, h]

section
variable {n sym : Nat} {s : State}

/-! ## Sending (R128, R146) -/

theorem dtuSlot_closed (hclosed : dtuOpen s n = false ∨ sym = 0) : dtuSlot n sym s = s := by
  rw [dtuSlot, if_pos]
  obtain h | h := hclosed <;> simp [h]

theorem dtuSlot_due {d : TxDtu} (hopen : dtuOpen s n = true) (hsym : 1 ≤ sym) (hdue : dueDtu (port s n).esc = some d) :
    dtuSlot n sym s = sendRetx n sym d (sendBlock n sym s) := by
  rw [dtuSlot, if_neg (by simp [hopen, hsym])]
  dsimp only
  rw [hdue]

/-- With no retransmission due, the slot sends what waits, if it may, and an idle DTU otherwise. -/
theorem dtuSlot_not_due (hopen : dtuOpen s n = true) (hsym : 1 ≤ sym) (hdue : dueDtu (port s n).esc = none) :
    dtuSlot n sym s = if ((port s n).esc.txBytes ≠ [] ∨ ready8 s n ≠ []) ∧ mayNew s n = true ∧ (port s n).shut.accepted = none then
        sendNew n sym (sendBlock n sym s)
      else modEsc n (fun x => { x with dtuOut := dtuBytes (port s n).esc.nextSeq 1 false 0x3FF (List.replicate 504 0) }) (sendBlock n sym s) := by
  rw [dtuSlot, if_neg (by simp [hopen, hsym])]
  dsimp only
  rw [hdue]
  simp only [ne_eq, List.length_eq_zero_iff]

theorem sendRetx_dtuOut (d : TxDtu) : (port (sendRetx n sym d s) n).esc.dtuOut = dtuBytes d.seq 0 true d.framePtr d.payload := by
  rw [sendRetx, port_of_touch (pmPort_touch (by decide) (countDev_touch (by decide) (addCntP_touch (by decide) (Touch.refl _ _)))), modEsc, port_modPort_self]

/-! ## Receiving (R130, R131, R147) -/

/-- A data DTU is a duplicate, or lies beyond the store. -/
def dtuOutside (e : Escrow) (seq : Nat) : Prop :=
  seqAfter e.rxBase seq = true ∨ (∃ x ∈ e.rx, x.seq = seq ∧ x.payload.isSome) ∨ 384 ≤ seqDist seq e.rxBase

/-- The state after a good data DTU has been counted. -/
def dtuCounted (n sym : Nat) (s : State) : State :=
  modPort n (fun p => { p with idleSince := symNow s sym }) (thaw n false (pmPort n 2 1 (countDev 2 1 s)))

theorem dataDtu_outside {d : RxDtu} (hout : dtuOutside (port s n).esc (beAt d.bytes 0 2)) : dataDtu n sym d s = dtuCounted n sym s := by
  rw [dataDtu]
  dsimp only
  rw [if_pos]
  · rfl
  · simpa [dtuOutside, or_assoc] using hout

theorem dataDtu_inside {d : RxDtu} (hin : ¬ dtuOutside (port s n).esc (beAt d.bytes 0 2)) :
    let seq := beAt d.bytes 0 2
    let e1 := noteMissing ((seq + 1) % 65536) (port s n).esc
    let slot : RxSlot := ⟨seq, some (slice d.bytes 4 504), beAt d.bytes 2 2 % 1024, now8 s, s.time.epoch % 65536, bitsOf (beAt d.bytes 2 2) 13 13 == 1⟩
    let rx := e1.rx.map (fun x => if x.seq = seq then slot else x)
    dataDtu n sym d s = deliverHeld n rx (modEsc n (fun _ => { e1 with rx := rx, rxLast := if seqAfter seq e1.rxLast then seq else e1.rxLast })
      (dtuCounted n sym s)) := by
  intro seq e1 slot rx
  rw [dataDtu]
  dsimp only
  rw [if_neg]
  · rfl
  · simpa only [dtuOutside, Bool.or_eq_true, List.any_eq_true, Bool.and_eq_true, beq_iff_eq, or_assoc, ge_iff_le] using hin

/-! ## Losing and discarding (R148, R149) -/

/-- A DTU is known missing. -/
theorem missing_iff {l : List RxSlot} {seq : Nat} :
    l.any (fun x => x.seq == seq && x.payload.isNone) = true ↔ ∃ x ∈ l, x.seq = seq ∧ x.payload = none := by
  simp

end

/-- Settles O35: each command by its branches. -/
theorem escrowSendsReceivesLosesAndDiscards : Obligations.EscrowSendsReceivesLosesAndDiscards := by
  intro n s e
  refine ⟨fun sym hclosed => congrArg _ (dtuSlot_closed hclosed), fun sym hopen hsym => ?slot, fun sym d => ?received, fun seq => ?lost,
    fun sym b => ⟨fun hclosed => congrArg _ (if_pos (by simp [hclosed])), fun hopen hbad => ?badBlock, fun hopen hlen hcrc => ?goodBlock⟩⟩
  case slot =>
    refine ⟨fun d hdue => ⟨congrArg _ (dtuSlot_due hopen hsym hdue), sendRetx_dtuOut d⟩, fun hdue hwaits hmay hfree => ?_, fun hdue hnone => ?_⟩
    · exact congrArg _ ((dtuSlot_not_due hopen hsym hdue).trans (if_pos ⟨hwaits, hmay, hfree⟩))
    · refine congrArg _ ((dtuSlot_not_due hopen hsym hdue).trans (if_neg ?_))
      rintro ⟨hwaits, hmay, hfree⟩
      obtain ⟨hbytes, hframes⟩ | hnot | hagreed := hnone
      · exact hwaits.elim (· hbytes) (· hframes)
      · simp [hmay] at hnot
      · exact hagreed hfree
  case received =>
    have htype : byteAt d.bytes 2 / 64 = 0 → dtuOpen s n.val = true → dtuGood d = true → exec (.dtuReceived n sym d) s = .next (dataDtu n.val sym.val d s) :=
      fun hdata hopen hgood => congrArg _ ((if_pos (by simp [hopen, hgood])).trans (if_pos hdata))
    refine ⟨fun hnot => congrArg _ (if_neg ?_), fun hopen hgood hidle => congrArg _ ((if_pos (by simp [hopen, hgood])).trans (if_neg hidle)),
      fun hopen hgood hdata => ?_⟩
    · rw [Bool.and_eq_true]
      rintro ⟨hopen, hgood⟩
      simp [hopen, hgood] at hnot
    · intro seq u
      refine ⟨fun hout => (htype hdata hopen hgood).trans (congrArg _ (dataDtu_outside hout)), fun hbase hfree hdist => ?_⟩
      refine (htype hdata hopen hgood).trans (congrArg _ (dataDtu_inside ?_))
      rintro (hafter | ⟨x, hx, hseq, hheld⟩ | hfar)
      · exact absurd hafter (by simp [seq, e] at hbase; simp [hbase])
      · simp [hfree x hx hseq] at hheld
      · exact absurd hdist (Nat.not_lt.mpr hfar)
  case lost =>
    refine ⟨fun hopen hmissing => congrArg _ (if_pos ?_), fun hnot => congrArg _ (if_neg ?_), ⟨_, rfl, fun d => ?_, ?_⟩⟩
    · rw [Bool.and_eq_true]
      exact ⟨hopen, missing_iff.mpr hmissing⟩
    · rw [Bool.and_eq_true]
      rintro ⟨hopen, hmissing⟩
      obtain ⟨x, hx, hseq, hnone⟩ := missing_iff.mp hmissing
      obtain hclosed | hall := hnot
      · simp [hopen] at hclosed
      · exact hall x hx hseq hnone
    · rw [modEsc, port_modPort_self]
      simp [e]
    · rw [modEsc, port_modPort_self]
      exact modPort_congr rfl
  case badBlock => exact congrArg _ ((if_neg (by simp [hopen])).trans (if_pos hbad))
  case goodBlock => exact congrArg _ ((if_neg (by simp [hopen])).trans (if_neg (by simp [hlen, hcrc])))

end Sys2Proof.Proofs
end

section
/-!
Pair fallback (R315 to R325), and the reliable messages' common rule (R158).
-/
namespace Sys2Proof.Proofs
open Sys2Proof.Machine Sys2Proof.Claims

/-- A reliable message whose command answers by the shared rule of R158 is taken once. -/
theorem takenOnce_of_onReliable {listens : Bool} {n type tag : Nat} {s : State} {i : Instr} {act : State → State}
    (hexec : exec i s = .next (if listens then onReliable n type tag act s else s)) : TakenOnce listens n type tag s i act := by
  refine ⟨fun hclosed => ?_, fun hopen hold => ?_, fun hopen hnew => ?_⟩
  · rw [hexec, if_neg (by simp [hclosed])]
  · rw [hexec, if_pos hopen, onReliable, if_neg (by simp [hold])]
  · rw [hexec, if_pos hopen, onReliable, if_pos hnew]

/-- The effect of a message enters only through what it does to a state. -/
theorem TakenOnce.congr {listens : Bool} {n type tag : Nat} {s : State} {i : Instr} {f g : State → State} (h : TakenOnce listens n type tag s i f)
    (hfg : ∀ u, f u = g u) : TakenOnce listens n type tag s i g := (funext hfg : f = g) ▸ h

section
variable {n : Nat} {s : State}

/-! ## The trigger (R316, R317) -/

theorem tryFallback_of_free (hen : rdP s n F.LINK_CTRL_FALLBACK_EN = 1) (hallows : allows3 s n = true) (hfour : threePair s n = false)
    (hopen : dtuOpen s n = true) (hnone : (port s n).fallback = none) :
    tryFallback n s = (bestPair (fallbackPairs s n)).map (fun p => sendFallback n (s.time.s + 6) 1 p false s) := by
  rw [tryFallback, if_pos (by simp [hen, hallows, hfour, hopen, hnone])]

/-! ## The message (R318) -/

theorem pairFallback_enter (k : Port) (tag : Byte) (sf : BitVec 40) (pair : Pair) (t r : Fin 16) :
    let held := (SMap.get (port s k.val).peerStandby none pair.val).isSome && (SMap.get (port s k.val).ownStandby none pair.val).isSome
    exec (.pairFallback k tag sf 1 pair t r) s = .next (if held = false then s else onService2 k.val 0x20 tag (fun u => if allows3 u k.val then
      takeFallback k.val (Fallback.mk (toGrid s k.val sf.toNat) true pair.val r.val t.val false false false) u else u) s) := by
  intro held
  show Host.Outcome.next _ = _
  simp only [true_and, if_true, beq_self_eq_true]
  rfl

theorem pairFallback_return (k : Port) (tag : Byte) (sf : BitVec 40) (pair : Pair) (t r : Fin 16) :
    exec (.pairFallback k tag sf 2 pair t r) s = .next (onService2 k.val 0x20 tag (fun u => if threePair u k.val then
      takeFallback k.val (Fallback.mk (toGrid s k.val sf.toNat) false pair.val r.val t.val false false false) u else u) s) := rfl

/-! ## The superframe (R319 to R322) -/

/-- What a fallback or a return due does at its superframe. -/
def fallbackTurns (n : Nat) (f : Fallback) (s : State) : List RateStep × State :=
  let u := voidChanges n f.s (modPort n (fun p => { p with fallback := none }) s)
  if f.enter then enterThree n f u else leaveThree n f u

theorem fallbackStage_of_due {f : Fallback} {l : List RateStep} (hservice : inService s n = true) (hf : (port s n).fallback = some f)
    (hcome : f.s ≤ s.time.s) : fallbackStage n (l, s) =
      (l ++ (fallbackTurns n f s).1, wrP n F.CH_PORT_PRE_ACTIVE (bit (preActive (fallbackTurns n f s).2 n)) (fallbackTurns n f s).2) := by
  rw [fallbackStage]
  dsimp only
  rw [hf]
  dsimp only
  rw [if_neg (by simp [hservice, hcome])]
  rfl

theorem fallbackStage_of_early {f : Fallback} {l : List RateStep} (hf : (port s n).fallback = some f) (hearly : s.time.s < f.s) :
    fallbackStage n (l, s) = (l, s) := by
  rw [fallbackStage]
  dsimp only
  rw [hf]
  dsimp only
  rw [if_pos (by simp [hearly])]

theorem fallbackStage_of_none {l : List RateStep} (hf : (port s n).fallback = none) : fallbackStage n (l, s) = (l, s) := by
  rw [fallbackStage]
  dsimp only
  rw [hf]

theorem pairFallbackApply_eq (k : Port) :
    exec (.pairFallbackApply k) s = .next (rateSteps (fallbackStage k.val ([], s)).1 (fallbackStage k.val ([], s)).2) := rfl

/-! ## A sudden break (R323) -/

/-- The superframe at which both ends fall back after a sudden break. -/
def breakFrame (s : State) (n : Nat) : Nat := toGrid s n (((toLink s n s.time.s + 3) + 3) / 4 * 4)

theorem breakFrame_place (hoff : 0 ≤ (port s n).tr.sOff) :
    toLink s n (breakFrame s n) % 4 = 0 ∧ s.time.s + 3 ≤ breakFrame s n ∧ breakFrame s n ≤ s.time.s + 6 := by
  obtain ⟨o, ho⟩ := Int.eq_ofNat_of_zero_le hoff
  simp only [breakFrame, toLink, toGrid, ho]
  omega

/-- The fallback that a sudden break of a pair makes. -/
def breakFallback (s : State) (n p : Nat) : Fallback :=
  ⟨breakFrame s n, true, p, ((port s n).txLoad.loadId + 1) % 16, ((port s n).rxLoad.loadId + 1) % 16, true, false, false⟩

end

/-- The port state in which a sudden break leaves the link: the fallback named, and the changes from there on void. -/
def breakVoided (n p : Nat) (s : State) : State :=
  voidChanges n (breakFrame s n) (modPort n (fun y => { y with fallback := some (breakFallback s n p) }) s)

/-- The host is told of the rates that change at the break's superframe. -/
def breakNoticed (n p : Nat) (s : State) : State :=
  let s2 := if standbyTx s n p = txRate s n then breakVoided n p s else txNotice n (standbyTx s n p) (breakFrame s n) (breakVoided n p s)
  if (c3 s n p).getD (rxRate s n) = rxRate s n then s2 else rxNotice n ((c3 s n p).getD (rxRate s n)) (breakFrame s n) s2

theorem breakNoticed_port (n p : Nat) (s : State) : port (breakNoticed n p s) n = port (breakVoided n p s) n := by
  have htx (rate k : Nat) (t : State) : port (txNotice n rate k t) n = port t n := port_of_touch (txNotice_touch (by decide) (Touch.refl _ t)) _
  have hrx (rate k : Nat) (t : State) : port (rxNotice n rate k t) n = port t n := port_of_touch (rxNotice_touch (by decide) (Touch.refl _ t)) _
  rw [breakNoticed, apply_ite (fun t => port t n), hrx, ite_self, apply_ite (fun t => port t n), htx, ite_self]

theorem pairBreak_turns {n : Port} {p : Pair} {s : State} (hservice : inService s n.val = true) (hlow : pairLow s n.val p.val = true)
    (hawake : inShutter s n.val = false) (hfour : threePair s n.val = false) (hallows : allows3 s n.val = true)
    (hboth : holdsBoth s n.val p.val = true) : exec (.pairBreak n p) s = .next (breakNoticed n.val p.val s) :=
  congrArg Host.Outcome.next ((if_neg (by simp [hservice, hlow])).trans ((if_neg (by simp [hawake])).trans (if_neg (by simp [hfour, hallows, hboth]))))

/-- Settles O41: each event by its branches; the break by the superframe that both ends name. -/
theorem pairFallbackIsAgreedEnteredAndLeft : Obligations.PairFallbackIsAgreedEnteredAndLeft := by
  refine fun n s => ⟨fun p snr hallows hopen hfour => ?standby, fun hen hallows hfour hopen hnone => ?trigger, fun tag sf pair t r => ?message,
    fun f hservice hf => ⟨fun hearly => ?early, fun hcome => ?due⟩, fun hnone => ?none, fun p hservice hlow => ?breaks,
    fun x y hopen hthree hmaster hnone hsaved hx hy => ?returns⟩
  case standby =>
    have hgo : (allows3 s n.val && dtuOpen s n.val && !threePair s n.val) = true := by simp [hallows, hopen, hfour]
    intro x
    refine ⟨fun bs q nn kk r hx => ?_, fun hx => ?_⟩
    · intro req
      refine congrArg _ ((if_pos hgo).trans ?_)
      rw [show computeAt _ _ _ _ _ _ = _ from hx]
    · refine congrArg _ ((if_pos hgo).trans ?_)
      rw [show computeAt _ _ _ _ _ _ = _ from hx]
  case trigger =>
    have htry := tryFallback_of_free hen hallows hfour hopen hnone
    refine ⟨fun p hp => congrArg Host.Outcome.next ((congrArg (fun o => o.getD s) htry).trans ?_), fun hp => congrArg Host.Outcome.next ((congrArg (fun o => o.getD s) htry).trans ?_)⟩
    · rw [hp]; rfl
    · rw [hp]; rfl
  case message =>
    intro both up f
    refine ⟨fun hnot => ?_, fun hboth => takenOnce_of_onReliable ?_, takenOnce_of_onReliable (pairFallback_return n tag sf pair t r)⟩
    · rw [pairFallback_enter, if_pos]
      rw [← Bool.not_eq_true, Bool.and_eq_true]
      exact hnot
    · rw [pairFallback_enter, if_neg]
      · rfl
      · rw [Bool.not_eq_false, Bool.and_eq_true]
        exact hboth
  case early =>
    rw [pairFallbackApply_eq, fallbackStage_of_early hf hearly]
    rfl
  case due =>
    intro u a
    rw [pairFallbackApply_eq, fallbackStage_of_due hservice hf hcome]
    rfl
  case none =>
    rw [pairFallbackApply_eq, fallbackStage_of_none hnone]
    rfl
  case breaks =>
    have hgo : ¬ (!inService s n.val || !pairLow s n.val p.val) = true := by simp [hservice, hlow]
    refine ⟨fun hshut => congrArg _ ((if_neg hgo).trans (if_pos hshut)), fun hawake => ?_⟩
    have hon : ¬ inShutter s n.val = true := by simp [hawake]
    refine ⟨fun hthree hsame => congrArg _ ((if_neg hgo).trans ((if_neg hon).trans ((if_pos (by simp [hthree])).trans (if_pos ⟨hthree, hsame⟩)))),
      fun hthree hother => congrArg _ ((if_neg hgo).trans ((if_neg hon).trans ((if_pos (by simp [hthree])).trans (if_neg fun h => hother h.2)))),
      fun hfour hcannot => congrArg _ ((if_neg hgo).trans ((if_neg hon).trans ((if_pos ?_).trans (if_neg (by simp [hfour]))))),
      fun hfour hallows hboth => ⟨breakFrame s n.val, breakFallback s n.val p.val, rfl, rfl, rfl, rfl, breakFrame_place,
        _, pairBreak_turns hservice hlow hawake hfour hallows hboth, breakNoticed_port _ _ _⟩⟩
    obtain h | h := hcannot <;> simp [h]
  case returns =>
    refine ⟨fun hx10 hy10 => congrArg _ (if_pos ?_), fun hlow => congrArg _ (if_neg ?_)⟩
    · simp only [hopen, hthree, hmaster, hnone, hx, hy, hx10, hy10, Option.isSome_iff_ne_none.mpr hsaved, Option.isNone_none, decide_true, Bool.and_self]
    · simp only [hx, hy, Bool.and_eq_true, decide_eq_true_eq]
      rintro ⟨⟨⟨_, hx10⟩, hy10⟩, _⟩
      omega

end Sys2Proof.Proofs
end

section
/-!
Shutter, the Knock, low-power idle and the feedback messages (R163, R334 to R350).
-/
namespace Sys2Proof.Proofs
open Sys2Proof.Machine Sys2Proof.Claims

/-! ## The message SHUTTER (R335, R337) -/

section
variable (n : Port) (tag reason : Byte) (sf : BitVec 40) (s : State)

/-- What the first copy of SHUTTER with an ACTION does. -/
def shutterAct (n : Nat) (action k : Nat) (u : State) : State :=
  match action with
  | 1 => shutRequest n k u
  | 2 => if (port u n).shut.asked = some k then modShut n (fun x => { x with asked := none, accepted := some k }) u else u
  | 3 => evP n F.LINK_EVENTS_SHUT_REFUSED (modShut n (fun x => { x with asked := none }) u)
  | 4 => if inShutter u n then modShut n (fun x => { x with resumeAt := some (256 * k + 1) }) u
    else modShut n (fun x => { x with asked := none, accepted := none }) u
  | _ => u

theorem shutter_takenOnce (action : Byte) (haction : action = 1 ∨ action = 2 ∨ action = 3 ∨ action = 4) :
    TakenOnce (inService s n.val && (port s n.val).tr.ver == 2) n.val 0x21 tag.toNat s (.shutter n tag sf action reason)
      (shutterAct n.val action.toNat (toGrid s n.val sf.toNat)) := by
  refine takenOnce_of_onReliable ?_
  obtain rfl | rfl | rfl | rfl := haction <;> rfl

end

section
variable {n : Nat} {s : State}

/-! ## Entry and resumption (R336, R345, R346) -/

theorem shutterDue_of_agreed {k : Nat} (hservice : inService s n = true) (hawake : inShutter s n = false) (hk : (port s n).shut.accepted = some k) :
    shutterDue n s = if k ≤ s.time.s then countDev 0xF 1 (wrP n F.LINK_STATE_SHUTTER 1
      (modShut n (fun _ => { Shut.init with wakeSoon := (port s n).shut.wakeSoon }) s)) else s := by
  rw [shutterDue, hk]
  simp only [hservice, hawake, Bool.not_false, Bool.true_and, decide_eq_true_eq]

/-- The place in its stream that a direction takes up at a data symbol, so that the stream begins with the first data symbol. -/
def resumePhase (sym : Nat) (l : Loading) : Nat := (512 * 256 * (dtuStream l + 1) - (sym - 1) * dtuStream l) % 512

theorem resumePhase_aligned {sym : Nat} (hsym : sym < 256) (l : Loading) : (resumePhase sym l + (sym - 1) * dtuStream l) % 512 = 0 := by
  have hle : (sym - 1) * dtuStream l ≤ 256 * (dtuStream l + 1) := Nat.mul_le_mul (by omega) (by omega)
  rw [resumePhase]
  generalize (sym - 1) * dtuStream l = b at hle ⊢
  omega

/-- The state of a port that resumes data at a symbol. -/
def resumed (n sym : Nat) (s : State) : State :=
  countDev 0xD 1 (addCnt (portBase n) F.HL_WAKES 1 (wrP n F.LINK_STATE_SHUTTER 0 (modPort n (fun p =>
    { p with
      shut := Shut.init, idleSince := symNow s sym,
      esc := { p.esc with txPhase := resumePhase sym (port s n).txLoad, rxPhase := resumePhase sym (port s n).rxLoad } }) s)))

theorem shutterResume_of_named {k : Port} {sym : Fin 256} {j : Nat} (hshut : inShutter s k.val = true) (hj : (port s k.val).shut.resumeAt = some j) :
    exec (.shutterResume k sym) s = .next (if j ≤ symNow s sym.val then resumed k.val sym.val s else s) := by
  refine congrArg Host.Outcome.next ?_
  rw [hj]
  dsimp only
  simp only [hshut, Bool.true_and, decide_eq_true_eq]
  refine ite_congr rfl (fun _ => ?_) (fun _ => rfl)
  exact congrArg (fun t => countDev 0xD 1 (addCnt (portBase k.val) F.HL_WAKES 1 (wrP k.val F.LINK_STATE_SHUTTER 0 t))) (modPort_congr rfl)

/-! ## The Knock (R339 to R344) -/

theorem knockAt_of_free {k : Nat} (hshut : inShutter s n = true) (hknock : (port s n).shut.knockAt = none)
    (hconfirmed : (port s n).shut.confirmedAt = none) (hresume : (port s n).shut.resumeAt = none) :
    knockAt n k s = modShut n (fun x => { x with knockAt := some k, knocks := 1, wakeSoon := false }) s := by
  rw [knockAt, if_pos (by simp [hshut, hknock, hconfirmed, hresume])]

end

section
variable {n : Port} {s : State}

/-- The state after the detections of a pair that confirmed a Knock have ended. -/
def knockHeard (n p : Nat) (s : State) : State := modShut n (fun x => { x with firing := x.firing.filter (fun e => e.1 / 2 != p) }) s

theorem knockConfirm_fresh {p : Pair} {k sym : Fin 256} (hshut : inShutter s n.val = true) (hfiring : knockFiring s n.val p.val = true)
    (hnone : (port s n.val).shut.knockAt = none) : exec (.knockConfirm n p k sym) s =
      .next (modShut n.val (fun x => { x with confirmedAt := some (symBack s k.val sym.val) }) (knockHeard n.val p.val s)) := by
  refine congrArg Host.Outcome.next ((if_neg (by simp [hshut, hfiring])).trans ?_)
  rw [hnone]
  rfl

theorem knockConfirm_crossing {p : Pair} {k sym : Fin 256} {b : Nat} (hshut : inShutter s n.val = true)
    (hfiring : knockFiring s n.val p.val = true) (hb : (port s n.val).shut.knockAt = some b) :
    let a := symBack s k.val sym.val
    exec (.knockConfirm n p k sym) s = .next (if a ≤ b + 2 ∧ b ≤ a + 2 then
        modShut n.val (fun x => { x with resumeAt := some (max a b + 7), knockAt := none }) (knockHeard n.val p.val s)
      else modShut n.val (fun x => { x with confirmedAt := some a }) (knockHeard n.val p.val s)) := by
  refine congrArg Host.Outcome.next ((if_neg (by simp [hshut, hfiring])).trans ?_)
  rw [hb]
  rfl

theorem answer_confirmed {sym : Fin 256} {k : Nat} (hshut : inShutter s n.val = true) (hk : (port s n.val).shut.confirmedAt = some k) :
    exec (.answer n sym) s = .next (if k + 3 ≤ symNow s sym.val ∧ symNow s sym.val ≤ k + 5 then
      modShut n.val (fun x => { x with resumeAt := some (symNow s sym.val + 4), confirmedAt := none, knockAt := none }) s else s) := by
  refine congrArg Host.Outcome.next ((if_neg (by simp [hshut])).trans ?_)
  rw [hk]

theorem answer_knocked {sym : Fin 256} {k : Nat} (hshut : inShutter s n.val = true) (hnone : (port s n.val).shut.confirmedAt = none)
    (hk : (port s n.val).shut.knockAt = some k) : exec (.answer n sym) s =
      .next (if k < symNow s sym.val ∧ symNow s sym.val ≤ k + 6 then
        modShut n.val (fun x => { x with resumeAt := some (symNow s sym.val + 4), confirmedAt := none, knockAt := none }) s else s) := by
  refine congrArg Host.Outcome.next ((if_neg (by simp [hshut])).trans ?_)
  rw [hnone, hk]

theorem knockRetry_of_knock {sym : Fin 256} {k : Nat} (hshut : inShutter s n.val = true) (hk : (port s n.val).shut.knockAt = some k) :
    exec (.knockRetry n sym) s = .next (if symNow s sym.val < k + 8 then s
      else if 4 ≤ (port s n.val).shut.knocks then downRestart n.val 2 (evP n.val F.LINK_EVENTS_KNOCK_FAIL s)
      else modShut n.val (fun x => { x with knockAt := some (k + 8), knocks := x.knocks + 1 }) s) := by
  refine congrArg Host.Outcome.next ?_
  rw [hk]
  simp only [hshut, Bool.not_true, Bool.false_or, decide_eq_true_eq, ge_iff_le]

end

/-- Settles O43: each message by the rule of R158, each event by its branches. -/
theorem shutterAndTheKnockDoWhatTheSpecSays : Obligations.ShutterAndTheKnockDoWhatTheSpecSays := by
  intro n s x up
  refine ⟨fun hopen hallows hen hempty hchange hasked haccepted => congrArg _ (if_pos ?asks), fun tag reason sf => ?message,
    fun k hservice hawake hk => ?entry, fun hshut hframe => ?refresh, fun sym => ⟨fun hsoon hshut hknock hconfirmed hresume => ?knock, fun hsoon => ?noKnock, rfl⟩,
    fun p d sym hshut => congrArg _ (if_pos hshut), fun p k sym hshut hfiring => ?confirm,
    fun p d sym => ⟨fun hzero => congrArg _ (if_pos hzero), fun hfiring => congrArg _ (if_neg hfiring)⟩, fun sym hshut => ?answer,
    fun sym j hshut hj => ?resume, fun sym k hshut hk => ?retry, fun hup hmode => ?idle, fun tag rate pairs => takenOnce_of_onReliable rfl,
    fun sf tg count exp pairs err hup hmaster => ?feedback⟩
  case asks => simp [hopen, hallows, hen, hempty, hchange, show (port s n.val).shut.asked = none from hasked, show (port s n.val).shut.accepted = none from haccepted]
  case message =>
    have htaken (action : Byte) := shutter_takenOnce n tag reason sf s action
    exact ⟨htaken 1 (by decide), htaken 2 (by decide), htaken 3 (by decide), htaken 4 (by decide)⟩
  case entry =>
    have hdue := shutterDue_of_agreed hservice hawake hk
    exact ⟨fun hcome => congrArg _ (hdue.trans (if_pos hcome)), fun hearly => congrArg _ (hdue.trans (if_neg (by omega)))⟩
  case refresh =>
    have hgo : ¬ (!(inShutter s n.val && toLink s n.val s.time.s % 16 == 0)) = true := by simp [hshut, hframe]
    refine ⟨congrArg _ ((if_neg hgo).trans (if_pos rfl)), fun hfirst => ?_, fun hsecond => ?_⟩
    · exact congrArg _ ((if_neg hgo).trans ((if_neg (by decide)).trans (if_neg (by simp [show (port s n.val).shut.missed = 0 from hfirst]))))
    · exact congrArg _ ((if_neg hgo).trans ((if_neg (by decide)).trans (if_pos hsecond)))
  case knock => exact congrArg _ ((if_pos hsoon).trans (knockAt_of_free hshut hknock hconfirmed hresume))
  case noKnock => exact congrArg _ (if_neg (by simpa using hsoon))
  case confirm =>
    intro a u
    refine ⟨fun hnone => knockConfirm_fresh hshut hfiring hnone, fun b hb => ⟨fun hnear => ?_, fun hfar => ?_⟩⟩
    · exact (knockConfirm_crossing hshut hfiring hb).trans (congrArg _ (if_pos hnear))
    · exact (knockConfirm_crossing hshut hfiring hb).trans (congrArg _ (if_neg hfar))
  case answer =>
    intro t go
    refine ⟨fun k hk => ⟨fun hin => ?_, fun hout => ?_⟩, fun k hnone hk => ⟨fun hin => ?_, fun hout => ?_⟩⟩
    · exact (answer_confirmed hshut hk).trans (congrArg _ (if_pos hin))
    · exact (answer_confirmed hshut hk).trans (congrArg _ (if_neg hout))
    · exact (answer_knocked hshut hnone hk).trans (congrArg _ (if_pos hin))
    · exact (answer_knocked hshut hnone hk).trans (congrArg _ (if_neg hout))
  case resume =>
    refine ⟨fun hcome => ⟨resumePhase sym.val (port s n.val).txLoad, resumePhase sym.val (port s n.val).rxLoad, ?_, fun _ =>
      ⟨resumePhase_aligned sym.isLt _, resumePhase_aligned sym.isLt _⟩⟩, fun hearly => ?_⟩
    · exact (shutterResume_of_named hshut hj).trans (congrArg _ (if_pos hcome))
    · exact (shutterResume_of_named hshut hj).trans (congrArg _ (if_neg (by omega)))
  case retry =>
    have hknock := knockRetry_of_knock (sym := sym) hshut hk
    refine ⟨fun hearly => hknock.trans (congrArg _ (if_pos hearly)), fun hcome hfew => ?_, fun hcome hmany => ?_⟩
    · exact hknock.trans (congrArg _ ((if_neg (by omega)).trans (if_neg (Nat.not_le.mpr hfew))))
    · exact hknock.trans (congrArg _ ((if_neg (by omega)).trans (if_pos hmany)))
  case idle =>
    refine ⟨fun hlpi => ⟨?_, ?_⟩, fun hlpi => ⟨?_, ?_⟩⟩
    · exact congrArg _ ((if_pos ⟨hup, hmode, by simpa using hlpi⟩).trans (if_pos rfl))
    · exact congrArg _ (if_neg fun h => h.2.2 hlpi)
    · exact congrArg _ ((if_pos ⟨hup, hmode, by simpa using hlpi⟩).trans (if_neg (by decide)))
    · exact congrArg _ (if_neg fun h => h.2.2 hlpi)
  case feedback =>
    intro k
    have hversion : inService s n.val = true ∧ (port s n.val).tr.ver = 2 := by
      rw [Bool.and_eq_true, beq_iff_eq] at hup
      exact hup
    refine ⟨fun hin => congrArg _ (if_pos ?_), fun hout => congrArg _ (if_neg ?_)⟩
    · rw [hversion.1, hmaster, hversion.2, decide_eq_true hin]
      rfl
    · simp only [Bool.and_eq_true, decide_eq_true_eq]
      omega

end Sys2Proof.Proofs
end

section
/-!
Time transfer, the anchor, slews, the grid's rate and launches (R461 to R500).
-/
namespace Sys2Proof.Proofs
open Sys2Proof.Machine Sys2Proof.Claims

theorem bit_decide (p : Prop) [Decidable p] : bit (decide p) = if p then 1 else 0 := by simp [bit]

/-! ## TIME_MARK and TIME_REPORT (R490 to R496) -/

/-- The skews of TT_SKEW stored, as both messages store them before they are sent. -/
def skewShown (n : Nat) (skew : List (BitVec 16)) (s : State) : State :=
  wrP n F.TT_SKEW_D (skew.getD 2 0).toNat (wrP n F.TT_SKEW_C (skew.getD 1 0).toNat (wrP n F.TT_SKEW_B (skew.getD 0 0).toNat s))

/-- The clock was stepped since the latest mark. -/
def markStepped (s : State) (n : Nat) : Bool := match (ttPort s n).markEpoch with | some e => e != s.time.epoch | none => false

theorem markStepped_iff (s : State) (n : Nat) : markStepped s n = true ↔ ∃ e, (ttPort s n).markEpoch = some e ∧ e ≠ s.time.epoch := by
  rw [markStepped]
  cases (ttPort s n).markEpoch <;> simp

section
variable {n : Nat} {s : State} {turn eps : Int}

/-- The delay that a report gives (R494). -/
def reportedDelay (s : State) (n : Nat) (turn eps : Int) : Int := (eps - turn) / 2 + signed 16 (rdP s n F.TS_ASYM) * 32 + refSkew s n

theorem timeReport_eq (htt : ttOn s n = true) (hmaster : isMaster s n = true) :
    let d := reportedDelay s n turn eps
    let u := modTt n (fun x => { x with lastReport := s.time.s }) s
    let old := (ttPort s n).delays
    let reps := rdP s n F.TT_STATUS_REPORTS
    timeReport n turn eps s = if rdP s n F.TT_STATUS_VALID = 1 then
        if d - meanDelay old ≤ 1024 ∧ meanDelay old - d ≤ 1024 then showDelay n ((d :: old).take 8) (wrP n F.TT_STATUS_REPORTS (min 255 (reps + 1)) u)
        else showDelay n [d] (wrP n F.TT_STATUS_REPORTS 1 (loseDelay n u))
      else if inBand ((d :: old).take 8) = true then showDelay n ((d :: old).take 8)
          (wrP n F.TT_STATUS_VALID (if 7 ≤ reps then 1 else 0) (wrP n F.TT_STATUS_REPORTS (min 255 (reps + 1)) u))
        else showDelay n [d] (wrP n F.TT_STATUS_REPORTS 1 u) := by
  intro d u old reps
  rw [timeReport, if_neg (by simp [htt, hmaster])]
  dsimp only
  rw [bit_decide]
  rfl

end

/-! ## The anchor and the grid's rate (R463, R466, R475) -/

theorem anchor_of_named {s : State} {k ns frac : Nat} (hanchor : s.time.anchor = some (k, ns, frac)) :
    exec .anchor s = .next (if s.time.running = true ∧ ns * nsUnit + frac * 2 ^ 32 ≤ s.time.t then evG F.TIME_EVENTS_ANCHOR (wrG F.TIME_STATUS_ANCHORED 1
      (modTime (fun t => { t with anchor := none, s := k, sTime := ns, sFrac := frac }) s)) else s) := by
  refine congrArg Host.Outcome.next ?_
  rw [hanchor]

theorem slewEnd_of_slew {s : State} {x : Slew} (hslew : s.time.slew = some x) (hrun : s.time.running = true) :
    exec .slewEnd s = .next (endSlew (moveClock x.back x.left s)) := by
  refine congrArg Host.Outcome.next ?_
  rw [hslew]
  exact if_pos hrun

/-- A rate on its way to its goal moves at most one step, towards the goal and not past it. -/
theorem toward_between (x goal : Int) (step : Nat) :
    toward x goal step - x ≤ step ∧ x - toward x goal step ≤ step ∧ (x ≤ goal → x ≤ toward x goal step ∧ toward x goal step ≤ goal)
      ∧ (goal ≤ x → goal ≤ toward x goal step ∧ toward x goal step ≤ x) := by
  rw [toward]
  split <;> omega

/-! ## Launches (R498 to R500) -/

section
variable {s : State} {c at8 : Nat}

theorem doLaunch_missed (hqueue : (ctx s c).queue = []) : doLaunch c at8 s =
    modCtx c (fun x => x.advance (nowTotal s)) (modCtx c (fun x => { x with missed := x.missed + 1 }) s) := by
  rw [doLaunch, hqueue]

/-- The state after a launch that is late has been counted. -/
def lateCounted (s : State) (x : Ctx) (f : Frame) : State :=
  if launchLate s x f then pmEv 0x10 2 (launchAttr x.port f) (countDev 0x25 1 (evG F.TIME_EVENTS_LATE (addCnt 0 F.LAUNCH_LATE 1 s))) else s

theorem doLaunch_queued {f : Frame} {q : List Frame} (hqueue : (ctx s c).queue = f :: q) :
    doLaunch c at8 s = modCtx c (fun x => x.advance (nowTotal s)) (
      if linkUp s (ctx s c).port = false then dropHead c s
      else if launchLate s (ctx s c) f = true ∧ (ctx s c).lateDrop = true then dropHead c (lateCounted s (ctx s c) f)
      else sendLaunched (ctx s c).port { f with at8 := (ctx s c).due * 8, ctx := some (c, (ctx s c).stamp) } at8
        (pmEv 0x10 1 (launchAttr (ctx s c).port f) (countDev 0x24 1 (modCtx c (fun x => { x with queue := x.queue.drop 1, launched := x.launched + 1 })
          (lateCounted s (ctx s c) f))))) := by
  rw [doLaunch, hqueue]
  dsimp only
  rw [apply_ite (modCtx c _), apply_ite (modCtx c _)]
  simp only [Bool.not_eq_true', Bool.and_eq_true]
  rfl

end

theorem launch_idle {c : Fin 16384} {sym : Fin 256} {late : Nat} {s : State} (hidle : (ctx s c.val).st ≠ .armed) : exec (.launch c sym late) s = .next s :=
  congrArg Host.Outcome.next (if_neg fun h => hidle h.1)

theorem launch_armed {c : Fin 16384} {sym : Fin 256} {late : Nat} {s : State} (harmed : (ctx s c.val).st = .armed) :
    let x := ctx s c.val
    let come := (inService s x.port = true ∧ 1 ≤ sym.val ∧ x.due * 8 ≤ symTime8 s sym.val) ∨ (inService s x.port = false ∧ x.due ≤ nowTotal s)
    (come → exec (.launch c sym late) s = .next (doLaunch c.val ((x.due + late) * 8) s)) ∧ (¬ come → exec (.launch c sym late) s = .next s) := by
  intro x come
  have hcome : (if inService s x.port then decide (1 ≤ sym.val ∧ x.due * 8 ≤ symTime8 s sym.val) else decide (x.due ≤ nowTotal s)) = true ↔ come := by
    cases hservice : inService s x.port <;> simp [come, hservice]
  exact ⟨fun h => congrArg Host.Outcome.next (if_pos ⟨harmed, hcome.mpr h⟩), fun h => congrArg Host.Outcome.next (if_neg fun hgo => h (hcome.mp hgo.2))⟩

/-- Settles O44: each message and event by its branches. -/
theorem timeTransferTheGridAndLaunchesFollowTheClock : Obligations.TimeTransferTheGridAndLaunchesFollowTheClock := by
  refine ⟨fun n s htt => ⟨fun sf sec ns frac epoch delay disc arrival hslave => ?mark, fun turn skew => ?send, fun sf turn skew eps hmaster => ?report⟩,
    fun n s => ⟨fun hvalid hold => congrArg _ (if_pos ⟨hvalid, hold⟩), fun hfresh => congrArg _ (if_neg fun h => by omega)⟩,
    fun s => ⟨fun k ns frac hanchor hrun => ?anchor, fun hnone => ?noAnchor, fun x hslew hrun => slewEnd_of_slew hslew hrun, fun hnone => ?noSlew,
      fun ds hrun => ⟨_, congrArg _ (if_pos hrun), toward_between _ _ _⟩⟩, fun c sym late s => ?launch⟩
  case mark =>
    intro o
    exact ⟨congrArg _ (if_pos (by simp [htt, hslave])), congrArg Host.Outcome.next (if_neg (by simp)), fun stepped => congrArg Host.Outcome.next (if_neg (by simp))⟩
  case send =>
    intro u sf
    have hgo : ¬ (!ttOn s n.val) = true := by simp [htt]
    refine ⟨fun hslave => congrArg _ ((if_neg hgo).trans (if_neg (by simp [hslave]))), fun hmaster => ⟨markStepped s n.val, markStepped_iff s n.val, ?_⟩⟩
    exact congrArg Host.Outcome.next ((if_neg hgo).trans (if_pos hmaster))
  case report =>
    have heq := timeReport_eq (turn := signed 32 turn.toNat) (eps := eps) htt hmaster
    intro d u old reps near valid
    refine ⟨fun hvalid hnear => ?_, fun hvalid hfar => ?_, fun hlost hband => ?_, fun hlost hband => ?_⟩
    · exact congrArg _ (heq.trans ((if_pos hvalid).trans (if_pos hnear)))
    · exact congrArg _ (heq.trans ((if_pos hvalid).trans (if_neg hfar)))
    · exact congrArg _ (heq.trans ((if_neg hlost).trans (if_pos hband)))
    · exact congrArg _ (heq.trans ((if_neg hlost).trans (if_neg (ne_true_of_eq_false hband))))
  case anchor =>
    refine ⟨fun hcome => ⟨_, (anchor_of_named hanchor).trans (congrArg _ (if_pos ⟨hrun, hcome⟩)), rfl, ?_, rfl⟩, fun hearly => ?_⟩
    · rw [rdG_evG_other (by decide), rdG_wrG_self (by decide) (by decide)]
    · exact (anchor_of_named hanchor).trans (congrArg _ (if_neg fun h => by omega))
  case noAnchor =>
    refine congrArg Host.Outcome.next ?_
    rw [hnone]
  case noSlew =>
    refine congrArg Host.Outcome.next ?_
    rw [hnone]
  case launch =>
    intro x next come
    refine ⟨fun hidle => launch_idle hidle, fun harmed hearly => (launch_armed harmed).2 hearly, fun harmed hcome => ?_⟩
    have hgo : exec (.launch c sym late) s = .next (doLaunch c.val ((x.due + late) * 8) s) := (launch_armed harmed).1 hcome
    refine ⟨fun hempty => hgo.trans (congrArg _ (doLaunch_missed hempty)), fun f q hqueue => ⟨fun hdown => ?_, fun hup => ?_⟩⟩
    · exact hgo.trans (congrArg _ ((doLaunch_queued hqueue).trans (congrArg next (if_pos hdown))))
    · have hlink : ¬ linkUp s x.port = false := by simp [hup]
      intro u
      refine ⟨fun hlate hdrop => ?_, fun hsend => ?_⟩
      · exact hgo.trans (congrArg _ ((doLaunch_queued hqueue).trans (congrArg next ((if_neg hlink).trans (if_pos ⟨hlate, hdrop⟩)))))
      · refine hgo.trans (congrArg _ ((doLaunch_queued hqueue).trans (congrArg next ((if_neg hlink).trans (if_neg ?_)))))
        rintro ⟨hlate, hdrop⟩
        obtain h | h := hsend
        · rw [hlate] at h
          cases h
        · rw [hdrop] at h
          cases h

end Sys2Proof.Proofs
end

section
/-!
The commit check, commits and their sweep, and the timers of staged and dormant lots (R244 to R289).
-/
namespace Sys2Proof.Proofs
open Sys2Proof.Machine Sys2Proof.Claims

theorem victim_congr {s t : State} (h : t.ch = s.ch) (v : Nat) : victim t v = victim s v := by rw [victim, victim, h]

theorem victim_modVictim_self (s : State) (v : Nat) (f : Victim → Victim) : victim (modVictim v f s) v = f (victim s v) := by
  rw [victim_modVictim, if_pos rfl]

theorem victim_opStep (id sf : Nat) (s : State) (v : Nat) : victim (opStep id sf s) v = victim s v :=
  victim_congr (same_of_touch .ch (opStep_touch (by decide) (Touch.refl _ s))) v

/-! ## The commit check (R260, R266, R267, R276) -/

section
variable {s : State} {x : Victim}

theorem commitName_survey (hsurvey : x.survey = true) :
    s.time.s + 8 ≤ commitName s x ∧ ∀ r sec ns, s.ch.survey = some r → r.hold = some (sec, ns) → sfAt s (totalNs sec ns) ≤ commitName s x := by
  rw [commitName, if_pos hsurvey]
  constructor
  · split
    · exact Nat.le_max_left _ _
    · exact Nat.le_refl _
  · intro r sec ns hr hhold
    rw [hr, Option.bind_some, hhold]
    exact Nat.le_max_right _ _

theorem commitName_join (hsurvey : x.survey = false) (hjoins : x.joins ≠ []) : commitName s x = s.time.s + 8 := by
  simp [commitName, hsurvey, hjoins]

theorem commitName_lending (hsurvey : x.survey = false) (hjoins : x.joins = []) : commitName s x = (s.time.s / 512 + 1) * 512 := by
  simp [commitName, hsurvey, hjoins, nextWindow]

end

section
variable {v : Nat} {s : State} {shadow live : Int}

theorem shadowReady_idle (hidle : (victim s v).staged = false ∨ (victim s v).commitAt ≠ none ∨ (victim s v).again = true) :
    shadowReady v shadow live s = s := if_pos hidle

/-- The state after a victim pair has got its commit superframe; a Survey's is written to the Journal. -/
def commitNamed (v : Nat) (s : State) : State :=
  let k := commitName s (victim s v)
  let t := modVictim v (fun y => { y with commitAt := some k }) s
  match s.ch.survey with
  | some r => if (victim s v).survey then opStep r.op k t else t
  | none => t

theorem shadowReady_staged (hstaged : (victim s v).staged = true) (hnone : (victim s v).commitAt = none) (hfirst : (victim s v).again = false) :
    shadowReady v shadow live s = if shadow ≤ live + 5 then commitNamed v s
      else if (victim s v).tries = 0 then measureAgain v (discardStaged v s) else keepVictim v (discardStaged v s) := by
  rw [shadowReady, if_neg (by simp [hstaged, hnone, hfirst])]
  rfl

theorem commitNamed_commitAt : (victim (commitNamed v s) v).commitAt = some (commitName s (victim s v)) := by
  rw [commitNamed]
  cases s.ch.survey with
  | none => exact congrArg Victim.commitAt (victim_modVictim_self s v _)
  | some r =>
    dsimp only
    split
    · rw [victim_opStep, victim_modVictim_self]
    · rw [victim_modVictim_self]

theorem commitNamed_of_survey {r : SurveyRun} (hsurvey : (victim s v).survey = true) (hr : s.ch.survey = some r) :
    commitNamed v s = opStep r.op (commitName s (victim s v)) (modVictim v (fun y => { y with commitAt := some (commitName s (victim s v)) }) s) := by
  rw [commitNamed, hr]
  exact if_pos hsurvey

theorem commitNamed_of_other (hsurvey : (victim s v).survey = false) :
    commitNamed v s = modVictim v (fun y => { y with commitAt := some (commitName s (victim s v)) }) s := by
  rw [commitNamed]
  cases s.ch.survey with
  | none => rfl
  | some r => exact if_neg (by simp [hsurvey])

/-! ## Commits and their sweep (R244, R277, R699) -/

theorem commitDue_of_due {k : Nat} (hk : (victim s v).commitAt = some k) (hcome : k ≤ s.time.s) (hsweep : (victim s v).sweep = false)
    (hrun : clkRun s 8 = true) : commitDue v s = if coreHold s = true then evG F.CH_EVENTS_COMMIT_HELD (wrG F.SURVEY_STATUS_HELD 1 s)
      else commitVictim v (wrG F.SURVEY_STATUS_HELD 0 s) := by
  rw [commitDue, hk]
  exact if_pos ⟨hcome, hsweep, hrun⟩

theorem commitDue_idle (hidle : (victim s v).commitAt = none ∨ (victim s v).sweep = true) : commitDue v s = s := by
  rw [commitDue]
  cases hk : (victim s v).commitAt with
  | none => rfl
  | some k => exact if_neg fun h => by simp [hk, h.2.1] at hidle

/-- What a sweep makes of a lot: of the active generation, staged lots turn live and retiring lots free. -/
def sweptLot (s : State) (v : Nat) (l : Lot) : Lot :=
  if l.victim = v ∧ l.gen = activeGen s v ∧ l.st = .staged then { l with st := .live }
  else if l.victim = v ∧ l.gen = activeGen s v ∧ l.st = .retiring then Lot.init else l

theorem sweepVictim_idle (hsweep : (victim s v).sweep = false) : sweepVictim v s = s := by rw [sweepVictim, if_neg (by simp [hsweep])]

theorem sweepVictim_of_sweep (hsweep : (victim s v).sweep = true) :
    sweepVictim v s = modVictim v (fun y => { y with sweep := false }) (mapLots (fun _ l => sweptLot s v l) s) := by
  rw [sweepVictim, if_pos hsweep]
  dsimp only
  congr 3
  funext i l
  by_cases hactive : l.victim = v ∧ l.gen = activeGen s v
  · rw [if_pos hactive, sweptLot]
    cases hst : l.st <;> simp [hactive]
  · rw [if_neg hactive, sweptLot, if_neg fun h => hactive ⟨h.1, h.2.1⟩, if_neg fun h => hactive ⟨h.1, h.2.1⟩]

end

/-! ## The hold of a dormant port (R289) -/

theorem freePort_lots (n : Nat) (s : State) (e : Nat × Lot) (he : e ∈ (freePort n s).ch.lots) (hdormant : e.2.dormant = true) :
    e.2.victim / 4 ≠ n ∧ e.2.dist / 4 ≠ n := by
  have hmapped : e ∈ mapVals Lot.init (fun _ l => if (l.victim / 4 = n ∨ l.dist / 4 = n) ∧ l.dormant = true then Lot.init else l) s.ch.lots := he
  rw [mapVals, List.mem_filter, List.mem_map] at hmapped
  obtain ⟨⟨e0, -, rfl⟩, -⟩ := hmapped
  dsimp only at hdormant ⊢
  split at hdormant
  · cases hdormant
  · next hother =>
    rw [if_neg hother]
    exact ⟨fun h => hother ⟨.inl h, hdormant⟩, fun h => hother ⟨.inr h, hdormant⟩⟩

/-- Settles O45: the commit check by its name for the superframe, the rest by the branches of each event. -/
theorem commitsFollowTheCheckTheSweepAndTheWarning : Obligations.CommitsFollowTheCheckTheSweepAndTheWarning := by
  refine ⟨fun v s => ?victim, fun n s => ⟨fun hstate hawake => congrArg _ (if_pos ⟨hstate, hawake⟩), fun hstate => congrArg _ (if_neg fun h => hstate h.1),
    freePort_lots n.val s⟩⟩
  intro x
  refine ⟨fun shadow live => ⟨fun hstaged hnone hfirst => ?check, fun hidle => congrArg _ (shadowReady_idle hidle)⟩, fun k hk hcome hsweep hrun => ?due,
    fun hidle => ?notDue, fun hsweep =>
      ⟨_, congrArg _ (sweepVictim_of_sweep hsweep), rfl⟩, fun hsweep => congrArg _ (sweepVictim_idle hsweep),
    fun hstaged hlots => congrArg _ (if_pos ?_), fun hidle => congrArg _ (if_neg ?_), fun hset => ?farSilent,
    fun hset => congrArg Host.Outcome.next (if_neg (by simpa using hset))⟩
  case farSilent =>
    have hin : (victimSets s (v.val / 4)).contains 2 = true := by simpa using hset
    show Host.Outcome.next (if (victimSets s (v.val / 4)).contains 2 then _ else s) = _
    rw [if_pos hin]
  case check =>
    have hready := shadowReady_staged (shadow := shadow) (live := live) hstaged hnone hfirst
    refine ⟨fun hgood => ⟨commitName s x, commitNamed v.val s, congrArg _ (hready.trans (if_pos hgood)), commitNamed_commitAt, commitName_survey,
      commitName_join, commitName_lending, commitNamed_of_other, fun r hsurvey hr => commitNamed_of_survey hsurvey hr⟩, fun hbad htries => ?_, fun hbad htries => ?_⟩
    · exact congrArg _ (hready.trans ((if_neg (by omega)).trans (if_pos htries)))
    · exact congrArg _ (hready.trans ((if_neg (by omega)).trans (if_neg htries)))
  case due =>
    intro t
    have hdue : commitDue v.val s = t := commitDue_of_due hk hcome hsweep hrun
    refine ⟨fun hearly => ?_, fun hsurvey hjoins => ?_⟩
    · have hstage : ((victim s v.val).survey || !(victim s v.val).joins.isEmpty) = true := by
        obtain h | h := hearly <;> simp [x] at h <;> simp [h]
      exact ⟨congrArg _ ((if_pos hstage).trans hdue), congrArg _ (if_pos hstage)⟩
    · have hstage : ¬ ((victim s v.val).survey || !(victim s v.val).joins.isEmpty) = true := by
        simp [x] at hsurvey hjoins
        simp [hsurvey, hjoins]
      exact ⟨congrArg _ ((if_neg hstage).trans hdue), congrArg _ (if_neg hstage)⟩
  case notDue =>
    have hsame : commitDue v.val s = s := commitDue_idle hidle
    have hstage (p : Prop) [Decidable p] : (if p then commitDue v.val s else s) = s ∧ (if p then s else commitDue v.val s) = s := by
      rw [hsame, ite_self]
      exact ⟨rfl, rfl⟩
    exact ⟨congrArg Host.Outcome.next (hstage _).1, congrArg Host.Outcome.next (hstage _).2⟩
  · rw [Bool.and_eq_true]
    exact ⟨hstaged, hlots⟩
  · rw [Bool.and_eq_true]
    rintro ⟨hstaged, hlots⟩
    exact hidle.elim (ne_false_of_eq_true hstaged) (ne_false_of_eq_true hlots)

end Sys2Proof.Proofs
end

section
/-!
Surveys, joins and the windows of 512 superframes (R254 to R294).
-/
namespace Sys2Proof.Proofs
open Sys2Proof.Machine Sys2Proof.Claims

/-! ## The band check (R272) -/

/-- The ports on which the band check finds high excess. -/
def bandHigh (l : List BandMeas) : List BandMeas := l.filter (fun m => decide (240 < ((m.excess.drop 24).take 4).foldl (· + ·) 0))

/-- The last sub-band up to which every port is good, 35 where even the first is not. -/
def bandLast (l : List BandMeas) : Nat := ((List.range' 36 28).filter (fun k => l.all (bandsGood k))).getLast?.getD 35

theorem bandResult_few {l : List BandMeas} (hfew : l.length < 4) : bandResult l = none := if_pos hfew

theorem bandResult_many {l : List BandMeas} (hmany : 4 ≤ l.length) :
    bandResult l = if 3 * l.length ≤ 4 * (bandHigh l).length then some (64 * bandLast l + 63, true) else some (4095, false) := if_neg (by omega)

/-- The last good sub-band is 35, or one of 36 to 63 at which every port is good. -/
theorem bandLast_cases (l : List BandMeas) : bandLast l = 35 ∨ (36 ≤ bandLast l ∧ bandLast l ≤ 63 ∧ ∀ m ∈ l, bandsGood (bandLast l) m = true) := by
  rw [bandLast]
  cases hlast : ((List.range' 36 28).filter (fun k => l.all (bandsGood k))).getLast? with
  | none => exact .inl rfl
  | some k =>
    have hmem := List.mem_of_getLast? hlast
    rw [List.mem_filter, List.mem_range'_1, List.all_eq_true] at hmem
    obtain ⟨hrange, hgood⟩ := hmem
    rw [Option.getD_some]
    exact .inr ⟨by omega, by omega, hgood⟩

theorem excess_of_bandsGood {k j : Nat} {m : BandMeas} {e : Int} (hgood : bandsGood k m = true) (hlow : 36 ≤ j) (hhigh : j ≤ k)
    (he : m.excess[j - 36]? = some e) : e ≤ 30 := by
  rw [bandsGood, List.all_eq_true] at hgood
  have hmem : e ∈ m.excess.take (k - 35) := by
    refine List.mem_of_getElem? (i := j - 36) ?_
    rw [List.getElem?_take_of_lt (by omega), he]
  simpa using hgood e hmem

theorem bandCheck_few {ms : List BandMeas} {s : State} (hfew : (ms.filter (fun m => inService s m.port.val)).length < 4) : bandCheck ms s = s := by
  rw [bandCheck, bandResult_few hfew]

section
variable {s : State} {r : SurveyRun}

theorem bandCheck_exec {ms : List BandMeas} (hr : s.ch.survey = some r) (hstep : r.k ≤ 2) (hjoin : s.ch.join = none) (hrun : clkRun s 8 = true) :
    exec (.bandCheck ms) s = .next (surveyStep (if r.left = [] then r.n else 3) (bandCheck ms s)) := by
  refine congrArg Host.Outcome.next ?_
  rw [hr]
  simp only [hstep, hjoin, hrun, and_self, if_true, List.isEmpty_iff]

theorem bandCheck_waits {ms : List BandMeas} (hwait : clkRun s 8 = false ∨ s.ch.join ≠ none ∨ s.ch.survey = none) : exec (.bandCheck ms) s = .next s := by
  refine congrArg Host.Outcome.next ?_
  cases hr : s.ch.survey with
  | none => rfl
  | some r => exact if_neg fun h => by simp [hr, h.2.1, h.2.2] at hwait

/-! ## Batches (R270, R276 to R278, R282) -/

/-- Of a batch the victim pairs left are those that the staging limit kept back. -/
theorem runBatch_rest (l : List Nat) (s : State) :
    (∀ v ∈ (runBatch l s).1, v ∈ l) ∧ ((runBatch l s).1 ≠ [] → (runBatch l s).2.ch.policy.stageLots ≤ stagedLots (runBatch l s).2) := by
  induction l generalizing s with
  | nil => exact ⟨fun v hv => hv, fun h => absurd rfl h⟩
  | cons v l ih =>
    rw [runBatch]
    split
    · next hfull => exact ⟨fun w hw => hw, fun _ => hfull⟩
    · exact ⟨fun w hw => List.mem_cons_of_mem _ ((ih _).1 w hw), (ih _).2⟩

theorem surveyBatch_exec {cells : List MapCell} {floors : List MapFloor} (hr : s.ch.survey = some r) :
    exec (.surveyBatch cells floors) s = .next (if 3 ≤ r.k ∧ s.ch.join = none ∧ clkRun s 8 = true ∧ (r.left ≠ [] ∨ r.again ≠ [])
      ∧ stagedLots s < s.ch.policy.stageLots then surveyBatch cells floors r s else s) := by
  refine congrArg Host.Outcome.next ?_
  rw [hr]

theorem surveyBatch_waits {cells : List MapCell} {floors : List MapFloor} (hwait : clkRun s 8 = false ∨ s.ch.join ≠ none ∨ s.ch.survey = none) :
    exec (.surveyBatch cells floors) s = .next s := by
  cases hr : s.ch.survey with
  | none =>
    refine congrArg Host.Outcome.next ?_
    rw [hr]
  | some r =>
    refine (surveyBatch_exec hr).trans (congrArg _ (if_neg ?_))
    rintro ⟨-, hjoin, hrun, -⟩
    simp [hr, hjoin, hrun] at hwait

theorem surveyBatch_roster {cells : List MapCell} {floors : List MapFloor} (hleft : r.left ≠ []) :
    let b := runBatch (r.left.take 10) (storeMap cells floors s)
    surveyBatch cells floors r s = surveyStep (if b.1 ++ r.left.drop 10 = [] then r.n else min r.n (r.k + 1))
      (modSurvey (fun x => { x with left := b.1 ++ r.left.drop 10 }) b.2) := by
  intro b
  rw [surveyBatch, if_neg (by simpa using hleft)]
  simp only [List.isEmpty_iff]
  rfl

theorem surveyBatch_again {cells : List MapCell} {floors : List MapFloor} (hleft : r.left = []) :
    let b := runBatch (r.again.take 10) (storeMap cells floors s)
    surveyBatch cells floors r s = surveyStep r.n (modSurvey (fun x => { x with again := b.1 ++ r.again.drop 10 }) b.2) := by
  intro b
  rw [surveyBatch, if_pos (by simp [hleft])]

/-! ## The end of a Survey (R278) -/

theorem surveyRelease_exec (hr : s.ch.survey = some r) (hstep : 3 ≤ r.k) :
    exec .surveyRelease s = .next (if r.left = [] ∧ r.again = [] ∧ ∀ e ∈ s.ch.victims, e.2.survey = false then
      surveyEnd (if ∃ e ∈ r.outcome, e.2 = 2 then .partialDone else .ok) (surveyStep r.n s) else s) := by
  refine congrArg Host.Outcome.next ?_
  rw [hr]
  simp only [hstep, true_and, List.any_eq_false, List.any_eq_true, beq_iff_eq, Bool.not_eq_true]

end

/-! ## The end of a window (R254, R293) -/

/-- What the end of a window leaves before lending: the reports, the lending commits and the pending policy. -/
def windowShown (ms : List WindowMeas) (s : State) : State :=
  let u := forL (ms.filter (fun m => hasPort s (m.v.val / 4))) windowReport s
  policyDue (forL (allVictims u) (fun v s => if (victim s v).lending then commitDue v s else s) u)

theorem chWindowEnd_exec {ms : List WindowMeas} {s : State} (hrun : clkRun s 8 = true) :
    exec (.chWindowEnd ms) s = .next (if rdG (windowShown ms s) F.CH_CTRL_LEND_EN = 1 ∧ (windowShown ms s).ch.survey = none
      then lend (windowShown ms s) else windowShown ms s) := congrArg Host.Outcome.next (if_pos hrun)

/-- Settles O46: each window's end by its branches; the band check by its last good sub-band. -/
theorem surveysAndJoinsAdvanceByTheirWindows : Obligations.SurveysAndJoinsAdvanceByTheirWindows := by
  refine ⟨fun ms r s hr hstep hjoin hrun => ?band, fun ms cells floors s hwait => ⟨bandCheck_waits hwait, surveyBatch_waits hwait⟩,
    fun cells floors r s hr hstep hjoin hrun => ?batch, fun r s hr hstep => ?release, fun cells floors s => ?join, fun ms s => ?window⟩
  case band =>
    have hexec := bandCheck_exec (ms := ms) hr hstep hjoin hrun
    intro l high k
    refine ⟨fun hfew => hexec.trans (congrArg _ (congrArg _ (bandCheck_few hfew))), fun hmany => ?_⟩
    have hresult := bandResult_many hmany
    by_cases hroll : 3 * l.length ≤ 4 * high.length
    · have hlast := bandLast_cases l
      refine ⟨64 * bandLast l + 63, by omega, by omega, by omega, fun h => by omega, fun _ m hm j hlow hj e he => ?_, ?_, hexec⟩
      · obtain hnone | ⟨-, -, hgood⟩ := hlast
        · omega
        · exact excess_of_bandsGood (hgood m hm) hlow (by omega) he
      · rw [decide_eq_true hroll]
        exact hresult.trans (if_pos hroll)
    · refine ⟨4095, by decide, by decide, by decide, fun _ => rfl, fun h => absurd h hroll, ?_, hexec⟩
      rw [decide_eq_false hroll]
      exact hresult.trans (if_neg hroll)
  case batch =>
    have hexec := surveyBatch_exec (cells := cells) (floors := floors) hr
    refine ⟨fun hroom => ⟨fun hleft => ?_, fun hleft hagain => ?_⟩, fun hfull => ?_, fun hleft hagain => ?_⟩
    · obtain ⟨hmem, hlimit⟩ := runBatch_rest (r.left.take 10) (storeMap cells floors s)
      exact ⟨_, _, rfl, fun v hv => List.mem_of_mem_take (hmem v hv), hlimit, hexec.trans (congrArg _
        ((if_pos ⟨hstep, hjoin, hrun, .inl hleft, hroom⟩).trans (surveyBatch_roster hleft)))⟩
    · obtain ⟨hmem, hlimit⟩ := runBatch_rest (r.again.take 10) (storeMap cells floors s)
      exact ⟨_, _, rfl, fun v hv => List.mem_of_mem_take (hmem v hv), hlimit, hexec.trans (congrArg _
        ((if_pos ⟨hstep, hjoin, hrun, .inr hagain, hroom⟩).trans (surveyBatch_again hleft)))⟩
    · exact hexec.trans (congrArg _ (if_neg fun h => by omega))
    · exact hexec.trans (congrArg _ (if_neg fun h => h.2.2.2.1.elim (· hleft) (· hagain)))
  case release =>
    have hexec := surveyRelease_exec hr hstep
    refine ⟨fun hleft hagain hdone => ⟨fun hkept => ?_, fun hall => ?_⟩, fun hopen => hexec.trans (congrArg _ (if_neg ?_))⟩
    · rw [hexec, if_pos ⟨hleft, hagain, hdone⟩, if_pos hkept]
    · rw [hexec, if_pos ⟨hleft, hagain, hdone⟩, if_neg fun ⟨e, he, htwo⟩ => hall e he htwo]
    · rintro ⟨hleft, hagain, hdone⟩
      obtain h | h | ⟨e, he, hsurvey⟩ := hopen
      · exact h hleft
      · exact h hagain
      · rw [hdone e he] at hsurvey
        cases hsurvey
  case join =>
    refine ⟨fun n hn hrun => congrArg Host.Outcome.next ?_, fun hwait => congrArg Host.Outcome.next ?_⟩
    · rw [hn]
      exact if_pos hrun
    · cases hn : s.ch.join with
      | none => rfl
      | some n => exact if_neg fun hrun => by simp [hn, hrun] at hwait
  case window =>
    refine ⟨fun hrun => ?_, fun hstop => congrArg Host.Outcome.next (if_neg (by simp [hstop]))⟩
    have hexec := chWindowEnd_exec (ms := ms) hrun
    intro u t
    exact ⟨fun hlend hsurvey => hexec.trans (congrArg _ (if_pos ⟨hlend, hsurvey⟩)),
      fun hnot => hexec.trans (congrArg _ (if_neg fun h => hnot.elim (· h.1) (· h.2)))⟩

end Sys2Proof.Proofs
end

section
/-!
Cable diagnostics from their start to their records (R366 to R395).
-/
namespace Sys2Proof.Proofs
open Sys2Proof.Machine Sys2Proof.Claims

/-! ## The start of a run (R366, R367) -/

section
variable {n : Port} {r : DiagRun} {s : State}

theorem diagBegin_exec (hr : s.diag.runs.find? (fun r => r.port == n.val && !r.begun) = some r) :
    exec (.diagBegin n) s = .next (if runDue s r = false ∨ (r.kind = 1 ∧ activeWaits s r = true) then s
      else if diagReady s r.kind n.val r.args = false then diagEnd r.op .notReady s else diagBegin r s) := by
  refine congrArg Host.Outcome.next ?_
  rw [hr]
  simp only [Bool.or_eq_true, Bool.not_eq_true', Bool.and_eq_true, beq_iff_eq]

theorem diagBegin_cable (hkind : r.kind = 1 ∨ r.kind = 2) : diagBegin r s = runBegin r s.time.s s := by
  obtain h | h := hkind <;> simp only [diagBegin, h]

theorem diagBegin_floor (hkind : r.kind = 3) : diagBegin r s =
    runBegin r ((s.time.s / 512 + 1) * 512) (modRun r.op (fun x => { x with endS := some ((s.time.s / 512 + 1) * 512 + 512) }) s) := by
  simp only [diagBegin, hkind]

theorem diagBegin_ranking (hkind : r.kind = 4) : diagBegin r s = diagEnd r.op .ok (diagStep r 1 4 (modRun r.op
    (fun x => { x with records := [ranking s r.port] }) (runBegin r s.time.s s))) := by simp only [diagBegin, hkind]

/-- The state of a capture that records. -/
def captureArmed (r : DiagRun) (s : State) : State := diagStep r 1 0 (capHeader r 1 0 (storeWrite (runBegin r s.time.s s)))

theorem diagBegin_capture (hkind : r.kind = 5) :
    diagBegin r s = if byteAt r.args 1 = 0 then captureTrigger r (captureArmed r s) else captureArmed r s := by
  simp only [diagBegin, hkind, captureArmed]

/-- The next window of 512 superframes begins at a multiple, after this superframe and within 512. -/
theorem next_window_place (k : Nat) : (k / 512 + 1) * 512 % 512 = 0 ∧ k < (k / 512 + 1) * 512 ∧ (k / 512 + 1) * 512 ≤ k + 512 := by omega

/-! ## Acquisitions (R370 to R383) -/

theorem activeAcquisition_exec {discarded : Nat} {echoes : List Echo} {p : Nat} {l : List Nat} (hr : portRun s n.val = some r)
    (hkind : r.kind = 1) (hpairs : r.pairsLeft = p :: l) :
    let nvp := argOr (beAt r.args 0 2) 690
    let ev := cableEvents false (argOr (beAt r.args 2 2) 150) (argOr (byteAt r.args 4) 60) s.draws echoes
    exec (.activeAcquisition n discarded echoes) s = .next (if diagReady s 1 n.val r.args = false then diagEnd r.op .notReady s
      else if 32 < discarded then
        if r.repeats < 3 then modRun r.op (fun x => { x with repeats := x.repeats + 1 }) s
        else pairDone r (modRun r.op (fun x => { x with partialDone := true }) (setRecord r.op p (pairRecord 0x40 nvp []) s))
      else pairDone r (showListenDiag n.val p ev (setRecord r.op p (pairRecord 0x80 nvp ev) (draw (draw s))))) := by
  refine congrArg Host.Outcome.next ?_
  rw [hr]
  dsimp only
  rw [hpairs]
  exact if_neg (not_not.mpr hkind)

theorem activeAcquisition_other {discarded : Nat} {echoes : List Echo} (hr : ∀ r, portRun s n.val = some r → r.kind ≠ 1) :
    exec (.activeAcquisition n discarded echoes) s = .next s := by
  refine congrArg Host.Outcome.next ?_
  cases hrun : portRun s n.val with
  | none => rfl
  | some r =>
    dsimp only
    cases r.pairsLeft with
    | nil => rfl
    | cons p l => exact if_pos (hr r hrun)

theorem cableEvents_length (passive : Bool) (range threshold draw : Nat) (l : List Echo) : (cableEvents passive range threshold draw l).length ≤ 4 := by
  rw [cableEvents]
  exact List.length_take_le _ _

/-- The record of a requested pair in a passive copy: the absent pair's has no events. -/
def passiveRecord (s : State) (n : Nat) (r : DiagRun) (echoes : List (List Echo)) (i p : Nat) : List Byte :=
  if (threePair s n && absentPair s n == p) = true then pairRecord 0x20 (argOr (beAt r.args 0 2) 690) []
  else pairRecord 0xA0 (argOr (beAt r.args 0 2) 690) (cableEvents true 0 (argOr (byteAt r.args 4) 60) s.draws (echoes.getD i []))

theorem passiveCopy_exec {echoes : List (List Echo)} (hr : portRun s n.val = some r) (hkind : r.kind = 2) :
    exec (.passiveCopy n echoes) s = .next (if inService s n.val = false then diagEnd r.op .notReady s
      else diagEnd r.op .ok (diagStep r 2 (maskPairs r.pairs).length
        (modRun r.op (fun x => { x with pairsLeft := [], startS := if onGrid s n.val = true then s.time.s else 0 })
          (forL ((maskPairs r.pairs).mapIdx (fun i p => (i, p))) (fun e t => setRecord r.op e.2 (passiveRecord s n.val r echoes e.1 e.2) t) s)))) := by
  refine congrArg Host.Outcome.next ?_
  rw [hr]
  exact if_neg (not_not.mpr hkind)

theorem passiveCopy_other {echoes : List (List Echo)} (hr : ∀ r, portRun s n.val = some r → r.kind ≠ 2) :
    exec (.passiveCopy n echoes) s = .next s := by
  refine congrArg Host.Outcome.next ?_
  cases hrun : portRun s n.val with
  | none => rfl
  | some r => exact if_pos (hr r hrun)

theorem length_natBE (n x : Nat) : (natBE n x).length = n := by
  induction n with
  | zero => rfl
  | succ n ih => rw [natBE, List.length_cons, ih]

/-! ## The noise floor (R384 to R387) -/

/-- The store after a noise floor's curves, and the header bytes that the spec leaves free. -/
def floorStored (s : State) (n : Nat) (r : DiagRun) (total unexpl : List (List Byte)) : State :=
  writeMem 0x400009 (natBE 15 (Config.pick s.draws)) (draw (writeMem 0x400040 ((curves (notches s n) r.pairs total).flatten
    ++ (curves (notches s n) r.pairs unexpl).flatten) (capHeader r 0 32768 (storeWrite s))))

/-- The port's area after the noise-floor record: its time, and the mean of each band of every requested pair. -/
def floorShown (s : State) (n : Nat) (r : DiagRun) (total unexpl : List (List Byte)) : State :=
  forL (maskPairs r.pairs) (fun p t => writeMem (portBase n + 0x3200 + 10 + 16 * p)
      ((List.range 16).map (bandMean ((curves (notches s n) r.pairs unexpl).getD p []))) t)
    (writeMem (portBase n + 0x3200) (natBE 6 (s.time.sTime / 1000000000) ++ natBE 4 (s.time.sTime % 1000000000)) (floorStored s n r total unexpl))

theorem noiseFloor_exec {total unexpl : List (List Byte)} {k : Nat} (hr : portRun s n.val = some r) (hkind : r.kind = 3) (hk : r.endS = some k) :
    exec (.noiseFloorWindowEnd n total unexpl) s = .next (if s.time.s < k then s else if diagReady s 3 n.val r.args = false then diagEnd r.op .notReady s
      else diagEnd r.op .ok (diagStep r 2 (maskPairs r.pairs).length (modRun r.op (fun x => { x with records := [(List.range 4).flatMap (fun p =>
        readMem (floorShown s n.val r total unexpl) (portBase n.val + 0x3200 + 10 + 16 * p) 16)] }) (floorShown s n.val r total unexpl)))) := by
  refine congrArg Host.Outcome.next ?_
  rw [hr]
  by_cases hearly : s.time.s < k
  · rw [if_pos hearly]
    exact if_pos (.inr (by simpa [hk] using hearly))
  · rw [if_neg hearly]
    refine if_neg ?_
    rintro (h | h)
    · exact h hkind
    · simp [hk] at h
      exact hearly h

theorem noiseFloor_other {total unexpl : List (List Byte)} (hr : ∀ r, portRun s n.val = some r → r.kind ≠ 3) :
    exec (.noiseFloorWindowEnd n total unexpl) s = .next s := by
  refine congrArg Host.Outcome.next ?_
  cases hrun : portRun s n.val with
  | none => rfl
  | some r => exact if_pos (.inl (hr r hrun))

/-! ## Captures (R388 to R391) -/

theorem captureTrigger_exec {cause : Fin 5} (hr : portRun s n.val = some r) : exec (.captureTrigger n cause) s =
    .next (if r.kind = 5 ∧ r.stage = 1 ∧ byteAt r.args 1 = cause.val then captureTrigger r s else s) := by
  refine congrArg Host.Outcome.next ?_
  rw [hr]

theorem captureFilled_exec {data : List Byte} (hr : portRun s n.val = some r) : exec (.captureFilled n data) s =
    .next (if r.kind = 5 ∧ r.stage = 2 then diagEnd r.op .ok (diagStep r 3 (maskPairs r.pairs).length (writeMem 0x400040 (data.take (4194304 - 64))
      (capHeader r 0 (data.take (4194304 - 64)).length (storeWrite s)))) else s) := by
  refine congrArg Host.Outcome.next ?_
  rw [hr]

theorem captureTimeout_exec (hr : portRun s n.val = some r) : exec (.captureTimeout n) s =
    .next (if r.kind = 5 ∧ r.stage = 1 then diagEnd r.op .ok (capHeader r 2 0 s) else s) := by
  refine congrArg Host.Outcome.next ?_
  rw [hr]

theorem captures_without_run {cause : Fin 5} {data : List Byte} (hr : portRun s n.val = none) : exec (.captureTrigger n cause) s = .next s
    ∧ exec (.captureFilled n data) s = .next s ∧ exec (.captureTimeout n) s = .next s := by
  refine ⟨congrArg Host.Outcome.next ?_, congrArg Host.Outcome.next ?_, congrArg Host.Outcome.next ?_⟩ <;> rw [hr]

end

/-- Settles O47: each event by its branches, after the run that it is about. -/
theorem diagnosticsRunFromTheirStartToTheirRecords : Obligations.DiagnosticsRunFromTheirStartToTheirRecords := by
  refine ⟨fun n s => ⟨fun r hr => ?begins, fun hnone => ?idle⟩, fun n r s hr => ⟨fun discarded echoes p l hkind hpairs => ?active, fun echoes hkind => ?passive,
    fun total unexpl hkind k hk => ?floor, fun hkind hstage => ?armed, fun hkind hstage => ?triggered⟩,
    fun n discarded echoes two total unexpl cause data s => ⟨fun r hr hkind => ?notActive, fun r hr hkind => ?notPassive, fun r hr hkind => ?notFloor,
      fun r hr hkind => ?notCapture, fun hnone => ?noRun, fun hlisten => congrArg _ (if_pos hlisten), fun hother => congrArg _ (if_neg hother)⟩⟩
  case begins =>
    have hexec := diagBegin_exec hr
    refine ⟨fun hwait => hexec.trans (congrArg _ (if_pos hwait)), fun hdue hactive => ?_⟩
    have hgo : ¬ (runDue s r = false ∨ (r.kind = 1 ∧ activeWaits s r = true)) := by
      rintro (h | ⟨hkind, h⟩)
      · simp [hdue] at h
      · simp [hactive hkind] at h
    refine ⟨fun hnot => hexec.trans (congrArg _ ((if_neg hgo).trans (if_pos hnot))), fun hready => ?_⟩
    have hbegin : exec (.diagBegin n) s = .next (diagBegin r s) := hexec.trans (congrArg _ ((if_neg hgo).trans (if_neg (by simp [hready]))))
    obtain ⟨hmod, hafter, hwithin⟩ := next_window_place s.time.s
    refine ⟨fun hkind => hbegin.trans (congrArg _ (diagBegin_cable hkind)),
      fun hkind => ⟨_, hmod, hafter, hwithin, hbegin.trans (congrArg _ (diagBegin_floor hkind))⟩,
      fun hkind => hbegin.trans (congrArg _ (diagBegin_ranking hkind)), fun hkind u hu => ⟨fun hnone => ?_, fun hsome => ?_⟩⟩
    · rw [hu]
      exact hbegin.trans (congrArg _ ((diagBegin_capture hkind).trans (if_pos hnone)))
    · rw [hu]
      exact hbegin.trans (congrArg _ ((diagBegin_capture hkind).trans (if_neg hsome)))
  case idle =>
    refine congrArg Host.Outcome.next ?_
    rw [hnone]
  case active =>
    have hexec := activeAcquisition_exec (discarded := discarded) (echoes := echoes) hr hkind hpairs
    intro nvp
    refine ⟨fun hnot => hexec.trans (congrArg _ (if_pos hnot)), fun hready => ?_⟩
    have hgo : ¬ diagReady s 1 n.val r.args = false := by simp [hready]
    refine ⟨fun hmany hfew => ?_, fun hmany hthree => ?_, fun hgood => ⟨_, cableEvents_length _ _ _ _ _, rfl, ?_⟩⟩
    · exact hexec.trans (congrArg _ ((if_neg hgo).trans ((if_pos hmany).trans (if_pos hfew))))
    · exact hexec.trans (congrArg _ ((if_neg hgo).trans ((if_pos hmany).trans (if_neg (Nat.not_lt.mpr hthree)))))
    · exact hexec.trans (congrArg _ ((if_neg hgo).trans (if_neg (Nat.not_lt.mpr hgood))))
  case passive =>
    have hexec := passiveCopy_exec (echoes := echoes) hr hkind
    refine ⟨fun hnot => hexec.trans (congrArg _ (if_pos hnot)), fun hservice => ?_⟩
    intro nvp
    exact hexec.trans (congrArg _ (if_neg (by simp [hservice])))
  case floor =>
    have hexec := noiseFloor_exec (total := total) (unexpl := unexpl) hr hkind hk
    refine ⟨fun hearly => hexec.trans (congrArg _ (if_pos hearly)), fun hcome hnot => ?_, fun hcome hready => ?_⟩
    · exact hexec.trans (congrArg _ ((if_neg (Nat.not_lt.mpr hcome)).trans (if_pos hnot)))
    · exact ⟨floorShown s n.val r total unexpl, floorStored s n.val r total unexpl, rfl, ⟨_, length_natBE _ _, rfl⟩,
        hexec.trans (congrArg _ ((if_neg (Nat.not_lt.mpr hcome)).trans (if_neg (by simp [hready]))))⟩
  case armed =>
    refine ⟨fun cause => ⟨fun hcause => ?_, fun hcause => ?_⟩, ?_, fun data => ?_⟩
    · exact (captureTrigger_exec hr).trans (congrArg _ (if_pos ⟨hkind, hstage, hcause⟩))
    · exact (captureTrigger_exec hr).trans (congrArg _ (if_neg fun h => hcause h.2.2))
    · exact (captureTimeout_exec hr).trans (congrArg _ (if_pos ⟨hkind, hstage⟩))
    · exact (captureFilled_exec hr).trans (congrArg _ (if_neg fun h => by omega))
  case triggered =>
    refine ⟨fun cause => ?_, ?_, fun data hfits => ?_⟩
    · exact (captureTrigger_exec hr).trans (congrArg _ (if_neg fun h => by omega))
    · exact (captureTimeout_exec hr).trans (congrArg _ (if_neg fun h => by omega))
    · have hall : data.take (4194304 - 64) = data := List.take_of_length_le (by omega)
      rw [captureFilled_exec hr, if_pos ⟨hkind, hstage⟩, hall]
  case notActive => exact activeAcquisition_other fun x hx => by rwa [Option.some.inj (hx.symm.trans hr)]
  case notPassive => exact passiveCopy_other fun x hx => by rwa [Option.some.inj (hx.symm.trans hr)]
  case notFloor => exact noiseFloor_other fun x hx => by rwa [Option.some.inj (hx.symm.trans hr)]
  case notCapture =>
    exact ⟨(captureTrigger_exec hr).trans (congrArg _ (if_neg fun h => hkind h.1)), (captureFilled_exec hr).trans (congrArg _ (if_neg fun h => hkind h.1)),
      (captureTimeout_exec hr).trans (congrArg _ (if_neg fun h => hkind h.1))⟩
  case noRun =>
    exact ⟨activeAcquisition_other fun x hx => by simp [hnone] at hx, passiveCopy_other fun x hx => by simp [hnone] at hx,
      noiseFloor_other fun x hx => by simp [hnone] at hx, captures_without_run hnone⟩

end Sys2Proof.Proofs
end

section
/-!
Calibrations: the window of a run, its measurements, commits, ramps and retries (R712 to R732).
-/
namespace Sys2Proof.Proofs
open Sys2Proof.Machine Sys2Proof.Claims

/-! ## The window of a run that waits (R717, R718) -/

section
variable {t : Nat} {r : CalRun} {s : State}

theorem calWindow_none (hr : findCal s t = none) : calWindow t s = s := by rw [calWindow, hr]

theorem calWindow_not_waiting (hr : findCal s t = some r) (hphase : r.phase ≠ .waiting) : calWindow t s = s := by
  rw [calWindow, hr]
  exact if_pos hphase

theorem calWindow_waiting (hr : findCal s t = some r) (hphase : r.phase = .waiting) :
    calWindow t s = if abortAsked s r.op = true then calEnd t .aborted s
      else if r.lane = true then
        if ¬ totalNs r.sec r.ns ≤ nowTotal s then s
        else calQuiet t false false (modLane r.index (fun l => { l with calIdle := true })
          (if laneStep s r.index = 0 then countDev 0x3C 1 s else laneSet r.index 2 (countDev 0x3C 1 s)))
      else if inShutter s t = true then wantWake t s
      else if calByPair s t = true then
        if s.time.s + 65536 < hostFrame s r.sec r.ns then s else calAsk t (r.left.headD 0) (hostFrame s r.sec r.ns) (countDev 0x3C 1 s)
      else if ¬ totalNs r.sec r.ns ≤ nowTotal s then s
      else if calInPlace s t r.left = true then
        calStep t (modCalRun t (fun x => { x with phase := .out s.time.s, inPlace := true, measured := false }) (countDev 0x3C 1 s))
      else if linkUp s t = true ∧ r.allowDrop = false then
        calGoodEnd t (forL r.left (fun p s => calOutcome t p (sameCode r 4) s) (countDev 0x3C 1 s))
      else calTakeDown t (countDev 0x3C 1 s) := by
  rw [calWindow, hr]
  dsimp only
  rw [if_neg (not_not.mpr hphase)]
  simp only [Bool.not_eq_true', decide_eq_false_iff_not, Bool.and_eq_true]

/-! ## Commits (R713, R732) -/

theorem commitDueCal_of_named {w : When} (hw : (calTarget s t).commit = some w) :
    commitDueCal t s = if whenDue s w = true ∧ ramping s t = false ∧ (64 ≤ t → laneStep s (t - 64) = 2) then commitRecord t s else s := by
  rw [commitDueCal, hw]
  refine ite_congr (propext ?_) (fun _ => rfl) (fun _ => rfl)
  simp only [Bool.and_eq_true, Bool.not_eq_true', Bool.or_eq_true, decide_eq_true_eq, beq_iff_eq, and_assoc]
  refine and_congr_right' (and_congr_right' ?_)
  omega

theorem commitDueCal_none (hnone : (calTarget s t).commit = none) : commitDueCal t s = s := by rw [commitDueCal, hnone]

/-! ## Ramps (R719) -/

theorem calTarget_modTarget_self (f : CalTarget → CalTarget) : calTarget (modTarget t f s) t = f (calTarget s t) := SMap.get_set_self _ _ _ _

/-- A target's record after a step of its ramp. -/
def rampStepped (t : Nat) (s : State) : State := modTarget t (fun c => { c with rampLeft := c.rampLeft - 1 }) s

/-- A target's record after the last step of its ramp. -/
def rampEnded (t : Nat) (s : State) : State := wrFld (calBase t) F.CAL_PORT_RAMP 0 (modTarget t (fun c => { c with oldBody := [] }) (rampStepped t s))

theorem rampEnded_findCal : findCal (rampEnded t s) t = findCal s t := by
  rw [findCal, findCal, rampEnded, wrFld_cal]
  rfl

theorem rampStepped_rampLeft : (calTarget (rampStepped t s) t).rampLeft = (calTarget s t).rampLeft - 1 := by
  rw [rampStepped, calTarget_modTarget_self]

end

section
variable {tg : CalTgt} {r : CalRun} {s : State}

theorem calRampStep_idle (hzero : (calTarget s (tgtNo tg)).rampLeft = 0) : exec (.calRampStep tg) s = .next s := congrArg Host.Outcome.next (if_pos hzero)

theorem calRampStep_on (hmore : 2 ≤ (calTarget s (tgtNo tg)).rampLeft) : exec (.calRampStep tg) s = .next (rampStepped (tgtNo tg) s) := by
  refine congrArg Host.Outcome.next ((if_neg (by omega)).trans (if_pos ?_))
  rw [ne_eq, ← rampStepped, rampStepped_rampLeft]
  omega

/-- After the last step of a ramp a run that waited for it ends its attempt. -/
theorem calRampStep_last (hlast : (calTarget s (tgtNo tg)).rampLeft = 1) :
    (∀ r, findCal s (tgtNo tg) = some r → r.phase = .ramp → exec (.calRampStep tg) s = .next (calAttemptEnd (tgtNo tg) (rampEnded (tgtNo tg) s)))
    ∧ ((∀ r, findCal s (tgtNo tg) = some r → r.phase ≠ .ramp) → exec (.calRampStep tg) s = .next (rampEnded (tgtNo tg) s)) := by
  have hzero : ¬ (calTarget (rampStepped (tgtNo tg) s) (tgtNo tg)).rampLeft ≠ 0 := by
    rw [rampStepped_rampLeft]
    omega
  have hstep : exec (.calRampStep tg) s = .next (match findCal (rampEnded (tgtNo tg) s) (tgtNo tg) with
      | some r => if r.phase = .ramp then calAttemptEnd (tgtNo tg) (rampEnded (tgtNo tg) s) else rampEnded (tgtNo tg) s
      | none => rampEnded (tgtNo tg) s) := congrArg Host.Outcome.next ((if_neg (by omega)).trans (if_neg hzero))
  rw [hstep, rampEnded_findCal]
  refine ⟨fun r hr hramp => ?_, fun hnot => ?_⟩
  · rw [hr]
    exact congrArg _ (if_pos hramp)
  · cases hr : findCal s (tgtNo tg) with
    | none => rfl
    | some r => exact congrArg _ (if_neg (hnot r hr))

/-! ## Retries and measurements (R721 to R723) -/

theorem calRetry_exec (hr : findCal s (tgtNo tg) = some r) : exec (.calRetry tg) s = .next (if r.phase = .retry then
    calWindow (tgtNo tg) (modCalRun (tgtNo tg) (fun x => { x with phase := .waiting, sec := 0, ns := 0 }) s) else s) := by
  refine congrArg Host.Outcome.next ?_
  rw [hr]

/-- A run after a measurement of its first pair left. -/
def pairTaken (t : Nat) (r : CalRun) (m : CalMeas) (s : State) : State := calTake t (r.left.headD 0) m s

/-- A run after line energy on its first pair left. -/
def pairBusy (t : Nat) (r : CalRun) (s : State) : State :=
  modCalRun t (fun x => { x with busy := true }) (calOutcome t (r.left.headD 0) (sameCode r 2) s)

theorem measurement_quiet {m : CalMeas} (hr : findCal s (tgtNo tg) = some r) (hphase : r.phase = .quiet) :
    let u := modCalRun (tgtNo tg) (fun x => { x with left := x.left.drop 1 }) (pairTaken (tgtNo tg) r m s)
    exec (.calMeasurementDone tg m) s = .next (if r.left.length ≤ 1 ∨ abortAsked s r.op = true then
      calAttemptEnd (tgtNo tg) (calCommitRun (tgtNo tg) u) else calStep (tgtNo tg) u) := by
  refine congrArg Host.Outcome.next ?_
  rw [hr]
  dsimp only
  rw [hphase]
  rfl

theorem measurement_out {m : CalMeas} {k : Nat} (hr : findCal s (tgtNo tg) = some r) (hphase : r.phase = .out k) :
    let u := modCalRun (tgtNo tg) (fun x => { x with measured := true }) (pairTaken (tgtNo tg) r m s)
    exec (.calMeasurementDone tg m) s = .next (if r.measured = true ∨ (r.inPlace = false ∧ s.time.s < k + 1) then s
      else if r.inPlace = true then modCalRun (tgtNo tg) (fun x => { x with left := x.left.drop 1 }) u else u) := by
  refine congrArg Host.Outcome.next ?_
  rw [hr]
  dsimp only
  rw [hphase]
  rfl

/-- In the phases in which no measurement runs, its end has no effect. -/
theorem measurement_elsewhere {m : CalMeas} (hr : findCal s (tgtNo tg) = some r) (hquiet : r.phase ≠ .quiet) (hout : ∀ k, r.phase ≠ .out k) :
    exec (.calMeasurementDone tg m) s = .next s := by
  refine congrArg Host.Outcome.next ?_
  rw [hr]
  cases hphase : r.phase with
  | quiet => exact absurd hphase hquiet
  | out k => exact absurd hphase (hout k)
  | waiting => simp only [hphase]
  | asked k => simp only [hphase]
  | ramp => simp only [hphase]
  | retry => simp only [hphase]

theorem inputBusy_quiet (hr : findCal s (tgtNo tg) = some r) (hphase : r.phase = .quiet) :
    exec (.calInputBusy tg) s = .next (calAttemptEnd (tgtNo tg) (calCommitRun (tgtNo tg) (pairBusy (tgtNo tg) r s))) := by
  refine congrArg Host.Outcome.next ?_
  rw [hr]
  dsimp only
  rw [hphase]
  rfl

theorem inputBusy_out {k : Nat} (hr : findCal s (tgtNo tg) = some r) (hphase : r.phase = .out k) :
    exec (.calInputBusy tg) s = .next (if r.measured = true then s
      else if r.inPlace = true then calAttemptEnd (tgtNo tg) (modCalRun (tgtNo tg) (fun x => { x with inPlace := false }) (pairBusy (tgtNo tg) r s))
      else pairBusy (tgtNo tg) r s) := by
  refine congrArg Host.Outcome.next ?_
  rw [hr]
  dsimp only
  rw [hphase]
  rfl

theorem inputBusy_asked {k : Nat} (hr : findCal s (tgtNo tg) = some r) (hphase : r.phase = .asked k) :
    exec (.calInputBusy tg) s = .next (pairBusy (tgtNo tg) r s) := by
  refine congrArg Host.Outcome.next ?_
  rw [hr]
  dsimp only
  rw [hphase]
  rfl

theorem inputBusy_elsewhere (hr : findCal s (tgtNo tg) = some r) (hphase : r.phase = .waiting ∨ r.phase = .ramp ∨ r.phase = .retry) :
    exec (.calInputBusy tg) s = .next s := by
  refine congrArg Host.Outcome.next ?_
  rw [hr]
  obtain h | h | h := hphase <;> simp only [h]

theorem events_without_run (hr : findCal s (tgtNo tg) = none) : exec (.calWindowStart tg) s = .next s ∧ exec (.calRetry tg) s = .next s
    ∧ exec (.calInputBusy tg) s = .next s ∧ ∀ m, exec (.calMeasurementDone tg m) s = .next s := by
  refine ⟨congrArg _ (calWindow_none hr), congrArg Host.Outcome.next ?_, congrArg Host.Outcome.next ?_, fun m => congrArg Host.Outcome.next ?_⟩ <;> rw [hr]

end

/-- Settles O48: each event by the phase of the run that holds the target. -/
theorem calibrationsWaitMeasureCommitAndRetry : Obligations.CalibrationsWaitMeasureCommitAndRetry := by
  refine ⟨fun tg r s hr => ?run, fun tg s hr => events_without_run hr, fun tg s => ?record⟩
  case run =>
    intro t p
    refine ⟨fun hphase => ?waiting, fun hphase => congrArg _ (calWindow_not_waiting hr hphase),
      fun hphase => ⟨_, rfl, (calRetry_exec hr).trans (congrArg _ (if_pos hphase))⟩, fun hphase => (calRetry_exec hr).trans (congrArg _ (if_neg hphase)),
      fun hphase => ⟨fun m => ⟨_, rfl, fun hmore hgo => ?_, fun hlast => ?_⟩, inputBusy_quiet hr hphase⟩, fun k hphase => ?out,
      fun k hphase => ⟨fun m => measurement_elsewhere hr (by simp [hphase]) (by simp [hphase]), inputBusy_asked hr hphase⟩,
      fun hphase => ⟨fun m => measurement_elsewhere hr ?_ ?_, inputBusy_elsewhere hr hphase⟩⟩
    case waiting =>
      have hwindow := calWindow_waiting hr hphase
      intro u come
      refine ⟨fun hasked => congrArg _ (hwindow.trans (if_pos hasked)), fun hnot => ?_⟩
      have hgo := hwindow.trans (if_neg (ne_true_of_eq_false hnot))
      refine ⟨fun hlane => ?_, fun hport => ?_⟩
      · have hgo := hgo.trans (if_pos hlane)
        exact ⟨fun hearly => congrArg _ (hgo.trans (if_pos hearly)), fun hcome => congrArg _ (hgo.trans (if_neg (not_not.mpr hcome)))⟩
      · have hgo := hgo.trans (if_neg (ne_true_of_eq_false hport))
        refine ⟨fun hshut => congrArg _ (hgo.trans (if_pos hshut)), fun hawake hpair => ?_, fun hawake hwhole => ?_⟩
        · have hgo := hgo.trans ((if_neg (ne_true_of_eq_false hawake)).trans (if_pos hpair))
          exact ⟨fun hfar => congrArg _ (hgo.trans (if_pos hfar)), fun hnear => congrArg _ (hgo.trans (if_neg (Nat.not_lt.mpr hnear)))⟩
        · have hgo := hgo.trans ((if_neg (ne_true_of_eq_false hawake)).trans (if_neg (ne_true_of_eq_false hwhole)))
          refine ⟨fun hearly => congrArg _ (hgo.trans (if_pos hearly)), fun hcome hplace => ?_, fun hcome hplace => ⟨fun hup hkeep => ?_, fun hdrop => ?_⟩⟩
          · exact congrArg _ (hgo.trans ((if_neg (not_not.mpr hcome)).trans (if_pos hplace)))
          · exact congrArg _ (hgo.trans ((if_neg (not_not.mpr hcome)).trans ((if_neg (ne_true_of_eq_false hplace)).trans (if_pos ⟨hup, hkeep⟩))))
          · refine congrArg _ (hgo.trans ((if_neg (not_not.mpr hcome)).trans ((if_neg (ne_true_of_eq_false hplace)).trans (if_neg ?_))))
            rintro ⟨hup, hkeep⟩
            exact hdrop.elim (fun h => ne_true_of_eq_false h hup) (ne_true_of_eq_false hkeep)
    · refine (measurement_quiet hr hphase).trans (congrArg _ (if_neg ?_))
      rintro (h | h)
      · omega
      · simp [hgo] at h
    · exact (measurement_quiet hr hphase).trans (congrArg _ (if_pos hlast))
    case out =>
      refine ⟨fun m => ⟨fun hwait => ?_, fun hfirst hpair hcome => ?_, fun hfirst hplace => ?_⟩, fun hdone => ?_, fun hfirst => ⟨_, rfl, fun hpair => ?_, fun hplace => ?_⟩⟩
      · refine (measurement_out hr hphase).trans (congrArg _ (if_pos (hwait.imp_right fun h => ⟨h.1, ?_⟩)))
        omega
      · refine (measurement_out hr hphase).trans (congrArg _ ((if_neg ?_).trans (if_neg (by simp [hpair]))))
        simp [hfirst, hpair]
        omega
      · exact (measurement_out hr hphase).trans (congrArg _ ((if_neg (by simp [hfirst, hplace])).trans (if_pos hplace)))
      · exact (inputBusy_out hr hphase).trans (congrArg _ (if_pos hdone))
      · exact (inputBusy_out hr hphase).trans (congrArg _ ((if_neg (by simp [hfirst])).trans (if_neg (by simp [hpair]))))
      · exact (inputBusy_out hr hphase).trans (congrArg _ ((if_neg (by simp [hfirst])).trans (if_pos hplace)))
    · obtain h | h | h := hphase <;> simp [h]
    · obtain h | h | h := hphase <;> simp [h]
  case record =>
    intro t c
    refine ⟨fun w hw => ⟨fun hdue hquiet hlane => ?_, fun hwait => ?_⟩, fun hnone => congrArg _ (commitDueCal_none hnone), fun hzero => calRampStep_idle hzero,
      fun hmore => calRampStep_on hmore, fun hlast => ⟨_, rfl, (calRampStep_last hlast).1, (calRampStep_last hlast).2⟩⟩
    · exact congrArg _ ((commitDueCal_of_named hw).trans (if_pos ⟨hdue, hquiet, hlane⟩))
    · refine congrArg _ ((commitDueCal_of_named hw).trans (if_neg ?_))
      rintro ⟨hdue, hquiet, hlane⟩
      obtain h | h | ⟨hg, hstep⟩ := hwait
      · simp [hdue] at h
      · simp [hquiet] at h
      · exact hstep (hlane hg)

end Sys2Proof.Proofs
end

section
/-!
The Closing Audit's slices, service requests and end (R734 to R745), and the levels and voltages (R667 to R674, R698).
-/
namespace Sys2Proof.Proofs
open Sys2Proof.Machine Sys2Proof.Claims

/-! ## The Closing Audit -/

section
variable {s : State}

theorem auditStart_exec {d : AuditDue} (hd : s.audit.due = some d) :
    exec .auditStart s = .next (if totalNs d.sec d.ns ≤ nowTotal s ∧ ∀ b ∈ d.blocks, auditConflict s b = false then
      auditBegin d.plan d.blocks (modAudit (fun a => { a with due := none }) s) else s) := by
  refine congrArg Host.Outcome.next ?_
  rw [hd]
  simp only [Bool.not_eq_true', List.any_eq_false, Bool.not_eq_true]

theorem sliceEnd_runs {x : AuditBlock} (m : SliceMeas) (hstate : s.audit.state = 1) (hon : s.audit.paused = false) (hx : auditNow s = some x) :
    (∀ i l, x.slices = i :: l → exec (.sliceEnd m) s = .next (auditAdvance x (countDev 0x3E 1 (sliceResult i (sliceJudge x.block i m) s))))
    ∧ (x.slices = [] → exec (.sliceEnd m) s = .next (auditAdvance x (forL m.fails memFailure s))) := by
  have hgo : ¬ (s.audit.state ≠ 1 ∨ s.audit.paused = true) := by simp [hstate, hon]
  refine ⟨fun i l hslices => congrArg Host.Outcome.next ((if_neg hgo).trans ?_), fun hslices => congrArg Host.Outcome.next ((if_neg hgo).trans ?_)⟩
  all_goals
    rw [hx]
    dsimp only
    rw [hslices]
  rfl

theorem sliceTimeout_runs {x : AuditBlock} (hstate : s.audit.state = 1) (hon : s.audit.paused = false) (hx : auditNow s = some x) :
    (∀ i l, x.slices = i :: l → exec .sliceTimeout s = .next (auditAdvance x (countDev 0x3E 1 (sliceResult i 2 s))))
    ∧ (x.slices = [] → exec .sliceTimeout s = .next (auditAdvance x s)) := by
  have hgo : ¬ (s.audit.state ≠ 1 ∨ s.audit.paused = true) := by simp [hstate, hon]
  refine ⟨fun i l hslices => congrArg Host.Outcome.next ((if_neg hgo).trans ?_), fun hslices => congrArg Host.Outcome.next ((if_neg hgo).trans ?_)⟩
  all_goals
    rw [hx]
    dsimp only
    rw [hslices]
  rfl

/-- Slices have no effect where the audit does not run, is paused or has no block in hand. -/
theorem slices_idle (hidle : s.audit.state ≠ 1 ∨ s.audit.paused = true ∨ auditNow s = none) :
    (∀ m, exec (.sliceEnd m) s = .next s) ∧ exec .sliceTimeout s = .next s := by
  by_cases hgo : s.audit.state ≠ 1 ∨ s.audit.paused = true
  · exact ⟨fun m => congrArg Host.Outcome.next (if_pos hgo), congrArg Host.Outcome.next (if_pos hgo)⟩
  · have hnone : auditNow s = none := by tauto
    refine ⟨fun m => congrArg Host.Outcome.next ((if_neg hgo).trans ?_), congrArg Host.Outcome.next ((if_neg hgo).trans ?_)⟩ <;> rw [hnone]

theorem sliceJudge_short {b i : Nat} {m : SliceMeas} (h : m.patterns < Config.auditPatterns b i) : sliceJudge b i m = 2 := if_pos h

theorem sliceJudge_whole {b i : Nat} {m : SliceMeas} (h : Config.auditPatterns b i ≤ m.patterns) :
    sliceJudge b i m = if m.signature = Config.auditSignature b i then 0 else 1 := if_neg (Nat.not_lt.mpr h)

/-- The result of an audit is PARTIAL after a failure, INCOMPLETE after a slice without a result, and OK otherwise. -/
theorem auditResultCode_cases (a : Audit) :
    (((∃ e ∈ a.results, e.2 = 1) ∨ 0 < a.unrepaired) → auditResultCode a = Status.partialDone.code)
    ∧ ((∀ e ∈ a.results, e.2 ≠ 1) → a.unrepaired = 0 → (∃ e ∈ a.results, e.2 = 2 ∨ e.2 = 3 ∨ e.2 = 4) → auditResultCode a = Status.incomplete.code)
    ∧ ((∀ e ∈ a.results, e.2 ≠ 1 ∧ e.2 ≠ 2 ∧ e.2 ≠ 3 ∧ e.2 ≠ 4) → a.unrepaired = 0 → auditResultCode a = Status.ok.code) := by
  have hhas (r : Nat) : a.results.any (fun e => e.2 == r) = true ↔ ∃ e ∈ a.results, e.2 = r := by simp
  have hcode : auditResultCode a = if (∃ e ∈ a.results, e.2 = 1) ∨ 0 < a.unrepaired then Status.partialDone.code
      else if (∃ e ∈ a.results, e.2 = 2) ∨ (∃ e ∈ a.results, e.2 = 3) ∨ (∃ e ∈ a.results, e.2 = 4) then Status.incomplete.code else Status.ok.code := by
    simp only [auditResultCode, Bool.or_eq_true, hhas, decide_eq_true_eq, or_assoc]
  rw [hcode]
  refine ⟨fun hfail => if_pos hfail, fun hnone hrepaired ⟨e, he, hresult⟩ => (if_neg ?_).trans (if_pos ?_), fun hall hrepaired => (if_neg ?_).trans (if_neg ?_)⟩
  · rintro (⟨x, hx, hone⟩ | hrows)
    · exact hnone x hx hone
    · omega
  · exact hresult.imp (⟨e, he, ·⟩) (Or.imp (⟨e, he, ·⟩) (⟨e, he, ·⟩))
  · rintro (⟨x, hx, hone⟩ | hrows)
    · exact (hall x hx).1 hone
    · omega
  · rintro (⟨x, hx, h⟩ | ⟨x, hx, h⟩ | ⟨x, hx, h⟩)
    · exact (hall x hx).2.1 h
    · exact (hall x hx).2.2.1 h
    · exact (hall x hx).2.2.2 h

theorem auditRequest_held {b : Nat} (hheld : b ∈ s.audit.held) :
    auditRequest b s = auditOver (if b < 6 then auditAsk 8 (auditAsk b s) else auditAsk b s) := if_pos (by simpa using hheld)

theorem auditAsk_held {b : Nat} {x : AuditBlock} (hheld : b ∈ s.audit.held) (hx : s.audit.blocks.find? (fun x => x.block == b) = some x) :
    auditAsk b s = if x.ended = true then auditFree b s
      else if (auditNow s).map (·.block) = some b then modAudit (fun a => { a with cutAsked := b :: a.cutAsked.filter (· != b) }) s
      else auditCut b s := by
  rw [auditAsk, hx]
  exact if_neg (by simpa using hheld)

end

/-- Settles O49: each event by its branches; the result by the audit's slices. -/
theorem theClosingAuditRunsSliceBySlice : Obligations.TheClosingAuditRunsSliceBySlice := by
  refine ⟨fun s => ⟨fun d hd => ⟨fun hcome hfree => (auditStart_exec hd).trans (congrArg _ (if_pos ⟨hcome, hfree⟩)), fun hwait => ?waits⟩, fun hnone => ?noPlan⟩,
    fun s hstate hon => ⟨fun x m hx => ?slice, fun hnone => ?done⟩, fun s hidle => slices_idle (hidle.imp_right .inl), fun s hidle => ?goesOn, fun b s => ?request⟩
  case waits =>
    refine (auditStart_exec hd).trans (congrArg _ (if_neg ?_))
    rintro ⟨hcome, hfree⟩
    obtain h | ⟨b, hb, h⟩ := hwait
    · omega
    · simp [hfree b hb] at h
  case noPlan =>
    refine congrArg Host.Outcome.next ?_
    rw [hnone]
  case slice =>
    obtain ⟨hslice, hstep⟩ := sliceEnd_runs m hstate hon hx
    obtain ⟨htimeout, hstepTimeout⟩ := sliceTimeout_runs hstate hon hx
    refine ⟨fun i l hslices => ⟨fun hshort => ?_, fun hwhole hmatch => ?_, fun hwhole hdiffer => ?_, htimeout i l hslices⟩, fun hslices => ⟨hstep hslices, hstepTimeout hslices⟩⟩
    · rw [hslice i l hslices, sliceJudge_short hshort]
    · rw [hslice i l hslices, sliceJudge_whole hwhole, if_pos hmatch]
    · rw [hslice i l hslices, sliceJudge_whole hwhole, if_neg hdiffer]
  case done =>
    obtain ⟨hend, htimeout⟩ := slices_idle (s := s) (.inr (.inr hnone))
    obtain ⟨hfail, hincomplete, hok⟩ := auditResultCode_cases s.audit
    exact ⟨hend, htimeout, auditResultCode s.audit, congrArg Host.Outcome.next (if_pos ⟨hstate, by simp [hnone]⟩), hfail, hincomplete, hok⟩
  case goesOn =>
    refine congrArg Host.Outcome.next (if_neg ?_)
    rintro ⟨hstate, hnone⟩
    obtain h | h := hidle
    · exact h hstate
    · rw [Option.isNone_iff_eq_none.mp hnone] at h
      cases h
  case request =>
    refine ⟨fun hheld => ⟨fun hgroup => ?_, fun hlane => ?_, fun x hx => ?_⟩, fun hnot => ?_⟩
    · exact congrArg Host.Outcome.next ((if_pos (.inl hgroup)).trans ((auditRequest_held hheld).trans (congrArg _ (if_pos hgroup))))
    · exact congrArg Host.Outcome.next ((if_pos (.inr hlane)).trans ((auditRequest_held hheld).trans (congrArg _ (if_neg (by omega)))))
    · rw [auditAsk_held hheld hx]
      exact ⟨fun hended => if_pos hended, fun hopen hnow => (if_neg (by simp [hopen])).trans (if_pos hnow),
        fun hopen hother => (if_neg (by simp [hopen])).trans (if_neg hother)⟩
    · by_cases hblock : b.val < 6 ∨ 12 ≤ b.val
      · have hfree : b.val ∉ s.audit.held := hnot.elim id fun h => by omega
        exact congrArg Host.Outcome.next ((if_pos hblock).trans (if_neg (by simpa using hfree)))
      · exact congrArg Host.Outcome.next (if_neg hblock)

/-! ## Levels and voltages -/

section
variable {o : LevelOp} {s : State}

theorem idleReady_iff (s : State) (gs : List Nat) : idleReady s gs = true ↔ ∀ g ∈ gs, rdBit s 0 F.CLK_READY_PLL_DSP (2 * g + idlePll s g) = true := by
  rw [idleReady, List.all_eq_true]

theorem not_idleReady_iff (s : State) (gs : List Nat) :
    idleReady s gs = false ↔ ∃ g ∈ gs, rdBit s 0 F.CLK_READY_PLL_DSP (2 * g + idlePll s g) = false := by
  rw [idleReady, List.all_eq_false]
  simp only [Bool.not_eq_true]

/-- A Siruigo port of a group that falls runs above the new ceiling. -/
theorem aboveCeiling_iff (s : State) (o : LevelOp) : (allPorts s).any (fun n => o.downs.contains (groupOf n) && sirAbove s o.level n) = true ↔
    ∃ n ∈ allPorts s, groupOf n ∈ o.downs ∧ sirAbove s o.level n = true := by simp

theorem levelRaiseSwitch_exec (ho : s.power.levelOp = some o) : exec .levelRaiseSwitch s =
    .next (if o.started = true ∧ o.raised = true ∧ o.raiseDone = false ∧ idleReady s o.ups = true then
      levelDone (modLevel (fun o => { o with raiseDone := true }) (forL o.ups (fun g s => opItem o.op 0 g o.level 0 s) (forL o.ups (levelSwitch o.level) s)))
    else s) := by
  refine congrArg Host.Outcome.next ?_
  rw [ho]
  simp only [Bool.and_eq_true, Bool.not_eq_true', and_assoc]
  rfl

theorem levelLowerSwitch_exec (ho : s.power.levelOp = some o) : exec .levelLowerSwitch s =
    .next (if o.started = true ∧ o.switched = false ∧ idleReady s o.downs = true ∧ ¬ (∃ n ∈ allPorts s, groupOf n ∈ o.downs ∧ sirAbove s o.level n = true) then
      levelVolts (opProgress o.op 2 2 50 (forL o.downs (fun g => setVolt g o.level)
        (modLevel (fun o => { o with switched := true }) (forL o.downs (fun g s => opItem o.op 0 g o.level 0 s) (forL o.downs (levelSwitch o.level) s)))))
    else s) := by
  refine congrArg Host.Outcome.next ?_
  rw [ho]
  simp only [Bool.and_eq_true, Bool.not_eq_true', and_assoc, ← Bool.not_eq_true, aboveCeiling_iff]
  rfl

theorem levelFail_exec (ho : s.power.levelOp = some o) : exec .levelFail s =
    .next (if o.started = true ∧ ((o.raiseDone = false ∧ idleReady s o.ups = false) ∨ (o.switched = false ∧ idleReady s o.downs = false)
      ∨ (o.raised = false ∧ coreWarn s = true)) then levelFail s else s) := by
  refine congrArg Host.Outcome.next ?_
  rw [ho]
  simp only [Bool.and_eq_true, Bool.or_eq_true, Bool.not_eq_true', or_assoc]

theorem levelFail_eq (ho : s.power.levelOp = some o) : levelFail s = levelOver .incomplete (evG F.PWR_EVENTS_LEVEL_FAIL (forL o.groups (fun x s =>
    if levelOf s x.1 = x.2 then setVolt x.1 x.2 s
    else setLevel x.1 x.2 (setDsp x.1 (dspUse (setVolt x.1 x.2 s) x.1) (x.2 + 1) (setVolt x.1 x.2 s))) s)) := by rw [levelFail, ho]

theorem levels_without_change (hnone : s.power.levelOp = none) :
    exec .levelRaiseSwitch s = .next s ∧ exec .levelLowerSwitch s = .next s ∧ exec .levelFail s = .next s := by
  refine ⟨congrArg Host.Outcome.next ?_, congrArg Host.Outcome.next ?_, congrArg Host.Outcome.next ?_⟩ <;> rw [hnone]

theorem avsReadback_exec {t old : Nat} (mv : BitVec 16) (alert : Bool) (hp : s.power.avsPending = some (t, old)) : exec (.avsReadback mv alert) s =
    .next (if alert = true then evG F.SUPPLY_EVENTS_AVS_ALERT s
      else if mv.toNat ≤ t + 10 ∧ t ≤ mv.toNat + 10 then levelVolts (modPower (fun p => { p with avsPending := none }) (wrG F.AVS_READ mv.toNat s))
      else wrG F.AVS_READ mv.toNat s) := by
  refine congrArg Host.Outcome.next ?_
  rw [hp]

theorem avsFail_exec {t old : Nat} (hp : s.power.avsPending = some (t, old)) : exec .avsFail s =
    .next (levelFail (evG F.SUPPLY_EVENTS_AVS_FAIL (wrG F.AVS_CTRL_TARGET old (modPower (fun p => { p with avsPending := none }) s)))) := by
  refine congrArg Host.Outcome.next ?_
  rw [hp]

theorem avs_without_write (mv : BitVec 16) (alert : Bool) (hnone : s.power.avsPending = none) :
    exec (.avsReadback mv alert) s = .next s ∧ exec .avsFail s = .next s := by
  refine ⟨congrArg Host.Outcome.next ?_, congrArg Host.Outcome.next ?_⟩ <;> rw [hnone]

end

/-- Settles O50: each event by its branches. -/
theorem levelsFollowTheirClocksAndVoltages : Obligations.LevelsFollowTheirClocksAndVoltages := by
  refine ⟨fun o s ho => ⟨fun hstarted hraised hopen hready => ?raise, fun hnot => ?noRaise, fun hstarted hopen hready hbelow => ?lower, fun hnot => ?noLower,
    fun hstarted hfails => ?fails, fun hnot => ?noFail⟩, fun s hnone => levels_without_change hnone, fun mv t old s hp => ⟨?alert, fun hlow hhigh => ?reached,
      fun hfar => ?far, avsFail_exec hp⟩, fun mv alert s hnone => avs_without_write mv alert hnone⟩
  case raise => exact (levelRaiseSwitch_exec ho).trans (congrArg _ (if_pos ⟨hstarted, hraised, hopen, (idleReady_iff s _).mpr hready⟩))
  case noRaise =>
    rw [← not_idleReady_iff] at hnot
    refine (levelRaiseSwitch_exec ho).trans (congrArg _ (if_neg ?_))
    rintro ⟨hstarted, hraised, hopen, hready⟩
    simp [hstarted, hraised, hopen, hready] at hnot
  case lower =>
    refine (levelLowerSwitch_exec ho).trans (congrArg _ (if_pos ⟨hstarted, hopen, (idleReady_iff s _).mpr hready, ?_⟩))
    rintro ⟨n, hn, hgroup, habove⟩
    simp [hbelow n hn hgroup] at habove
  case noLower =>
    rw [← not_idleReady_iff] at hnot
    refine (levelLowerSwitch_exec ho).trans (congrArg _ (if_neg ?_))
    rintro ⟨hstarted, hopen, hready, hbelow⟩
    simp only [hstarted, hopen, hready, Bool.true_eq_false, Bool.false_eq_true, false_or] at hnot
    exact hbelow hnot
  case fails =>
    rw [← not_idleReady_iff, ← not_idleReady_iff] at hfails
    rw [levelFail_exec ho, if_pos ⟨hstarted, hfails⟩, levelFail_eq ho]
  case noFail =>
    refine (levelFail_exec ho).trans (congrArg _ (if_neg fun h => ?_))
    rw [h.1] at hnot
    cases hnot
  case alert => exact (avsReadback_exec mv true hp).trans (congrArg _ (if_pos rfl))
  case reached => exact (avsReadback_exec mv false hp).trans (congrArg _ ((if_neg (by decide)).trans (if_pos ⟨hlow, hhigh⟩)))
  case far => exact (avsReadback_exec mv false hp).trans (congrArg _ ((if_neg (by decide)).trans (if_neg fun h => by omega)))

end Sys2Proof.Proofs
end

section
/-!
The wakes from Doze and Retain, and transfers that a stopping block cuts (R682 to R695).
-/
namespace Sys2Proof.Proofs
open Sys2Proof.Machine Sys2Proof.Claims

/-! ## What may wake the device from Retain (R688, R689) -/

section
variable {s : State}

theorem wakeSource_mdio (bus : Fin 2) (prtad : Fin 32) : wakeSource s (.mdio bus prtad) =
    if rdG s F.WAKE_CTRL_MDIO_WAKE = 1 then (mdioPort s bus.val prtad.val).map (fun n => (1, bus.val + 1, n)) else none := rfl

theorem wakeSource_energy (n : Port) : wakeSource s (.energy n) =
    if hasPort s n.val = true ∧ bitsOf (rdG s F.WAKE_ARM_LO + 2 ^ 32 * rdG s F.WAKE_ARM_HI) n.val n.val = 1 then some (2, 0, n.val) else none := by
  simp only [wakeSource, Bool.and_eq_true, beq_iff_eq]

theorem retainWake_unarmed {w : WakeSrc} (hw : wakeSource s w = none) : exec (.retainWake w) s = .next s := by
  refine congrArg Host.Outcome.next ?_
  rw [hw]

theorem retainWake_armed {w : WakeSrc} {src bus n : Nat} (hw : wakeSource s w = some (src, bus, n)) : exec (.retainWake w) s =
    .next (if s.stage = .stopped ∧ s.power.wakeStep = 0 then
        if src = 3 then setDropped (wakeBegin src bus n false s) else wakeBegin src bus n false s
      else if rdG s F.PWR_STATUS_STATE = 3 ∧ s.power.wakeLatch = none then
        wrG F.PWR_STATUS_WAKE_PENDING 1 (modPower (fun p => { p with wakeLatch := some (src, bus, n) }) s)
      else s) := by
  refine congrArg Host.Outcome.next ?_
  rw [hw]
  simp only [Bool.and_eq_true, beq_iff_eq, decide_eq_true_eq, Option.isNone_iff_eq_none]

/-! ## Transfers in flight (R694, R695) -/

theorem transferAbort_counted {ty : Fin 6} {count : Byte} {tgt : Nat} (hty : ty.val ≠ 0) (hcount : count ≠ 0) : exec (.transferAbort ty count tgt) s =
    .next (evG F.PWR_EVENTS_XFER_ABORT (countDev 0x3B count.toNat (journalEvent 0 0x21 ty.val count.toNat (xferLeft ty.val count.toNat tgt s)))) :=
  congrArg Host.Outcome.next (if_neg fun h => h.elim hty hcount)

theorem xferLeft_launch {k tgt : Nat} (htgt : tgt < 16384) : xferLeft 2 k tgt s =
    addCnt 0 F.XFER_ABORTS_LAUNCH k (modCtx tgt (fun x => { x with queue := x.queue.drop k, dropped := x.dropped + k }) s) := by
  rw [xferLeft, Nat.mod_eq_of_lt htgt]

theorem xferLeft_capture {k tgt : Nat} {r : DiagRun} (hr : s.diag.runs.find? (fun r => r.kind == 5 && r.begun && r.port == tgt) = some r) :
    xferLeft 3 k tgt s = addCnt 0 F.XFER_ABORTS_CAPTURE k (captureCut r.op s) := by
  rw [xferLeft, hr]
  rfl

/-- An aborted record of the host lanes is counted at its port: an HTX record's below 48, an HRX record's from 48 on. -/
theorem xferLeft_record {k tgt : Nat} : (tgt < 48 → xferLeft 5 k tgt s = addCnt 0 F.XFER_ABORTS_OTHER k (addCnt (portBase tgt) F.HL_HTX_DROP k s))
    ∧ (48 ≤ tgt → tgt < 96 → xferLeft 5 k tgt s = addCnt 0 F.XFER_ABORTS_OTHER k (addCnt (portBase (tgt - 48)) F.HL_HRX_DROP k s)) := by
  refine ⟨fun htx => congrArg (addCnt 0 F.XFER_ABORTS_OTHER k) (if_pos htx), fun hlow hhigh => ?_⟩
  have hport : tgt % 48 = tgt - 48 := by omega
  rw [← hport]
  exact congrArg (addCnt 0 F.XFER_ABORTS_OTHER k) (if_neg (Nat.not_lt.mpr hlow))

end

/-- Settles O52: each wake and each step of a wake by its branches; an aborted transfer by its type. -/
theorem wakesAndTransfersInFlight : Obligations.WakesAndTransfersInFlight := by
  refine ⟨fun s => ⟨fun hdoze => congrArg _ (if_pos hdoze), fun hentry => ?entry, fun hentry hdoze => congrArg _ ((if_neg hdoze).trans (if_neg hentry))⟩,
    fun w s => ⟨fun bus prtad hw => ?mdio, fun n hw => hw ▸ wakeSource_energy n, fun hw => hw ▸ rfl, fun hw => retainWake_unarmed hw, fun src bus n hw => ?armed⟩,
    fun s => ⟨fun hstep hclock hrails => ⟨_, _, rfl, rfl, congrArg _ (if_pos ⟨hstep, hclock, hrails⟩)⟩, fun hwait => ?waits, fun hstep => congrArg _ (if_pos hstep),
      fun hstep => congrArg _ (if_neg hstep)⟩, fun ty count tgt s => ⟨fun hty hcount => ⟨_, transferAbort_counted hty hcount, ?left⟩,
      fun hnone => congrArg _ (if_pos hnone)⟩⟩
  case entry => exact congrArg _ ((if_neg (by omega)).trans (if_pos hentry))
  case mdio =>
    rw [hw, wakeSource_mdio]
    refine ⟨fun hnot => ?_, fun n hen hn => by rw [if_pos hen, hn]; rfl⟩
    obtain hoff | hnone := hnot
    · rw [if_neg hoff]
    · rw [hnone, Option.map_none, ite_self]
  case armed =>
    have hexec := retainWake_armed hw
    refine ⟨fun hstage hstep => ⟨fun hcp => ?_, fun hother => ?_⟩, fun hrun => ⟨fun hentry hfirst => ?_, fun hnot => ?_⟩⟩
    · exact hexec.trans (congrArg _ ((if_pos ⟨hstage, hstep⟩).trans (if_pos hcp)))
    · exact hexec.trans (congrArg _ ((if_pos ⟨hstage, hstep⟩).trans (if_neg hother)))
    · exact hexec.trans (congrArg _ ((if_neg fun h => hrun.elim (· h.1) (· h.2)).trans (if_pos ⟨hentry, hfirst⟩)))
    · exact hexec.trans (congrArg _ ((if_neg fun h => hrun.elim (· h.1) (· h.2)).trans (if_neg fun h => hnot.elim (· h.1) (· h.2))))
  case waits =>
    refine congrArg Host.Outcome.next (if_neg ?_)
    rintro ⟨hstep, hclock, hrails⟩
    exact hwait.elim (· hstep) fun h => h.elim (· hclock) (· hrails)
  case left =>
    refine ⟨fun h => ?_, fun h htgt => ?_, fun h r hr => ?_, fun h => ?_, fun h htgt => ?_, fun h hlow hhigh => ?_⟩ <;> rw [h]
    · rfl
    · exact xferLeft_launch htgt
    · exact xferLeft_capture hr
    · rfl
    · exact xferLeft_record.1 htgt
    · exact xferLeft_record.2 hlow hhigh

end Sys2Proof.Proofs
end

section
/-!
Stripes, records, notices and PAUSE on the host lanes (R406 to R430).
-/
namespace Sys2Proof.Proofs
open Sys2Proof.Machine Sys2Proof.Claims

/-! ## Stripes sent (R408, R410, R412) -/

section
variable {g : Nat} {s : State}

theorem htxStripe_control (hactive : laneActive s g = true) (hnumber : (lane s g).stripe % 128 = 0) :
    htxStripe g s = modLane g (fun l => { l with htxOut := controlBody s g, stripe := (l.stripe + 1) % 512 }) (pmEv (12 + g) 1 PmAttr.none s) := by
  rw [htxStripe, if_pos hactive, if_pos hnumber]

/-- The records and bytes that the DATA stripes up to the next CONTROL stripe take. -/
def stripeFill (s : State) (g : Nat) : List Byte × Option Nat × List HostRec × Nat :=
  fillStripe s (992 * (128 - (lane s g).stripe % 128)) (lane s g).htxQueue (lane s g).htxBytes none 0

/-- The body of a DATA stripe: the bytes that wait, and fill. -/
def dataBody (bytes : List Byte) : List Byte := bytes.take 992 ++ List.replicate (992 - bytes.length) 0

theorem dataBody_length (bytes : List Byte) : (dataBody bytes).length = 992 := by
  rw [dataBody, List.length_append, List.length_take, List.length_replicate]
  omega

theorem htxStripe_data (hactive : laneActive s g = true) (hnumber : (lane s g).stripe % 128 ≠ 0) :
    htxStripe g s = pmEvN (12 + g) 3 PmAttr.none (stripeFill s g).2.2.2 (modLane g (fun l =>
      { l with htxOut := dataBody (stripeFill s g).1, htxQueue := (stripeFill s g).2.2.1, htxBytes := (stripeFill s g).1.drop 992, stripe := (l.stripe + 1) % 512 })
      (pmEv (12 + g) 1 PmAttr.none s)) := by
  rw [htxStripe, if_pos hactive, if_neg hnumber]
  rfl

theorem htxStripe_training (hactive : laneActive s g = false) (hlow : 2 ≤ laneStep s g) (hnot : laneStep s g ≠ 6) :
    htxStripe g s = modLane g (fun l => { l with htxOut := (List.range 8).flatMap (trainBody s g), stripe := (l.stripe + 1) % 512 }) s := by
  rw [htxStripe, if_neg (ne_true_of_eq_false hactive), if_pos ⟨hlow, hnot⟩]

theorem htxStripe_silent (hactive : laneActive s g = false) (hstep : laneStep s g < 2 ∨ laneStep s g = 6) : htxStripe g s = s := by
  rw [htxStripe, if_neg (ne_true_of_eq_false hactive), if_neg (by omega)]

end

/-! ## Stripes received (R413 to R416) -/

section
variable {g : Lane} {x : RxStripe} {s : State}

theorem hrxStripe_silent (hstep : laneStep s g.val < 2 ∨ laneStep s g.val = 6) : exec (.hrxStripe g x) s = .next s := congrArg Host.Outcome.next (if_pos hstep)

/-- The counts of a stripe with a bad header or a stuff violation. -/
def stripeCounted (g : Nat) (x : RxStripe) (s : State) : State :=
  let t := if x.hecFail then pmEv (12 + g) 5 PmAttr.none (countDev 0x1C 1 (addCnt (laneBase g) F.HL_HEC_ERR 1 s)) else s
  if x.stuffErr then pmEv (12 + g) 6 PmAttr.none (countDev 0x1D 1 (addCnt (laneBase g) F.HL_STUFF_ERR 1 t)) else t

theorem hrxStripe_bad (hlow : 2 ≤ laneStep s g.val) (hnot : laneStep s g.val ≠ 6) (hbad : x.good = false ∨ x.hecFail = true ∨ x.stuffErr = true) :
    exec (.hrxStripe g x) s = .next (stripeDrop g.val (stripeCounted g.val x s)) := by
  refine congrArg Host.Outcome.next ((if_neg (by omega)).trans (if_pos ?_))
  obtain h | h | h := hbad <;> simp [h]

theorem hrxStripe_good (hlow : 2 ≤ laneStep s g.val) (hnot : laneStep s g.val ≠ 6) (hgood : x.good = true) (hhec : x.hecFail = false)
    (hstuff : x.stuffErr = false) : exec (.hrxStripe g x) s = .next (if x.type.val ≠ 0 ∨ (∀ b ∈ x.body, b = 0) ∨ laneActive s g.val = false then s
      else if (lane s g.val).elastic + 992 > 32768 then evL g.val F.HL_EVENTS_ELASTIC (stripeDrop g.val s)
      else modLane g.val (fun l => { l with elastic := l.elastic + 992 }) s) := by
  refine congrArg Host.Outcome.next ((if_neg (by omega)).trans ?_)
  rw [hgood, hhec, hstuff]
  refine (if_neg (by decide)).trans ?_
  simp only [whenB, Bool.false_eq_true, if_false, List.all_eq_true, beq_iff_eq]

end

/-! ## Records received (R417 to R421) -/

section
variable {g : Lane} {sb : BitVec 64} {frame : List Byte} {cut : Bool} {s : State}

/-- A record's sideband word is bad, or the record is cut (R418). -/
def recordBad (w : Nat) (frame : List Byte) (cut : Bool) : Prop :=
  crc8 (natBE 7 (w / 256)) ≠ w % 256 ∨ (bitsOf w 59 46 ≠ 0 ∧ (bitsOf w 59 46 < 64 ∨ 10240 < bitsOf w 59 46)) ∨ 12 ≤ bitsOf w 63 60 ∨ cut = true
    ∨ frame.length ≠ bitsOf w 59 46

/-- A lane group's state after a record has left its elastic buffer. -/
def recordTaken (g : Nat) (frame : List Byte) (s : State) : State := modLane g (fun l => { l with elastic := l.elastic - (8 + frame.length) }) s

theorem hrxRecord_audited (hheld : 12 + g.val ∈ s.audit.held) : exec (.hrxRecord g sb frame cut) s = .next (auditRequest (12 + g.val) s) :=
  congrArg Host.Outcome.next (if_pos (by simpa using hheld))

theorem hrxRecord_silent (hfree : 12 + g.val ∉ s.audit.held) (hactive : laneActive s g.val = false) : exec (.hrxRecord g sb frame cut) s = .next s :=
  congrArg Host.Outcome.next ((if_neg (by simpa using hfree)).trans (if_pos hactive))

/-- A record of a group in service: fill and an empty record carry nothing, a bad one is counted, and a frame goes on. -/
theorem hrxRecord_active (hfree : 12 + g.val ∉ s.audit.held) (hactive : laneActive s g.val = true) :
    let w := sb.toNat
    let t := recordTaken g.val frame s
    (w = 0 → exec (.hrxRecord g sb frame cut) s = .next t)
    ∧ (w ≠ 0 → recordBad w frame cut → exec (.hrxRecord g sb frame cut) s = .next (countDev 0x1E 1 (addCnt (laneBase g) F.HL_SB_ERR 1 t)))
    ∧ (w ≠ 0 → ¬ recordBad w frame cut → bitsOf w 59 46 = 0 → exec (.hrxRecord g sb frame cut) s = .next t)
    ∧ (w ≠ 0 → ¬ recordBad w frame cut → bitsOf w 59 46 ≠ 0 →
      exec (.hrxRecord g sb frame cut) s = .next (hrxFrame (12 * g.val + bitsOf w 63 60) w frame t)) := by
  intro w t
  have hgo {a : State} {b : State} (h : b = a) : (if s.audit.held.contains (12 + g.val) then auditRequest (12 + g.val) s
      else if laneActive s g.val = false then s else b) = a := by
    rw [if_neg (by simpa using hfree), if_neg (by simp [hactive]), h]
  exact ⟨fun hfill => congrArg Host.Outcome.next (hgo (if_pos hfill)),
    fun hw hbad => congrArg Host.Outcome.next (hgo ((if_neg hw).trans (if_pos hbad))),
    fun hw hgood hempty => congrArg Host.Outcome.next (hgo ((if_neg hw).trans ((if_neg hgood).trans (if_pos hempty)))),
    fun hw hgood hlen => congrArg Host.Outcome.next (hgo ((if_neg hw).trans ((if_neg hgood).trans (if_neg hlen))))⟩

end

/-- The frame of a record and the attributes that its sideband word gives. -/
def recordFrame (w : Nat) (f : List Byte) : Frame := ⟨f, bitsOf w 30 28, 0, 0, bitsOf w 27 27 == 1, bitsOf w 26 26 == 1, none⟩

theorem hrxFrame_eq (n w : Nat) (f : List Byte) (s : State) :
    hrxFrame n w f s = if fcsOk f = false ∨ linkUp s n = false ∨ (bitsOf w 31 31 ≠ 1 ∧ 40960 < (hostPort s n).hold + f.length) then
        addCnt (portBase n) F.HL_HRX_DROP 1 s
      else if bitsOf w 31 31 = 1 then
        toContext n (bitsOf w 45 32) (recordFrame w f) (pmEv (12 + laneOf n) 4 { PmAttr.none with port := some n, cls := some (recordFrame w f).cls } (countDev 0x1A 1 s))
      else lineOut n (recordFrame w f) (pmEv (12 + laneOf n) 4 { PmAttr.none with port := some n, cls := some (recordFrame w f).cls } (countDev 0x1A 1 s)) := by
  rw [hrxFrame]
  simp only [Bool.or_eq_true, Bool.not_eq_true', Bool.and_eq_true, decide_eq_true_eq, beq_iff_eq, beq_eq_false_iff_ne, or_assoc, gt_iff_lt]
  rfl

/-- Settles O53: each stripe, record and event by its branches. -/
theorem stripesAndRecordsCrossTheHostLanes : Obligations.StripesAndRecordsCrossTheHostLanes := by
  refine ⟨fun g s => ⟨fun hactive => ⟨fun hnumber => congrArg _ (htxStripe_control hactive hnumber), fun hnumber => ?data⟩,
      fun hactive hlow hnot => congrArg _ (htxStripe_training hactive hlow hnot), fun hactive hstep => congrArg _ (htxStripe_silent hactive hstep)⟩,
    fun g x s => ⟨fun hstep => hrxStripe_silent hstep, fun hlow hnot => ⟨fun hgood hhec hstuff => ?good, fun hbad hhec hstuff => ?lacking, fun t ht => ?bad⟩⟩,
    fun g body s => ⟨fun hactive => congrArg _ (if_pos hactive), fun hactive => ⟨fun hbad => ?badControl, fun hlen hcrc => ⟨_, rfl, ?control⟩⟩⟩,
    fun g sb frame cut s => ?record, fun n s => ⟨fun hxoff hnotices hactive => ?pause, fun hnot => ?noPause, fun hpending hold => congrArg _ (if_pos ⟨hpending, hold⟩),
      fun hnot => congrArg _ (if_neg fun h => by omega), fun frame sec ns eighth => ⟨fun hst hup => congrArg _ (if_pos ⟨hst, hup⟩), fun hnot => ?noLine⟩⟩⟩
  case data =>
    exact ⟨(stripeFill s g.val).1, (stripeFill s g.val).2.1, (stripeFill s g.val).2.2.1, (stripeFill s g.val).2.2.2, dataBody (stripeFill s g.val).1, rfl,
      dataBody_length _, rfl, congrArg _ (htxStripe_data hactive hnumber)⟩
  case good =>
    have hexec := hrxStripe_good hlow hnot hgood hhec hstuff
    refine ⟨fun htype hbody hactive => ?_, fun hcontrol => hexec.trans (congrArg _ (if_pos hcontrol))⟩
    have hgo : ¬ (x.type.val ≠ 0 ∨ (∀ b ∈ x.body, b = 0) ∨ laneActive s g.val = false) := by
      rintro (h | h | h)
      · exact h htype
      · obtain ⟨b, hb, hne⟩ := hbody
        exact hne (h b hb)
      · exact ne_true_of_eq_false h hactive
    exact ⟨fun hroom => hexec.trans (congrArg _ ((if_neg hgo).trans (if_neg (Nat.not_lt.mpr hroom)))),
      fun hfull => hexec.trans (congrArg _ ((if_neg hgo).trans (if_pos hfull)))⟩
  case lacking =>
    have hcounted : stripeCounted g.val x s = s := by simp [stripeCounted, hhec, hstuff]
    exact (hrxStripe_bad hlow hnot (.inl hbad)).trans (congrArg _ (congrArg _ hcounted))
  case bad =>
    refine ⟨fun hhec hstuff => ?_, fun hhec hstuff => ?_, fun hhec hstuff => ?_⟩
    · exact (hrxStripe_bad hlow hnot (.inr (.inl hhec))).trans (congrArg _ (congrArg _ (by simp [stripeCounted, hhec, hstuff, ht])))
    · exact (hrxStripe_bad hlow hnot (.inr (.inr hstuff))).trans (congrArg _ (congrArg _ (by simp [stripeCounted, hhec, hstuff])))
    · exact (hrxStripe_bad hlow hnot (.inr (.inl hhec))).trans (congrArg _ (congrArg _ (by simp [stripeCounted, hhec, hstuff, ht])))
  case badControl => exact congrArg Host.Outcome.next ((if_neg (by simp [hactive])).trans (if_pos hbad))
  case control => exact congrArg Host.Outcome.next ((if_neg (by simp [hactive])).trans (if_neg (by simp [hlen, hcrc])))
  case record =>
    intro w len bad t
    refine ⟨fun hheld => hrxRecord_audited hheld, fun hfree => ⟨fun hactive => hrxRecord_silent hfree hactive, fun hactive => ?_⟩⟩
    obtain ⟨hfill, hbad, hempty, hframe⟩ := hrxRecord_active (sb := sb) (frame := frame) (cut := cut) hfree hactive
    refine ⟨hfill, hbad, hempty, fun hw hgood hlen => ?_⟩
    have heq := hrxFrame_eq (12 * g.val + bitsOf w 63 60) w frame t
    intro n x drop u
    refine ⟨fun hdrop => ?_, fun hkeep hctx => ?_, fun hkeep hline => ?_⟩
    · exact (hframe hw hgood hlen).trans (congrArg _ (heq.trans (if_pos hdrop)))
    · exact (hframe hw hgood hlen).trans (congrArg _ (heq.trans ((if_neg hkeep).trans (if_pos hctx))))
    · exact (hframe hw hgood hlen).trans (congrArg _ (heq.trans ((if_neg hkeep).trans (if_neg hline))))
  case pause => exact congrArg Host.Outcome.next (if_pos (by simp [hxoff, hnotices, hactive]))
  case noPause =>
    refine congrArg Host.Outcome.next (if_neg ?_)
    obtain h | h | h := hnot <;> simp [h]
  case noLine => exact congrArg Host.Outcome.next (if_neg fun h => hnot.elim (· h.1) fun hdown => ne_true_of_eq_false hdown h.2)

end Sys2Proof.Proofs
end

section
/-!
Lane training, loss of lock and LANE_TEST (R407 to R449).
-/
namespace Sys2Proof.Proofs
open Sys2Proof.Machine Sys2Proof.Claims

theorem bitsOf_zero_zero (v : Nat) : bitsOf v 0 0 = v % 2 := by simp [bitsOf]

/-! ## TRAIN messages (R432 to R440) -/

/-- A TRAIN message that a group takes. -/
def trainGood (s : State) (g : Nat) (b : List Byte) : Prop :=
  laneFree s g = true ∧ b.length = 124 ∧ beAt b 120 4 = crc32c (b.take 120) ∧ byteAt b 0 = 1

section
variable {g : Lane} {b : List Byte} {codes : Option (List (Fin 16))} {s : State}

theorem trainFrame_exec : (¬ trainGood s g.val b → exec (.trainFrame g b codes) s = .next s)
    ∧ (trainGood s g.val b → exec (.trainFrame g b codes) s = .next (trainFrame g.val b codes s)) := by
  have hgood : (laneFree s g.val && b.length == 124 && beAt b 120 4 == crc32c (b.take 120) && byteAt b 0 == 1) = true ↔ trainGood s g.val b := by
    simp only [trainGood, Bool.and_eq_true, beq_iff_eq, and_assoc]
  exact ⟨fun h => congrArg Host.Outcome.next (if_neg (mt hgood.mp h)), fun h => congrArg Host.Outcome.next (if_pos (hgood.mpr h))⟩

end

section
variable {g : Nat} {b : List Byte} {s : State}

/-- Step 2: lock on every lane with allowed CTLE codes leads to step 3. -/
theorem trainFrame_locks {cs : List (Fin 16)} (hstep : laneStep s g = 2) (hlen : cs.length = 8)
    (hallowed : ctleMode s g ≠ 1 ∨ (lane s g).entry.isSome = true) (hidle : (lane s g).calIdle = false) :
    trainFrame g b (some cs) s = laneMoved g (wrL g F.HL_STATUS_STATE 3 (wrL g F.HL_STATUS_LOCKED 0xFF
      (wrL g F.HL_CTLE_HI (ctleCodes s g (cs.map (·.val))).2 (wrL g F.HL_CTLE_LO (ctleCodes s g (cs.map (·.val))).1 s)))) := by
  have hmay : ((ctleMode s g != 1 || (lane s g).entry.isSome) && !(lane s g).calIdle && cs.length == 8) = true := by
    obtain h | h := hallowed <;> simp [h, hidle, hlen]
  simp only [trainFrame, hstep]
  exact if_pos hmay

theorem trainFrame_unlocked {codes : Option (List (Fin 16))} (hstep : laneStep s g = 2)
    (hnot : codes = none ∨ (ctleMode s g = 1 ∧ (lane s g).entry = none) ∨ (lane s g).calIdle = true) : trainFrame g b codes s = s := by
  simp only [trainFrame, hstep]
  cases codes with
  | none => rfl
  | some cs =>
    refine if_neg ?_
    obtain h | ⟨hmode, hentry⟩ | h := hnot
    · cases h
    · simp [hmode, hentry]
    · simp [h]

/-- The number of messages in a row in which both ends show every lane locked. -/
def agreeRun (s : State) (g : Nat) (b : List Byte) : Nat :=
  if rdL s g F.HL_STATUS_LOCKED = 0xFF ∧ byteAt b 5 = 0xFF ∧ byteAt b 3 = 1 then (lane s g).agree + 1 else 0

/-- A group in step 3 after a message of the common version. -/
def agreeShown (g : Nat) (b : List Byte) (s : State) : State :=
  modLane g (fun l => { l with agree := agreeRun s g b, noticeCap := byteAt b 4 % 2 == 1 })
    (wrL g F.HL_STATUS_PEER_NOTICE (byteAt b 4 % 2) (wrL g F.HL_STATUS_VERSION 1 s))

theorem trainFrame_version {codes : Option (List (Fin 16))} (hstep : laneStep s g = 3) (hnone : byteAt b 2 % 2 = 0) :
    trainFrame g b codes s = trainFails g (modLane g (fun l => { l with versionFail := true }) s) := by
  simp only [trainFrame, hstep]
  exact if_pos (by simp [bitsOf_zero_zero, hnone])

theorem trainFrame_agrees {codes : Option (List (Fin 16))} (hstep : laneStep s g = 3) (hcommon : byteAt b 2 % 2 = 1) :
    trainFrame g b codes s = if 4 ≤ agreeRun s g b then
      laneMoved g (wrL g F.HL_STATUS_STATE 4 (modLane g (fun l => { l with sentStage := 5 }) (agreeShown g b s))) else agreeShown g b s := by
  simp only [trainFrame, hstep]
  exact if_neg (by simp [bitsOf_zero_zero, hcommon])

theorem trainFrame_last {codes : Option (List (Fin 16))} (hstep : laneStep s g = 4) :
    trainFrame g b codes s = if byteAt b 1 = 5 then laneEnter g s else s := by simp only [trainFrame, hstep]

theorem trainFrame_elsewhere {codes : Option (List (Fin 16))} (hstep : laneStep s g < 2 ∨ 4 < laneStep s g) : trainFrame g b codes s = s := by
  rw [trainFrame]
  dsimp only
  split
  · omega
  · omega
  · omega
  · rfl

end

/-! ## LANE_TEST (R446 to R449) -/

section
variable {g : Lane} {t : LaneTest} {s : State}

theorem prbsSync_exec {l : Fin 8} (ht : (lane s g.val).test = some t) :
    let y := t.synced + 2 ^ l.val
    let u := modLane g.val (fun x => { x with test := some { t with synced := y } }) s
    exec (.prbsSync g l) s = .next (if t.dir < 2 ∨ bitsOf t.lanes l.val l.val = 0 ∨ bitsOf t.synced l.val l.val = 1 then s
      else if y = t.lanes then opProgress t.op 2 3 33 (opItem t.op 0 g.val y 0 u) else u) := by
  refine congrArg Host.Outcome.next ?_
  rw [ht]

theorem errorInjection_exec (ht : (lane s g.val).test = some t) : exec (.errorInjection g) s =
    .next (if t.inject = 0 ∨ (t.period = 0 ∧ t.injected ≠ 0) then s
      else modLane g.val (fun x => { x with test := some { t with injected := t.injected + 1 } }) s) := by
  refine congrArg Host.Outcome.next ?_
  rw [ht]

/-- The state at the end of a test: its error counts shown, and the group free of it. -/
def testCleared (g : Nat) (t : LaneTest) (errs : List Nat) (s : State) : State :=
  modLane g (fun x => { x with test := none }) (forL (maskBits t.lanes).zipIdx (fun e s =>
    if 2 ≤ t.dir then wrReg (laneBase g + 0x11440 + 4 * (e.1 % 8)) (BitVec.ofNat 32 (min 65535 (errs.getD e.2 0))) s else s) s)

/-- After the test of a pattern the group trains again under AUTO_TRAIN, and is off otherwise. -/
def testLeft (g : Nat) (t : LaneTest) (errs : List Nat) (s : State) : State :=
  if t.pattern = 0 then testCleared g t errs s
  else if rdL s g F.HL_CTRL_AUTO_TRAIN = 1 then laneGo g 2 (testCleared g t errs s) else laneSet g 0 (testCleared g t errs s)

theorem laneTestEnd_exec {bits errs : List Nat} (ht : (lane s g.val).test = some t) : exec (.laneTestEnd g bits errs) s =
    .next (if abortAsked s t.op = true then endOp t.op .aborted (testData t bits errs) (testLeft g.val t errs s)
      else endOp t.op .ok (testData t bits errs) (opProgress t.op 3 3 99 (testLeft g.val t errs s))) := by
  refine congrArg Host.Outcome.next ?_
  rw [ht]
  rfl

theorem tests_without_test (hnone : (lane s g.val).test = none) : (∀ l, exec (.prbsSync g l) s = .next s) ∧ exec (.errorInjection g) s = .next s
    ∧ ∀ bits errs, exec (.laneTestEnd g bits errs) s = .next s := by
  refine ⟨fun l => congrArg Host.Outcome.next ?_, congrArg Host.Outcome.next ?_, fun bits errs => congrArg Host.Outcome.next ?_⟩ <;> rw [hnone]

end

/-- A group in service that loses lock on a lane trains again under AUTO_TRAIN, and has failed otherwise. -/
theorem laneLockLost_active {g : Lane} {l : Fin 8} {s : State} (hactive : laneActive s g.val = true) : exec (.laneLockLost g l) s =
    .next (if rdL s g.val F.HL_CTRL_AUTO_TRAIN = 1 then laneGo g.val 2 (evL g.val F.HL_EVENTS_LOCK_LOST s)
      else laneSet g.val 7 (evL g.val F.HL_EVENTS_LOCK_LOST s)) := congrArg Host.Outcome.next (if_pos hactive)

/-- Settles O54: each event by the group's step, each event of a test by its branches. -/
theorem laneGroupsTrainAndAreTested : Obligations.LaneGroupsTrainAndAreTested := by
  refine ⟨fun g l s => ⟨fun hactive => ⟨evL g.val F.HL_EVENTS_LOCK_LOST s, rfl, fun hauto => ?again, fun hmanual => ?stops⟩,
      fun hactive hlow hhigh => ?unlocks, fun hactive hstep => ?quiet,
      fun hstep => congrArg _ (if_pos hstep), fun hstep => congrArg _ (if_neg hstep), fun hlow hhigh => congrArg _ (if_pos ⟨hlow, hhigh⟩),
      fun hstep => congrArg Host.Outcome.next (if_neg fun h => by omega), fun hstep hauto => ⟨fun hclock => ?seen, fun hclock => ?unseen⟩,
      fun hnot => congrArg Host.Outcome.next (if_neg fun h => hnot.elim (· h.1) (· h.2))⟩,
    fun g b codes s => ?train, fun g t s ht => ?test, fun g s hnone => tests_without_test hnone⟩
  case again => exact (laneLockLost_active hactive).trans (congrArg _ (if_pos hauto))
  case stops => exact (laneLockLost_active hactive).trans (congrArg _ (if_neg hmanual))
  case unlocks => exact congrArg _ ((if_neg (ne_true_of_eq_false hactive)).trans (if_pos ⟨hlow, hhigh⟩))
  case quiet => exact congrArg Host.Outcome.next ((if_neg (ne_true_of_eq_false hactive)).trans (if_neg fun h => by omega))
  case seen => exact congrArg _ ((if_pos ⟨hstep, hauto⟩).trans (congrArg (fun k => laneGo g.val k s) (if_pos hclock)))
  case unseen => exact congrArg _ ((if_pos ⟨hstep, hauto⟩).trans (congrArg (fun k => laneGo g.val k s) (if_neg (ne_true_of_eq_false hclock))))
  case train =>
    intro good
    refine ⟨fun hbad => trainFrame_exec.1 hbad, fun hgood => ?_⟩
    have hexec : exec (.trainFrame g b codes) s = .next (trainFrame g.val b codes s) := trainFrame_exec.2 hgood
    refine ⟨fun hstep => ⟨fun cs hcs hlen hallowed hidle => ⟨_, _, rfl, ?_⟩, fun hnot => hexec.trans (congrArg _ (trainFrame_unlocked hstep hnot))⟩,
      fun hstep hnone => hexec.trans (congrArg _ (trainFrame_version hstep hnone)),
      fun hstep hcommon => ⟨_, agreeRun s g.val b, agreeShown g.val b s, rfl, rfl, rfl, fun hfour => ?_, fun hfew => ?_⟩,
      fun hstep => ⟨fun hlast => ?_, fun hother => ?_⟩, fun hstep => hexec.trans (congrArg _ (trainFrame_elsewhere hstep))⟩
    · subst hcs
      exact hexec.trans (congrArg _ (trainFrame_locks hstep hlen hallowed hidle))
    · exact hexec.trans (congrArg _ ((trainFrame_agrees hstep hcommon).trans (if_pos hfour)))
    · exact hexec.trans (congrArg _ ((trainFrame_agrees hstep hcommon).trans (if_neg (Nat.not_le.mpr hfew))))
    · exact hexec.trans (congrArg _ ((trainFrame_last hstep).trans (if_pos hlast)))
    · exact hexec.trans (congrArg _ ((trainFrame_last hstep).trans (if_neg hother)))
  case test =>
    refine ⟨fun l => ⟨fun hdir hlane hfirst => ⟨_, _, rfl, rfl, fun hall => ?_, fun hmore => ?_⟩, fun hnot => (prbsSync_exec ht).trans (congrArg _ (if_pos hnot))⟩,
      fun hinject honce => (errorInjection_exec ht).trans (congrArg _ (if_neg ?_)), fun hnot => (errorInjection_exec ht).trans (congrArg _ (if_pos hnot)),
      fun bits errs => ⟨testCleared g.val t errs s, rfl, testLeft g.val t errs s, fun hnone => if_pos hnone, fun hpattern hauto => ?_, fun hpattern hmanual => ?_,
        fun hasked => (laneTestEnd_exec ht).trans (congrArg _ (if_pos hasked)), fun hnot => (laneTestEnd_exec ht).trans (congrArg _ (if_neg (ne_true_of_eq_false hnot)))⟩⟩
    · exact (prbsSync_exec ht).trans (congrArg _ ((if_neg (by omega)).trans (if_pos hall)))
    · exact (prbsSync_exec ht).trans (congrArg _ ((if_neg (by omega)).trans (if_neg hmore)))
    · rintro (h | ⟨hperiod, hinjected⟩)
      · exact hinject h
      · exact honce.elim (· hperiod) hinjected
    · exact (if_neg hpattern).trans (if_pos hauto)
    · exact (if_neg hpattern).trans (if_neg hmanual)

end Sys2Proof.Proofs
end

section
/-!
O55: the counter starts that have come, the sampler's record, the highest of the sensors' readings and the ticks that pass (R754 to R768, R794).
-/
namespace Sys2Proof.Proofs
open Sys2Proof.Machine Sys2Proof.Claims

/-- Two signed readings compared: the fold of TEMP_NOW_UPDATE keeps the higher one. -/
def hotter (m x : BitVec 16) : BitVec 16 := if m.toInt < x.toInt then x else m

theorem hotter_bounds (m x : BitVec 16) : m.toInt ≤ (hotter m x).toInt ∧ x.toInt ≤ (hotter m x).toInt := by
  unfold hotter
  split <;> omega

theorem hotter_mem (m x : BitVec 16) : hotter m x = m ∨ hotter m x = x := (ite_eq_or_eq _ _ _).symm

/-- The fold over the readings is one of them, and no reading is higher. -/
theorem foldl_hotter_max (rs : List (BitVec 16)) (r : BitVec 16) :
    rs.foldl hotter r ∈ r :: rs ∧ ∀ x ∈ r :: rs, x.toInt ≤ (rs.foldl hotter r).toInt := by
  induction rs generalizing r with
  | nil => simp
  | cons y ys ih =>
    obtain ⟨hmem, hmax⟩ := ih (hotter r y)
    obtain ⟨hr, hy⟩ := hotter_bounds r y
    have hfold : (hotter r y).toInt ≤ ((y :: ys).foldl hotter r).toInt := hmax _ List.mem_cons_self
    constructor
    · rcases List.mem_cons.mp hmem with hfirst | hlater
      · rw [List.foldl_cons, hfirst]
        rcases hotter_mem r y with h | h <;> simp [h]
      · exact List.mem_cons_of_mem _ (List.mem_cons_of_mem _ hlater)
    · intro x hx
      rcases List.mem_cons.mp hx with rfl | hx
      · exact hr.trans hfold
      · rcases List.mem_cons.mp hx with rfl | hx
        · exact hy.trans hfold
        · exact hmax x (List.mem_cons_of_mem _ hx)

theorem tempNow_reads_back (m : BitVec 16) (s : State) : rdG (wrG F.TEMP_NOW m.toNat s) F.TEMP_NOW = m.toNat := rdG_wrG_self (by decide) m.isLt

theorem length_samplerRecord (i : Nat) (it : SampItem) : (samplerRecord i it).length = 32 := by
  simp only [samplerRecord, List.length_append, length_natBE]

/-- The item counted on its port, modulo the sampler's rate. -/
def sampleSeen (it : SampItem) (s : State) : State :=
  let x := s.perf.sampler
  let n := it.port.val
  modPerf (fun p => { p with sampler := { p.sampler with seen := SMap.set p.sampler.seen 0 n ((SMap.get x.seen 0 n + 1) % 2 ^ x.rate) } }) s

/-- SAMPLER_RECORD by its branches: an item that does not count, one between two records, one recorded, and one that finds the store full. -/
theorem samplerRecord_exec (it : SampItem) (s : State) (t : State) (ht : t = sampleSeen it s) :
    exec (.samplerRecord it) s = .next (
      if (rdG s F.SMP_STATUS_RUNNING = 1 ∨ rdG s F.SMP_STATUS_FULL = 1) ∧ clkRun s 0x11 = true ∧ samplerTakes s.perf.sampler it = true then
        if SMap.get s.perf.sampler.seen 0 it.port.val ≠ 0 then t
        else if rdG s F.SMP_STATUS_RUNNING = 1 then samplerWrite it t else countDev 0x37 1 t
      else s) := by
  subst ht
  refine congrArg Host.Outcome.next ?_
  simp only [Bool.and_eq_true, Bool.or_eq_true, beq_iff_eq, and_assoc]
  rfl

theorem samplerWrite_of_full (it : SampItem) (s : State)
    (h : s.perf.sampler.stopFull = true ∧ (rdG s F.SMP_NEXT + 1 + 2 ^ 32 - rdG s F.SMP_READ) % 2 ^ 32 = 32768) :
    samplerWrite it s = wrG F.SMP_STATUS_FULL 1 (wrG F.SMP_STATUS_RUNNING 0 (countDev 0x36 1 (wrG F.SMP_NEXT ((rdG s F.SMP_NEXT + 1) % 2 ^ 32)
      (writeMem (0x44000000 + 32 * (rdG s F.SMP_NEXT % 32768)) (samplerRecord (rdG s F.SMP_NEXT) it) s)))) :=
  if_pos (by simpa only [Bool.and_eq_true, beq_iff_eq] using h)

theorem samplerWrite_of_room (it : SampItem) (s : State)
    (h : ¬ (s.perf.sampler.stopFull = true ∧ (rdG s F.SMP_NEXT + 1 + 2 ^ 32 - rdG s F.SMP_READ) % 2 ^ 32 = 32768)) :
    samplerWrite it s = countDev 0x36 1 (wrG F.SMP_NEXT ((rdG s F.SMP_NEXT + 1) % 2 ^ 32)
      (writeMem (0x44000000 + 32 * (rdG s F.SMP_NEXT % 32768)) (samplerRecord (rdG s F.SMP_NEXT) it) s)) :=
  if_neg (by simpa only [Bool.and_eq_true, beq_iff_eq] using h)

/-- Settles O55: the starts that have come, the sampler by its branches, the fold over the readings, and the ticks. -/
theorem monitorsSampleAndRecord : Obligations.MonitorsSampleAndRecord := by
  refine ⟨fun s => ⟨s.perf.starts.filter (fun x => decide (totalNs x.sec x.ns ≤ nowTotal s)), fun x => by simp, rfl⟩, ?sampler,
    fun s => ⟨rfl, fun rs hsome => ?highest⟩, fun ticks s => ⟨_, _, _, _, ⟨rfl, rfl, rfl, rfl⟩, fun hrun => ?ticks, fun hretain => ?retained⟩⟩
  case sampler =>
    intro it s x n k t i r u
    have hexec := samplerRecord_exec it s t rfl
    refine ⟨length_samplerRecord _ _, fun hclock htakes => ⟨fun hrun => ⟨fun hbetween => ?_, fun hturn => ⟨fun hfull => ?_, fun hroom => ?_⟩⟩,
      fun hstop hfull => ⟨fun hbetween => ?_, fun hturn => ?_⟩⟩, fun hnot => hexec.trans (congrArg _ (if_neg ?_))⟩
    · exact hexec.trans (congrArg _ ((if_pos ⟨.inl hrun, hclock, htakes⟩).trans (if_pos hbetween)))
    · exact hexec.trans (congrArg _ ((if_pos ⟨.inl hrun, hclock, htakes⟩).trans ((if_neg (not_not.mpr hturn)).trans
        ((if_pos hrun).trans (samplerWrite_of_full it t hfull)))))
    · exact hexec.trans (congrArg _ ((if_pos ⟨.inl hrun, hclock, htakes⟩).trans ((if_neg (not_not.mpr hturn)).trans
        ((if_pos hrun).trans (samplerWrite_of_room it t hroom)))))
    · exact hexec.trans (congrArg _ ((if_pos ⟨.inr hfull, hclock, htakes⟩).trans (if_pos hbetween)))
    · exact hexec.trans (congrArg _ ((if_pos ⟨.inr hfull, hclock, htakes⟩).trans ((if_neg (not_not.mpr hturn)).trans (if_neg hstop))))
    · rintro ⟨hsampling, hclock, htakes⟩
      rcases hnot with ⟨hstop, hroom⟩ | hstopped | hother
      · exact hsampling.elim hstop hroom
      · exact ne_true_of_eq_false hstopped hclock
      · exact ne_true_of_eq_false hother htakes
  case highest =>
    cases rs with
    | nil => exact absurd rfl hsome
    | cons r rs =>
      obtain ⟨hmem, hmax⟩ := foldl_hotter_max rs r
      exact ⟨rs.foldl hotter r, hmem, hmax, rfl, tempNow_reads_back _ s⟩
  case ticks =>
    refine (congrArg Host.Outcome.next (if_neg (ne_true_of_eq_false hrun))).trans ?_
    by_cases hstretch : rdG s F.SUPPLY_STATUS_STRETCH = 1 <;> by_cases hdoze : rdG s F.PWR_STATUS_STATE = 2 <;> simp [hstretch, hdoze]
  case retained => exact congrArg Host.Outcome.next (if_pos hretain)

end Sys2Proof.Proofs
end

section
/-!
O26: the plans of the commands of the Bank (R274, R275, R292 to R294), of cable diagnostics (R361 to R366, R392) and of calibration (R715, R716,
R730 to R732), where nothing stands in their way.
-/
namespace Sys2Proof.Proofs
open Sys2Proof.Machine Sys2Proof.Claims

section
variable {c : Packet} {role : Option Role} {s : State} {t : Nat}

/-! ## The Bank -/

theorem bankPolicyPlan_of_ok (hlen : plen c = 14) (hflags : pb c 0 < 32) (hbase : 8 ≤ pb c 1 ∧ pb c 1 ≤ 28) (hmax : pb c 1 ≤ pb c 2 ∧ pb c 2 ≤ 64)
    (hhyst : pb c 3 ≤ 20) (hstage : 2048 ≤ pf c 4 2 ∧ pf c 4 2 ≤ 32768) (hhold : 1 ≤ pf c 6 2 ∧ pf c 6 2 ≤ 3600)
    (hmask : maskBeyond s (pf c 8 6) = false) (hup : Up s 8) :
    bankPolicyPlan c role s = Plan.done .ok (natBE 5 (nextWindow s)) (modCh (fun ch =>
      { ch with policy := { ch.policy with base := pb c 1 }, pendPolicy := some (⟨pb c 1, pb c 2, pb c 3, pf c 4 2, pf c 6 2, pf c 8 6⟩, pb c 0) })) := by
  rw [bankPolicyPlan]
  rw [bad_of_false (by simp [hlen, hmask]; omega), gated_of_run hup.1, inAudit_of_free hup.2]
  simp only [firstOf_none_cons, firstOf_nil]

theorem bankStatusPlan_of_ok (hkind : pb c 0 = 0 ∨ pb c 0 = 1 ∧ pb c 1 < 4 * portCount s) (hlen : plen c = pb c 0 + 1) (hup : Up s 8) :
    bankStatusPlan c role s = Plan.done .ok (if pb c 0 = 0 then bankSummary s else readMem s (0xC00000 + 0x2000 * pb c 1) 119) id := by
  rw [bankStatusPlan, bad_of_false (by simp [hlen]; omega), gated_of_run hup.1, inAudit_of_free hup.2]
  simp only [firstOf_none_cons, firstOf_nil]

theorem surveyStartPlan_of_ok (hlen : plen c = 18) (hscope : pb c 0 ≤ 2) (hnamed : pb c 0 = 1 → pf c 1 6 ≠ 0) (htimed : pb c 7 ≤ 1)
    (hmask : maskBeyond s (pf c 1 6) = false) (hns : nsOk (pf c 14 4) = true) (hup : Up s 8) (hsurvey : s.ch.survey = none)
    (hstore : s.diag.holder = none) :
    let n := (if pb c 0 = 2 then 0 else ((surveyRoster s (pb c 0) (pf c 1 6)).length + 9) / 10) + 3
    surveyStartPlan c role s = Plan.long s 0x30 role n
      (surveyBegin (pb c 0) (pf c 1 6) (if pb c 7 = 1 then some (pf c 8 6, pf c 14 4) else none) n) := by
  intro n
  rw [surveyStartPlan]
  rw [bad_of_false (by simp [hlen, hscope, htimed, hmask, hns]; exact hnamed), gated_of_run hup.1, inAudit_of_free hup.2,
    busyIf_of_false (by simp [hsurvey, hstore])]
  simp only [firstOf_none_cons, firstOf_nil, n]

/-! ## Cable diagnostics -/

theorem diagStartPlan_of_ok (hlen : plen c = 22) (hkind : 1 ≤ pb c 0 ∧ pb c 0 ≤ 5) (hport : hasPort s (pb c 1) = true) (hpairs : pb c 2 ≤ 15)
    (hsome : pb c 0 ≠ 4 → pb c 2 ≠ 0) (hzero : pb c 3 = 0) (hns : nsOk (pf c 10 4) = true)
    (hargs : argsBad (pb c 0) (slice c.params 14 8) = false) (hup : Up s (groupOf (pb c 1))) (hclock : clkRun s 18 = true)
    (hidle : ∀ r ∈ s.diag.runs, r.port ≠ pb c 1) (hstore : usesStore (pb c 0) = true → storeHeld s = false)
    (hstate : diagReady s (pb c 0) (pb c 1) (slice c.params 14 8) = true) :
    diagStartPlan c role s = Plan.long s 0x40 role (diagSteps (pb c 0) (pb c 2)) (fun op => modDiag (fun d =>
      { d with runs := d.runs ++ [newRun c op], holder := if usesStore (pb c 0) then some op else d.holder })) := by
  have hargs' : (plen c ≠ 22 || decide (pb c 0 < 1 ∨ 5 < pb c 0) || !hasPort s (pb c 1) || decide (15 < pb c 2) || (pb c 0 != 4 && pb c 2 == 0)
      || pb c 3 != 0 || !nsOk (pf c 10 4) || argsBad (pb c 0) (slice c.params 14 8)) = false := by
    simp [hlen, hkind.2, hport, hpairs, hzero, hns, hargs]
    omega
  have hbusy : (s.diag.runs.any (fun r => r.port == pb c 1) || (usesStore (pb c 0) && storeHeld s)) = false := by
    simpa using ⟨hidle, hstore⟩
  rw [diagStartPlan]
  rw [bad_of_false hargs', gated_of_run hup.1, gated_of_run hclock, inAudit_of_free hup.2, busyIf_of_false hbusy, chk_of_false (by simp [hstate])]
  simp only [firstOf_none_cons, firstOf_nil]

theorem diagResultPlan_of_found {r : DiagRes} (hlen : plen c = 4) (hfound : s.diag.results.find? (fun r => r.op == pf c 0 4) = some r) :
    diagResultPlan c role s = Plan.done .ok (r.header ++ r.data) id := by
  rw [diagResultPlan]
  rw [hfound]
  dsimp only
  rw [bad_of_false (by simp [hlen]), firstOf_none_cons, firstOf_nil]

/-! ## Calibration -/

theorem calGetPlan_of_ok (hlen : plen c = 4) (hset : pb c 2 < 2) (hzero : pb c 3 = 0)
    (htarget : pb c 0 = 1 ∧ hasPort s (pb c 1) = true ∨ pb c 0 = 2 ∧ hasLane s (pb c 1) = true) :
    calGetPlan c role s = Plan.done .ok (targetRecord s (if pb c 0 = 1 then pb c 1 else 64 + pb c 1) (pb c 2)) id := by
  have hok : ((pb c 0 == 1 && hasPort s (pb c 1)) || (pb c 0 == 2 && hasLane s (pb c 1)) || (pb c 0 == 3 && pb c 1 == 0)) = true := by
    rcases htarget with ⟨hkind, hhas⟩ | ⟨hkind, hhas⟩ <;> simp [hkind, hhas]
  rw [calGetPlan]
  rw [hok, bad_of_false (by simp [hlen, hset, hzero]), firstOf_none_cons, firstOf_nil, if_neg (by omega)]

theorem calGetPlan_of_device (hlen : plen c = 4) (hkind : pb c 0 = 3) (hindex : pb c 1 = 0) (hset : pb c 2 = 0) (hzero : pb c 3 = 0) :
    calGetPlan c role s = Plan.done .ok (recordBytes' s 3 0 0 s.cal.device (deviceBody s) false) id := by
  rw [calGetPlan]
  rw [bad_of_false (by simp [hlen, hkind, hindex, hset, hzero]), firstOf_none_cons, firstOf_nil, if_pos hkind, hset, if_pos rfl, if_pos rfl]

theorem calPutPlan_of_ok (hlen : plen c = 68 ∨ plen c = 900) (htarget : putTarget s c.params = some t) (hfree : calHeld s t = false) :
    calPutPlan c role s = if putOk s c.params = true then Plan.done .ok [] (modTarget t (fun x => { x with staged :=
        ⟨beAt c.params 8 4, beAt c.params 12 6, beAt c.params 18 4, byteAt c.params 31 % 4,
          if byteAt c.params 31 % 2 = 1 then allSets t else 0, slice c.params 32 (c.params.length - 36)⟩ }))
      else Plan.done .recordBad [] (evG F.CAL_EVENTS_RECORD_BAD) := by
  rw [calPutPlan]
  rw [bad_of_false (by rcases hlen with h | h <;> simp [h]), htarget, busyIf_of_false (by simpa using hfree), firstOf_none_cons, firstOf_none_cons]
  by_cases hgood : putOk s c.params = true
  · rw [chk_of_false (by simp [hgood]), firstOf_none_cons, firstOf_nil, if_pos hgood]
    rfl
  · rw [chk_of_true (by simpa using hgood), firstOf_some_cons, if_neg hgood]

theorem calCommitPlan_of_ok (hlen : plen c = 14) (htarget : calTargetOf s (pb c 0) (pb c 1) = some t) (hzeros : zeros c 2 2 = true)
    (hns : nsOk (pf c 10 4) = true) (hup : Up s (calBlockOf t)) (hfree : calHeld s t = false) (hnone : (calTarget s t).commit = none) :
    calCommitPlan c role s = if t < 64 ∧ inService s t = true then
        Plan.done .ok (natBE 5 (toLink s t (hostFrame s (pf c 4 6) (pf c 10 4))))
          (modTarget t (fun x => { x with commit := some (.frame (hostFrame s (pf c 4 6) (pf c 10 4))) }))
      else Plan.done .ok (natBE 5 0) (modTarget t (fun x => { x with commit := some (.time (pf c 4 6) (pf c 10 4)) })) := by
  rw [calCommitPlan, htarget]
  dsimp only [Option.getD_some]
  rw [bad_of_false (by simp [hlen, hzeros, hns]), gated_of_run hup.1, inAudit_of_free hup.2, busyIf_of_false (by simp [hfree, hnone])]
  simp only [firstOf_none_cons, firstOf_nil, Bool.and_eq_true, decide_eq_true_eq]
  split <;> rfl

/-- What holds a CAL_RUN back on a target of its kind: a diagnostic on the port, a test on the lane group (R715). -/
def calRunBlocked (c : Packet) (t : Nat) (s : State) : Bool :=
  if pb c 0 == 1 then s.diag.runs.any (fun r => r.port == t) else (lane s (t - 64)).test.isSome

/-- The parameters of CAL_RUN that differ between a port and a lane group (R715). -/
def calRunPartsBad (c : Packet) : Bool :=
  if pb c 0 == 1 then decide (pb c 2 < 1 ∨ 7 < pb c 2) || decide (pb c 3 < 1 ∨ 15 < pb c 3) else pb c 2 != 8 || pb c 3 != 0

theorem calRunPlan_of_ok (hlen : plen c = 18) (htarget : calTargetOf s (pb c 0) (pb c 1) = some t) (hflags : pb c 4 < 4) (hretries : pb c 5 ≤ 2)
    (htime : pf c 6 2 ≤ 3600) (hns : nsOk (pf c 14 4) = true) (hup : Up s (calBlockOf t)) (hfree : calHeld s t = false)
    (hnone : (calTarget s t).commit = none) (hparts : calRunPartsBad c = false) (hblocked : calRunBlocked c t s = false)
    (hdrop : (pb c 0 == 1 && calNeedsDrop s t (maskPairs (pb c 3)) && !(newCalRun c 0).allowDrop) = false) :
    calRunPlan c role s = Plan.long s 0x50 role (calSteps (newCalRun c 0)) (fun op s' => wrFld (calBase t) F.CAL_PORT_RUNNING 1
      (modCal (fun x => { x with runs := x.runs ++ [newCalRun c op] }) s')) := by
  unfold calRunPartsBad at hparts
  unfold calRunBlocked at hblocked
  rw [calRunPlan, htarget]
  dsimp only [Option.getD_some]
  rw [bad_of_false (by simp only [hparts]; simp [hlen, hflags, hretries, htime, hns]), gated_of_run hup.1, inAudit_of_free hup.2,
    busyIf_of_false (by simp only [hblocked]; simp [hfree, hnone]), chk_of_false hdrop]
  simp only [firstOf_none_cons, firstOf_nil]

theorem newCalRun_allowDrop (op : Nat) : (newCalRun c op).allowDrop = (bitsOf (pb c 4) 1 1 == 1) := rfl

theorem calSteps_of_lane (hkind : pb c 0 = 2) : calSteps (newCalRun c 0) = 2 := by
  rw [calSteps, newCalRun, hkind]
  rfl

end

/-- Settles O26: each command by its plan. -/
theorem bankDiagnosticAndCalibrationCommandsTakeEffect : Obligations.BankDiagnosticAndCalibrationCommandsTakeEffect := by
  refine ⟨fun c s hready hlen hflags hlow hhigh hmax hmost hhyst hsmall hlarge hshort hlong hmask hup => executes_of_plan hready rfl
      (bankPolicyPlan_of_ok (role := roleOf s c) hlen hflags ⟨hlow, hhigh⟩ ⟨hmax, hmost⟩ hhyst ⟨hsmall, hlarge⟩ ⟨hshort, hlong⟩ hmask hup),
    fun c s hready hup => ⟨fun hkind hlen => ?summary, fun hkind hlen hvictim => ?victim⟩,
    fun c s hready hlen hscope hnamed htimed hmask hns hup hsurvey hstore hroom => starts_of_plan hready hroom rfl
      (surveyStartPlan_of_ok (role := roleOf s c) hlen hscope hnamed htimed hmask hns hup hsurvey hstore),
    fun c s hready hlen hlow hhigh hport hpairs hsome hzero hns hargs hup hclock hidle hstore hstate hroom => starts_of_plan hready hroom rfl
      (diagStartPlan_of_ok (role := roleOf s c) hlen ⟨hlow, hhigh⟩ hport hpairs hsome hzero hns hargs hup hclock hidle hstore hstate),
    fun c r s hready hlen hfound => executes_of_plan hready rfl (diagResultPlan_of_found (role := roleOf s c) hlen hfound),
    fun c s hready hlen hset hzero => ⟨fun hkind hhas => ?port, fun hkind hhas => ?group, fun hkind hindex hactive => executes_of_plan hready rfl
      (calGetPlan_of_device (role := roleOf s c) hlen hkind hindex hactive hzero)⟩,
    fun c t s hready hlen htarget hfree => ?put, fun c t s hready hlen htarget hzeros hns hup hfree hnone => ?commit,
    fun c t s hready hlen htarget hflags hretries htime hns hup hfree hnone hroom =>
      ⟨fun hkind hfirst hlast hone hall hidle hdrop => ?runPort, fun hkind helements hpairs hidle => ?runGroup⟩⟩
  case summary =>
    exact executes_of_plan hready rfl ((bankStatusPlan_of_ok (role := roleOf s c) (.inl hkind) (by omega) hup).trans
      (congrArg (fun r => Plan.done .ok r id) (if_pos hkind)))
  case victim =>
    exact executes_of_plan hready rfl ((bankStatusPlan_of_ok (role := roleOf s c) (.inr ⟨hkind, hvictim⟩) (by omega) hup).trans
      (congrArg (fun r => Plan.done .ok r id) (if_neg (by omega))))
  case port =>
    exact executes_of_plan hready rfl ((calGetPlan_of_ok (role := roleOf s c) hlen hset hzero (.inl ⟨hkind, hhas⟩)).trans
      (congrArg (fun t => Plan.done .ok (targetRecord s t (pb c 2)) id) (if_pos hkind)))
  case group =>
    exact executes_of_plan hready rfl ((calGetPlan_of_ok (role := roleOf s c) hlen hset hzero (.inr ⟨hkind, hhas⟩)).trans
      (congrArg (fun t => Plan.done .ok (targetRecord s t (pb c 2)) id) (if_neg (by omega))))
  case put =>
    have hplan := calPutPlan_of_ok (role := roleOf s c) hlen htarget hfree
    exact ⟨fun hbad => executes_of_plan hready rfl (hplan.trans (if_neg (ne_true_of_eq_false hbad))),
      fun hgood => executes_of_plan hready rfl (hplan.trans (if_pos hgood))⟩
  case commit =>
    have hplan := calCommitPlan_of_ok (role := roleOf s c) hlen htarget hzeros hns hup hfree hnone
    refine ⟨fun hport hservice => executes_of_plan hready rfl (hplan.trans (if_pos ⟨hport, hservice⟩)),
      fun hother => executes_of_plan hready rfl (hplan.trans (if_neg ?_))⟩
    rintro ⟨hport, hservice⟩
    rcases hother with hlane | hout
    · omega
    · exact ne_true_of_eq_false hout hservice
  case runPort =>
    have hallowed : (pb c 0 == 1 && calNeedsDrop s t (maskPairs (pb c 3)) && !(newCalRun c 0).allowDrop) = false := by
      rw [newCalRun_allowDrop]
      simpa [hkind] using hdrop
    exact starts_of_plan hready hroom rfl (calRunPlan_of_ok (role := roleOf s c) hlen htarget hflags hretries htime hns hup hfree hnone
      (by simp [calRunPartsBad, hkind]; omega) (by simpa [calRunBlocked, hkind] using hidle) hallowed)
  case runGroup =>
    have hplan := calRunPlan_of_ok (role := roleOf s c) hlen htarget hflags hretries htime hns hup hfree hnone
      (by simp [calRunPartsBad, hkind, helements, hpairs]) (by simp [calRunBlocked, hkind, hidle]) (by simp [hkind])
    rw [calSteps_of_lane hkind] at hplan
    exact starts_of_plan hready hroom rfl hplan

end Sys2Proof.Proofs
end

section
/-!
O27: the plans of the Closing Audit's commands (R739 to R742), of network time (R458 to R465, R473, R486, R487), of power (R669 to R676, R693) and
of CLOCK_SELECT (R635), where nothing stands in their way.
-/
namespace Sys2Proof.Proofs
open Sys2Proof.Machine Sys2Proof.Claims

/-- Checks that all pass do not count. -/
theorem firstOf_append_of_none {l : List (Option Plan)} (hnone : ∀ x ∈ l, x = none) (r : List (Option Plan)) (d : Plan) :
    firstOf (l ++ r) d = firstOf r d := by
  induction l with
  | nil => rfl
  | cons x l ih =>
    rw [hnone x List.mem_cons_self, List.cons_append, firstOf_none_cons, ih fun y hy => hnone y (List.mem_cons_of_mem _ hy)]

theorem map_gated_none {s : State} {bs : List Nat} (hrun : ∀ b ∈ bs, clkRun s b = true) : ∀ x ∈ bs.map (gated s), x = none := by
  intro x hx
  obtain ⟨b, hb, rfl⟩ := List.mem_map.mp hx
  exact gated_of_run (hrun b hb)

theorem map_inAudit_none {s : State} {bs : List Nat} (hfree : ∀ b ∈ bs, b ∉ s.audit.held) : ∀ x ∈ bs.map (inAudit s), x = none := by
  intro x hx
  obtain ⟨b, hb, rfl⟩ := List.mem_map.mp hx
  exact inAudit_of_free (hfree b hb)

section
variable {c : Packet} {role : Option Role} {s : State}

/-! ## The Closing Audit -/

/-- The reply of a START: the estimate is 0 where no slice is planned. -/
def auditStartReply (c : Packet) (s : State) : List Byte :=
  let n := auditCount (pb c 1) (auditNamed (pb c 2) (pb c 3))
  natBE 4 (if n = 0 then 0 else (Config.estimate 0x58 s.draws).toNat) ++ natBE 2 n

theorem auditConfigPlan_start (hstart : pb c 0 = 1) (hlen : plen c = 14) (hns : nsOk (pf c 10 4) = true) (hnames : auditBadNames s c = false)
    (hblocks : ∀ b ∈ auditNamed (pb c 2) (pb c 3), clkRun s b = true ∧ auditConflict s b = false) (hdue : s.audit.due = none)
    (hidle : s.audit.state ≠ 1) (hover : s.audit.state ≠ 2) :
    auditConfigPlan c role s = Plan.done .ok (auditStartReply c s) (fun s' =>
      if totalNs (pf c 4 6) (pf c 10 4) ≤ nowTotal s' then auditBegin (pb c 1) (auditNamed (pb c 2) (pb c 3)) (draw s')
      else modAudit (fun a => { a with due := some ⟨pf c 4 6, pf c 10 4, pb c 1, auditNamed (pb c 2) (pb c 3)⟩ }) (draw s')) := by
  have hfree : (auditNamed (pb c 2) (pb c 3)).any (auditConflict s) = false := by simpa using fun b hb => (hblocks b hb).2
  rw [auditConfigPlan, hstart]
  dsimp only
  rw [if_pos rfl, bad_of_false (by simp [hlen, hns, hnames]), List.singleton_append, List.cons_append, firstOf_none_cons,
    firstOf_append_of_none (map_gated_none fun b hb => (hblocks b hb).1), busyIf_of_false (by simp only [hfree]; simp [hdue, hidle, hover]),
    firstOf_none_cons, firstOf_nil]
  rfl

theorem auditConfigPlan_release (hrelease : pb c 0 = 2) (hlen : plen c = 14) (hns : nsOk (pf c 10 4) = true) (hplan : pb c 1 ≤ 2)
    (hblocks : pb c 2 < 128) (hlanes : pb c 3 < 16) (hidle : s.audit.state ≠ 1) :
    auditConfigPlan c role s = Plan.done .ok (natBE 4 0 ++ natBE 2 0)
      (fun s' => if s'.audit.state = 2 then auditOver (forL s'.audit.held auditFree s') else s') := by
  rw [auditConfigPlan, hrelease]
  dsimp only
  rw [if_neg (by decide), bad_of_false (by simp [hlen, hns, hplan, hblocks, hlanes]), busyIf_of_false (by simp [hidle])]
  simp only [firstOf_none_cons, firstOf_nil, if_true]

/-! ## Network time -/

theorem timeAdjustPlan_of_ok (hgood : adjBad c s = false) (hclock : clkRun s 16 = true) (hgrid : pb c 0 = 5 → anyPort s onGrid = false) :
    timeAdjustPlan c role s = Plan.done .ok (adjReply c s) (adjApply c) := by
  rw [timeAdjustPlan, bad_of_false hgood, gated_of_run hclock, busyIf_of_false (by simpa using hgrid)]
  simp only [firstOf_none_cons, firstOf_nil]

theorem timeAckPlan_of_ok (hlen : plen c = 2) (hclock : clkRun s 16 = true)
    (hepoch : rdG s F.TIME_STATUS_HOLD = 1 → pf c 0 2 = s.time.epoch % 65536) :
    timeAckPlan c role s = Plan.done .ok [] (if rdG s F.TIME_STATUS_HOLD = 1 then endHold else fun s' => s') := by
  rw [timeAckPlan, bad_of_false (by simpa [hlen] using hepoch), gated_of_run hclock]
  simp only [firstOf_none_cons, firstOf_nil, beq_iff_eq]
  split <;> rfl

theorem launchCtxPlan_of_ok (hlen : plen c = 24) (hctx : pf c 0 2 ≤ 16383) (hact : 1 ≤ pb c 2 ∧ pb c 2 ≤ 3) (hflags : pb c 4 < 32)
    (hns : nsOk (pf c 12 4) = true) (harm : pb c 2 = 1 → ctxBad c s = false) (hclock : clkRun s 16 = true) :
    launchCtxPlan c role s = Plan.done .ok ((ctxBytes (ctxAfter c s)).take 1 ++ natBE 6 (ctxAfter c s).sec ++ natBE 4 (ctxAfter c s).ns)
      (fun s' => modCtx (pf c 0 2) (fun _ => ctxAfter c s') s') := by
  have hargs : (plen c ≠ 24 || decide (16383 < pf c 0 2) || decide (pb c 2 < 1 ∨ 3 < pb c 2) || decide (32 ≤ pb c 4) || !nsOk (pf c 12 4)
      || (pb c 2 == 1 && ctxBad c s)) = false := by
    simp [hlen, hctx, hact.2, hflags, hns]
    exact ⟨by omega, harm⟩
  rw [launchCtxPlan, bad_of_false hargs, gated_of_run hclock]
  simp only [firstOf_none_cons, firstOf_nil]

/-! ## Power -/

/-- The level change that POWER_LEVEL starts. -/
def levelOpOf (c : Packet) (id : Nat) (u : State) : LevelOp :=
  ⟨id, (maskGroups (pb c 0)).map (fun g => (g, levelOf u g)), pb c 1, pf c 4 6, pf c 10 4, hostFrame u (pf c 4 6) (pf c 10 4),
    false, false, false, false, false⟩

theorem powerLevelPlan_of_ok (hlen : plen c = 14) (hsome : maskGroups (pb c 0) ≠ []) (hgroups : pb c 0 < 64) (hlevel : pb c 1 ≤ 3)
    (hflags : pb c 2 ≤ 3) (hzero : pb c 3 = 0) (hns : nsOk (pf c 10 4) = true) (hup : ∀ g ∈ maskGroups (pb c 0), hasGroup s g = true ∧ Up s g)
    (hlevelOp : s.power.levelOp = none) (hsleep : s.power.sleep = none) (hwake : s.power.wakeStep = 0)
    (hbelow : ∀ n ∈ allPorts s, groupOf n ∈ maskGroups (pb c 0) → (sirAbove s (pb c 1) n = true → bitsOf (pb c 2) 0 0 = 1)
      ∧ (stdAbove s (pb c 1) n = true → bitsOf (pb c 2) 1 1 = 1)) :
    powerLevelPlan c role s = Plan.long s 0x70 role 2
      (fun id s' => levelStart (modPower (fun p => { p with levelOp := some (levelOpOf c id s') }) s')) := by
  have hbad : (plen c ≠ 14 || (maskGroups (pb c 0)).isEmpty || decide (64 ≤ pb c 0) || decide (3 < pb c 1) || decide (3 < pb c 2) || pb c 3 != 0
      || !nsOk (pf c 10 4) || (maskGroups (pb c 0)).any (fun g => !hasGroup s g)) = false := by
    simp [hlen, hsome, hgroups, hlevel, hflags, hzero, hns]
    exact fun g hg => (hup g hg).1
  have hnone : (allPorts s).find? (fun n => (maskGroups (pb c 0)).contains (groupOf n)
      && ((bitsOf (pb c 2) 0 0 == 0 && sirAbove s (pb c 1) n) || (bitsOf (pb c 2) 1 1 == 0 && stdAbove s (pb c 1) n))) = none := by
    rw [List.find?_eq_none]
    intro n hn
    simp only [Bool.and_eq_true, Bool.or_eq_true, beq_iff_eq, List.contains_eq_mem, decide_eq_true_eq, not_and, not_or]
    intro hg
    obtain ⟨hsir, hstd⟩ := hbelow n hn hg
    exact ⟨fun hzero h => by have := hsir h; omega, fun hzero h => by have := hstd h; omega⟩
  rw [powerLevelPlan]
  dsimp only
  rw [hnone, bad_of_false hbad, List.singleton_append, List.cons_append, List.cons_append, firstOf_none_cons, List.append_assoc,
    firstOf_append_of_none (map_gated_none fun g hg => (hup g hg).2.1), firstOf_append_of_none (map_inAudit_none fun g hg => (hup g hg).2.2),
    busyIf_of_false (by simp [hlevelOp, hsleep, hwake]), firstOf_none_cons, firstOf_none_cons, firstOf_nil]
  rfl

theorem sleepPlan_of_ok (hlen : plen c = 8) (hkind : 1 ≤ pb c 0 ∧ pb c 0 ≤ 2) (hwakes : pb c 1 ≤ 3) (harm : pf c 2 6 < 2 ^ portCount s)
    (hsleep : s.power.sleep = none) (hlevelOp : s.power.levelOp = none) (hwake : s.power.wakeStep = 0) :
    sleepPlan c role s = Plan.long s 0x71 role (stopOrder s (pb c 0 == 2)).length (fun id s' =>
      wrG F.PWR_STATUS_STATE (if (pb c 0 == 2) = true then 3 else 1)
        (modPower (fun p => { p with sleep := some ⟨id, pb c 0 == 2, [], stopOrder s' (pb c 0 == 2)⟩, wakeLatch := none })
          (wrG F.WAKE_CTRL_CP_WAKE (bitsOf (pb c 1) 1 1) (wrG F.WAKE_CTRL_MDIO_WAKE (bitsOf (pb c 1) 0 0)
            (wrG F.WAKE_ARM_HI (pf c 2 6 / 2 ^ 32) (wrG F.WAKE_ARM_LO (pf c 2 6 % 2 ^ 32) s')))))) := by
  have hbad : (plen c ≠ 8 || !(pb c 0 == 1 || pb c 0 == 2) || decide (3 < pb c 1) || decide (2 ^ portCount s ≤ pf c 2 6)) = false := by
    simp [hlen, hwakes, harm]
    omega
  rw [sleepPlan]
  dsimp only
  rw [bad_of_false hbad, busyIf_of_false (by simp [hsleep, hlevelOp, hwake])]
  simp only [firstOf_none_cons, firstOf_nil]

theorem padReleasePlan_of_ok (hlen : plen c = 4) (hsome : 1 ≤ pb c 0) (hpads : pb c 0 < 16) (hzeros : zeros c 1 3 = true) :
    opPadRelease.plan c role s = if rdG s F.PWR_STATUS_STATE = 0 then Plan.done .ok [] (padRelease (pb c 0)) else Plan.done .notReady [] id := by
  have hbad : (plen c ≠ 4 || pb c 0 == 0 || decide (16 ≤ pb c 0) || !zeros c 1 3) = false := by
    simp [hlen, hpads, hzeros]
    omega
  dsimp only [opPadRelease]
  rw [bad_of_false hbad, firstOf_none_cons]
  by_cases hrun : rdG s F.PWR_STATUS_STATE = 0
  · rw [chk_of_false (by simp [hrun]), firstOf_none_cons, firstOf_nil, if_pos hrun]
  · rw [chk_of_true (by simpa using hrun), firstOf_some_cons, if_neg hrun]
    rfl

/-! ## CLOCK_SELECT -/

theorem clockSelectPlan_of_domain (hlen : plen c = 8) (hzeros : zeros c 5 3 = true) (hdomain : pb c 0 ≠ 0x30)
    (hnamed : switchNamed s (pb c 0) (pb c 1) = true) (hother : switchOther s (pb c 0) (pb c 1) = false) :
    clockSelectPlan c role s = if sourceReady s (pb c 0) (pb c 1) = false ∨ interlock s (pb c 0) (pb c 1) = true then Plan.done .notReady [] id
      else Plan.done .ok (natBE 1 (pb c 1) ++ natBE 1 (bit (!sourceReady s (pb c 0) (switchNow s (pb c 0))))) (switchTo (pb c 0) (pb c 1)) := by
  rw [clockSelectPlan, if_neg hdomain, bad_of_false (by simp [hlen, hzeros, hnamed, hother]), firstOf_none_cons]
  by_cases hblocked : sourceReady s (pb c 0) (pb c 1) = false ∨ interlock s (pb c 0) (pb c 1) = true
  · rw [chk_of_true (by simpa using hblocked), firstOf_some_cons, if_pos hblocked]
    rfl
  · rw [chk_of_false (by simpa using hblocked), firstOf_none_cons, firstOf_nil, if_neg hblocked]

theorem clockSelectPlan_of_clkout (hlen : plen c = 8) (hzeros : zeros c 5 3 = true) (hdomain : pb c 0 = 0x30) (hsource : clkoutKhz s (pb c 1) ≠ none)
    (hlow : 1 ≤ pf c 2 2) (hhigh : pf c 2 2 ≤ 4096) (henable : pb c 4 ≤ 1) :
    clockSelectPlan c role s = Plan.done .ok (natBE 1 (pb c 1) ++ [0])
      (clkoutChange (BitVec.ofNat 32 (pb c 4 * 2 ^ 31 + pb c 1 * 2 ^ 24 + pf c 2 2 % 4096))) := by
  have hbad : (plen c ≠ 8 || !zeros c 5 3 || (clkoutKhz s (pb c 1)).isNone || pf c 2 2 = 0 || pf c 2 2 > 4096 || pb c 4 > 1) = false := by
    simp [hlen, hzeros, hhigh, henable, Option.isSome_iff_ne_none.mpr hsource]
    omega
  rw [clockSelectPlan, if_pos hdomain, bad_of_false hbad, firstOf_none_cons, firstOf_nil]

end

/-- Settles O27: each command by its plan. -/
theorem auditTimeAndPowerCommandsTakeEffect : Obligations.AuditTimeAndPowerCommandsTakeEffect := by
  refine ⟨fun c s hready hstart hlen hns hnames hblocks hdue hidle hover => ⟨_, executes_of_plan hready rfl
      (auditConfigPlan_start (role := roleOf s c) hstart hlen hns hnames hblocks hdue hidle hover)⟩,
    fun c s hready hrelease hlen hns hplan hblocks hlanes hidle => executes_of_plan hready rfl
      (auditConfigPlan_release (role := roleOf s c) hrelease hlen hns hplan hblocks hlanes hidle),
    fun c s hready hlen => executes_of_plan hready rfl (congrArg (fun x => firstOf [x] _) (bad_of_false (by simp [hlen]))),
    fun c s hready hgood hclock hgrid => executes_of_plan hready rfl (timeAdjustPlan_of_ok (role := roleOf s c) hgood hclock hgrid),
    fun c s hready hlen hclock => ⟨fun hhold hepoch => ?ended, fun hno => ?nothing⟩,
    fun c s hready hlen hctx hlow hhigh hflags hns harm hclock => executes_of_plan hready rfl
      (launchCtxPlan_of_ok (role := roleOf s c) hlen hctx ⟨hlow, hhigh⟩ hflags hns harm hclock),
    fun c s hready hlen hsome hgroups hlevel hflags hzero hns hup hlevelOp hsleep hwake hroom hbelow => starts_of_plan hready hroom rfl
      (powerLevelPlan_of_ok (role := roleOf s c) hlen hsome hgroups hlevel hflags hzero hns hup hlevelOp hsleep hwake hbelow),
    fun c s hready hlen hlow hhigh hwakes harm hsleep hlevelOp hwake hroom => starts_of_plan hready hroom rfl
      (sleepPlan_of_ok (role := roleOf s c) hlen ⟨hlow, hhigh⟩ hwakes harm hsleep hlevelOp hwake),
    fun c s hready hlen hsome hpads hzeros => ?pads, fun c s hready hlen hzeros => ⟨fun hdomain hnamed hother => ?domain,
      fun hdomain hsource hlow hhigh henable => executes_of_plan hready rfl
        (clockSelectPlan_of_clkout (role := roleOf s c) hlen hzeros hdomain hsource hlow hhigh henable)⟩⟩
  case ended =>
    exact executes_of_plan hready rfl ((timeAckPlan_of_ok (role := roleOf s c) hlen hclock fun _ => hepoch).trans (congrArg _ (if_pos hhold)))
  case nothing =>
    exact executes_of_plan hready rfl ((timeAckPlan_of_ok (role := roleOf s c) hlen hclock fun h => absurd h hno).trans (congrArg _ (if_neg hno)))
  case pads =>
    have hplan := padReleasePlan_of_ok (role := roleOf s c) hlen hsome hpads hzeros (s := s)
    exact ⟨fun hrun => executes_of_plan hready rfl (hplan.trans (if_pos hrun)), fun hrun => executes_of_plan hready rfl (hplan.trans (if_neg hrun))⟩
  case domain =>
    have hplan := clockSelectPlan_of_domain (role := roleOf s c) hlen hzeros hdomain hnamed hother
    refine ⟨fun hsource hfree => executes_of_plan hready rfl (hplan.trans (if_neg ?_)), fun hblocked => executes_of_plan hready rfl (hplan.trans (if_pos hblocked))⟩
    rintro (hnot | hlocked)
    · exact ne_true_of_eq_false hnot hsource
    · exact ne_true_of_eq_false hfree hlocked

end Sys2Proof.Proofs
end

section
/-!
O28: the plans of the monitors (R764, R766), of images (R548, R549), of the lane groups (R446 to R449) and of the Vault (R579 to R584), where
nothing stands in their way.
-/
namespace Sys2Proof.Proofs
open Sys2Proof.Machine Sys2Proof.Claims

section
variable {c : Packet} {role : Option Role} {s : State}

/-! ## Monitors -/

theorem counterConfigPlan_of_ok (hlen : plen c = 30) (hunit : pb c 0 ∈ unitsOf s) (hsome : pb c 1 ≠ 0) (hact : 1 ≤ pb c 2 ∧ pb c 2 ≤ 3)
    (hzero : pb c 3 = 0) (hns : nsOk (pf c 26 4) = true) (hreserved : pmReserved c = false)
    (hgood : pmBad (pb c 0) (BitVec.ofNat 32 (pf c 4 4)) (BitVec.ofNat 32 (pf c 8 4)) (BitVec.ofNat 32 (pf c 12 4)) (BitVec.ofNat 32 (pf c 16 4)) = false)
    (hrun : pb c 0 ≠ 0x18 → clkRun s (pb c 0) = true) : counterConfigPlan c role s = Plan.done .ok [] (pmAct c) := by
  have hargs : (plen c ≠ 30 || !(unitsOf s).contains (pb c 0) || pb c 1 == 0 || pb c 2 == 0 || decide (3 < pb c 2) || pb c 3 != 0
      || !nsOk (pf c 26 4) || pmReserved c || pmBad (pb c 0) (BitVec.ofNat 32 (pf c 4 4)) (BitVec.ofNat 32 (pf c 8 4))
        (BitVec.ofNat 32 (pf c 12 4)) (BitVec.ofNat 32 (pf c 16 4))) = false := by
    simp [hlen, hunit, hsome, hact.2, hzero, hns, hreserved, hgood]
    omega
  rw [counterConfigPlan, bad_of_false hargs, List.singleton_append, firstOf_none_cons]
  by_cases hdevice : pb c 0 = 0x18
  · rw [show pmBlock (pb c 0) = none from if_pos hdevice]
    rfl
  · rw [show pmBlock (pb c 0) = some (pb c 0) from if_neg hdevice]
    exact congrArg (fun x => firstOf [x] _) (gated_of_run (hrun hdevice))

theorem samplerConfigPlan_of_ok (hlen : plen c = 14) (hact : 1 ≤ pb c 0 ∧ pb c 0 ≤ 3) (hselect : pb c 1 ≤ 3) (hrate : pb c 2 ≤ 15)
    (hstop : pb c 3 ≤ 1) (hsome : pf c 4 6 ≠ 0) (hports : pf c 4 6 < 2 ^ portCount s) (hclock : clkRun s 0x11 = true) :
    samplerConfigPlan c role s = Plan.done .ok [] (samplerAct c) := by
  rw [samplerConfigPlan, bad_of_false (by simp [hlen, hact.2, hselect, hrate, hstop, hsome, hports]; omega), gated_of_run hclock]
  simp only [firstOf_none_cons, firstOf_nil]

/-! ## Images -/

theorem imageLoadPlan_of_ok (hshort : 8 ≤ plen c) (hlong : plen c ≤ 4100) (hwords : plen c % 4 = 0) (hfits : pf c 0 4 + plen c ≤ 786436)
    (hidle : imageBusy s = false) : imageLoadPlan c role s = Plan.done .ok [] (imageLoad (pf c 0 4) (c.params.drop 4)) := by
  rw [imageLoadPlan, bad_of_false (by simp; omega), busyIf_of_false hidle]
  simp only [firstOf_none_cons, firstOf_nil]

theorem imageActivatePlan_of_ok (hlen : plen c = 1) (hzeros : zeros c 0 1 = true) (hidle : imageBusy s = false) (hquiet : runningOps s = [])
    (hlock : rdG s F.VAULT_STATUS_READ_LOCK ≠ 1) :
    imageActivatePlan c role s = if imageWhole s.images.staging = true then
        Plan.long s 0xB1 role 2 (fun id => modImages (fun m => { m with activating := some id, verified := false }))
      else Plan.done .recordBad [] id := by
  rw [imageActivatePlan, bad_of_false (by simp [hlen, hzeros]), busyIf_of_false (by simp [hidle, hquiet]), chk_of_false (by simpa using hlock)]
  simp only [firstOf_none_cons]
  by_cases hwhole : imageWhole s.images.staging = true
  · rw [chk_of_false (by simp [hwhole]), firstOf_none_cons, firstOf_nil, if_pos hwhole]
  · rw [chk_of_true (by simpa using hwhole), firstOf_some_cons, if_neg hwhole]

/-! ## Lane groups -/

theorem laneGates_none {gs : List Nat} (hup : ∀ g ∈ gs, Up s (12 + g)) : ∀ x ∈ laneGates s gs, x = none := by
  intro x hx
  rcases List.mem_append.mp hx with h | h <;> obtain ⟨g, hg, rfl⟩ := List.mem_map.mp h
  · exact gated_of_run (hup g hg).1
  · exact inAudit_of_free (hup g hg).2

theorem laneTrainPlan_of_ok (hlen : plen c = 2) (hgroups : pb c 0 < 16) (hsome : maskLanes (pb c 0) ≠ []) (hflags : pb c 1 < 3)
    (hfree : ∀ g ∈ maskLanes (pb c 0), hasLane s g = true ∧ Up s (12 + g) ∧ laneBusy s g = false ∧ laneHeld s g = false) :
    laneTrainPlan c role s = Plan.long s 0xC0 role 5 (fun id s' => laneProgress id (forL (maskLanes (pb c 0)) (fun g s => laneGo g 1 s)
      (forL (maskLanes (pb c 0)) (fun g => modLane g
        (fun l => { l with trainOp := some id, trainRes := none, tableOnly := pb c 1 == 1, adaptOnly := pb c 1 == 2, nextEntry := 0 })) s'))) := by
  have hbad : (plen c ≠ 2 || decide (16 ≤ pb c 0) || (maskLanes (pb c 0)).isEmpty || decide (3 ≤ pb c 1)
      || (maskLanes (pb c 0)).any (fun g => !hasLane s g)) = false := by
    simp [hlen, hgroups, hsome, hflags]
    exact fun g hg => (hfree g hg).1
  have hbusy : (maskLanes (pb c 0)).any (laneBusy s) = false := by simpa using fun g hg => (hfree g hg).2.2.1
  have hheld : (maskLanes (pb c 0)).any (laneHeld s) = false := by simpa using fun g hg => (hfree g hg).2.2.2
  rw [laneTrainPlan]
  dsimp only
  rw [bad_of_false hbad, List.singleton_append, List.cons_append, firstOf_none_cons, firstOf_append_of_none (laneGates_none fun g hg => (hfree g hg).2.1),
    busyIf_of_false hbusy, chk_of_false hheld]
  simp only [firstOf_none_cons, firstOf_nil]

theorem laneTestPlan_of_ok (hlen : plen c = 15) (hlane : hasLane s (pb c 0) = true) (hlanes : pb c 1 ≠ 0) (hdir : pb c 2 < 4)
    (hpattern : pb c 3 ∈ [0, 7, 0xF, 0x17, 0x1F]) (hinject : pb c 4 ≤ 2) (hnone : pb c 3 = 0 → pb c 4 ≠ 0 ∧ pb c 2 < 2)
    (hburst : 1 ≤ pf c 5 2 ∧ pf c 5 2 ≤ 1024) (htime : 1 ≤ pf c 11 4 ∧ pf c 11 4 ≤ 3600000) (hup : Up s (12 + pb c 0))
    (hfree : laneBusy s (pb c 0) = false) :
    laneTestPlan c role s = Plan.long s 0xC1 role 3 (fun id s' => opProgress id (if decide (2 ≤ pb c 2) = true then 1 else 2) 3 0 (modLane (pb c 0)
      (fun l => { l with test := some ⟨id, pb c 1, pb c 2, pb c 3, pb c 4, pf c 5 2, pf c 7 4, pf c 11 4, 0, 0⟩ })
      (if pb c 3 = 0 then s' else laneSet (pb c 0) 6 s'))) := by
  have hcontains : [0, 7, 0xF, 0x17, 0x1F].contains (pb c 3) = true := by simpa using hpattern
  have hbad : (plen c ≠ 15 || !hasLane s (pb c 0) || pb c 1 == 0 || decide (4 ≤ pb c 2) || !([0, 7, 0xF, 0x17, 0x1F].contains (pb c 3))
      || decide (2 < pb c 4) || (pb c 3 == 0 && (pb c 4 == 0 || decide (2 ≤ pb c 2))) || decide (pf c 5 2 < 1 ∨ 1024 < pf c 5 2)
      || decide (pf c 11 4 < 1 ∨ 3600000 < pf c 11 4)) = false := by
    rw [hcontains]
    simp [hlen, hlane, hlanes, hdir, hinject, hburst.2, htime.2]
    exact ⟨⟨fun h => ⟨(hnone h).1, Nat.le_of_lt_succ (hnone h).2⟩, by omega⟩, by omega⟩
  rw [laneTestPlan]
  dsimp only
  rw [bad_of_false hbad, List.singleton_append, List.cons_append, firstOf_none_cons,
    firstOf_append_of_none (laneGates_none fun g hg => List.mem_singleton.mp hg ▸ hup), busyIf_of_false hfree, firstOf_none_cons, firstOf_nil]

/-! ## The Vault -/

/-- The authenticator that VAULT_PROGRAM asks for (R582). -/
def vaultAuth (c : Packet) (v : VField) (s : State) : List Byte :=
  (hmac (sessionKey s c) (natBE 2 c.seq.toNat ++ slice c.params 0 8 ++ slice c.params 24 v.len)).take 16

/-- A revoke field whose slot-B key is not programmed (R580). -/
def revokeKeyMissing (f : Nat) (s : State) : Bool := match revokeNeeds f with | some k => !vProgrammed s k | none => false

theorem revokeKeyMissing_eq_false {f : Nat} (hkeys : ∀ k, revokeNeeds f = some k → vProgrammed s k = true) : revokeKeyMissing f s = false := by
  unfold revokeKeyMissing
  split
  · rename_i k hk
    simp [hkeys k hk]
  · rfl

/-- The checks of VAULT_PROGRAM past its parameters, for a field other than the image key B. -/
def vaultChecked (c : Packet) (v : VField) (role : Option Role) (s : State) : Plan :=
  firstOf
    [ chk (slice c.params 8 16 != vaultAuth c v s) (Plan.refuse .denied 0),
      bad (!vSpent s (pb c 0) && (missesBurned s v (slice c.params 24 v.len) || revokeKeyMissing (pb c 0) s)),
      chk (s.vault.burn.isSome) (Plan.busy s),
      chk (vSpent s (pb c 0)) (Plan.refuse .locked 0),
      chk (rdG s F.VAULT_STATUS_FUSE_PRESENT == 0 || coreWarn s) (Plan.retryIn .notReady 1) ]
    (Plan.long s 0xF0 role 3 (fun id s => opProgress id 2 3 33
      (modVault (fun x => { x with burn := some ⟨id, pb c 0, v.offset, burnData v (slice c.params 24 v.len), 0, false, none⟩ }) s)))

theorem vaultPlan_of_field {v : VField} (hfield : vField (pb c 0) = some v) (hlen : pf c 4 2 = v.len) (hother : pb c 0 ≠ 2)
    (hplen : plen c = 24 + v.len) (hzeros : zeros c 1 3 = true) (hpad : zeros c 6 2 = true) (hbit : v.bit ≠ none → slice c.params 24 v.len = [1]) :
    vaultPlan c role s = vaultChecked c v role s := by
  have hbad : (v.len ≠ v.len || plen c ≠ 24 + v.len + (if pb c 0 = 2 then 64 else 0) || !zeros c 1 3 || !zeros c 6 2
      || (v.bit.isSome && slice c.params 24 v.len != [1])) = false := by
    simp [hplen, hother, hzeros, hpad, Option.isSome_iff_ne_none]
    exact hbit
  have himage : (pb c 0 == 2 && !ecdsaVerify (vBytes s 1) (sha256 (slice c.params 24 v.len)) (c.params.drop (24 + v.len))) = false := by simp [hother]
  rw [vaultPlan]
  dsimp only
  rw [hfield]
  dsimp only
  rw [hlen, bad_of_false hbad, firstOf_none_cons, chk_of_false himage]
  rfl

section
variable {v : VField}

theorem vaultChecked_denied (hauth : slice c.params 8 16 ≠ vaultAuth c v s) : vaultChecked c v role s = Plan.refuse .denied 0 := by
  rw [vaultChecked, chk_of_true (by simpa using hauth), firstOf_some_cons]

theorem vaultChecked_locked (hauth : slice c.params 8 16 = vaultAuth c v s) (hidle : s.vault.burn = none) (hspent : vSpent s (pb c 0) = true) :
    vaultChecked c v role s = Plan.refuse .locked 0 := by
  rw [vaultChecked, chk_of_false (by simp [hauth]), bad_of_false (by simp [hspent]), chk_of_false (by simp [hidle]), chk_of_true hspent]
  simp only [firstOf_none_cons, firstOf_some_cons]

theorem vaultChecked_burns (hauth : slice c.params 8 16 = vaultAuth c v s) (hidle : s.vault.burn = none) (hfree : vSpent s (pb c 0) = false)
    (hmisses : missesBurned s v (slice c.params 24 v.len) = false) (hrevoke : ∀ k, revokeNeeds (pb c 0) = some k → vProgrammed s k = true) :
    vaultChecked c v role s = if rdG s F.VAULT_STATUS_FUSE_PRESENT = 0 ∨ coreWarn s = true then Plan.retryIn .notReady 1
      else Plan.long s 0xF0 role 3 (fun id s => opProgress id 2 3 33
        (modVault (fun x => { x with burn := some ⟨id, pb c 0, v.offset, burnData v (slice c.params 24 v.len), 0, false, none⟩ }) s)) := by
  rw [vaultChecked, chk_of_false (by simp [hauth]), bad_of_false (by simp [hmisses, revokeKeyMissing_eq_false hrevoke]), chk_of_false (by simp [hidle]),
    chk_of_false hfree]
  simp only [firstOf_none_cons]
  by_cases hpower : rdG s F.VAULT_STATUS_FUSE_PRESENT = 0 ∨ coreWarn s = true
  · rw [chk_of_true (by simpa using hpower), firstOf_some_cons, if_pos hpower]
  · rw [chk_of_false (by simpa using hpower), firstOf_none_cons, firstOf_nil, if_neg hpower]

end

/-- A command that is ready is carried out under the plan that its opcode answers. -/
theorem carries_out_plan {o : Opcode} {p : Plan} {i : Instr} (hready : Ready o c s) (hexec : exec i s = .next (runOpcode o c s))
    (hplan : o.plan c (roleOf s c) s = p) : exec i s = .next (carryOut o c p s) := by
  rw [hexec, runOpcode_of_ready hready, hplan]

end

/-- Settles O28: each command by its plan. -/
theorem monitorImageLaneAndVaultCommandsTakeEffect : Obligations.MonitorImageLaneAndVaultCommandsTakeEffect := by
  refine ⟨fun c s hready hlen hunit hsome hlow hhigh hzero hns hreserved hgood hrun => executes_of_plan hready rfl
      (counterConfigPlan_of_ok (role := roleOf s c) hlen hunit hsome ⟨hlow, hhigh⟩ hzero hns hreserved hgood hrun),
    fun c s hready hlen hlow hhigh hselect hrate hstop hsome hports hclock => executes_of_plan hready rfl
      (samplerConfigPlan_of_ok (role := roleOf s c) hlen ⟨hlow, hhigh⟩ hselect hrate hstop hsome hports hclock),
    fun c s hready hshort hlong hwords hfits hidle => executes_of_plan hready rfl
      (imageLoadPlan_of_ok (role := roleOf s c) hshort hlong hwords hfits hidle),
    fun c s hready hlen hzeros hidle hquiet hlock => ?activate,
    fun c s hready hlen hgroups hsome hflags hfree hroom => starts_of_plan hready hroom rfl
      (laneTrainPlan_of_ok (role := roleOf s c) hlen hgroups hsome hflags hfree),
    fun c s hready hlen hlane hlanes hdir hpattern hinject hnone hlow hhigh hshort hlong hup hfree hroom => starts_of_plan hready hroom rfl
      (laneTestPlan_of_ok (role := roleOf s c) hlen hlane hlanes hdir hpattern hinject hnone ⟨hlow, hhigh⟩ ⟨hshort, hlong⟩ hup hfree),
    fun c v s hready hfield hlen hother hplen hzeros hpad hbit => ?vault⟩
  case activate =>
    have hplan := imageActivatePlan_of_ok (role := roleOf s c) hlen hzeros hidle hquiet hlock
    exact ⟨fun hpart => executes_of_plan hready rfl (hplan.trans (if_neg (ne_true_of_eq_false hpart))),
      fun hwhole => starts_of_plan hready (by simp [hquiet]) rfl (hplan.trans (if_pos hwhole))⟩
  case vault =>
    have hplan := vaultPlan_of_field (role := roleOf s c) (s := s) hfield hlen hother hplen hzeros hpad hbit
    refine ⟨fun hauth => carries_out_plan hready rfl (hplan.trans (vaultChecked_denied hauth)),
      fun hauth hidle hspent => carries_out_plan hready rfl (hplan.trans (vaultChecked_locked hauth hidle hspent)),
      fun hauth hidle hfree hmisses hrevoke => ?_⟩
    have hburns := hplan.trans (vaultChecked_burns hauth hidle hfree hmisses hrevoke)
    refine ⟨fun hpower => carries_out_plan hready rfl (hburns.trans (if_pos hpower)), fun hpresent hwarn hroom =>
      starts_of_plan hready hroom rfl (hburns.trans (if_neg ?_))⟩
    rintro (habsent | hwarned)
    · exact hpresent habsent
    · exact ne_true_of_eq_false hwarn hwarned

end Sys2Proof.Proofs
end

section
/-!
O31: pages (R76 to R83), the end of a negotiation (R55 to R65), its timers (R60, R66 to R70) and the standard-mode links (R352, R354).
-/
namespace Sys2Proof.Proofs
open Sys2Proof.Machine Sys2Proof.Claims

section
variable {n : Port} {s : State}

/-! ## Pages -/

theorem takePage_of_ghost {b : Burst} {src : Nat} (hghost : ghostSource s n.val b.ghostOf = some src) :
    takePage n.val b s = ghostPage n.val b.pair.val src s := by rw [takePage, hghost]

theorem takePage_of_partner {b : Burst} (hnone : ghostSource s n.val b.ghostOf = none) :
    takePage n.val b s = goodPage n.val b.pair.val b (if b.strongerDb && (SMap.get (port s n.val).an.inProgress none b.pair.val).isSome
      then ghostSrc n.val 1 b.pair.val 0 (addCnt (portBase n.val) F.AN_GHOST_ABANDON 1 s) else s) := by rw [takePage, hnone]

theorem anPage_negotiating {b : Burst} (hfree : lineFree s n.val = true) (hst : (port s n.val).st = .negotiating) :
    exec (.anPage n b) s = .next (takePage n.val b s) := by
  refine congrArg Host.Outcome.next ?_
  rw [anPage, hfree, hst]
  rfl

theorem anPage_listen {b : Burst} (hfree : lineFree s n.val = true) (hst : (port s n.val).st = .listen)
    (hnone : ghostSource s n.val b.ghostOf = none) :
    exec (.anPage n b) s = .next (takePage n.val b (leaveListen n.val (diagBusy n.val (wakeDoze s)))) := by
  refine congrArg Host.Outcome.next ?_
  rw [anPage, hfree, hst, hnone]
  rfl

theorem anPage_service {b : Burst} (hfree : lineFree s n.val = true) (hst : (port s n.val).st = .service)
    (hnone : ghostSource s n.val b.ghostOf = none) (hlate : (port s n.val).serviceS + 16 ≤ s.time.s) :
    exec (.anPage n b) s = .next (downRestart n.val 2 s) := by
  have hnot : ¬ ((none : Option Nat).isSome = true ∨ s.time.s < (port s n.val).serviceS + 16) := by
    rintro (h | h)
    · exact Bool.noConfusion h
    · omega
  refine congrArg Host.Outcome.next ?_
  rw [anPage, hfree, hst, hnone]
  exact if_neg hnot

theorem anPage_stdUp {b : Burst} (hfree : lineFree s n.val = true) (hst : (port s n.val).st = .stdUp) : exec (.anPage n b) s = .next s := by
  refine congrArg Host.Outcome.next ?_
  rw [anPage, hfree, hst]
  rfl

/-! ## The result -/

/-- What a resolved mastership leads to where a common version, an offer and no remembered fault stand (R61 to R64). -/
def masteryDone (n : Nat) (p : PartnerAdv) (b : Ability) (s : State) : State :=
  let a := (port s n).an
  let ver := commonVersion (wordBits a.ctrl 12 11) b.versions
  let done := fun m => beginTraining n ver m b (showResult n 7 true ver m p
    (modPort n (fun q => { q with an := { q.an with ties := 0, msFault := none } }) s))
  match mastership (pref (wordBits a.ctrl 14 13)) (pref b.msPref.val) b.multiport a.seed.toNat b.seed.toNat with
  | .master => done true
  | .slave => done false
  | .fault => msFault n a.ctrl b.msPref.val p s
  | .tie =>
    if a.ties ≥ 7 then msFault n a.ctrl b.msPref.val p s
    else startAn n (modPort n (fun q => { q with an := { q.an with ties := q.an.ties + 1 } }) s)

section
variable {p : PartnerAdv} (hst : (port s n.val).st = .negotiating) (hfree : lineFree s n.val = true)
include hst hfree

theorem negotiates : ¬ ((port s n.val).st ≠ .negotiating ∨ lineFree s n.val = false) := by simp [hst, hfree]

theorem anComplete_without_sir (hsir : p.sir = none) : exec (.anComplete n p) s = .next (resolveStd n.val p s) := by
  refine congrArg Host.Outcome.next ?_
  rw [anComplete, if_neg (negotiates hst hfree), hsir]

theorem anComplete_without_version {b : Ability} (hsir : p.sir = some b) (hver : commonVersion (wordBits (port s n.val).an.ctrl 12 11) b.versions = 0) :
    exec (.anComplete n p) s = .next (resolveStd n.val p (evP n.val F.AN_EVENTS_VERSION_NONE s)) := by
  refine congrArg Host.Outcome.next ?_
  rw [anComplete, if_neg (negotiates hst hfree), hsir]
  dsimp only
  rw [if_pos (.inl hver), if_pos hver]

theorem anComplete_with_version {b : Ability} (hsir : p.sir = some b) (hver : commonVersion (wordBits (port s n.val).an.ctrl 12 11) b.versions ≠ 0) :
    exec (.anComplete n p) s = .next (
      if (port s n.val).an.offer = false ∨ p.parallel = true then resolveStd n.val p s
      else if (port s n.val).an.msFault = some ((port s n.val).an.ctrl, b.msPref.val) then msFault n.val (port s n.val).an.ctrl b.msPref.val p s
      else masteryDone n.val p b s) := by
  refine congrArg Host.Outcome.next ?_
  rw [anComplete, if_neg (negotiates hst hfree), hsir]
  dsimp only
  rw [if_neg hver]
  simp only [hver, false_or]
  rfl

end

theorem masteryDone_cases {p : PartnerAdv} {b : Ability} :
    let a := (port s n.val).an
    let ver := commonVersion (wordBits a.ctrl 12 11) b.versions
    let m := mastership (pref (wordBits a.ctrl 14 13)) (pref b.msPref.val) b.multiport a.seed.toNat b.seed.toNat
    let u := modPort n.val (fun q => { q with an := { q.an with ties := 0, msFault := none } }) s
    (m = .master → masteryDone n.val p b s = beginTraining n.val ver true b (showResult n.val 7 true ver true p u))
    ∧ (m = .slave → masteryDone n.val p b s = beginTraining n.val ver false b (showResult n.val 7 true ver false p u))
    ∧ ((m = .fault ∨ m = .tie ∧ 7 ≤ a.ties) → masteryDone n.val p b s = msFault n.val a.ctrl b.msPref.val p s)
    ∧ (m = .tie → a.ties < 7 →
      masteryDone n.val p b s = startAn n.val (modPort n.val (fun q => { q with an := { q.an with ties := q.an.ties + 1 } }) s)) := by
  intro a ver m u
  refine ⟨fun hm => ?_, fun hm => ?_, fun hm => ?_, fun hm hties => ?_⟩
  · rw [masteryDone, show mastership _ _ _ _ _ = _ from hm]
  · rw [masteryDone, show mastership _ _ _ _ _ = _ from hm]
  · rcases hm with hm | ⟨hm, hties⟩
    · rw [masteryDone, show mastership _ _ _ _ _ = _ from hm]
    · rw [masteryDone, show mastership _ _ _ _ _ = _ from hm]
      exact if_pos hties
  · rw [masteryDone, show mastership _ _ _ _ _ = _ from hm]
    exact if_neg (Nat.not_le.mpr hties)

/-! ## Falling back and standard-mode links -/

theorem linkFailInhibitExpiry_inhibit (hst : (port s n.val).st = .inhibit) : exec (.linkFailInhibitExpiry n) s = .next (startAn n.val s) := by
  refine congrArg Host.Outcome.next ?_
  rw [linkFailExpiry, hst]

theorem linkFailInhibitExpiry_training (hst : (port s n.val).st = .stdTraining) (henable : rdP s n.val F.AN_ENABLE = 1) :
    exec (.linkFailInhibitExpiry n) s = .next (startAn n.val (countFail n.val s)) := by
  refine congrArg Host.Outcome.next ?_
  rw [linkFailExpiry, hst]
  exact if_pos henable

theorem noLineEnergy_exec : exec (.noLineEnergy n) s = .next (if linkUp s n.val = true ∨ hasPort s n.val = false then s
    else if (port s n.val).st = .selfLoop then startAn n.val (restoreModes n.val s) else restoreModes n.val s) := by
  refine congrArg Host.Outcome.next ?_
  rw [noLineEnergy]
  simp only [Bool.or_eq_true, Bool.not_eq_true']

/-- The failure count of the mode that came up is cleared (R70). -/
def failCleared (a : An) : An :=
  match a.resolved with
  | 3 => { a with failGig := 0 }
  | 4 => { a with fail2g5 := 0 }
  | 5 => { a with fail5 := 0 }
  | 6 => { a with fail10 := 0 }
  | _ => a

theorem failCleared_of_ten {a : An} (hmode : a.resolved = 6) : failCleared a = { a with fail10 := 0 } := by
  simp only [failCleared, hmode]

theorem pcsLinkUp_exec (hst : (port s n.val).st = .stdTraining) (hfree : lineFree s n.val = true) : exec (.pcsLinkUp n) s =
    .next (retrainDone n.val (setReason n.val F.DEGRADE_DOWNSHIFT (port s n.val).an.downshifted
      (portUp n.val (modPort n.val (fun p => { p with st := .stdUp, an := failCleared (port s n.val).an }) s)))) := by
  refine congrArg Host.Outcome.next ?_
  rw [pcsLinkUp, if_neg (by simp [hst, hfree])]
  rfl

end

/-- Settles O31: each event by the port's state and the branches that the partner's message takes. -/
theorem negotiationEventsDoWhatTheSpecSays : Obligations.NegotiationEventsDoWhatTheSpecSays := by
  intro n s
  refine ⟨fun b hfree => ⟨fun hst src hghost => ?ghost, fun hst hnone => ?page, fun hst hnone => anPage_listen hfree hst hnone,
      fun hst hnone hlate => anPage_service hfree hst hnone hlate, fun hst => anPage_stdUp hfree hst⟩,
    fun hst => ⟨_, congrArg _ (if_pos (.inl hst))⟩,
    fun p hst hfree => ⟨fun hsir => anComplete_without_sir hst hfree hsir, ?version⟩,
    fun p hst => congrArg Host.Outcome.next (if_pos (.inl hst)),
    fun hst => linkFailInhibitExpiry_inhibit hst, fun hst henable => linkFailInhibitExpiry_training hst henable,
    fun hdown hhas => ⟨fun hloop => ?loop, fun hno => ?quiet⟩, fun hup => noLineEnergy_exec.trans (congrArg Host.Outcome.next (if_pos (.inl hup))),
    fun hst hfree => ⟨_, pcsLinkUp_exec hst hfree, failCleared_of_ten⟩,
    fun lost => ⟨fun hst => congrArg _ (if_pos hst), fun hst => congrArg Host.Outcome.next (if_neg hst)⟩, fun hst => congrArg _ (if_pos hst)⟩
  case ghost => exact (anPage_negotiating hfree hst).trans (congrArg _ (takePage_of_ghost hghost))
  case page => exact (anPage_negotiating hfree hst).trans (congrArg _ (takePage_of_partner hnone))
  case version =>
    intro b hsir ver m u
    refine ⟨fun hver => anComplete_without_version hst hfree hsir hver, fun hver hnot => ?_, fun hver hoffer hparallel hfault => ?_,
      fun hver hoffer hparallel hfault => ?_⟩
    · exact (anComplete_with_version hst hfree hsir hver).trans (congrArg _ (if_pos hnot))
    · have hexec := (anComplete_with_version hst hfree hsir hver).trans (congrArg _ ((if_neg (by simp [hoffer, hparallel])).trans (if_neg hfault)))
      obtain ⟨hmaster, hslave, hfaults, htie⟩ := masteryDone_cases (n := n) (s := s) (p := p) (b := b)
      exact ⟨fun hm => hexec.trans (congrArg _ (hmaster hm)), fun hm => hexec.trans (congrArg _ (hslave hm)),
        fun hm => hexec.trans (congrArg _ (hfaults hm)), fun hm hties => hexec.trans (congrArg _ (htie hm hties))⟩
    · exact (anComplete_with_version hst hfree hsir hver).trans (congrArg _ ((if_neg (by simp [hoffer, hparallel])).trans (if_pos hfault)))
  case loop => exact noLineEnergy_exec.trans (congrArg _ ((if_neg (by simp [hdown, hhas])).trans (if_pos hloop)))
  case quiet => exact noLineEnergy_exec.trans (congrArg _ ((if_neg (by simp [hdown, hhas])).trans (if_neg hno)))

end Sys2Proof.Proofs
end

section
/-!
O33: the messages of the training channel (R203 to R222): each is taken once while the channel is open.
-/
namespace Sys2Proof.Proofs
open Sys2Proof.Machine Sys2Proof.Claims

/-- A reliable message of the training channel is taken once while the channel is open. -/
theorem takenOnce_of_onTrain {n type : Nat} {tag : Byte} {s : State} {i : Instr} {act : State → State}
    (hexec : exec i s = .next (onTrain n type tag act s)) : TakenOnce (channelOpen s n) n type tag.toNat s i act := takenOnce_of_onReliable hexec

/-- What R117 and R120 ask of the parameters of a T_PARAMS. -/
def ParamsGood (mask : List Brk) (nots : List Band) : Prop :=
  (1 ≤ mask.length ∧ mask.length ≤ 64 ∧ nots.length ≤ 16) ∧ risingTones 0 mask = true ∧ ∀ b ∈ nots, b.lo.toNat ≤ b.hi.toNat

theorem paramsGood_iff {mask : List Brk} {nots : List Band} :
    (decide (1 ≤ mask.length ∧ mask.length ≤ 64 ∧ nots.length ≤ 16) && risingTones 0 mask && nots.all (fun b => decide (b.lo.toNat ≤ b.hi.toNat))) = true
      ↔ ParamsGood mask nots := by
  simp only [ParamsGood, Bool.and_eq_true, decide_eq_true_eq, List.all_eq_true, and_assoc]

section
variable {n : Port} {tag : Byte} {pilot top : BitVec 16} {mask : List Brk} {nots : List Band} {s : State}

theorem tParams_taken (hgood : ParamsGood mask nots) :
    TakenOnce (channelOpen s n.val) n.val 0x50 tag.toNat s (.tParams n tag pilot top mask nots) (modTr n.val (fun t =>
      { t with gotParams := true, pilot := if t.master then t.pilot else pilot.toNat, peerTop := top.toNat, peerMask := mask, peerNotches := nots })) :=
  TakenOnce.congr (takenOnce_of_onTrain rfl) fun _ => if_pos (paramsGood_iff.mpr hgood)

theorem tParams_refused (hbad : ¬ ParamsGood mask nots) :
    TakenOnce (channelOpen s n.val) n.val 0x50 tag.toNat s (.tParams n tag pilot top mask nots) (sendMsg n.val 0x5F false (.tAbort 3)) :=
  TakenOnce.congr (takenOnce_of_onTrain rfl) fun _ => if_neg fun h => hbad (paramsGood_iff.mp h)

end

theorem tLoading_taken {n : Port} {tag : Byte} {r : LoadReq} {s : State} :
    TakenOnce (channelOpen s n.val) n.val 0x55 tag.toNat s (.tLoading n tag r) (fun u =>
      if inPhase u n.val 5 = false then u
      else if fullOk u n.val r (port u n.val).tr.ceiling = true ∧ r.threePair = (trainAbsent u n.val).isSome then
        maybeGo n.val (sendMsg n.val 0x56 true (.tConfirm 0 0) (modTr n.val (fun t => { t with txTable := some r, sentConfirm := true }) u))
      else restartLoading n.val (sendMsg n.val 0x5F false (.tAbort 2) u)) := by
  refine TakenOnce.congr (takenOnce_of_onTrain rfl) fun u => ?_
  simp only [Bool.not_eq_true', Bool.and_eq_true, beq_iff_eq]

theorem tAlign_exec {n : Port} {offset delay : BitVec 32} {al : Bool} {s : State} : exec (.tAlign n offset delay al) s =
    .next (if channelOpen s n.val = true ∧ (port s n.val).tr.master = false then echoReady n.val (modTr n.val (fun t =>
      { t with offset := t.offset - offset.toInt, delay := delay.toNat, aligned := t.aligned || al }) s) else s) := by
  refine congrArg Host.Outcome.next ?_
  simp only [Bool.and_eq_true, Bool.not_eq_true']

/-- Settles O33: each message by its effect under the shared rule of R158; T_ALIGN and T_ABORT by their branches. -/
theorem trainingMessagesAreAnsweredAndFollowed : Obligations.TrainingMessagesAreAnsweredAndFollowed := by
  intro n tag s seen
  refine ⟨fun pilot top mask nots => ⟨fun hgood => tParams_taken hgood, fun hbad => tParams_refused hbad⟩, fun phase => takenOnce_of_onTrain rfl,
    fun ph sf => takenOnce_of_onTrain rfl, fun live => takenOnce_of_onTrain rfl, fun r => tLoading_taken, takenOnce_of_onTrain rfl,
    fun sf => takenOnce_of_onTrain rfl, fun offset delay al => ⟨fun hopen hslave => tAlign_exec.trans (congrArg _ (if_pos ⟨hopen, hslave⟩)),
      fun hnot => tAlign_exec.trans (congrArg Host.Outcome.next (if_neg ?closed))⟩,
    fun hphase => congrArg _ (if_pos ⟨rfl, hphase⟩), fun r hnot => ?aborts⟩
  case closed =>
    rintro ⟨hopen, hslave⟩
    rcases hnot with hclosed | hmaster
    · exact ne_true_of_eq_false hclosed hopen
    · exact ne_true_of_eq_false hslave hmaster
  case aborts =>
    have hother : ¬ (r = 2 ∧ inPhase s n.val 5 = true) := fun h => hnot.elim (· h.1) (ne_true_of_eq_false · h.2)
    exact ⟨fun hheard => congrArg _ ((if_neg hother).trans (if_pos hheard)),
      fun hdeaf => congrArg Host.Outcome.next ((if_neg hother).trans (if_neg (ne_true_of_eq_false hdeaf)))⟩

end Sys2Proof.Proofs
end

section
/-!
O38: the messages of the embedded channel in service (R157 to R179, R808): each reliable one is taken once; what is sent goes again or is abandoned.
-/
namespace Sys2Proof.Proofs
open Sys2Proof.Machine Sys2Proof.Claims

/-- A reliable message of the embedded channel is taken once while the port is in service. -/
theorem takenOnce_of_onService {n type : Nat} {tag : Byte} {s : State} {i : Instr} {act : State → State}
    (hexec : exec i s = .next (onService n type tag act s)) : TakenOnce (inService s n) n type tag.toNat s i act := takenOnce_of_onReliable hexec

section
variable {n : Port} {s : State}

theorem msgAck_unsent {type tag : Nat} (hnone : ∀ m ∈ (port s n.val).outbox, ¬ (m.type = type ∧ m.tag = tag)) : msgAck n.val type tag s = s := by
  have hfind : (port s n.val).outbox.find? (fun m => m.type == type && m.tag == tag) = none := by
    rw [List.find?_eq_none]
    simpa only [Bool.and_eq_true, beq_iff_eq] using hnone
  rw [msgAck, hfind]

theorem messageResend_exec {type tag : Byte} {m : OutMsg}
    (hfind : (port s n.val).outbox.find? (fun m => m.type == type.toNat && m.tag == tag.toNat) = some m) (htype : type ≠ 0x11) :
    exec (.messageResend n type tag) s = .next (if 32 ≤ m.sends then abandon n.val m s
      else modPort n.val (fun p => { p with
        sent := p.sent ++ [(m.type, m.tag, m.body)]
        outbox := p.outbox.map (fun x => if x.type = m.type ∧ x.tag = m.tag then { x with sends := x.sends + 1 } else x) }) s) := by
  refine congrArg Host.Outcome.next ?_
  rw [hfind]
  exact if_neg htype

end

/-- Settles O38: each reliable message by its effect under the shared rule of R158, the others by their branches. -/
theorem messagesInServiceHaveTheirEffects : Obligations.MessagesInServiceHaveTheirEffects := by
  intro n tag s seen
  refine ⟨fun proto vendor part rev fw profile => takenOnce_of_onService rfl, fun r => takenOnce_of_onService rfl,
    fun sf id => takenOnce_of_onService rfl, fun which reason => takenOnce_of_onService rfl, fun sf bands snr => takenOnce_of_onService rfl,
    fun sf rate snr => takenOnce_of_onService rfl, fun body hservice hlen => congrArg _ (if_pos ⟨hservice, hlen⟩),
    fun counts hservice hawake => congrArg _ (if_pos ⟨hservice, hawake⟩), fun type hsir => ?acked, fun type m hfind htype => ?resent, rfl⟩
  case acked =>
    have hexec : exec (.msgAck n type tag) s = .next (msgAck n.val type.toNat tag.toNat s) := congrArg _ (if_pos hsir)
    exact ⟨hexec, fun hnone => hexec.trans (congrArg _ (msgAck_unsent hnone))⟩
  case resent =>
    have hexec := messageResend_exec hfind htype
    exact ⟨fun hfew => hexec.trans (congrArg _ (if_neg (Nat.not_le.mpr hfew))), fun hmany => hexec.trans (congrArg _ (if_pos hmany))⟩

end Sys2Proof.Proofs
end

section
/-!
O39: the superframe boundary and the order of its stages (R29, R30, R466).
-/
namespace Sys2Proof.Proofs
open Sys2Proof.Machine Sys2Proof.Claims

/-- The counter of superframes is the only thing that the count of a boundary adds to the time. -/
theorem boundaryTick_time (s : State) :
    (boundaryTick s).time = { s.time with s := s.time.s + 1, sTime := s.time.t / nsUnit, sFrac := s.time.t % nsUnit / 2 ^ 32 } :=
  same_of_touch .time (countDev_touch (by decide) (Touch.refl _ _))

/-- The boundary from the state that each stage leaves. -/
theorem boundary_of_stages {m : List PortMeas} {s s0 s1 s3 s5 : State} {r1 r5 : List RateStep}
    (h0 : s0 = surveyRoll (forL (allPorts s) boundaryPort (boundaryTick s))) (h1 : forL (allPorts s) stage1 ([], s0) = (r1, s1))
    (h3 : s3 = forL ((allVictims s1).filter (commitsEarly s1)) commitDue s1) (h5 : forL (allPorts s) stage5 (r1, stage4 s3) = (r5, s5)) :
    boundary m s = levelStart (forL (allPorts s) boundaryEnd (forL m takeMeas (rateSteps r5 s5))) := by
  subst h0 h3
  rw [boundary]
  dsimp only
  rw [h1]
  dsimp only
  rw [h5]

/-- Settles O39: the boundary is its stages in order, each on the state that the one before has left. -/
theorem aSuperframeBoundaryAppliesItsStagesInOrder : Obligations.ASuperframeBoundaryAppliesItsStagesInOrder := by
  intro m s
  refine ⟨fun hstill => congrArg Host.Outcome.next (if_neg (ne_true_of_eq_false hstill)), fun hrun s0 s1 s3 s5 r1 r5 h0 h1 h3 h5 => ?stages, ?index, ?time, ?moment⟩
  case stages => exact congrArg _ ((if_pos hrun).trans (boundary_of_stages h0 h1 h3 h5))
  case index => rw [boundaryTick_time]
  case time => rw [boundaryTick_time]; rfl
  case moment => rw [boundaryTick_time]

end Sys2Proof.Proofs
end

section
/-!
O40: loading changes and their trial (R169, R174, R176), swaps (R299 to R302) and rate steps (R303 to R308).
-/
namespace Sys2Proof.Proofs
open Sys2Proof.Machine Sys2Proof.Claims

section
variable {n : Port} {s : State}

/-! ## Changes that are due -/

theorem loadingChangeApply_eq : exec (.loadingChangeApply n) s =
    .next (answerNext n.val (rateSteps (loadingStage n.val ([], s)).1 (loadingStage n.val ([], s)).2)) := rfl

theorem loadingStage_out (hout : inService s n.val = false) : loadingStage n.val ([], s) = ([], s) := by
  rw [loadingStage, if_pos (by simp [hout])]

theorem loadingStage_service (hservice : inService s n.val = true) : loadingStage n.val ([], s) =
    ((txDue n.val (port s n.val).txChange ([], s)).1 ++ (rxDue n.val (txDue n.val (port s n.val).txChange ([], s)).2).1,
      (rxDue n.val (txDue n.val (port s n.val).txChange ([], s)).2).2) := by
  rw [loadingStage, if_neg (by simp [hservice])]

theorem loadingStage_rx (hservice : inService s n.val = true) (hnone : (port s n.val).txChange = []) :
    loadingStage n.val ([], s) = rxDue n.val s := by
  rw [loadingStage_service hservice, hnone]
  rfl

theorem rxDue_of_none (hnone : (port s n.val).rxChange = none) : rxDue n.val s = ([], s) := by rw [rxDue, hnone]

theorem rxDue_of_change {c : Change} (hchange : (port s n.val).rxChange = some c) : rxDue n.val s =
    if s.time.s < c.s then ([], s)
    else if c.confirmed = true then applyChange n.val 1 c (modPort n.val (fun p => { p with rxChange := none }) s)
    else ([], startTrial n.val c (evP n.val F.ESC_EVENTS_LOAD_DOUBT (addCnt (portBase n.val) F.ESC_LOAD_DOUBT 1 s))) := by rw [rxDue, hchange]

/-- What the receive change of a port without a transmit change leads to. -/
theorem loadingChangeApply_of_rxDue {a : List RateStep × State} (hservice : inService s n.val = true) (hnone : (port s n.val).txChange = [])
    (hdue : rxDue n.val s = a) : exec (.loadingChangeApply n) s = .next (answerNext n.val (rateSteps a.1 a.2)) := by
  rw [loadingChangeApply_eq, loadingStage_rx hservice hnone, hdue]

/-- A receive change that makes no rate step leaves only what it does to the port. -/
theorem loadingChangeApply_of_no_step {u : State} (hservice : inService s n.val = true) (hnone : (port s n.val).txChange = [])
    (hdue : rxDue n.val s = ([], u)) : exec (.loadingChangeApply n) s = .next (answerNext n.val u) :=
  (loadingChangeApply_of_rxDue hservice hnone hdue).trans rfl

/-! ## The trial -/

/-- The port once its trial has ended: reason DEFECT is what the Escrow says. -/
def trialOver (n : Nat) (s : State) : State :=
  setReason n F.DEGRADE_DEFECT (port (modPort n (fun p => { p with trial := none }) s) n).esc.rxDefect
    (modPort n (fun p => { p with trial := none }) s)

theorem loadingTrial_of_none {newOk oldOk : Bool} (hnone : (port s n.val).trial = none) : exec (.loadingTrial n newOk oldOk) s = .next s := by
  refine congrArg Host.Outcome.next ?_
  rw [hnone]

section
variable {c : Change} (htrial : (port s n.val).trial = some c)
include htrial

theorem loadingTrial_new {oldOk : Bool} : exec (.loadingTrial n true oldOk) s = .next (if c.fall = true then trialOver n.val s
    else answerNext n.val (rateSteps (applyChange n.val 1 c (trialOver n.val s)).1 (applyChange n.val 1 c (trialOver n.val s)).2)) := by
  refine congrArg Host.Outcome.next ?_
  rw [htrial]
  rfl

theorem loadingTrial_old_kept (hkept : c.fall = false) : exec (.loadingTrial n false true) s = .next (answerNext n.val (trialOver n.val s)) := by
  refine congrArg Host.Outcome.next ?_
  rw [htrial]
  dsimp only
  rw [hkept]
  rfl

theorem loadingTrial_old_saved {x : Saved} (hfall : c.fall = true) (hsaved : (port s n.val).savedRx = some x) : exec (.loadingTrial n false true) s =
    .next (sendFallback n.val (s.time.s + 4) 1 (absentPair s n.val) false
      (setRate ⟨n.val, false, x.rate⟩ (restoreDir n.val 1 x.loading.loadId x (trialOver n.val s)))) := by
  refine congrArg Host.Outcome.next ?_
  rw [htrial]
  dsimp only
  rw [hfall, hsaved]
  rfl

theorem loadingTrial_neither : exec (.loadingTrial n false false) s = .next s := by
  refine congrArg Host.Outcome.next ?_
  rw [htrial]
  rfl

end

/-! ## Swaps -/

/-- A swap is asked for no nearer to the one before than R302 allows. -/
def swapSpaced (n : Nat) (s : State) : Bool := match (port s n).watch.lastSwap with | some l => decide (l + 8 ≤ s.time.s + 6) | none => true

theorem swapSpaced_of_all (hfar : ∀ l, (port s n.val).watch.lastSwap = some l → l + 8 ≤ s.time.s + 6) : swapSpaced n.val s = true := by
  unfold swapSpaced
  split
  · exact decide_eq_true (hfar _ ‹_›)
  · rfl

theorem seamlessSwap_exec {tones : List ToneMargin} : exec (.seamlessSwap n tones) s =
    .next (if mayAsk s n.val = true ∧ swapSpaced n.val s = true ∧ 16 ≤ (port s n.val).watch.swapRun then
      if swapTable s.draws tones (readTable s n.val 1) = readTable s n.val 1 then s
      else requestSwap n.val (s.time.s + 6) (swapTable s.draws tones (readTable s n.val 1)) (draw s) else s) := by
  refine congrArg Host.Outcome.next ?_
  simp only [Bool.and_eq_true, decide_eq_true_eq, and_assoc]
  rfl

/-! ## Rate steps -/

theorem stepDown_exec {snr : List SnrRun} (hask : mayAsk s n.val = true) (hdue : stepDownDue s n.val = true) : exec (.stepDown n snr) s =
    .next (match tryFallback n.val s with
      | some u => u
      | none => requestRate n.val (s.time.s + 6) (rxRate s n.val) (toneOk s n.val) (snrTones snr) s) :=
  (congrArg Host.Outcome.next (if_pos (by simp [hask, hdue]))).trans rfl

theorem stepUp_exec {snr : List SnrRun} {x q nn kk r : Nat} {bs : List (List Nat)} (hask : mayAsk s n.val = true)
    (hauto : rdP s n.val F.LINK_CTRL_AUTO_UP = 1) (hsupport : (port s n.val).watch.support = some x)
    (hfits : computeAt s.draws (toneOk s n.val) (absentOf s n.val) (rateCap s n.val) (snrTones snr) (targetMargin + 100) = some (bs, q, nn, kk, r)) :
    exec (.stepUp n snr) s = .next (if rxRate s n.val < min r x then
      requestFull n.val (s.time.s + 6) (min r x) q nn kk (bitsTable (s.draws + 2) bs) (draw (draw (draw s))) else s) := by
  refine (congrArg Host.Outcome.next (if_pos (by simp [hask, hauto]))).trans (congrArg Host.Outcome.next ?_)
  rw [hsupport, hfits]

end

/-- Settles O40: what is due by the stage that makes it, the trial and each request by their branches. -/
theorem loadingChangesAndRateStepsTakeEffect : Obligations.LoadingChangesAndRateStepsTakeEffect := by
  intro n s
  refine ⟨fun hout => ?out, fun hservice hnone => ⟨fun hfree => loadingChangeApply_of_no_step hservice hnone (rxDue_of_none hfree), fun c hchange => ?due⟩,
    fun hservice => ?both, fun newOk oldOk hnone => loadingTrial_of_none hnone, ?trial, ?swap,
    fun snr hask hdue => ⟨fun u hfall => ?falls, fun hnone => ?steps⟩, fun snr hnot => congrArg Host.Outcome.next (if_neg ?undue),
    fun snr x bs q nn kk r hask hauto hsupport hfits => ⟨fun hmore => ?more, fun hless => ?less⟩⟩
  case out => rw [loadingChangeApply_eq, loadingStage_out hout]; rfl
  case due =>
    have hrx := rxDue_of_change hchange
    refine ⟨fun hearly => loadingChangeApply_of_no_step hservice hnone (hrx.trans (if_pos hearly)), fun hcome hconfirmed => ?_, fun hcome hopen => ?_⟩
    · exact loadingChangeApply_of_rxDue hservice hnone (hrx.trans ((if_neg (Nat.not_lt.mpr hcome)).trans (if_pos hconfirmed)))
    · exact loadingChangeApply_of_no_step hservice hnone (hrx.trans ((if_neg (Nat.not_lt.mpr hcome)).trans (if_neg (ne_true_of_eq_false hopen))))
  case both => rw [loadingChangeApply_eq, loadingStage_service hservice]
  case trial =>
    intro c htrial s0 u
    exact ⟨fun old hfall => (loadingTrial_new htrial).trans (congrArg _ (if_pos hfall)),
      fun old hkept => (loadingTrial_new htrial).trans (congrArg _ (if_neg (ne_true_of_eq_false hkept))),
      fun hkept => loadingTrial_old_kept htrial hkept, fun x hfall hsaved => loadingTrial_old_saved htrial hfall hsaved, loadingTrial_neither htrial⟩
  case swap =>
    intro tones w old new
    refine ⟨fun hask hfar hrun => ?_, fun hnot => seamlessSwap_exec.trans (congrArg Host.Outcome.next (if_neg ?_))⟩
    · have hexec := (seamlessSwap_exec (n := n) (s := s) (tones := tones)).trans (congrArg _ (if_pos ⟨hask, swapSpaced_of_all hfar, hrun⟩))
      exact ⟨fun hnew => hexec.trans (congrArg _ (if_neg hnew)), fun hsame => hexec.trans (congrArg Host.Outcome.next (if_pos hsame))⟩
    · rintro ⟨hask, -, hrun⟩
      exact hnot.elim (ne_true_of_eq_false · hask) (Nat.not_lt.mpr hrun)
  case falls => rw [stepDown_exec hask hdue, hfall]
  case steps => rw [stepDown_exec hask hdue, hnone]
  case undue => rcases hnot with h | h <;> simp [h]
  case more => exact (stepUp_exec hask hauto hsupport hfits).trans (congrArg _ (if_pos hmore))
  case less => exact (stepUp_exec hask hauto hsupport hfits).trans (congrArg Host.Outcome.next (if_neg (Nat.not_lt.mpr hless)))

end Sys2Proof.Proofs
end

section
/-!
O42: spare elements (R327 to R330), drift fences (R331 to R333) and the timers of the state rule (R352, R354).
-/
namespace Sys2Proof.Proofs
open Sys2Proof.Machine Sys2Proof.Claims

/-! ## Spare elements -/

/-- The spares that the command offers and that still stand as spares (R328). -/
def spareOffers (n : Port) (p : Pair) (dac : Bool) (good : List (Fin 68)) (s : State) : List (Fin 68) :=
  good.filter (fun i => elemRole s n.val ⟨p.val, dac, i.val⟩ == 1)

/-- The spares of a kind that no substitution has taken yet. -/
def sparesFree (n : Port) (p : Pair) (dac : Bool) (s : State) : Nat :=
  sparesLeft s n.val p.val dac - ((port s n.val).subst.filter (fun x => x.retire.pair == p.val && x.retire.dac == dac)).length

/-- When a substitution decided now is made (R328). -/
def substWhen (n : Port) (s : State) : When :=
  if inService s n.val then When.frame (s.time.s + 2) else When.time ((nowTotal s + 1474560) / 1000000000) ((nowTotal s + 1474560) % 1000000000)

/-- The offer that is taken. -/
def spareTaken (l : List (Fin 68)) (d : Nat) : Fin 68 := l.getD (Config.pick d % l.length) 0

theorem spareTaken_mem {l : List (Fin 68)} (hsome : l ≠ []) (d : Nat) : spareTaken l d ∈ l := by
  have hlt : Config.pick d % l.length < l.length := Nat.mod_lt _ (List.length_pos_iff.mpr hsome)
  rw [spareTaken, List.getD_eq_getElem l 0 hlt]
  exact List.getElem_mem hlt

section
variable {n : Port} {s : State}

theorem elementRetire_exec {p : Pair} {dac : Bool} {idx : Fin 68} {good : List (Fin 68)} (hup : linkUp s n.val = true)
    (hfirst : ∀ x ∈ (port s n.val).subst, x.retire ≠ ⟨p.val, dac, idx.val⟩) (hworks : elemRole s n.val ⟨p.val, dac, idx.val⟩ = 0) :
    exec (.elementRetire n p dac idx good) s = .next (if spareOffers n p dac good s = [] ∨ sparesFree n p dac s = 0 then
        setReason n.val F.DEGRADE_SPARES true (modPort n.val (fun x =>
          { x with sparesOut := x.sparesOut ||| BitVec.ofNat 4 (2 ^ p.val) }) (evP n.val F.LINK_EVENTS_SPARE_OUT s))
      else draw (modPort n.val (fun x => { x with subst := x.subst ++
        [⟨⟨p.val, dac, idx.val⟩, ⟨p.val, dac, (spareTaken (spareOffers n p dac good s) s.draws).val⟩, substWhen n s⟩] }) s)) := by
  have hnew : (port s n.val).subst.any (fun x => x.retire == (⟨p.val, dac, idx.val⟩ : Elem)) = false := by simpa using hfirst
  refine (congrArg Host.Outcome.next (if_neg (by rw [hnew]; simp [hup, hworks]))).trans (congrArg Host.Outcome.next ?_)
  simp only [List.isEmpty_iff]
  rfl

theorem spareSubstitution_waits (hramp : ramping s n.val = true) :
    exec (.spareSubstitution n) s = .next (modPort n.val (fun p => { p with subst := p.subst.filter (fun _ => true) }) s) := by
  refine congrArg Host.Outcome.next ?_
  rw [substDue, if_pos hramp]
  rfl

theorem spareSubstitution_one {x : Subst} (hstill : ramping s n.val = false) (hdue : (port s n.val).subst.filter (fun x => whenDue s x.due) = [x]) :
    exec (.spareSubstitution n) s = .next (journalEvent (match x.due with | .frame _ => s.time.s | .time _ _ => 0) 0x39 (x.retire.pair * 64 + n.val)
      (bit x.retire.dac * 128 + x.retire.idx) (pmEv (groupOf n.val) 0xC { PmAttr.none with port := some n.val } (countDev 0xB 1
        (evP n.val F.LINK_EVENTS_SUBST (addCnt (portBase n.val) F.HL_SUBST 1 (substRoles n.val x
          (modPort n.val (fun p => { p with subst := p.subst.filter (fun y => !([x] : List Subst).contains y) }) s))))))) := by
  refine congrArg Host.Outcome.next ?_
  rw [substDue, if_neg (ne_true_of_eq_false hstill), hdue]
  rfl

/-! ## Drift fences -/

/-- A loop of the pair and direction is frozen already. -/
def loopFrozen (n : Port) (loop : Fin 5) (p : Pair) (tx : Bool) (s : State) : Bool :=
  (port s n.val).frozen.any (fun f => f.loop == loop.val && f.pair == p.val && f.tx == tx)

theorem loopFrozen_iff {loop : Fin 5} {p : Pair} {tx : Bool} :
    loopFrozen n loop p tx s = true ↔ ∃ f ∈ (port s n.val).frozen, f.loop = loop.val ∧ f.pair = p.val ∧ f.tx = tx := by
  simp only [loopFrozen, List.any_eq_true, Bool.and_eq_true, beq_iff_eq, and_assoc]

/-- The direction of a loop carries nothing: a fence crossed there freezes it (R332). -/
def loopQuiet (n : Port) (tx : Bool) (s : State) : Bool := if tx then !(port s n.val).esc.sentSf else !(port s n.val).esc.deliveredSf

theorem loopQuiet_of_silent {tx : Bool} (hsent : tx = true → (port s n.val).esc.sentSf = false)
    (hheard : tx = false → (port s n.val).esc.deliveredSf = false) : loopQuiet n tx s = true := by
  cases tx with
  | true => simp [loopQuiet, hsent rfl]
  | false => simp [loopQuiet, hheard rfl]

theorem driftFence_exec {loop : Fin 5} {p : Pair} {tx : Bool} : exec (.driftFence n loop p tx) s =
    .next (if linkUp s n.val = true ∧ loopQuiet n tx s = true ∧ loopFrozen n loop p tx s = false then
      evP n.val F.LINK_EVENTS_DRIFT (modPort n.val (fun x => { x with frozen := x.frozen ++ [⟨loop.val, p.val, tx, false⟩] }) s) else s) := by
  refine congrArg Host.Outcome.next (if_congr (Eq.to_iff ?_) rfl rfl)
  rw [← and_assoc, ← Bool.not_eq_true' (loopFrozen n loop p tx s), ← Bool.and_eq_true, ← Bool.and_eq_true]
  rfl

/-! ## The state rule's timers -/

theorem degradeHoldExpiry_exec : exec (.degradeHoldExpiry n) s =
    .next (if rdP s n.val F.DEGRADE_LOSS = 1 ∧ ((port s n.val).heldReasons = 0 ∨ (port s n.val).lossAt ≤ (port s n.val).heldReasons) then
      setReason n.val F.DEGRADE_LOSS false (modPort n.val (fun p => { p with lossAt := 0 }) s)
    else updateState n.val (modPort n.val (fun p => { p with heldReasons := 0 }) s)) := by
  refine congrArg Host.Outcome.next ?_
  simp only [Bool.and_eq_true, Bool.or_eq_true, beq_iff_eq, decide_eq_true_eq]

theorem partnerBlockTimeout_exec : exec (.partnerBlockTimeout n) s =
    .next (if dtuOpen s n.val = true ∧ earlyService s n.val = false then downRestart n.val 2 s else s) := by
  refine congrArg Host.Outcome.next ?_
  simp only [Bool.and_eq_true, Bool.not_eq_true']

end

/-- Settles O42: each event by its branches; the spare taken is one of those offered. -/
theorem sparesDriftAndTheStateRuleTimers : Obligations.SparesDriftAndTheStateRuleTimers := by
  intro n s
  refine ⟨fun p dac idx good hup hfirst hworks => ?retire, fun hramp => spareSubstitution_waits hramp, fun x hstill hdue => spareSubstitution_one hstill hdue,
    fun loop p tx hup hsent hheard => ⟨fun hnew => ?freezes, fun hold => ?kept⟩, ⟨fun hnone => congrArg Host.Outcome.next (if_pos hnone),
      fun hsome => congrArg _ (if_neg hsome)⟩, ⟨fun hloss hfirst => degradeHoldExpiry_exec.trans (congrArg _ (if_pos ⟨hloss, hfirst⟩)),
      fun hnot => degradeHoldExpiry_exec.trans (congrArg _ (if_neg ?held))⟩,
    fun hopen hlate => partnerBlockTimeout_exec.trans (congrArg _ (if_pos ⟨hopen, hlate⟩)),
    fun hnot => partnerBlockTimeout_exec.trans (congrArg Host.Outcome.next (if_neg ?early))⟩
  case retire =>
    intro left ok ns due
    have hexec := elementRetire_exec (good := good) hup hfirst hworks
    refine ⟨fun hnone => hexec.trans (congrArg _ (if_pos hnone)), fun hsome hleft => ⟨spareTaken ok s.draws, spareTaken_mem hsome _, ?_⟩⟩
    exact hexec.trans (congrArg _ (if_neg fun h => h.elim hsome hleft))
  case freezes =>
    refine driftFence_exec.trans (congrArg _ (if_pos ⟨hup, loopQuiet_of_silent hsent hheard, ?_⟩))
    rw [Bool.eq_false_iff, ne_eq, loopFrozen_iff]
    rintro ⟨f, hf, hsame⟩
    exact hnew f hf hsame
  case kept => exact driftFence_exec.trans (congrArg Host.Outcome.next (if_neg fun ⟨_, _, hnew⟩ => ne_true_of_eq_false hnew (loopFrozen_iff.mpr hold)))
  case held =>
    rintro ⟨hloss, hfirst⟩
    rcases hnot with hno | ⟨hheld, hbefore⟩
    · exact hno hloss
    · exact hfirst.elim hheld (Nat.not_le.mpr hbefore)
  case early =>
    rintro ⟨hopen, hlate⟩
    rcases hnot with hclosed | hearly
    · exact ne_true_of_eq_false hclosed hopen
    · exact ne_true_of_eq_false hlate hearly

end Sys2Proof.Proofs
end
